-- ==== Sys2Proof/Word.lean ====
section
/-!
DEFINITION. The plain words of the model: bytes, byte strings and the sparse map in which the model keeps registers, memories and
per-unit state. Only types and their plainest readings stand here; every operation is in `Sys2Proof/Machine/`.
-/
namespace Sys2Proof

/-- One byte (R3). -/
abbrev Byte := BitVec 8

/-- A sparse map from a number (an object number, a byte address, a unit's index) to a value, in one canonical form: keys strictly
rising, and no entry equal to what an unlisted key reads as. -/
abbrev NMap (α : Type) := List (Nat × α)

end Sys2Proof
end

