-- ==== Sys2Proof/Syntax.lean ====
section
/-!
DEFINITION. The commands of the block: one constructor of `Instr` for each row of the spec's table of operations and events, with
the operands the row's event carries; and the structures those operands are made of (frames, segments, markers, control blocks, OD
access headers, table banks, container contents).
-/
namespace Sys2Proof

/-- A ring port (R84, R128): 0 E, 1 W, 2 S0, 3 S1. -/
inductive Port where
  | e | w | s0 | s1
  deriving DecidableEq, Repr

/-- An island of R10. -/
inductive Island where
  | aon | pin | pwr
  | ring (p : Port)
  | swx | seq
  | pwn (c : Fin 8)
  | mbus | hbr | mgt
  deriving DecidableEq, Repr

/-- The validity state of a record (R32). -/
inductive RecState where
  | fresh | held | late | missing
  deriving DecidableEq, Repr

/-- The two process images of R71. -/
inductive ImageSel where
  | input | output
  deriving DecidableEq, Repr

/-- A TIME96 value (R287): seconds, nanoseconds and the fraction in units of 2^-16 ns. -/
structure Time96 where
  sec  : Nat
  nano : Nat
  frac : Nat
  deriving DecidableEq, Repr

/-- An acyclic frame as it stands on a link (R110): the header fields of FRM_START, H1 and H2, the payload, and the header check and
frame check it carries. -/
structure Frame where
  dst     : Nat
  src     : Nat
  cls     : Nat
  cm      : Bool
  flow    : Nat
  type    : Nat
  hops    : Nat
  addr    : Nat
  tag     : Nat
  len     : Nat
  outcome : Nat
  fork    : Nat
  payload : List Byte
  hcheck  : Nat
  fcheck  : Nat
  deriving DecidableEq, Repr

/-- A cyclic segment (R101): payload words in transmission order, two to a payload block, and the state of each (R102). -/
structure Segment where
  num      : Nat
  tag      : Nat
  origin   : Nat
  plen     : Nat
  endNode  : Nat
  expected : Nat
  states   : List RecState
  words    : List (BitVec 32)
  check    : Nat
  hops     : Nat
  consumed : Nat
  deriving DecidableEq, Repr

/-- A cycle marker (R97). -/
structure Marker where
  master    : Nat
  tag       : Nat
  timeState : Nat
  cycleLen  : Nat
  cycle     : Nat
  btime     : Time96
  origin    : Nat
  corr      : Int
  check     : Nat
  deriving DecidableEq, Repr

/-- An express event (R117). -/
structure Express where
  event  : Nat
  source : Nat
  time   : Nat
  hops   : Nat
  deriving DecidableEq, Repr

/-- The fields of a WRAP block below its subtype (R131). -/
structure WrapBlock where
  node   : Nat
  port   : Port
  tag    : Nat
  reason : Nat
  hops   : Nat
  seq    : Nat
  deriving DecidableEq, Repr

/-- What the break of a span cuts off while it is received (R134): an acyclic frame, or a cyclic segment by its number and tag. -/
inductive Cut where
  | frame (f : Frame)
  | segment (num tag : Nat)
  deriving DecidableEq, Repr

/-- A NOTICE that arrives (R132): its fields, and what the break cuts off (R134). -/
structure CutNotice where
  block : WrapBlock
  cut   : Option Cut
  deriving DecidableEq, Repr

/-- An EXPRESS block that arrives (R117): the lane it comes on, its fields, and the word clock of the beat in which it reaches the egress ports (R120). -/
structure LaneExpress where
  lane  : Fin 2
  event : Express
  slot  : Nat
  deriving DecidableEq, Repr

/-- A block that arrives on a lane (R90, R92): its sync header and its 64 bits. -/
structure LaneBlock where
  lane  : Fin 2
  sync  : Nat
  block : Nat
  deriving DecidableEq, Repr

/-- The fields of a HELLO or HELLO_ACK block (R125). -/
structure Hello where
  node  : Nat
  port  : Port
  major : Nat
  minor : Nat
  deriving DecidableEq, Repr

/-- The routes on which the OD is served (R322, R334). -/
inductive OdRoute where
  | ring | window | udp | mb0
  deriving DecidableEq, Repr

/-- The authentication fields of an OD request (R325): key index, request counter and the CMAC carried. -/
structure OdAuth where
  key  : Fin 4
  ctr  : Nat
  cmac : Nat
  deriving DecidableEq, Repr

/-- Where an OD access came from and what its response must carry: the route, the requester (node number on the ring; on UDP its
address times 2^16 plus its port, an IPv6 address being one of 2^32 or more; zero otherwise), the transaction tag, the frame's class and flow label, whether the frame was addressed to the pair's service number (R140), and the
authentication fields. -/
structure OdHdr where
  route : OdRoute
  peer  : Nat
  tag   : Nat
  cls   : Nat
  flow  : Nat
  svc   : Bool
  auth  : Option OdAuth
  deriving DecidableEq, Repr

/-- The operations of R327. -/
inductive OdOp where
  | read | write | describe | next
  deriving DecidableEq, Repr

/-- One OD access: header, operation, object number and value. -/
structure OdAccessReq where
  hdr : OdHdr
  op  : OdOp
  obj : Nat
  val : List Byte
  deriving DecidableEq, Repr

/-- The contents of a table bank: the sub-sections of R495 as they stand in the schedule image, byte for byte. `dirError` is the
load-check code (R81, R495) of a directory that breaks the rules of R495, or 0; `migrated` a contract record that was migrated when it was promoted (R443);
`slot` the schedule slot the bank was loaded from, true for B (R436); `node` the node number of the image, where its container section names one
(R427, R44). -/
structure Bank where
  moves    : List Byte
  layout   : List Byte
  programs : List Byte
  gates    : List Byte
  crossbar : List Byte
  inputs   : List Byte
  contract : List Byte
  records  : List Byte
  dirError : Nat
  migrated : Bool
  slot     : Option Bool
  node     : Option Nat
  deriving DecidableEq, Repr

/-- A bank with nothing in it (R75). -/
def Bank.empty : Bank := ⟨[], [], [], [], [], [], [], [], 0, false, none, none⟩

/-- What one run of the bring-up stages meets (R411 to R414): whether the flash and its parameter table are valid, whether the
signatures of firmware slots A and B hold, the islands that fail BIST, the class-N objects whose stored value is invalid, and the last
stage that is completed in this run, 8 where bring-up ends in it. -/
structure BringUpFindings where
  flashOk  : Bool
  sigA     : Bool
  sigB     : Bool
  bistBad  : List Island
  storeBad : List Nat
  upTo     : Nat
  deriving DecidableEq, Repr

/-- A CAN frame on a bus (R263, R268): identifier (29 bits; a base identifier in bits [28:18]), format flags, data, and the length a
remote frame asks for. -/
structure CanFrame where
  ide  : Bool
  id   : Nat
  fdf  : Bool
  brs  : Bool
  esi  : Bool
  rtr  : Bool
  data : List Byte
  rlen : Nat := 0
  deriving DecidableEq, Repr

/-- How a transmission attempt ends (R275): sent, with the nanoseconds since its start of frame and the transmitter delay measured on it (R267,
R285); an error with its code of 7.0n1.00 [2:0], and the delay where the attempt got as far; or arbitration lost. -/
inductive AttemptEnd where
  | sent (sofAgo : Nat) (delay : Option Nat)
  | error (code : Fin 8) (delay : Option Nat)
  | lost
  deriving DecidableEq, Repr

/-- What ends the transactions of the bridge (R364). -/
inductive BridgeResetKind where
  | flr | linkLoss | perst
  deriving DecidableEq, Repr

/-- What the host has configured in the function when the link is up (R343): Bus Master Enable, and ECRC generation and check. -/
structure PcieCommand where
  bme     : Bool
  ecrcGen : Bool
  ecrcChk : Bool
  deriving DecidableEq, Repr

/-- The MSI-X capability of the function as the host has configured it (R360): MSI-X Enable and Function Mask. -/
structure MsixControl where
  enable : Bool
  mask   : Bool
  deriving DecidableEq, Repr

/-- The way of a UDP datagram (R330): its destination port, and the address and port of its sender. -/
structure UdpPath where
  port : Nat
  peer : Nat
  deriving DecidableEq, Repr

/-- What a channel senses before it starts (R372, R381): VHS in mV, and whether its MOSFET conducts with the gate off. -/
structure StartSense where
  vhs        : Nat
  conducting : Bool
  deriving DecidableEq, Repr

/-- The commands of the block: one constructor for each row of the spec's table of operations and events, those without operands last. -/
inductive Instr where
  /-- NOPM (R64): a move with no effect. -/
  | nopm (i : Nat)
  /-- SAMPLE (R55): reads the masked pins as levels, edge flags or a timestamp into the input image. -/
  | sample (i : Nat)
  /-- APPLY (R56): drives the masked pins from the output image and loads their hold latches. -/
  | apply (i : Nat)
  /-- COPY (R57): moves words with their state between images, FIFOs, ring segments or host memory. -/
  | copy (i : Nat)
  /-- GO (R58): starts or resumes the addressed pawns on the first SEQ clock edge of the beat. -/
  | go (i : Nat)
  /-- GATE (R59): opens or closes the gate of an egress port for the named traffic classes. -/
  | gate (i : Nat)
  /-- TXOBJ (R60): copies output image bytes into a transmit object and requests its transmission. -/
  | txobj (i : Nat)
  /-- RXLATCH (R61): copies the last completed frame of a receive object into the input image. -/
  | rxlatch (i : Nat)
  /-- SEAL (R62): latches a snapshot slot in every island of its mask. -/
  | seal (i : Nat)
  /-- MARK (R63): emits the cycle marker on the master, or opens the marker check on other nodes. -/
  | mark (i : Nat)
  /-- BEGIN_STAGING (R75): a write of 1 to 4.001.00 clears the staged bank and puts it in state loading. -/
  | beginStaging (h : OdHdr) (img : Bank)
  /-- START_LOAD_CHECK (R76): a write of 1 to 4.001.01 starts the load check of the staged bank. -/
  | startLoadCheck (h : OdHdr)
  /-- SWITCH_AT_CYCLE (R78): a write to 4.001.02 requests a bank switch at a named or the first eligible boundary. -/
  | switchAtCycle (h : OdHdr) (v : Nat)
  /-- WITHDRAW_SWITCH (R83): a write of 1 to 4.001.03 withdraws a pending bank switch. -/
  | withdrawSwitch (h : OdHdr)
  /-- CLEAR_LATCHED_FAILURES (R47): a write of 1 to 4.080.03 clears the latched condition-failure bits whose conditions hold again. -/
  | clearLatchedFailures (h : OdHdr)
  /-- CLOCK_MONITOR_WINDOW (R28): a 10.24 µs clock-count window ends and each island clock is judged against its window. -/
  | clockMonitorWindow (code count : Nat) (locked : Bool)
  /-- VDDC_COMPARATOR_TRIP (R28): an island's VDDC window comparator trips and the island leaves the envelope. -/
  | vddcComparatorTrip (code : Nat)
  /-- TEMPERATURE_READ (R28): the die temperature sensors are read every 1 ms and the gradient is judged. -/
  | temperatureRead (portDie : Bool) (readings : List Nat)
  /-- SIGNAL_DETECTED (R124): signal is detected on both lanes of an enabled port, which leaves DOWN for SIGNAL. -/
  | signalDetected (p : Port)
  /-- CDR_LOCKED (R124): clock data recovery locks on both lanes and the port enters LOCK. -/
  | cdrLocked (p : Port)
  /-- BLOCK_LOCK_GAINED (R92): after 64 valid sync headers a lane gains block lock. -/
  | blockLockGained (p : Port) (lane : Fin 2)
  /-- BLOCK_LOCK_LOST (R92): a lane sees 16 invalid sync headers in 64 blocks and loses block lock, a ring break. -/
  | blockLockLost (p : Port) (lane : Fin 2) (cut : Option Cut)
  /-- TRAINING_TIMEOUT (R124): a training state times out and the port returns to DOWN. -/
  | trainingTimeout (p : Port)
  /-- TRAINING_RESTART (R124): 100 ms after a timeout or failure the port starts training again. -/
  | trainingRestart (p : Port)
  /-- RETRAIN (R124): a write of 1 to 2.0p0.06 retrains a port. -/
  | retrain (h : OdHdr) (p : Port)
  /-- CLEAR_COUNTERS (R128): a write of 1 to 2.0p1.0C restarts the saturating port counters. -/
  | clearCounters (h : OdHdr) (p : Port)
  /-- ALIGN_RECEIVED (R94): an ALIGN pair is received and lane skew is measured or checked. -/
  | alignReceived (p : Port) (skew : Nat)
  /-- HELLO_SEND (R125): in HELLO a hub sends HELLO every 10 µs. -/
  | helloSend (p : Port)
  /-- HELLO (R125): a neighbour's HELLO is received and judged compatible or refused. -/
  | hello (p : Port) (b : Hello)
  /-- HELLO_ACK (R125): a HELLO_ACK is received and the port leaves HELLO for MEASURE or REFUSED. -/
  | helloAck (p : Port) (b : Hello)
  /-- MEASURE_EXCHANGE (R126): every 1 µs a MEASURE_REQ is sent and timestamped. -/
  | measureExchange (p : Port) (sentAt : Nat)
  /-- MEASURE_REQ (R125): a MEASURE_REQ is received and answered with MEASURE_REP carrying the turnaround. -/
  | measureReq (p : Port) (seq turnaround : Nat)
  /-- MEASURE_REP (R126): a MEASURE_REP is received and one cable-delay value is computed. -/
  | measureRep (p : Port) (seq turnaround arrivedAt : Nat)
  /-- PATH_REPEAT (R125): every 10 µs the hub repeats PATH until it has the neighbour's PATH. -/
  | pathRepeat (p : Port)
  /-- PATH (R125): the neighbour's PATH block with its path offsets is received. -/
  | path (p : Port) (etx erx : Nat)
  /-- IDLE_TIMEOUT (R129): no IDLE block arrives on a port for 256 ns and a break is declared. -/
  | idleTimeout (p : Port) (cut : Option Cut)
  /-- NOTICE_REPEAT (R132): while a port stays broken a NOTICE is sent every 1 µs. -/
  | noticeRepeat (p : Port)
  /-- NOTICE (R132): a WRAP NOTICE is received and the hub declares a break on that port. -/
  | notice (p : Port) (b : CutNotice)
  /-- REPORT (R132): a WRAP REPORT is received, stored and forwarded once. -/
  | report (p : Port) (b : WrapBlock)
  /-- UNWRAP_REQ (R139): an UNWRAP_REQ is received and answered with UNWRAP_ACK once the port is UP. -/
  | unwrapReq (p : Port) (b : WrapBlock)
  /-- UNWRAP_ACK (R139): an UNWRAP_ACK is received and the wrap ends at the named boundary. -/
  | unwrapAck (p : Port) (b : WrapBlock)
  /-- RETRY_UNWRAP (R139): a write of 1 to 2.080.04 retries the unwrap of a wrapped port. -/
  | retryUnwrap (h : OdHdr)
  /-- MARKER_RECEIVED (R99): a cycle marker is received, judged, forwarded with residence added, and may drive the servo. -/
  | markerReceived (p : Port) (m : Marker) (arr res : Nat)
  /-- SEGMENT_RECEIVED (R103): a cyclic segment passes, is checked, extracted, inserted into and forwarded or removed. -/
  | segmentReceived (p : Port) (g : Segment) (res : Nat)
  /-- FRAME_INGRESS (R161): an acyclic frame enters the switch and is checked, looked up, policed, admitted and queued. -/
  | frameIngress (port : Nat) (f : Frame)
  /-- EGRESS_SELECT (R180): a free egress port sends the candidate of its highest eligible class. -/
  | egressSelect (port off : Nat)
  /-- FENCE_END (R167): a route-change fence ends once the old frames have drained and the fence time has elapsed. -/
  | fenceEnd (d : Nat)
  /-- EPOCH_TABLE_UPDATE (R169): a write to an epoch-governed table fills a spare slot and advances the epoch. -/
  | epochTableUpdate (h : OdHdr) (obj v : Nat)
  /-- TABLE_BATCH_BEGIN (R170): a write of 1 to 3.000.07 begins a table batch. -/
  | tableBatchBegin (h : OdHdr)
  /-- TABLE_BATCH_COMMIT (R170): a write of 2 to 3.000.07 makes every batch slot current under one epoch advance. -/
  | tableBatchCommit (h : OdHdr)
  /-- TABLE_BATCH_ABANDON (R170): a write of 3 to 3.000.07 abandons the batch. -/
  | tableBatchAbandon (h : OdHdr)
  /-- CLEAR_SWITCH_COUNTERS (R186): a write of 1 to 3.000.08 restarts the switch counts. -/
  | clearSwitchCounters (h : OdHdr)
  /-- FAILURE_REPORT (R115): a failure report reaches the requester of a discarded frame. -/
  | failureReport (f : Frame)
  /-- SEG_SHORT (R176): the originator receives SEG_SHORT, counts it and journals a fork shortfall. -/
  | segShort (payload : List Byte)
  /-- EXPRESS_RECEIVED (R118): an express event is received, delivered once to the crossbar and forwarded. -/
  | expressReceived (p : Port) (x : LaneExpress) (crc : Nat)
  /-- EXPRESS_TOKEN_REFILL (R121): every 64 word slots a port's express bucket gains one token. -/
  | expressTokenRefill (p : Port)
  /-- EXPRESS_DEFERRED_SEND (R121): a deferred express event leaves its queue once a token is available. -/
  | expressDeferredSend (p : Port)
  /-- FABRIC_POSTED_WRITE (R116): a posted write frame is served at its target space. -/
  | fabricPostedWrite (f : Frame)
  /-- FABRIC_READ_REQUEST (R116): a read request frame is served and answered with a read response. -/
  | fabricReadRequest (f : Frame)
  /-- FABRIC_ACKNOWLEDGED_WRITE (R111): an acknowledged write frame is served and answered with a write acknowledgement. -/
  | fabricAcknowledgedWrite (f : Frame)
  /-- WRITE_ACKNOWLEDGEMENT (R111): a write acknowledgement reaches its requester. -/
  | writeAcknowledgement (f : Frame)
  /-- ETHERNET_TUNNEL (R111): an Ethernet tunnel frame is delivered to the Ethernet MAC port. -/
  | ethernetTunnel (f : Frame)
  /-- HEARTBEAT (R144): a partner's HEARTBEAT is received on the pair link. -/
  | heartbeat (p : Port) (payload : List Byte)
  /-- MIRROR (R145): a MIRROR message is received and written into the mirror store or OD. -/
  | mirror (p : Port) (payload : List Byte)
  /-- PAIR_STATUS (R149): the arbiter receives a hub's PAIR_STATUS. -/
  | pairStatus (payload : List Byte)
  /-- ARBITER_BEACON (R147): a hub receives the arbiter's beacon naming the active hub. -/
  | arbiterBeacon (payload : List Byte)
  /-- GRANT (R150): a hub receives a GRANT and accepts or refuses it with GRANT_ACK. -/
  | grant (payload : List Byte)
  /-- GRANT_ACK (R147): the arbiter receives a GRANT_ACK. -/
  | grantAck (payload : List Byte)
  /-- REQUEST_CASTLING (R155): a write of 1 to 2.082.05 sets the castling-requested flag on the active hub. -/
  | requestCastling (h : OdHdr)
  /-- COMMAND_CASTLING (R149): a write to 2.084.10 commands castling of a pair at the arbiter. -/
  | commandCastling (h : OdHdr) (v : Nat)
  /-- NOP (R203): pawn instruction that advances PC. -/
  | nop (q : Fin 128)
  /-- JMP (R203): pawn jump to a target. -/
  | jmp (q : Fin 128)
  /-- JCC (R198): pawn conditional jump on a flag or FIFO condition. -/
  | jcc (q : Fin 128)
  /-- DJA (R203): decrements CA and jumps while nonzero. -/
  | dja (q : Fin 128)
  /-- DJB (R203): decrements CB and jumps while nonzero. -/
  | djb (q : Fin 128)
  /-- LDA (R204): loads counter CA. -/
  | lda (q : Fin 128)
  /-- LDB (R204): loads counter CB. -/
  | ldb (q : Fin 128)
  /-- LDC (R204): loads the comparand CMP. -/
  | ldc (q : Fin 128)
  /-- WAITP (R203): waits for a slot level. -/
  | waitp (q : Fin 128)
  /-- WAITE (R203): waits for a slot edge of the named kind. -/
  | waite (q : Fin 128)
  /-- WAITB (R209): waits for a target beat start. -/
  | waitb (q : Fin 128)
  /-- SHO (R203): shifts one bit of SH out to a slot. -/
  | sho (q : Fin 128)
  /-- SHI (R203): shifts one slot bit into SH. -/
  | shi (q : Fin 128)
  /-- PUSH (R203): writes SH with state and end flag into the IN FIFO. -/
  | push (q : Fin 128)
  /-- PULL (R203): pops a visible OUT FIFO word into SH. -/
  | pull (q : Fin 128)
  /-- CMPJ (R199): compares SH with CMP and jumps on the relation. -/
  | cmpj (q : Fin 128)
  /-- CRCS (R205): advances the CRC in CMP by one bit. -/
  | crcs (q : Fin 128)
  /-- TSTMP (R206): pushes the fabric time of the cycle start into the IN FIFO. -/
  | tstmp (q : Fin 128)
  /-- EVT (R207): raises a reflex or sequencer event line. -/
  | evt (q : Fin 128)
  /-- SYNC (R208): waits at a barrier for the group members of its cluster. -/
  | sync (q : Fin 128)
  /-- SWAP (R203): makes a pending swap take effect and jumps to the entry address. -/
  | swap (q : Fin 128)
  /-- HALT (R203): halts the pawn. -/
  | halt (q : Fin 128)
  /-- ILLEGAL_INSTRUCTION (R211): a reserved opcode, condition or operand bit faults the pawn and is journalled. -/
  | illegalInstruction (q : Fin 128)
  /-- PAWN_TIMEOUT (R202): a stalling instruction's execution count expires and it completes with T set. -/
  | pawnTimeout (q : Fin 128)
  /-- ARM_SWAP (R223): a write to 5.0pp.20 arms a swap for a named boundary. -/
  | armSwap (h : OdHdr) (q : Fin 128) (v : Nat)
  /-- FORCED_SWAP (R225): a forced swap takes effect at the first pawn cycle start at or after the boundary. -/
  | forcedSwap (q : Fin 128)
  /-- WITHDRAW_SWAP (R227): a write of 1 to 5.0pp.22 withdraws an armed or pending swap. -/
  | withdrawSwap (h : OdHdr) (q : Fin 128)
  /-- INJECT (R232): a write to 5.0pp.25 queues an instruction for injection. -/
  | inject (h : OdHdr) (q : Fin 128) (v : Nat)
  /-- INJECTED_INSTRUCTION (R233): the pawn executes the queued injected instruction in place of the word at PC. -/
  | injectedInstruction (q : Fin 128)
  /-- MANUAL_GO (R231): a write to 5.1c0.02 issues a GO to a cluster at the next beat start. -/
  | manualGo (h : OdHdr) (c : Fin 8) (v : Nat)
  /-- SLOT_MAP_WRITE (R192): a write to a slot map, divider or timeout register goes to the staged configuration. -/
  | slotMapWrite (h : OdHdr) (q : Fin 128) (sub : Nat) (val : List Byte)
  /-- FIFO_WORDS_VISIBLE (R215): at the visibility beat the OUT FIFO visible pointer advances by the COPY's words. -/
  | fifoWordsVisible (q : Fin 128)
  /-- FIFO_PORT_POP (R219): a fabric read of a pawn FIFO port pops one IN FIFO word. -/
  | fifoPortPop (f : Frame)
  /-- FIFO_PORT_WRITE (R219): a fabric write adds one word without end flag to the OUT FIFO. -/
  | fifoPortWrite (f : Frame)
  /-- FIFO_PORT_WRITE_END (R219): a fabric write adds one word with end flag to the OUT FIFO. -/
  | fifoPortWriteEnd (f : Frame)
  /-- INSTRUCTION_SHADOW_WRITE (R220): a write to space 0x05 writes a word of the pawn's shadow program. -/
  | instructionShadowWrite (f : Frame)
  /-- PIN_EDGE (R246): the filtered view of a pin changes, is timestamped and may raise a reflex line. -/
  | pinEdge (pin : Fin 256) (off : Nat) (level : Bool)
  /-- PIN_CONFIG_WRITE (R244): a write to a pin configuration word takes effect at the next cycle boundary. -/
  | pinConfigWrite (h : OdHdr) (pin : Fin 256) (v : Nat)
  /-- HOLD_LATCHES_WRITE (R250): a write to 6.0b1.03 sets the owner levels and hold latches of a bank. -/
  | holdLatchesWrite (h : OdHdr) (bank : Fin 16) (v : Nat)
  /-- RE_ENABLE_BANK (R242): a write of 1 to 6.0b1.02 re-enables a bank after supply loss. -/
  | reEnableBank (h : OdHdr) (bank : Fin 16)
  /-- RELEASE_ALL (R256): a write of 1 to 6.100.03 ends every force and freeze at the next cycle boundary. -/
  | releaseAll (h : OdHdr)
  /-- VIO_MEASURE (R241): every 1 ms VIOb is measured and the bank window judged. -/
  | vioMeasure (bank : Fin 16) (mv : Nat)
  /-- BANK_SUPPLY_LOST (R242): VIOb falls below its reset level and the bank stops driving. -/
  | bankSupplyLost (bank : Fin 16)
  /-- REQUEST_TRANSMISSION (R273): a command write of 1 requests transmission of a message object. -/
  | requestTransmission (n : Fin 8) (m : Nat)
  /-- ABORT_TRANSMISSION (R273): a command write of 2 removes the pending and waiting requests. -/
  | abortTransmission (n : Fin 8) (m : Nat)
  /-- STATUS_READ_CLEAR (R268): a read of the read-clear status word clears new and overrun. -/
  | statusReadClear (n : Fin 8) (m : Nat)
  /-- ARBITRATION_START (R274): at a start-of-frame opportunity the controller enters arbitration with its best frame. -/
  | arbitrationStart (n : Fin 8)
  /-- TRANSMISSION_ATTEMPT_END (R275): a transmission attempt ends in success, error or lost arbitration and the policy decides. -/
  | transmissionAttemptEnd (n : Fin 8) (e : AttemptEnd)
  /-- FRAME_STORED (R271): a received frame is accepted and stored in its object at the end of EOF. -/
  | frameStored (n : Fin 8) (f : CanFrame) (sofAgo off : Nat)
  /-- BUS_OFF_RECOVER (R277): a write of 1 to 7.0n0.06 starts bus-off recovery. -/
  | busOffRecover (h : OdHdr) (n : Fin 8)
  /-- BUS_OFF_RECOVER_ABANDON (R277): a write of 2 to 7.0n0.06 abandons every request and starts recovery. -/
  | busOffRecoverAbandon (h : OdHdr) (n : Fin 8)
  /-- BUS_OFF_RECOVERY_DONE (R277): after 128 recessive sequences the controller is error active again. -/
  | busOffRecoveryDone (n : Fin 8)
  /-- CONTROLLER_MODE_WRITE (R264): a write to 7.0n0.00 requests a controller mode. -/
  | controllerModeWrite (h : OdHdr) (n : Fin 8) (v : Nat)
  /-- CONTROLLER_MODE_CHANGE (R264): a requested mode takes effect at frame end or after bus integration. -/
  | controllerModeChange (n : Fin 8)
  /-- CLEAR_BUS_COUNTERS (R286): a write of 1 to 7.0n1.09 restarts the controller counts. -/
  | clearBusCounters (h : OdHdr) (n : Fin 8)
  /-- TRANSCEIVER_STATE_WRITE (R280): a write to 7.1t0.00 requests a transceiver state. -/
  | transceiverStateWrite (h : OdHdr) (t : Fin 2) (v : Nat)
  /-- BUS_WAKE (R282): a filtered dominant phase wakes the transceiver and signals the AON island. -/
  | busWake (t : Fin 2) (late : Bool)
  /-- CLEAR_WAKE_FLAG (R286): a write of 1 to 7.1t0.04 clears the wake flag. -/
  | clearWakeFlag (h : OdHdr) (t : Fin 2)
  /-- TXD_DOMINANT_TIMEOUT (R283): a transmitter held dominant for 2.0 ms is released. -/
  | txdDominantTimeout (t : Fin 2) (on : Bool)
  /-- TIME_CAL (R294): a neighbour's TIME_CAL is received and the span closure correction is computed. -/
  | timeCal (p : Port) (d : Int) (valid : Bool) (cycle : Nat)
  /-- SET_FABRIC_TIME (R312): a write to 8.000.01 on the master steps its time at the next boundary. -/
  | setFabricTime (h : OdHdr) (v : Nat)
  /-- ACCEPT_NEXT_JUMP (R303): a write of 1 to 8.010.0A makes the hub take the next jump. -/
  | acceptNextJump (h : OdHdr)
  /-- CANDIDATE_RETURN (R300): a write of 1 to 8.001.04 lets a candidate emit again. -/
  | candidateReturn (h : OdHdr) (v : Nat)
  /-- SEAL_ARM_LOCAL (R306): a seal command of 1 arms a seal on this hub. -/
  | sealArmLocal (h : OdHdr)
  /-- SEAL_ARM_FABRIC (R306): a seal command of 2 arms a seal and sends SEAL_ARM to the fork group. -/
  | sealArmFabric (h : OdHdr)
  /-- SEAL_DISARM_LOCAL (R306): a seal command of 3 disarms a slot on this hub. -/
  | sealDisarmLocal (h : OdHdr)
  /-- SEAL_DISARM_FABRIC (R306): a seal command of 4 disarms a slot and sends SEAL_DISARM. -/
  | sealDisarmFabric (h : OdHdr)
  /-- SEAL_ARM (R307): a received SEAL_ARM arms a seal or is refused. -/
  | sealArm (payload : List Byte)
  /-- SEAL_DISARM (R307): a received SEAL_DISARM disarms a pending seal. -/
  | sealDisarm (payload : List Byte)
  /-- SEAL_IN_EDGE (R310): a rising SEAL_IN edge arms a seal n cycles later and sends SEAL_ARM. -/
  | sealInEdge (off : Nat)
  /-- SEAL_LATCH (R309): at the seal beat every island latches the snapshot slot. -/
  | sealLatch (slot : Fin 4)
  /-- PTP_EVENT_MESSAGE (R305): a PTP event message is sent or received on the management MAC and timestamped. -/
  | ptpEventMessage (sent : Bool) (off : Nat)
  /-- OD_REQUEST_FRAME (R328): an OD request frame arrives over the ring and is queued. -/
  | odRequestFrame (f : Frame)
  /-- MAILBOX_REQUEST (R329): the host advances REQ_WP and the Keeper takes the request. -/
  | mailboxRequest (pointer : Nat)
  /-- MAILBOX_RESPONSE_RELEASE (R329): the host advances RSP_RP to free response slots. -/
  | mailboxResponseRelease (pointer : Nat)
  /-- OD_DATAGRAM (R330): a UDP datagram to a port arrives and is queued or discarded. -/
  | odDatagram (peer : UdpPath) (bytes : List Byte)
  /-- SERVICE_CHANNEL_FRAME (R331): an MB0 service-channel frame is reassembled into an OD request. -/
  | serviceChannelFrame (f : CanFrame)
  /-- OD_READ (R327): the Keeper executes a read and returns the object's value. -/
  | odRead (h : OdHdr) (obj : Nat) (val : List Byte)
  /-- OD_WRITE (R316): the Keeper executes a write to an object without a row of its own. -/
  | odWrite (h : OdHdr) (obj : Nat) (val : List Byte)
  /-- OD_DESCRIBE (R327): the Keeper returns an object's type, access and persistence. -/
  | odDescribe (h : OdHdr) (obj : Nat) (val : List Byte)
  /-- OD_NEXT (R327): the Keeper returns the next existing object number. -/
  | odNext (h : OdHdr) (obj : Nat) (val : List Byte)
  /-- FEATURE_COMMIT (R338): a write of 1 to 0.012.00 commits the accepted feature words. -/
  | featureCommit (h : OdHdr)
  /-- FLASH_STORE (R319): the Keeper stores accepted class-N writes in flash. -/
  | flashStore (obj : Nat)
  /-- HOST_READ (R349): a host read in a window is split into fabric read requests and held. -/
  | hostRead (nonPrefetch : Bool) (addr len tag : Nat)
  /-- READ_RESPONSE (R349): a fabric read response reaches the bridge and completions are returned. -/
  | readResponse (f : Frame)
  /-- READ_HOLD_TIMEOUT (R350): the read hold limit expires and the read is answered CA. -/
  | readHoldTimeout (tag : Nat)
  /-- HOST_WRITE (R352): a host write is split into posted or acknowledged fabric writes. -/
  | hostWrite (nonPrefetch : Bool) (addr : Nat) (data : List Byte)
  /-- FAST_WINDOW_ACCESS (R345): a host access to the fast window reaches the mailbox, FIFO ports or MSI-X. -/
  | fastWindowAccess (addr len tag : Nat) (data : Option (List Byte))
  /-- FABRIC_HOST_REQUEST (R353): a frame for space 0x08 is served as PCIe requests to host memory. -/
  | fabricHostRequest (f : Frame)
  /-- HOST_COMPLETION (R354): a host completion arrives and is mapped to a fabric outcome. -/
  | hostCompletion (tag status : Nat) (poisoned : Bool) (data : List Byte)
  /-- PREFETCH_LIFE_EXPIRY (R358): a prefetch entry's life expires and it is discarded. -/
  | prefetchLifeExpiry (i : Nat)
  /-- BRIDGE_RESET (R364): FLR, link loss or PERST ends every bridge transaction in progress. -/
  | bridgeReset (kind : BridgeResetKind)
  /-- WINDOW_COMMIT (R347): a write of 1 to 9.018.00 checks and commits the windows. -/
  | windowCommit (h : OdHdr)
  /-- CLEAR_BRIDGE_COUNTERS (R366): a write of 1 to 9.070.06 restarts the bridge counts. -/
  | clearBridgeCounters (h : OdHdr)
  /-- SUPPLY_WARNING (R368): a rail falls below its warning level and brace may begin. -/
  | supplyWarning (rail : Nat)
  /-- WARNING_LEFT (R367): a rail rises above its warning level plus hysteresis. -/
  | warningLeft (rail : Nat)
  /-- SUPPLY_RESET_LEVEL (R367): a rail crosses its reset level and its reset or action follows. -/
  | supplyResetLevel (rail : Nat)
  /-- CHANNEL_START (R372): a channel whose start conditions hold starts at the inrush limit. -/
  | channelStart (c : Fin 9) (temp : Nat) (vhs : StartSense)
  /-- START_COMPLETE (R373): the gate is fully enhanced for 8 ticks and the start completes. -/
  | startComplete (c : Fin 9)
  /-- START_TIMEOUT (R373): a start not complete within the timeout turns the channel off. -/
  | startTimeout (c : Fin 9)
  /-- FAULT_TIMER_TRIP (R371): the fault timer reaches the fault time and trips the channel. -/
  | faultTimerTrip (c : Fin 9)
  /-- FAST_TRIP (R371): a sense voltage at the fast-trip multiple pulls the gate down within 1 µs. -/
  | fastTrip (c : Fin 9)
  /-- THERMAL_MODEL_TRIP (R375): the model temperature reaches the trip temperature. -/
  | thermalModelTrip (c : Fin 9) (temp : Nat)
  /-- DIODE_OVER_TEMPERATURE (R375): the diode temperature reaches the diode trip. -/
  | diodeOverTemperature (c : Fin 9) (temp : Nat)
  /-- GATE_FAULT (R381): the gate stays under 6.0 V above the source for 8 ticks while on. -/
  | gateFault (c : Fin 9)
  /-- MOSFET_SHORT (R385): a MOSFET conducts for 1 ms while its gate is off. -/
  | mosfetShort (c : Fin 9)
  /-- POWER_GOOD_DELAY_END (R379): a channel's power-good delay ends and power-good is asserted. -/
  | powerGoodDelayEnd (c : Fin 9)
  /-- RETRY_TIMER_EXPIRED (R382): a channel's retry timer expires. -/
  | retryTimerExpired (c : Fin 9)
  /-- GOOD_TIME_ELAPSED (R382): a channel on with power-good for the good time has its retry count cleared. -/
  | goodTimeElapsed (c : Fin 9)
  /-- CLEAR_FAULT (R385): a write of 1 to A.1c1.0A clears a channel's latch and retry state. -/
  | clearFault (h : OdHdr) (c : Fin 9) (conducting : Bool)
  /-- CHANNEL_ON (R386): a channel command of 1 turns a channel on. -/
  | channelOn (h : OdHdr) (c : Fin 9)
  /-- CHANNEL_OFF (R386): a channel command of 0 turns a channel off with fault 0x0B. -/
  | channelOff (h : OdHdr) (c : Fin 9)
  /-- PROPOSE_SLEEP (R392): a write of 1 to B.000.01 on the master starts a sleep proposal. -/
  | proposeSleep (h : OdHdr)
  /-- CANCEL_SLEEP_PROPOSAL (R392): a write of 2 to B.000.01 cancels the proposal with cause 3. -/
  | cancelSleepProposal (h : OdHdr)
  /-- SLEEP_PROPOSE (R393): a member receives a proposal and answers with one vote. -/
  | sleepPropose (payload : List Byte) (active : Bool)
  /-- SLEEP_VOTE (R394): the master receives a member's vote. -/
  | sleepVote (payload : List Byte)
  /-- SLEEP_COMMIT (R395): a member accepts a commit and becomes committed. -/
  | sleepCommit (payload : List Byte)
  /-- SLEEP_CANCEL (R391): a member receives a cancel of the proposal. -/
  | sleepCancel (payload : List Byte)
  /-- WAKE_SOURCE (R400): a filtered wake source wakes the hub, aborting, latching or ending Doze. -/
  | wakeSource (code : Nat) (late : Bool)
  /-- WAKE_TIMER_EXPIRY (R400): the wake timer reaches its set seconds after the point of no return. -/
  | wakeTimerExpiry (late : Bool)
  /-- INH_RECLAIM (R402): after a late wake the AON island reclaims INH once the core rails have fallen. -/
  | inhReclaim (slow : Bool)
  /-- CLEAR_FLAGS (R405): a write of 1 to B.032.01 clears the flagged-node list. -/
  | clearFlags (h : OdHdr)
  /-- VAON_LOSS (R368): VAON falls below 2.45 V and a POR takes effect. -/
  | vaonLoss (below : Bool)
  /-- BRING_UP (R411): the hub runs the bring-up stages and enters Configure. -/
  | bringUp (x : BringUpFindings)
  /-- MODE_REQUEST_BRING_UP (R407): a mode request of 1 leaves Test through a WRST. -/
  | modeRequestBringUp (h : OdHdr)
  /-- MODE_REQUEST_TEST (R407): a mode request of 2 enters Test. -/
  | modeRequestTest (h : OdHdr)
  /-- MODE_REQUEST_CONFIGURE (R407): a mode request of 3 enters Configure. -/
  | modeRequestConfigure (h : OdHdr)
  /-- MODE_REQUEST_RUN (R407): a mode request of 4 enters Run at the next boundary. -/
  | modeRequestRun (h : OdHdr)
  /-- MODE_REQUEST_HOLD (R407): a mode request of 6 enters Hold at the next boundary. -/
  | modeRequestHold (h : OdHdr)
  /-- WARM_RESET (R416): a write of 1 to 1.002.00 requests a WRST. -/
  | warmReset (h : OdHdr)
  /-- BRACE_END (R421): recovery lasts the recovery time, brace ends and is journalled. -/
  | braceEnd (ms : Nat)
  /-- BEGIN_CONTAINER_STAGING (R432): a write to C.020.00 erases the staging area for a container. -/
  | beginContainerStaging (h : OdHdr) (v : Nat)
  /-- STAGING_CHUNK (R432): a write to C.020.01 stores one chunk of the container. -/
  | stagingChunk (h : OdHdr) (val : List Byte)
  /-- VERIFY (R429): a write of 1 to C.020.03 starts verification of the staged container. -/
  | verify (h : OdHdr)
  /-- PROMOTE_FIRMWARE (R435): a promote of 1 copies firmware into the inactive slot on trial. -/
  | promoteFirmware (h : OdHdr)
  /-- PROMOTE_SCHEDULE (R436): a promote of 2 writes the schedule slot and loads the staged bank. -/
  | promoteSchedule (h : OdHdr)
  /-- PROMOTE_CONFIGURATION (R437): a promote of 3 checks and applies a configuration set. -/
  | promoteConfiguration (h : OdHdr)
  /-- PROMOTION_COMPLETE (R434): the promotion's copy and read-back end and the boot record changes. -/
  | promotionComplete (ok : Bool)
  /-- KEEPER_HANDOVER (R438): a write of 1 to C.030.00 hands the Keeper to the idle core. -/
  | keeperHandover (h : OdHdr)
  /-- CONFIRM_FIRMWARE (R435): a write of 1 to C.030.01 confirms the firmware on trial. -/
  | confirmFirmware (h : OdHdr)
  /-- ISOLATE_AT_CYCLE (R447): a write to C.050.01 isolates a part at a named boundary. -/
  | isolateAtCycle (h : OdHdr) (v : Nat)
  /-- RETURN_AT_CYCLE (R449): a write to C.050.02 returns an isolated part at a named boundary. -/
  | returnAtCycle (h : OdHdr) (v : Nat)
  /-- TEST_BIST (R448): a test write of 1 runs BIST on an isolated part. -/
  | testBist (h : OdHdr)
  /-- TEST_IRST_BIST (R448): a test write of 2 runs IRST and then BIST on an isolated part. -/
  | testIrstBist (h : OdHdr)
  /-- BIST_COMPLETE (R448): the BIST of a part ends passed or failed. -/
  | bistComplete (ok : Bool)
  /-- JOURNAL_RECORD_POSTED (R460): a posted record reaches the Keeper and is stored or counted lost. -/
  | journalRecordPosted (code : Nat)
  /-- JOURNAL_TAIL_WRITE (R462): a write to D.000.01 releases journal records. -/
  | journalTailWrite (h : OdHdr) (v : Nat)
  /-- JOURNAL_FWD (R464): a collector receives forwarded journal records and stores them. -/
  | journalFwd (payload : List Byte)
  /-- SNAPSHOT_COLLECTION_COMPLETE (R466): every latched island has delivered and the slot is held. -/
  | snapshotCollectionComplete (slot : Fin 4)
  /-- SNAPSHOT_COLLECTION_TIMEOUT (R466): an island has not delivered within 1 ms and the slot is incomplete. -/
  | snapshotCollectionTimeout (slot : Fin 4) (delivered : Nat)
  /-- RELEASE_SLOT (R469): a write of 1 to E.0s0.01 releases a held or incomplete slot. -/
  | releaseSlot (h : OdHdr) (slot : Fin 4)
  /-- ERRORED_BLOCK (R92): a block with an invalid sync header, a reserved type or a failed CRC-8 arrives on a lane and is counted toward the lane error bound of condition 3. -/
  | erroredBlock (p : Port) (b : LaneBlock)
  /-- RESET_LEVEL_LEFT (R367): a rail rises above its reset level by the hysteresis for the filter time, so VCAN returns the transceivers to their requested state and a VIOb bank is present again. -/
  | resetLevelLeft (rail : Nat)
  /-- VDDC_COMPARATOR_RECOVERY (R40): an island's VDDC window comparator returns inside its window, ending the presence of the condition-2 failure that holds 4.080.00 at 2. -/
  | vddcComparatorRecovery (code : Nat)
  /-- ACKNOWLEDGEMENT_TIMEOUT (R352): an acknowledged-write piece not acknowledged within the read hold limit is treated as a failure with outcome 0xA, logged, journalled and raising vector 1. -/
  | acknowledgementTimeout (tag : Nat)
  /-- COMPLETION_TIMEOUT (R354): a bridge request to host memory gets no completion within the function's Completion Timeout Value and the fabric request is answered with outcome 0x7 and journalled. -/
  | completionTimeout (tag : Nat)
  /-- PCIE_LINK_UP (R343): the PCIe link trains up and the bridge again reports link state and can master host requests and scheduled COPY writes. -/
  | pcieLinkUp (rate width : Nat) (bme : PcieCommand) (msix : MsixControl) (mps mrrs cpl : Nat)
  /-- FAULT_TIMER_START (R380): a channel's sense voltage reaches 0.9 times the limit and the fault timer first counts, raising PG_WARN and stopping a running power-good delay. -/
  | faultTimerStart (c : Fin 9)
  /-- FAULT_TIMER_RETURNS_TO_ZERO (R380): a channel's fault timer count falls back to zero, so PG_WARN goes low and a stopped power-good delay restarts from zero. -/
  | faultTimerReturnsToZero (c : Fin 9)
  /-- INCOMING_CORE_READY (R438): the incoming Keeper core reports ready after reading the class-N store, and the serving core pauses and passes the state of R439 to it. -/
  | incomingCoreReady (ok : Bool) (pause : Nat)
  /-- FRAME_NOT_ACCEPTED (R270): a valid CAN frame that matches no filter is discarded and counted in 7.0n1.05, and as a valid received frame it resets the lonely count and flag. -/
  | frameNotAccepted (n : Fin 8) (f : CanFrame)
  /-- RECEIVE_ERROR (R263): a controller detects an error on a frame it is receiving, sends an error frame and raises REC under fault confinement. -/
  | receiveError (n : Fin 8) (code : Fin 8) (heavy : Bool)
  /-- TRANSCEIVER_OVER_TEMPERATURE (R283): an integrated transceiver overheats, turns its transmitter off and reports the fault in 7.1t0.05. -/
  | transceiverOverTemperature (t : Fin 2) (on : Bool)
  /-- BEAT_START (R67): the beat strobe reaches each island, which begins executing that beat's moves at its effect point. -/
  | beatStart
  /-- CYCLE_BOUNDARY (R48): beat 0 of a new cycle begins: the beat count is corrected and every boundary action of the hub is taken. -/
  | cycleBoundary
  /-- LOAD_CHECK_COMPLETE (R76): the load check ends with the bank checked or rejected and the first error reported. -/
  | loadCheckComplete
  /-- HEARTBEAT_DEADLINE (R144): at beat h + 256 a missing partner heartbeat is counted missed and PAIR_STATUS is sent. -/
  | heartbeatDeadline
  /-- CORE_LOSS (R251): no valid control word for 16 ns: every output applies its core-loss action. -/
  | coreLoss
  /-- TIME_STEP (R302): at the boundary after a jump the hub ends the cycle and steps its local time. -/
  | timeStep
  /-- MASTER_LOSS (R301): at the Lth cycle without an accepted marker the master is lost. -/
  | masterLoss
  /-- CLOSURE_WINDOW_END (R294): a 1,024-cycle closure window ends and TIME_CAL is sent on E and W. -/
  | closureWindowEnd
  /-- CLEAR_MAILBOX_ERROR (R329): a write of 1 to MB_CTRL [1] clears the pointer error. -/
  | clearMailboxError
  /-- SERVICE_REASSEMBLY_TIMEOUT (R331): a gap over 10 ms abandons the reassembly. -/
  | serviceReassemblyTimeout
  /-- VHS_OVERVOLTAGE (R369): VHS above the overvoltage level for 1 µs turns the inlet off. -/
  | vhsOvervoltage
  /-- SEATING_LOST (R376): SEAT_A or SEAT_B high for 1 µs turns every gate off. -/
  | seatingLost
  /-- SEATING_QUALIFIED (R376): both seat pins have been low for the qualification time. -/
  | seatingQualified
  /-- WAKE_ALL (R401): a member receives WAKE_ALL and aborts its entry if before its point of no return. -/
  | wakeAll
  /-- POINT_OF_NO_RETURN (R396): at the first AON tick of cycle P the hub stops its ring, releases INH and enters Doze. -/
  | pointOfNoReturn
  /-- RING_WATCH_ARMED (R396): 100 µs after the point of no return the ring wake watch is armed. -/
  | ringWatchArmed
  /-- POR_END (R407): VAON stays above 2.50 V for 250 ns and the hub enters Standby. -/
  | porEnd
  /-- CPR_END (R407): the core rails qualify for 1 ms with RST_N high and bring-up begins. -/
  | cprEnd
  /-- HRST (R415): RST_N low for 1 µs resets the core die. -/
  | hrst
  /-- BRING_UP_STAGE_TIMEOUT (R412): a bring-up stage exceeds its limit and bring-up stops. -/
  | bringUpStageTimeout
  /-- WRST_TAKES_EFFECT (R416): the WRST takes effect at the first boundary with no class-N store pending. -/
  | wrstTakesEffect
  /-- KEEPER_WATCHDOG_EXPIRY (R422): the Keeper watchdog expires and causes a WDR of source 0x01. -/
  | keeperWatchdogExpiry
  /-- AON_WATCHDOG_EXPIRY (R422): the AON watchdog expires and causes a WDR of source 0x02. -/
  | aonWatchdogExpiry
  /-- VERIFY_COMPLETE (R429): verification ends with the container verified or rejected. -/
  | verifyComplete
  /-- HANDOVER_HEARTBEAT_MISSED (R440): a missed trial heartbeat hands the Keeper back and reverts the trial. -/
  | handoverHeartbeatMissed
  /-- TRIAL_TIME_EXPIRY (R435): the trial time passes without a reset and the firmware is confirmed. -/
  | trialTimeExpiry
  deriving DecidableEq, Repr

end Sys2Proof
end

