-- ==== Sys2Proof/Machine/Bits.lean ====
section
/-!
DEFINITION. Bit fields, byte orders and the operations of the sparse map: the helpers that every other file of the machine uses.
-/
namespace Sys2Proof.Machine

/-- Bits [hi:lo] of a number (R3). -/
def bits (v hi lo : Nat) : Nat := (v >>> lo) % 2 ^ (hi + 1 - lo)

/-- Bit n of a number. -/
def bit (v n : Nat) : Bool := v.testBit n

/-- A number with bit n set or cleared. -/
def setBit (v n : Nat) (b : Bool) : Nat :=
  if b then v ||| 2 ^ n else if v.testBit n then v - 2 ^ n else v

/-- 1 for true, 0 for false. -/
def b2n (b : Bool) : Nat := if b then 1 else 0

/-- The number that bytes spell least significant byte first (R3: local memories and register images). -/
def leNat : List Byte → Nat
  | [] => 0
  | b :: t => b.toNat + 256 * leNat t

/-- The number that bytes spell most significant byte first (R3: values on the ring; R315: OD messages). -/
def beNat (l : List Byte) : Nat := l.foldl (fun a b => 256 * a + b.toNat) 0

/-- `n` bytes of a number, least significant byte first. -/
def natLE : Nat → Nat → List Byte
  | 0, _ => []
  | n + 1, v => BitVec.ofNat 8 v :: natLE n (v / 256)

/-- `n` bytes of a number, most significant byte first. -/
def natBE (n v : Nat) : List Byte := (natLE n v).reverse

/-- The `n` bytes from offset `o` of a byte string. -/
def slice (l : List Byte) (o n : Nat) : List Byte := (l.drop o).take n

/-- A little-endian field of a byte string: `n` bytes at offset `o`. -/
def leField (l : List Byte) (o n : Nat) : Nat := leNat (slice l o n)

/-- A big-endian field of a byte string. -/
def beField (l : List Byte) (o n : Nat) : Nat := beNat (slice l o n)

/-- `n` zero bytes. -/
def zeros (n : Nat) : List Byte := List.replicate n 0

/-- A byte string cut or filled with zeros to `n` bytes. -/
def padTo (n : Nat) (l : List Byte) : List Byte := (l ++ zeros (n - l.length)).take n

/-- A two's complement number of `w` bits read as an integer. -/
def toSigned (w v : Nat) : Int := if v % 2 ^ w < 2 ^ (w - 1) then ((v % 2 ^ w : Nat) : Int) else ((v % 2 ^ w : Nat) : Int) - (2 ^ w : Nat)

/-- An integer as a two's complement number of `w` bits. -/
def ofSigned (w : Nat) (i : Int) : Nat := (i % ((2 ^ w : Nat) : Int)).toNat

/-- The quotient rounded up. -/
def ceilDiv (a b : Nat) : Nat := (a + b - 1) / b

/-- Looks up a key of a sparse map. -/
def mfind {α : Type} : NMap α → Nat → Option α
  | [], _ => none
  | (a, v) :: t, k => if k = a then some v else mfind t k

/-- The value at a key of a sparse map, `d` where none is listed. -/
def mget {α : Type} (d : α) (m : NMap α) (k : Nat) : α := (mfind m k).getD d

/-- Removes a key from a sparse map. -/
def merase {α : Type} (m : NMap α) (k : Nat) : NMap α := m.filter (fun e => !(e.1 == k))

/-- Lists a key of a sparse map at its place in the rising order. -/
def minsert {α : Type} : NMap α → Nat → α → NMap α
  | [], k, x => [(k, x)]
  | (a, v) :: t, k, x => if k < a then (k, x) :: (a, v) :: t else if k = a then (k, x) :: t else (a, v) :: minsert t k x

/-- Writes a value at a key, keeping the canonical form: writing what an unlisted key reads as removes the entry. -/
def mset {α : Type} [DecidableEq α] (d : α) (m : NMap α) (k : Nat) (x : α) : NMap α :=
  if x = d then merase m k else minsert m k x

/-- Rewrites the value at a key with a function. -/
def mupd {α : Type} [DecidableEq α] (d : α) (m : NMap α) (k : Nat) (f : α → α) : NMap α := mset d m k (f (mget d m k))

/-- The keys rise strictly. -/
def keysRise {α : Type} : NMap α → Bool
  | [] => true
  | [_] => true
  | (a, _) :: (b, v) :: t => decide (a < b) && keysRise ((b, v) :: t)

/-- The canonical form of a sparse map whose unlisted keys read as `d`. -/
def mwf {α : Type} [DecidableEq α] (d : α) (m : NMap α) : Bool := keysRise m && m.all (fun e => decide (e.2 ≠ d))

/-- The list with entry `k` replaced; unchanged where there is none. -/
def listSet {α : Type} (l : List α) (k : Nat) (x : α) : List α := l.set k x

end Sys2Proof.Machine
end

