-- ==== Sys2Proof/Machine/Crypto.lean ====
section
/-!
DEFINITION. The published algorithms the spec names: SHA-256 (R43, R426), AES-128-CMAC (R148, R332) and ECDSA P-256 signature
verification (R411, R426), from FIPS 180-4, FIPS 197, NIST SP 800-38B and FIPS 186-4.
-/
namespace Sys2Proof.Machine

/-- Rotation to the right in a 32-bit word. -/
def rotr32 (x : BitVec 32) (n : Nat) : BitVec 32 := x.rotateRight n

/-- The primes below 312: the first 64 primes. -/
def shaPrimes : List Nat := (List.range 312).filter (fun p => 2 ≤ p && (List.range p).all (fun d => d < 2 || p % d != 0))

/-- The first 32 bits of the fraction of the `k`-th root of a small number, bit by bit from the top. -/
def rootBits (k p : Nat) : BitVec 32 :=
  BitVec.ofNat 32 ((List.range 35).foldr (fun b r => if (r + 2 ^ b) ^ k ≤ p * 2 ^ (32 * k) then r + 2 ^ b else r) 0)

/-- The round constants (FIPS 180-4): from the cube roots of the first 64 primes. -/
def shaK : List (BitVec 32) := shaPrimes.map (rootBits 3)

/-- The initial hash value (FIPS 180-4): from the square roots of the first eight primes. -/
def shaInit : List (BitVec 32) := (shaPrimes.take 8).map (rootBits 2)

/-- The message schedule: the last 16 words, newest first, extended by `n` words. -/
def shaSchedule : Nat → List (BitVec 32) → List (BitVec 32)
  | 0, ws => ws
  | n + 1, ws =>
    let w15 := ws.getD 14 0
    let w2 := ws.getD 1 0
    let s0 := rotr32 w15 7 ^^^ rotr32 w15 18 ^^^ (w15 >>> 3)
    let s1 := rotr32 w2 17 ^^^ rotr32 w2 19 ^^^ (w2 >>> 10)
    shaSchedule n ((ws.getD 15 0 + s0 + ws.getD 6 0 + s1) :: ws)

/-- One round of the compression function. -/
def shaRound (st : List (BitVec 32)) (kw : BitVec 32 × BitVec 32) : List (BitVec 32) :=
  match st with
  | [a, b, c, d, e, f, g, h] =>
    let s1 := rotr32 e 6 ^^^ rotr32 e 11 ^^^ rotr32 e 25
    let ch := (e &&& f) ^^^ (~~~e &&& g)
    let t1 := h + s1 + ch + kw.1 + kw.2
    let s0 := rotr32 a 2 ^^^ rotr32 a 13 ^^^ rotr32 a 22
    let mj := (a &&& b) ^^^ (a &&& c) ^^^ (b &&& c)
    [t1 + (s0 + mj), a, b, c, d + t1, e, f, g]
  | other => other

/-- One 64-byte block through SHA-256. -/
def shaBlock (hs : List (BitVec 32)) (block : List Byte) : List (BitVec 32) :=
  let ws := (List.range 16).map (fun k => BitVec.ofNat 32 (beField block (4 * k) 4))
  let sched := (shaSchedule 48 ws.reverse).reverse
  List.zipWith (· + ·) hs ((shaK.zip sched).foldl shaRound hs)

/-- All blocks of a padded message; `n` bounds their number. -/
def shaBlocks : Nat → List (BitVec 32) → List Byte → List (BitVec 32)
  | 0, hs, _ => hs
  | n + 1, hs, l => shaBlocks n (shaBlock hs (l.take 64)) (l.drop 64)

/-- SHA-256 of a byte string, 32 bytes. -/
def sha256 (l : List Byte) : List Byte :=
  let padded := l ++ [0x80] ++ zeros ((119 - l.length % 64) % 64) ++ natBE 8 (8 * l.length)
  (shaBlocks (padded.length / 64) shaInit padded).flatMap (fun w => natBE 4 w.toNat)

/-- Doubling in GF(2^8) with the AES polynomial. -/
def gfDouble (a : Nat) : Nat := if a < 128 then 2 * a else (2 * a) % 256 ^^^ 0x1B

/-- Product in GF(2^8). -/
def gfMul (a b : Nat) : Nat :=
  ((List.range 8).foldl (fun (acc : Nat × Nat) k => ((if b.testBit k then acc.1 ^^^ acc.2 else acc.1), gfDouble acc.2)) (0, a)).1

/-- Power in GF(2^8). -/
def gfPow (a : Nat) : Nat → Nat
  | 0 => 1
  | n + 1 => gfMul a (gfPow a n)

/-- The AES S-box: the inverse in GF(2^8), x^254, and the affine map. -/
def aesSbox (x : Byte) : Byte :=
  let i : BitVec 8 := BitVec.ofNat 8 (gfPow x.toNat 254)
  i ^^^ i.rotateLeft 1 ^^^ i.rotateLeft 2 ^^^ i.rotateLeft 3 ^^^ i.rotateLeft 4 ^^^ 0x63

/-- Byte-wise exclusive or. -/
def xorBytes (a b : List Byte) : List Byte := List.zipWith (· ^^^ ·) a b

/-- The next AES-128 round key from the last one and the round constant. -/
def aesNextKey (rk : List Byte) (rcon : Nat) : List Byte :=
  let w (k : Nat) := slice rk (4 * k) 4
  let last := w 3
  let t := xorBytes ((last.drop 1 ++ last.take 1).map aesSbox) [BitVec.ofNat 8 rcon, 0, 0, 0]
  let w0 := xorBytes (w 0) t
  let w1 := xorBytes (w 1) w0
  let w2 := xorBytes (w 2) w1
  w0 ++ w1 ++ w2 ++ xorBytes (w 3) w2

/-- ShiftRows on the column-major state. -/
def aesShiftRows (st : List Byte) : List Byte :=
  (List.range 16).map (fun i => st.getD ((i + 4 * (i % 4)) % 16) 0)

/-- MixColumns on one column. -/
def aesMixColumn (c : List Byte) : List Byte :=
  (List.range 4).map (fun r =>
    BitVec.ofNat 8 (gfMul 2 (c.getD r 0).toNat ^^^ gfMul 3 (c.getD ((r + 1) % 4) 0).toNat ^^^
      (c.getD ((r + 2) % 4) 0).toNat ^^^ (c.getD ((r + 3) % 4) 0).toNat))

/-- MixColumns. -/
def aesMix (st : List Byte) : List Byte := (List.range 4).flatMap (fun k => aesMixColumn (slice st (4 * k) 4))

/-- AES-128 rounds 1 to 9, then the last; `rounds` counts down, `rk` is the current round key, `rcon` its next constant. -/
def aesRounds : Nat → List Byte → Nat → List Byte → List Byte
  | 0, rk, rcon, st => xorBytes (aesShiftRows (st.map aesSbox)) (aesNextKey rk rcon)
  | n + 1, rk, rcon, st =>
    let rk' := aesNextKey rk rcon
    aesRounds n rk' (gfDouble rcon) (xorBytes (aesMix (aesShiftRows (st.map aesSbox))) rk')

/-- AES-128 encryption of one 16-byte block. -/
def aes128 (key block : List Byte) : List Byte := aesRounds 9 key 1 (xorBytes block key)

/-- Doubling of a 128-bit block for the CMAC subkeys. -/
def cmacDouble (b : List Byte) : List Byte :=
  let v := beNat b
  natBE 16 (if v < 2 ^ 127 then 2 * v else (2 * v) % 2 ^ 128 ^^^ 0x87)

/-- The chaining of CMAC over all blocks but the last; `n` bounds their number. -/
def cmacChain (key : List Byte) : Nat → List Byte → List Byte → List Byte
  | 0, x, _ => x
  | n + 1, x, l => cmacChain key n (aes128 key (xorBytes x (l.take 16))) (l.drop 16)

/-- AES-128-CMAC under NIST SP 800-38B, truncated to its 64 most significant bits (R148, R332). -/
def cmac64 (key msg : List Byte) : Nat :=
  let k1 := cmacDouble (aes128 key (zeros 16))
  let n := (msg.length - 1) / 16
  let last := msg.drop (16 * n)
  let m := if last.length = 16 then xorBytes last k1 else xorBytes (padTo 16 (last ++ [0x80])) (cmacDouble k1)
  beNat ((aes128 key (xorBytes (cmacChain key n (zeros 16) msg) m)).take 8)

/-- The prime of P-256. -/
def p256p : Nat := 0xffffffff00000001000000000000000000000000ffffffffffffffffffffffff

/-- The order of the base point of P-256. -/
def p256n : Nat := 0xffffffff00000000ffffffffffffffffbce6faada7179e84f3b9cac2fc632551

/-- The coefficient b of P-256. -/
def p256b : Nat := 0x5ac635d8aa3a93e7b3ebbd55769886bc651d06b0cc53b0f63bce3c3e27d2604b

/-- The base point of P-256. -/
def p256g : Nat × Nat :=
  (0x6b17d1f2e12c4247f8bce6e563a440f277037d812deb33a0f4a13945d898c296,
   0x4fe342e2fe1a7f9b8ee7eb4a7c0f9e162bce33576b315ececbb6406837bf51f5)

/-- Modular power, the exponent's low `k` bits from the top down. -/
def powMod (m b e : Nat) : Nat → Nat
  | 0 => 1 % m
  | k + 1 =>
    let r := powMod m b (e / 2) k
    let r2 := r * r % m
    if e % 2 = 1 then r2 * b % m else r2

/-- The inverse modulo a prime. -/
def invMod (m a : Nat) : Nat := powMod m (a % m) (m - 2) 256

/-- Point addition on P-256; none is the point at infinity. -/
def ecAdd (x y : Option (Nat × Nat)) : Option (Nat × Nat) :=
  match x, y with
  | none, q => q
  | q, none => q
  | some (x1, y1), some (x2, y2) =>
    if x1 = x2 && (y1 + y2) % p256p = 0 then none
    else
      let lam := if x1 = x2 then (3 * x1 * x1 + (p256p - 3)) * invMod p256p (2 * y1) % p256p
                 else (y2 + (p256p - y1)) * invMod p256p (x2 + (p256p - x1)) % p256p
      let x3 := (lam * lam + 2 * p256p - x1 - x2) % p256p
      some (x3, (lam * (x1 + (p256p - x3)) + (p256p - y1)) % p256p)

/-- Scalar multiplication, the scalar's low `k` bits from the top down. -/
def ecMul (e : Nat) (q : Option (Nat × Nat)) : Nat → Option (Nat × Nat)
  | 0 => none
  | k + 1 =>
    let r := ecMul (e / 2) q k
    let d := ecAdd r r
    if e % 2 = 1 then ecAdd d q else d

/-- ECDSA P-256 verification of a 64-byte signature (r then s) over a 32-byte hash under a 64-byte key (X then Y) (R426, R428). -/
def ecdsaVerify (key hash sig : List Byte) : Bool :=
  let x := beField key 0 32
  let y := beField key 32 32
  let r := beField sig 0 32
  let s := beField sig 32 32
  let onCurve := decide (x < p256p) && decide (y < p256p) && decide (y * y % p256p = (x * x * x + (p256p - 3) * x + p256b) % p256p)
  if onCurve && decide (0 < r) && decide (r < p256n) && decide (0 < s) && decide (s < p256n) then
    let w := invMod p256n s
    match ecAdd (ecMul (beNat hash * w % p256n) (some p256g) 256) (ecMul (r * w % p256n) (some (x, y)) 256) with
    | some (px, _) => decide (px % p256n = r)
    | none => false
  else false

end Sys2Proof.Machine
end

