-- ==== Sys2Proof/Machine/Image.lean ====
section
/-!
DEFINITION. The layouts of a schedule image (R43, R51, R108, R119, R495): the moves, train layout entries, program entries, gate
lists, input and record declarations and contract record fields read from the bytes of a table bank.
-/
namespace Sys2Proof.Machine

/-- A byte string cut into entries of `n` bytes, a short rest dropped; `fuel` bounds their number. -/
def entriesAux (n : Nat) : Nat → List Byte → List (List Byte)
  | 0, _ => []
  | fuel + 1, l => if l.length < n then [] else l.take n :: entriesAux n fuel (l.drop n)

/-- A byte string cut into entries of `n` bytes. -/
def entries (n : Nat) (l : List Byte) : List (List Byte) := entriesAux n (l.length / n) l

/-- One move (R51). -/
structure MoveRec where
  beat : Nat
  grp  : Nat
  act  : Nat
  a    : Nat
  b    : Nat
  deriving DecidableEq, Repr

/-- Reads a move from its 16 bytes, little-endian (R51). -/
def parseMove (l : List Byte) : MoveRec :=
  let v := leNat l
  ⟨bits v 127 108, bits v 107 104, bits v 103 96, bits v 95 64, bits v 63 0⟩

/-- The moves of a bank in table order (R51). -/
def bankMoveList (b : Bank) : List MoveRec := (entries 16 b.moves).map parseMove

/-- One entry of the train layout (R108): the kind, the port number and the 120 bits of the kind's fields. -/
structure LayoutRec where
  kind : Nat
  port : Nat
  rsv  : Nat
  v    : Nat
  deriving DecidableEq, Repr

/-- Reads a train layout entry from its 16 bytes (R108). -/
def parseLayout (l : List Byte) : LayoutRec :=
  let v := leNat l
  ⟨bits v 127 124, bits v 123 122, bits v 121 120, bits v 119 0⟩

/-- The number of bytes of the express map (R119, R495). -/
def expressMapLen : Nat := 4096

/-- The train layout entries of a bank; the express map follows them (R495). -/
def bankLayoutList (b : Bank) : List LayoutRec := (entries 16 (b.layout.take (b.layout.length - expressMapLen))).map parseLayout

/-- The express map entry of an event number (R119); zero where no layout is loaded. -/
def bankExpressEntry (b : Bank) (event : Nat) : Nat :=
  if b.layout.length < expressMapLen then 0 else ((b.layout.getD (b.layout.length - expressMapLen + event) 0)).toNat

/-- regions: marker beat m (R108). -/
def LayoutRec.m (e : LayoutRec) : Nat := bits e.v 119 100
/-- regions: marker window w. -/
def LayoutRec.w (e : LayoutRec) : Nat := bits e.v 99 80
/-- regions: train end t. -/
def LayoutRec.t (e : LayoutRec) : Nat := bits e.v 79 60
/-- regions: guard start g. -/
def LayoutRec.g (e : LayoutRec) : Nat := bits e.v 59 40
/-- originate, extract, insert: segment number. -/
def LayoutRec.seg (e : LayoutRec) : Nat := bits e.v 119 108
/-- originate: departure beat. -/
def LayoutRec.depart (e : LayoutRec) : Nat := bits e.v 107 88
/-- originate: payload blocks P. -/
def LayoutRec.p (e : LayoutRec) : Nat := bits e.v 87 78 + 1
/-- originate: end node. -/
def LayoutRec.endNode (e : LayoutRec) : Nat := bits e.v 77 68
/-- originate: expected consumers. -/
def LayoutRec.expected (e : LayoutRec) : Nat := bits e.v 67 60
/-- extract, insert: byte offset in the segment. -/
def LayoutRec.off (e : LayoutRec) : Nat := bits e.v 107 92
/-- extract, insert: length in words. -/
def LayoutRec.words (e : LayoutRec) : Nat := bits e.v 91 80 + 1
/-- extract: input image offset. -/
def LayoutRec.imgOff (e : LayoutRec) : Nat := bits e.v 79 64
/-- extract: arrival beat a. -/
def LayoutRec.arrival (e : LayoutRec) : Nat := bits e.v 63 44

/-- The regions entry of a port in a bank's layout (R108, R109). -/
def bankRegions (b : Bank) (p : Nat) : Option LayoutRec := (bankLayoutList b).find? (fun e => e.kind = 1 && e.port = p)

/-- One pawn program entry (R495). -/
structure ProgramRec where
  pawn    : Nat
  words   : List Nat
  slotMap : List Nat
  divider : Nat
  touts   : List Nat
  swap    : Nat
  raw     : List Byte
  deriving DecidableEq, Repr

/-- Reads a pawn program entry from its 296 bytes (R495). -/
def parseProgram (l : List Byte) : ProgramRec :=
  ⟨leField l 0 2 % 128, (List.range 64).map (fun k => leField l (4 + 4 * k) 4), (List.range 8).map (fun k => leField l (260 + k) 1),
   leField l 268 4, (List.range 4).map (fun k => leField l (272 + 4 * k) 4), leField l 288 2, l⟩

/-- The pawn program entries of a bank (R495). -/
def bankProgramList (b : Bank) : List ProgramRec := (entries 296 b.programs).map parseProgram

/-- One gate list entry (R495): egress port and class mask. -/
structure GateRec where
  port : Nat
  mask : Nat
  rsv  : Nat
  deriving DecidableEq, Repr

/-- The gate list of a bank (R495). -/
def bankGateList (b : Bank) : List GateRec :=
  (entries 4 b.gates).map (fun l => let v := leNat l; ⟨bits v 31 28, bits v 27 20, bits v 19 0⟩)

/-- One input declaration (R26, R495): pin number, setup and hold in picoseconds. -/
structure InputRec where
  pin   : Nat
  rsv   : Nat
  setup : Nat
  hold  : Nat
  deriving DecidableEq, Repr

/-- The input declarations of a bank (R495). -/
def bankInputList (b : Bank) : List InputRec :=
  (entries 12 b.inputs).map (fun l => ⟨leField l 0 2, leField l 2 2, leField l 4 4, leField l 8 4⟩)

/-- The contract record's fields (R43). -/
def bankContractId (b : Bank) : Nat := leField b.contract 0x00C 4
/-- The node number of the contract record (R43). -/
def bankNode (b : Bank) : Nat := leField b.contract 0x006 2 % 1024
/-- The record hash of the contract record (R43). -/
def bankRecordHash (b : Bank) : List Byte := padTo 32 (slice b.contract 0x1E0 32)
/-- The number of record declarations (R43). -/
def bankRecordCount (b : Bank) : Nat := leField b.contract 0x1C0 4
/-- The number of input declarations (R43). -/
def bankInputCount (b : Bank) : Nat := leField b.contract 0x1C4 4

/-- The cycle length a bank carries (R49, R43): that of its contract record; 0 where no move table has been loaded (R76). -/
def bankCycleLen (b : Bank) : Nat := if b.moves = [] then 0 else leField b.contract 0x008 4

/-- One record declaration (R35, R145, R495). -/
structure RecDecl where
  img    : ImageSel
  kind   : Nat
  policy : Nat
  flags  : Nat
  rsv    : Nat
  off    : Nat
  words  : Nat
  safeAt : Nat
  deriving DecidableEq, Repr

/-- Reads a record declaration from its 12 bytes (R495). -/
def parseRecord (l : List Byte) : RecDecl :=
  let k := leField l 0 1
  ⟨if k = 1 then .output else .input, k, leField l 1 1, leField l 2 1, leField l 3 1, leField l 4 2, leField l 6 2 + 1, leField l 8 4⟩

/-- The record declarations of a bank (R495): as many as the contract record counts. -/
def bankRecordList (b : Bank) : List RecDecl := (entries 12 (b.records.take (12 * (bankRecordCount b)))).map parseRecord

/-- The safe value of a record (R35, R495): zero where none is declared. -/
def bankSafeValue (b : Bank) (r : RecDecl) : List Byte :=
  if r.safeAt = 0 then zeros (4 * r.words) else padTo (4 * r.words) (slice b.records r.safeAt (4 * r.words))

/-- A record covers the word at byte offset `a` of its image. -/
def RecDecl.covers (r : RecDecl) (img : ImageSel) (a : Nat) : Bool :=
  decide (r.img = img) && decide (r.off ≤ a) && decide (a < r.off + 4 * r.words)

/-- A record overlaps the `n` bytes at offset `o` of an image. -/
def RecDecl.overlaps (r : RecDecl) (img : ImageSel) (o n : Nat) : Bool :=
  decide (r.img = img) && decide (r.off < o + n) && decide (o < r.off + 4 * r.words)

end Sys2Proof.Machine
end

