-- ==== Sys2Proof/Machine/Crc.lean ====
section
/-!
DEFINITION. The check words of the Cleath ring: the CRC-8 of R90, the header check of R110 and the CRC-32C of R91.
-/
namespace Sys2Proof.Machine

/-- One byte through a most-significant-bit-first CRC of `w` bits with polynomial `poly`. -/
def crcByteMsb (w poly : Nat) (crc : Nat) (b : Nat) : Nat :=
  (List.range 8).foldl
    (fun c k => let top := c.testBit (w - 1) != b.testBit (7 - k)
                let c' := (2 * c) % 2 ^ w
                if top then c' ^^^ poly else c') crc

/-- CRC-8, polynomial x^8 + x^2 + x + 1, initial value 0x00 (R90). -/
def crc8 (l : List Byte) : Nat := l.foldl (fun c b => crcByteMsb 8 0x07 c b.toNat) 0

/-- CRC-16, polynomial 0x1021, initial value 0xFFFF (R110, header check). -/
def crc16 (l : List Byte) : Nat := l.foldl (fun c b => crcByteMsb 16 0x1021 c b.toNat) 0xFFFF

/-- One byte through the reflected CRC-32C register. -/
def crc32cByte (crc : Nat) (b : Byte) : Nat :=
  (List.range 8).foldl (fun c _ => if c.testBit 0 then (c / 2) ^^^ 0x82F63B78 else c / 2) (crc ^^^ b.toNat)

/-- CRC-32C (R91): polynomial 0x1EDC_6F41 reflected, initial value and final XOR 0xFFFF_FFFF. -/
def crc32c (l : List Byte) : Nat := (l.foldl crc32cByte 0xFFFFFFFF) ^^^ 0xFFFFFFFF

/-- How a received CRC-32C stands to the computed one (R91): right, stomped (the bitwise complement), or failed. -/
inductive CheckState where
  | ok | stomped | failed
  deriving DecidableEq, Repr

/-- Judges a received CRC-32C (R91). -/
def judgeCheck (received computed : Nat) : CheckState :=
  if received = computed then .ok
  else if received = computed ^^^ 0xFFFFFFFF then .stomped
  else .failed

/-- The check word a hub sends (R103, R113): regenerated, and stomped unless the received one was right. -/
def forwardCheck (st : CheckState) (computed : Nat) : Nat :=
  match st with
  | .ok => computed
  | _ => computed ^^^ 0xFFFFFFFF

end Sys2Proof.Machine
end

