-- ==== Sys2Proof/Config.lean ====
section
/-!
DEFINITION. What one part or its firmware fixes and the spec leaves open (R342, R453), and the model's free values. Every constant
here is opaque: nothing can evaluate it, so whatever is proved holds for every value of it.
-/
namespace Sys2Proof.Config

/-- The free values: the value the spec leaves open that is taken at the `n`-th such place of a run. -/
opaque freeValue : Nat → BitVec 64

/-- Object 0.000.02, core die ID: "per part" (R342). -/
opaque coreDieId : BitVec 64

/-- Object 0.000.03, port die ID: "per part" (R342). -/
opaque portDieId : BitVec 64

/-- Object 0.000.04, Keeper firmware version: "per firmware" (R342). -/
opaque keeperFirmware : BitVec 32

/-- Object 9.000.01, vendor and device ID: "per part" (R366). -/
opaque bridgeVendorDevice : BitVec 32

/-- Object C.000.00, which of the two fused Noraskine keys are valid: "per part" (R453). -/
opaque noraskineKeysValid : BitVec 2

/-- Object C.000.01, the fused security version floor, "per part" (R453); the model raises it in the state when a trial confirms. -/
opaque securityFloor : BitVec 8

/-- The two fused Noraskine public keys, X then Y, most significant byte first (R428): per part. -/
opaque noraskineKey : Nat → BitVec 512

/-- The place of a node on the main ring, counted along ring A: how the fabric is wired, which the hub knows and the spec gives no register for
(R136). -/
opaque ringPlace : Nat → BitVec 10

/-- The place that closes the main ring: the span after it leads back to place 0 (R135, R136). -/
opaque ringLast : BitVec 10

/-- The sub-ring that a node is a chain node of, 0 for a node of the main ring: how the fabric is wired (R138). -/
opaque subRing : Nat → BitVec 10

/-- The sub-ring that the spur of a root leads to (key 2 * node + spur), 0 for none (R138). -/
opaque rootRing : Nat → BitVec 10

/-- The place of a chain node in its sub-ring, counted from the root, the first at 1 (R138). -/
opaque subPlace : Nat → BitVec 10

/-- The spur of a chain node that leads away from the root (R138). -/
opaque spurOut : Nat → BitVec 1

/-- The transmit path offset e_tx of a ring port in picoseconds (R293): measured in production test, per part. -/
opaque pathTx : Nat → BitVec 16

/-- The receive path offset e_rx of a ring port in picoseconds (R293): measured in production test, per part. -/
opaque pathRx : Nat → BitVec 16

/-- Sync of the PTP export is sent in two steps, not in one (R305). -/
opaque ptpTwoStep : Bool

/-- The bytes by which the staging area exceeds that of a 64 Mbit flash (R430): per board. -/
opaque flashExtra : Nat

/-- The OD version that a firmware image carries (R441): the spec does not say where in the image. -/
opaque firmwareOd : List (BitVec 8) → BitVec 16

/-- The migration of the numbers of a class-N store of an older OD major version (R442): the firmware's migration map. -/
opaque migrateNumbers : List (Nat × Nat) → List (Nat × Nat)

/-- The migration of the byte strings of a class-N store of an older OD major version (R442): the firmware's migration map. -/
opaque migrateBytes : List (Nat × List (BitVec 8)) → List (Nat × List (BitVec 8))

/-- The migration of a configuration set of an older OD major version (R442): the firmware's migration map, which the spec does not give. -/
opaque migrateSet : List (BitVec 8) → List (BitVec 8)

end Sys2Proof.Config
end

