-- ==== Sys2Proof/Machine/ObjTable.lean ====
section
/-!
DEFINITION. The table of the object dictionary: one row for each line of the object tables of the spec's chapters (R46, R82, R128,
R155, R186, R221, R239, R262, R286, R312, R342, R366, R389, R406, R425, R453, R471, R472), with the type (R315), access code (R316),
persistence class (R317), default and range (R318) that the line gives, the feature bit that gates the object (R341) and whether
it is epoch-governed (R169).
-/
namespace Sys2Proof.Machine

/-- The value types of R315. -/
inductive OdType where
  | bool | u8 | u16 | u32 | u64 | i8 | i16 | i32 | i64 | f32 | time96 | str | blob
  deriving DecidableEq, Repr

/-- The access codes of R316. -/
inductive OdAccess where
  | ro | rw | wo | rwc | rwh | cmd
  deriving DecidableEq, Repr

/-- The persistence classes of R317. -/
inductive Persist where
  | v | w | d | n | a
  deriving DecidableEq, Repr

/-- The range column of an object table (R318), as data. `custom` ranges depend on other objects or on the value's own fields and
are judged in `Sys2Proof.Machine.customRange`. -/
inductive OdRange where
  | any
  | between (lo hi : Nat)
  | signed (lo : Int) (hi : Int)
  | f32 (loBits hiBits : Nat)
  | zeroOr (lo hi : Nat)
  | orElse (v lo hi : Nat)
  | oneOf (vs : List Nat)
  | bits (mask : Nat)
  | multiple (m : Nat)
  | blob (lo hi : Nat)
  | custom
  deriving DecidableEq, Repr

/-- One placeholder of an object number (R3): the digit field at `shift`, `width` bits wide, runs over `count` values from `lo`. -/
structure ObjDim where
  shift : Nat
  width : Nat
  lo    : Nat
  count : Nat
  deriving DecidableEq, Repr

/-- One line of an object table: the number pattern (`pat` under `mask`, with the placeholders `dims`) and the columns. -/
structure ObjRow where
  mask    : Nat
  pat     : Nat
  dims    : List ObjDim
  type    : OdType
  access  : OdAccess
  persist : Persist
  dflt    : Nat
  range   : OdRange
  feature : Option Nat
  epoch   : Bool
  deriving DecidableEq, Repr

/-- A digit field lies in the placeholder's span. -/
def ObjDim.holds (d : ObjDim) (n : Nat) : Bool :=
  let v := (n >>> d.shift) % 2 ^ d.width
  decide (d.lo ≤ v) && decide (v < d.lo + d.count)

/-- The row's pattern takes in object number `n`. -/
def ObjRow.covers (r : ObjRow) (n : Nat) : Bool :=
  decide (n &&& r.mask = r.pat) && r.dims.all (fun d => d.holds n)


/-- Objects of area 0: identity, features and the OD service. -/
def objRows0 : List ObjRow :=
  [ ⟨0xFFFFFF, 0x000000, [], .str, .ro, .v, 0, .blob 6 6, none, false⟩  -- 0.000.00 part (R342)
  , ⟨0xFFFFFF, 0x000001, [], .u8, .ro, .v, 1, .any, none, false⟩  -- 0.000.01 silicon step (R342)
  , ⟨0xFFFFFF, 0x000002, [], .u64, .ro, .v, 0, .any, none, false⟩  -- 0.000.02 core die ID (R342)
  , ⟨0xFFFFFF, 0x000003, [], .u64, .ro, .v, 0, .any, none, false⟩  -- 0.000.03 port die ID (R342)
  , ⟨0xFFFFFF, 0x000004, [], .u32, .ro, .v, 0, .any, none, false⟩  -- 0.000.04 Keeper firmware version (R342)
  , ⟨0xFFFFFF, 0x000005, [], .u16, .ro, .v, 0, .any, none, false⟩  -- 0.000.05 node number (R342)
  , ⟨0xFFFFFF, 0x000006, [], .u8, .ro, .v, 0, .any, none, false⟩  -- 0.000.06 roles (R342)
  , ⟨0xFFFFFF, 0x000007, [], .u16, .ro, .v, 256, .any, none, false⟩  -- 0.000.07 OD version (R342)
  , ⟨0xFFFF00, 0x001000, [⟨0, 8, 0, 4⟩], .u32, .ro, .v, 0, .any, none, false⟩  -- 0.010.00–03 offered features (R342)
  , ⟨0xFFFF00, 0x001100, [⟨0, 8, 0, 4⟩], .u32, .rwc, .n, 0, .any, none, false⟩  -- 0.011.00–03 accepted features (R342)
  , ⟨0xFFFFFF, 0x001200, [], .u8, .cmd, .v, 0, .between 1 1, none, false⟩  -- 0.012.00 feature commit (R342)
  , ⟨0xFFFF00, 0x001300, [⟨0, 8, 0, 4⟩], .u32, .ro, .v, 0, .any, none, false⟩  -- 0.013.00–03 active features (R342)
  , ⟨0xFFFFFF, 0x001400, [], .u8, .ro, .v, 0, .any, none, false⟩  -- 0.014.00 commit result (R342)
  , ⟨0xFFFF00, 0x001500, [⟨0, 8, 0, 4⟩], .u32, .ro, .v, 0, .any, none, false⟩  -- 0.015.00–03 features not offered (R342)
  , ⟨0xFFFFFF, 0x002000, [], .u8, .rwc, .n, 0, .any, none, false⟩  -- 0.020.00 authentication policy (R342)
  , ⟨0xFFFFF0, 0x002100, [⟨0, 4, 0, 4⟩], .blob, .wo, .n, 0, .blob 16 16, none, false⟩  -- 0.021.0k OD key k (R342)
  , ⟨0xFFFFF0, 0x002110, [⟨0, 4, 0, 4⟩], .u32, .ro, .a, 0, .any, none, false⟩  -- 0.021.1k counter of key k (R342)
  , ⟨0xFFFFFF, 0x002200, [], .u16, .ro, .v, 0, .any, none, false⟩  -- 0.022.00 class-N stores pending (R342)
  , ⟨0xFFFFFF, 0x003000, [], .u16, .rwc, .n, 46400, .between 1 65535, none, false⟩  -- 0.030.00 OD UDP port (R342)
  , ⟨0xFFFFFF, 0x003001, [], .u32, .rwc, .n, 0, .any, none, false⟩  -- 0.030.01 IPv4 address (R342)
  , ⟨0xFFFFFF, 0x003002, [], .u8, .rwc, .n, 24, .between 0 32, none, false⟩  -- 0.030.02 IPv4 prefix length (R342)
  , ⟨0xFFFFFF, 0x003003, [], .u32, .rwc, .n, 0, .any, none, false⟩  -- 0.030.03 IPv4 gateway (R342)
  , ⟨0xFFFFFF, 0x003004, [], .blob, .rwc, .n, 0, .blob 16 16, none, false⟩  -- 0.030.04 IPv6 address (R342)
  , ⟨0xFFFFFF, 0x003005, [], .blob, .rwc, .n, 0, .blob 6 6, none, false⟩  -- 0.030.05 MAC address (R342)
  , ⟨0xFFFFFF, 0x003006, [], .u32, .ro, .v, 0, .any, none, false⟩  -- 0.030.06 datagrams discarded (R342)
  , ⟨0xFFFFFF, 0x003100, [], .bool, .rwc, .n, 0, .any, some 97, false⟩  -- 0.031.00 MB0 service channel (R342)
  , ⟨0xFFFFFF, 0x003101, [], .u32, .rwc, .n, 528482304, .custom, some 97, false⟩  -- 0.031.01 service request identifier (R342)
  ]

/-- Objects of area 1: modes and resets. -/
def objRows1 : List ObjRow :=
  [ ⟨0xFFFFFF, 0x100000, [], .u8, .ro, .v, 1, .any, none, false⟩  -- 1.000.00 current mode (R342)
  , ⟨0xFFFFFF, 0x100100, [], .u8, .cmd, .v, 0, .custom, none, false⟩  -- 1.001.00 mode request (R342)
  , ⟨0xFFFFFF, 0x100101, [], .u8, .ro, .v, 255, .any, none, false⟩  -- 1.001.01 pending mode request (R425)
  , ⟨0xFFFFFF, 0x100102, [], .u32, .ro, .v, 0, .any, none, false⟩  -- 1.001.02 mode requests dropped (R425)
  , ⟨0xFFFFFF, 0x100200, [], .u8, .cmd, .v, 0, .between 1 1, none, false⟩  -- 1.002.00 warm reset (R425)
  , ⟨0xFFFFF0, 0x101000, [⟨0, 4, 0, 8⟩], .blob, .ro, .a, 0, .blob 16 16, none, false⟩  -- 1.010.0e reset cause entry e (R425)
  , ⟨0xFFFFFF, 0x101008, [], .u8, .ro, .a, 0, .any, none, false⟩  -- 1.010.08 reset cause head (R425)
  , ⟨0xFFFFF0, 0x101100, [⟨0, 4, 1, 8⟩], .u32, .ro, .a, 0, .any, none, false⟩  -- 1.011.0k events of kind k (R425)
  , ⟨0xFFFFFF, 0x102000, [], .u16, .rw, .n, 1000, .between 10 10000, none, false⟩  -- 1.020.00 Keeper watchdog timeout (R425)
  , ⟨0xFFFFFF, 0x102001, [], .u16, .rw, .n, 5000, .between 100 60000, none, false⟩  -- 1.020.01 AON watchdog timeout (R425)
  , ⟨0xFFFFFF, 0x102002, [], .u32, .ro, .a, 0, .any, none, false⟩  -- 1.020.02 watchdog resets (R425)
  , ⟨0xFFFFFF, 0x102003, [], .u8, .ro, .a, 0, .any, none, false⟩  -- 1.020.03 consecutive WDRs (R425)
  , ⟨0xFFFFFF, 0x103000, [], .u8, .ro, .v, 0, .any, none, false⟩  -- 1.030.00 brace state (R425)
  , ⟨0xFFFFFF, 0x103001, [], .u8, .rw, .n, 10, .between 1 100, none, false⟩  -- 1.030.01 brace recovery time (R425)
  , ⟨0xFFFFFF, 0x103002, [], .u32, .ro, .a, 0, .any, none, false⟩  -- 1.030.02 brace entries (R425)
  , ⟨0xFFFFFF, 0x104000, [], .u8, .ro, .v, 1, .any, none, false⟩  -- 1.040.00 bring-up stage (R425)
  , ⟨0xFFFFFF, 0x104001, [], .u8, .ro, .v, 0, .any, none, false⟩  -- 1.040.01 bring-up error (R425)
  , ⟨0xFFFFFF, 0x104002, [], .u64, .ro, .v, 0, .any, none, false⟩  -- 1.040.02 islands failed BIST (R425)
  , ⟨0xFFFFFF, 0x104003, [], .u8, .ro, .v, 0, .any, none, false⟩  -- 1.040.03 configuration store state (R425)
  ]

/-- Objects of area 2: ring. -/
def objRows2a : List ObjRow :=
  [ ⟨0xFF0FFF, 0x200000, [⟨12, 4, 0, 4⟩], .u8, .ro, .v, 0, .any, none, false⟩  -- 2.0p0.00 port state (R128)
  , ⟨0xFF0FFF, 0x200001, [⟨12, 4, 0, 4⟩], .u16, .ro, .v, 0, .any, none, false⟩  -- 2.0p0.01 neighbour node (R128)
  , ⟨0xFF0FFF, 0x200002, [⟨12, 4, 0, 4⟩], .u8, .ro, .v, 0, .any, none, false⟩  -- 2.0p0.02 neighbour port (R128)
  , ⟨0xFF0FFF, 0x200003, [⟨12, 4, 0, 4⟩], .u32, .ro, .w, 0, .any, none, false⟩  -- 2.0p0.03 cable delay (R128)
  , ⟨0xFF0FFF, 0x200004, [⟨12, 4, 0, 4⟩], .u16, .ro, .v, 0, .any, none, false⟩  -- 2.0p0.04 lane skew (R128)
  , ⟨0xFF0FFF, 0x200005, [⟨12, 4, 0, 4⟩], .bool, .rwc, .n, 1, .any, none, false⟩  -- 2.0p0.05 port enable (R128)
  , ⟨0xFF0FFF, 0x200006, [⟨12, 4, 0, 4⟩], .u8, .cmd, .v, 0, .between 1 1, none, false⟩  -- 2.0p0.06 retrain (R128)
  , ⟨0xFF0FFF, 0x200007, [⟨12, 4, 0, 4⟩], .u32, .ro, .w, 0, .any, none, false⟩  -- 2.0p0.07 training attempts (R128)
  , ⟨0xFF0FFF, 0x200100, [⟨12, 4, 0, 4⟩], .u32, .ro, .v, 0, .any, none, false⟩  -- 2.0p1.00 lane 0 errored blocks, window (R128)
  , ⟨0xFF0FFF, 0x200101, [⟨12, 4, 0, 4⟩], .u32, .ro, .v, 0, .any, none, false⟩  -- 2.0p1.01 lane 1 errored blocks, window (R128)
  , ⟨0xFF0FFF, 0x200102, [⟨12, 4, 0, 4⟩], .u32, .ro, .v, 0, .any, none, false⟩  -- 2.0p1.02 block lock losses (R128)
  , ⟨0xFF0FFF, 0x200103, [⟨12, 4, 0, 4⟩], .u64, .ro, .v, 0, .any, none, false⟩  -- 2.0p1.03 segment checks failed (R128)
  , ⟨0xFF0FFF, 0x200104, [⟨12, 4, 0, 4⟩], .u64, .ro, .v, 0, .any, none, false⟩  -- 2.0p1.04 stomped segments received (R128)
  , ⟨0xFF0FFF, 0x200105, [⟨12, 4, 0, 4⟩], .u32, .ro, .v, 0, .any, none, false⟩  -- 2.0p1.05 marker failures (R128)
  , ⟨0xFF0FFF, 0x200106, [⟨12, 4, 0, 4⟩], .u64, .ro, .v, 0, .any, none, false⟩  -- 2.0p1.06 frame check failures (R128)
  , ⟨0xFF0FFF, 0x200107, [⟨12, 4, 0, 4⟩], .u32, .ro, .v, 0, .any, none, false⟩  -- 2.0p1.07 express check failures (R128)
  , ⟨0xFF0FFF, 0x200108, [⟨12, 4, 0, 4⟩], .u64, .ro, .v, 0, .any, none, false⟩  -- 2.0p1.08 express deferred (R128)
  , ⟨0xFF0FFF, 0x200109, [⟨12, 4, 0, 4⟩], .u32, .ro, .v, 0, .any, none, false⟩  -- 2.0p1.09 express dropped (R128)
  , ⟨0xFF0FFF, 0x20010A, [⟨12, 4, 0, 4⟩], .u16, .ro, .v, 0, .any, none, false⟩  -- 2.0p1.0A largest cyclic residence (R128)
  , ⟨0xFF0FFF, 0x20010B, [⟨12, 4, 0, 4⟩], .u64, .ro, .v, 0, .any, none, false⟩  -- 2.0p1.0B lane errored blocks, total (R128)
  , ⟨0xFF0FFF, 0x20010C, [⟨12, 4, 0, 4⟩], .u8, .cmd, .v, 0, .between 1 1, none, false⟩  -- 2.0p1.0C clear counters (R128)
  , ⟨0xFFFFFF, 0x204000, [], .u8, .rw, .n, 253, .between 1 255, none, false⟩  -- 2.040.00 express hops (R128)
  , ⟨0xFFFFFF, 0x204001, [], .u8, .rw, .n, 255, .between 1 255, none, false⟩  -- 2.040.01 frame hops (R128)
  , ⟨0xFFFFFF, 0x207000, [], .u16, .ro, .v, 0, .any, none, false⟩  -- 2.070.00 train layout failing entry (R128)
  , ⟨0xFFFFFF, 0x207001, [], .u32, .ro, .v, 0, .any, none, false⟩  -- 2.070.01 marker closure failures (R128)
  , ⟨0xFFFFFF, 0x207002, [], .u32, .ro, .v, 0, .any, none, false⟩  -- 2.070.02 segments returned to originator (R128)
  , ⟨0xFFFFFF, 0x208000, [], .u8, .ro, .v, 0, .any, none, false⟩  -- 2.080.00 wrap state (R155)
  , ⟨0xFFFFFF, 0x208001, [], .u16, .ro, .v, 0, .any, none, false⟩  -- 2.080.01 last break, detecting node (R155)
  , ⟨0xFFFFFF, 0x208002, [], .u64, .ro, .v, 0, .any, none, false⟩  -- 2.080.02 last break, cycle number (R155)
  , ⟨0xFFFFFF, 0x208003, [], .u32, .ro, .w, 0, .any, none, false⟩  -- 2.080.03 wraps (R155)
  , ⟨0xFFFFFF, 0x208004, [], .u8, .cmd, .v, 0, .between 1 1, none, false⟩  -- 2.080.04 retry unwrap (R155)
  , ⟨0xFFFFFF, 0x208100, [], .u16, .rwc, .n, 0, .between 0 1022, some 2, false⟩  -- 2.081.00 service number (R155)
  , ⟨0xFFFFFF, 0x208101, [], .u16, .rwc, .n, 0, .between 1 1022, some 2, false⟩  -- 2.081.01 partner hub number (R155)
  , ⟨0xFFFFFF, 0x208102, [], .u16, .rwc, .n, 0, .between 1 1022, some 2, false⟩  -- 2.081.02 arbiter node (R155)
  , ⟨0xFFFFFF, 0x208103, [], .u8, .rwc, .n, 2, .between 2 3, some 2, false⟩  -- 2.081.03 pair-link port (R155)
  , ⟨0xFFFFFF, 0x208104, [], .blob, .wo, .n, 0, .blob 16 16, some 2, false⟩  -- 2.081.04 pair key (R155)
  , ⟨0xFFFFFF, 0x208105, [], .u32, .rwc, .n, 0, .custom, some 2, false⟩  -- 2.081.05 heartbeat beat h (R155)
  , ⟨0xFFFFFF, 0x208200, [], .u8, .ro, .v, 0, .any, some 2, false⟩  -- 2.082.00 pair role (R155)
  , ⟨0xFFFFFF, 0x208201, [], .u8, .ro, .v, 0, .any, some 2, false⟩  -- 2.082.01 partner heartbeats missed (R155)
  , ⟨0xFFFFFF, 0x208202, [], .u8, .ro, .v, 0, .any, some 2, false⟩  -- 2.082.02 beacons missed (R155)
  ]
/-- Objects of area 2, continued. -/
def objRows2b : List ObjRow :=
  [ ⟨0xFFFFFF, 0x208203, [], .u32, .ro, .a, 0, .any, some 2, false⟩  -- 2.082.03 last grant sequence (R155)
  , ⟨0xFFFFFF, 0x208204, [], .u32, .ro, .a, 0, .any, some 2, false⟩  -- 2.082.04 castlings (R155)
  , ⟨0xFFFFFF, 0x208205, [], .u8, .cmd, .v, 0, .between 1 1, some 2, false⟩  -- 2.082.05 request castling (R155)
  , ⟨0xFFFFFF, 0x208206, [], .bool, .ro, .v, 0, .any, some 2, false⟩  -- 2.082.06 synchronized (R155)
  , ⟨0xFFFFFF, 0x208300, [], .blob, .rwc, .n, 0, .blob 0 768, some 2, false⟩  -- 2.083.00 mirror object list (R155)
  , ⟨0xFFFFF0, 0x208400, [⟨0, 4, 0, 8⟩], .blob, .rwc, .n, 0, .blob 22 22, none, false⟩  -- 2.084.0s arbiter pair table, entry s (R155)
  , ⟨0xFFFFFF, 0x208410, [], .u16, .cmd, .v, 0, .between 1 1022, none, false⟩  -- 2.084.10 command castling (R155)
  ]

/-- Objects of area 3: switch. -/
def objRows3 : List ObjRow :=
  [ ⟨0xFFFFFF, 0x300000, [], .u16, .ro, .v, 16384, .any, none, false⟩  -- 3.000.00 free cells (R186)
  , ⟨0xFFFFFF, 0x300001, [], .u16, .ro, .v, 16384, .any, none, false⟩  -- 3.000.01 lowest free cells (R186)
  , ⟨0xFFFFFF, 0x300002, [], .u8, .ro, .v, 0, .any, none, false⟩  -- 3.000.02 table epoch (R186)
  , ⟨0xFFFFFF, 0x300003, [], .u64, .ro, .v, 0, .any, none, false⟩  -- 3.000.03 epoch drain counts (R186)
  , ⟨0xFFFFFF, 0x300004, [], .u32, .rw, .n, 10000, .between 100 1000000, none, false⟩  -- 3.000.04 frame age limit (R186)
  , ⟨0xFFFFFF, 0x300005, [], .u32, .rw, .n, 40, .between 0 1000, none, false⟩  -- 3.000.05 path fence time (R186)
  , ⟨0xFFFFFF, 0x300006, [], .u8, .rw, .n, 8, .between 0 16, none, true⟩  -- 3.000.06 ring A share (R186)
  , ⟨0xFFFFFF, 0x300007, [], .u8, .cmd, .v, 0, .between 1 3, none, false⟩  -- 3.000.07 table batch (R186)
  , ⟨0xFFFFFF, 0x300008, [], .u8, .cmd, .v, 0, .between 1 1, none, false⟩  -- 3.000.08 clear switch counters (R186)
  , ⟨0xFFFFFF, 0x300009, [], .u32, .ro, .v, 0, .any, none, false⟩  -- 3.000.09 unfenced route changes (R186)
  , ⟨0xFFFFF0, 0x300100, [⟨0, 4, 0, 4⟩], .u8, .rw, .n, 0, .any, some 7, false⟩  -- 3.001.0i cut-through classes (R186)
  , ⟨0xFF00FF, 0x310000, [⟨8, 8, 0, 72⟩], .u16, .rwc, .n, 64, .custom, none, false⟩  -- 3.1qq.00 reserve (R186)
  , ⟨0xFF00FF, 0x310001, [⟨8, 8, 0, 72⟩], .u16, .rw, .n, 4096, .custom, none, false⟩  -- 3.1qq.01 maximum (R186)
  , ⟨0xFF00FF, 0x310002, [⟨8, 8, 0, 72⟩], .u16, .rw, .n, 256, .between 0 16384, some 3, false⟩  -- 3.1qq.02 CM threshold (R186)
  , ⟨0xFF00FF, 0x310003, [⟨8, 8, 0, 72⟩], .u32, .rw, .n, 0, .zeroOr 64 50000000, some 6, false⟩  -- 3.1qq.03 shaper rate (R186)
  , ⟨0xFF00FF, 0x310004, [⟨8, 8, 0, 72⟩], .u32, .rw, .n, 65536, .custom, some 6, false⟩  -- 3.1qq.04 shaper burst (R186)
  , ⟨0xFF00FF, 0x310005, [⟨8, 8, 0, 72⟩], .i16, .rw, .n, 8, .custom, some 6, false⟩  -- 3.1qq.05 shaper overhead o (R186)
  , ⟨0xFF00FF, 0x310006, [⟨8, 8, 0, 72⟩], .u16, .ro, .v, 0, .any, none, false⟩  -- 3.1qq.06 depth (R186)
  , ⟨0xFF00FF, 0x310007, [⟨8, 8, 0, 72⟩], .u64, .ro, .v, 0, .any, none, false⟩  -- 3.1qq.07 frames sent (R186)
  , ⟨0xFF00FF, 0x310008, [⟨8, 8, 0, 72⟩], .u64, .ro, .v, 0, .any, some 3, false⟩  -- 3.1qq.08 frames marked (R186)
  , ⟨0xFF00FF, 0x310009, [⟨8, 8, 0, 72⟩], .u64, .ro, .v, 0, .any, none, false⟩  -- 3.1qq.09 copies discarded (R186)
  , ⟨0xFF00FF, 0x31000A, [⟨8, 8, 0, 72⟩], .u32, .ro, .v, 0, .any, none, false⟩  -- 3.1qq.0A gate overruns (R186)
  , ⟨0xFFF000, 0x320000, [⟨8, 4, 0, 4⟩, ⟨0, 8, 0, 256⟩], .u8, .rw, .n, 1, .between 0 6, none, true⟩  -- 3.20h.nn node route (R186)
  , ⟨0xFFF000, 0x330000, [⟨8, 4, 0, 16⟩, ⟨0, 8, 0, 256⟩], .u16, .rw, .n, 0, .between 0 511, none, true⟩  -- 3.30h.gg fork group (R186)
  , ⟨0xFFFF00, 0x340000, [⟨0, 8, 0, 72⟩], .u8, .rw, .n, 255, .orElse 0xFF 0 63, some 5, true⟩  -- 3.400.ss policer selection (R186)
  , ⟨0xFFFFF0, 0x340100, [⟨0, 4, 0, 9⟩], .u16, .rw, .n, 0, .any, some 5, true⟩  -- 3.401.0i colour map (R186)
  , ⟨0xFF00FF, 0x350000, [⟨8, 8, 0, 64⟩], .u8, .rw, .n, 0, .between 0 2, some 5, false⟩  -- 3.5pp.00 policer mode (R186)
  , ⟨0xFF00FF, 0x350001, [⟨8, 8, 0, 64⟩], .u32, .rw, .n, 64, .custom, some 5, false⟩  -- 3.5pp.01 CIR (R186)
  , ⟨0xFF00FF, 0x350002, [⟨8, 8, 0, 64⟩], .u32, .rw, .n, 65536, .custom, some 5, false⟩  -- 3.5pp.02 CBS (R186)
  , ⟨0xFF00FF, 0x350003, [⟨8, 8, 0, 64⟩], .u32, .rw, .n, 64, .custom, some 5, false⟩  -- 3.5pp.03 PIR (R186)
  , ⟨0xFF00FF, 0x350004, [⟨8, 8, 0, 64⟩], .u32, .rw, .n, 65536, .custom, some 5, false⟩  -- 3.5pp.04 PBS (R186)
  , ⟨0xFF00FF, 0x350005, [⟨8, 8, 0, 64⟩], .i16, .rw, .n, 8, .custom, some 5, false⟩  -- 3.5pp.05 policer overhead o (R186)
  , ⟨0xFF00FF, 0x350006, [⟨8, 8, 0, 64⟩], .u8, .rw, .n, 0, .between 0 3, some 5, false⟩  -- 3.5pp.06 yellow action (R186)
  , ⟨0xFF00FF, 0x350007, [⟨8, 8, 0, 64⟩], .u8, .rw, .n, 0, .between 0 7, some 5, false⟩  -- 3.5pp.07 yellow class (R186)
  , ⟨0xFF00FF, 0x350008, [⟨8, 8, 0, 64⟩], .u64, .ro, .v, 0, .any, some 5, false⟩  -- 3.5pp.08 green frames (R186)
  , ⟨0xFF00FF, 0x350009, [⟨8, 8, 0, 64⟩], .u64, .ro, .v, 0, .any, some 5, false⟩  -- 3.5pp.09 yellow frames (R186)
  , ⟨0xFF00FF, 0x35000A, [⟨8, 8, 0, 64⟩], .u64, .ro, .v, 0, .any, some 5, false⟩  -- 3.5pp.0A red frames (R186)
  , ⟨0xFFFFFF, 0x360000, [], .u64, .ro, .v, 0, .any, none, false⟩  -- 3.600.00 short segments (R186)
  , ⟨0xFFFFFF, 0x360001, [], .u16, .ro, .v, 0, .any, none, false⟩  -- 3.600.01 last short segment (R186)
  , ⟨0xFFFFFF, 0x360002, [], .u64, .ro, .v, 0, .any, none, false⟩  -- 3.600.02 last short cycle (R186)
  ]

/-- Objects of area 4: sequencer and contract. -/
def objRows4 : List ObjRow :=
  [ ⟨0xFFFFFF, 0x400000, [], .u8, .ro, .v, 255, .any, none, false⟩  -- 4.000.00 active bank (R82)
  , ⟨0xFFFFFF, 0x400001, [], .u8, .ro, .v, 0, .any, none, false⟩  -- 4.000.01 staged bank state (R82)
  , ⟨0xFFFFFF, 0x400002, [], .u32, .ro, .v, 0, .any, none, false⟩  -- 4.000.02 active cycle length (R82)
  , ⟨0xFFFFFF, 0x400003, [], .blob, .ro, .v, 0, .blob 32 32, none, false⟩  -- 4.000.03 contract record hash (R82)
  , ⟨0xFFFFFF, 0x400004, [], .u32, .ro, .v, 0, .any, none, false⟩  -- 4.000.04 staged cycle length (R82)
  , ⟨0xFFFFFF, 0x400005, [], .u32, .ro, .v, 0, .any, none, false⟩  -- 4.000.05 active contract id (R82)
  , ⟨0xFFFFFF, 0x400100, [], .u8, .cmd, .v, 0, .between 1 1, none, false⟩  -- 4.001.00 begin staging (R82)
  , ⟨0xFFFFFF, 0x400101, [], .u8, .cmd, .v, 0, .between 1 1, none, false⟩  -- 4.001.01 start load check (R82)
  , ⟨0xFFFFFF, 0x400102, [], .u64, .cmd, .v, 0, .custom, none, false⟩  -- 4.001.02 switch at cycle (R82)
  , ⟨0xFFFFFF, 0x400103, [], .u8, .cmd, .v, 0, .between 1 1, none, false⟩  -- 4.001.03 withdraw switch (R82)
  , ⟨0xFFFFFF, 0x400200, [], .u8, .ro, .v, 0, .any, none, false⟩  -- 4.002.00 load-check error (R82)
  , ⟨0xFFFFFF, 0x400201, [], .u16, .ro, .v, 0, .any, none, false⟩  -- 4.002.01 failing move index (R82)
  , ⟨0xFFFFFF, 0x401000, [], .u64, .ro, .v, 0, .any, none, false⟩  -- 4.010.00 cycle number (R82)
  , ⟨0xFFFFFF, 0x401001, [], .u32, .ro, .v, 0, .any, none, false⟩  -- 4.010.01 current beat (R82)
  , ⟨0xFFFFFF, 0x401002, [], .u64, .ro, .v, 0, .any, none, false⟩  -- 4.010.02 moves executed in hold (R82)
  , ⟨0xFFFFFF, 0x401003, [], .u32, .ro, .v, 0, .any, none, false⟩  -- 4.010.03 bank switches (R82)
  , ⟨0xFFFFFF, 0x401004, [], .u32, .ro, .v, 0, .any, none, false⟩  -- 4.010.04 switch requests refused (R82)
  , ⟨0xFFFFFF, 0x401005, [], .u32, .ro, .v, 0, .any, none, false⟩  -- 4.010.05 SEAL moves refused (R82)
  , ⟨0xFFFFFF, 0x408000, [], .u8, .ro, .v, 0, .any, none, false⟩  -- 4.080.00 contract state (R46)
  , ⟨0xFFFFFF, 0x408001, [], .u32, .ro, .v, 0, .any, none, false⟩  -- 4.080.01 condition failures (R46)
  , ⟨0xFFFFFF, 0x408002, [], .u64, .ro, .v, 0, .any, none, false⟩  -- 4.080.02 islands out of envelope (R46)
  , ⟨0xFFFFFF, 0x408003, [], .u8, .cmd, .v, 0, .between 1 1, none, false⟩  -- 4.080.03 clear latched failures (R46)
  , ⟨0xFFFFFF, 0x408005, [], .u8, .ro, .v, 0, .any, none, false⟩  -- 4.080.05 contract record minor version supported (R46)
  , ⟨0xFFFFFF, 0x408006, [], .f32, .ro, .v, 0, .any, none, false⟩  -- 4.080.06 core die gradient (R46)
  , ⟨0xFFFFFF, 0x408007, [], .f32, .ro, .v, 0, .any, none, false⟩  -- 4.080.07 port die gradient (R46)
  , ⟨0xFFFFFF, 0x408010, [], .u64, .ro, .v, 0, .any, none, false⟩  -- 4.080.10 held count (R46)
  , ⟨0xFFFFFF, 0x408011, [], .u64, .ro, .v, 0, .any, none, false⟩  -- 4.080.11 late count (R46)
  , ⟨0xFFFFFF, 0x408012, [], .u64, .ro, .v, 0, .any, none, false⟩  -- 4.080.12 missing count (R46)
  , ⟨0xFFFFFF, 0x408013, [], .u64, .ro, .v, 0, .any, none, false⟩  -- 4.080.13 input setup violations (R46)
  ]

/-- Objects of area 5: pawns. -/
def objRows5 : List ObjRow :=
  [ ⟨0xFF0000, 0x500000, [⟨8, 8, 0, 128⟩, ⟨0, 8, 10, 4⟩], .u32, .rw, .v, 65535, .custom, none, false⟩  -- 5.0pp.0A–0D timeout TO0–TO3 (R221)
  , ⟨0xFF00FF, 0x500000, [⟨8, 8, 0, 128⟩], .u32, .ro, .v, 0, .any, none, false⟩  -- 5.0pp.00 status (R221)
  , ⟨0xFF00FF, 0x500001, [⟨8, 8, 0, 128⟩], .u32, .ro, .v, 0, .any, none, false⟩  -- 5.0pp.01 SH (R221)
  , ⟨0xFF00FF, 0x500002, [⟨8, 8, 0, 128⟩], .u16, .ro, .v, 0, .any, none, false⟩  -- 5.0pp.02 CA (R221)
  , ⟨0xFF00FF, 0x500003, [⟨8, 8, 0, 128⟩], .u16, .ro, .v, 0, .any, none, false⟩  -- 5.0pp.03 CB (R221)
  , ⟨0xFF00FF, 0x500004, [⟨8, 8, 0, 128⟩], .u32, .ro, .v, 0, .any, none, false⟩  -- 5.0pp.04 CMP (R221)
  , ⟨0xFF00FF, 0x500008, [⟨8, 8, 0, 128⟩], .blob, .rw, .v, 0, .blob 8 8, none, false⟩  -- 5.0pp.08 slot map (R221)
  , ⟨0xFF00FF, 0x500009, [⟨8, 8, 0, 128⟩], .u32, .rw, .v, 256, .custom, none, false⟩  -- 5.0pp.09 divider (R221)
  , ⟨0xFF00FF, 0x50000F, [⟨8, 8, 0, 128⟩], .bool, .rw, .v, 0, .any, none, false⟩  -- 5.0pp.0F notice enable (R221)
  , ⟨0xFF00FF, 0x500010, [⟨8, 8, 0, 128⟩], .u16, .ro, .v, 0, .any, none, false⟩  -- 5.0pp.10 packet count (R221)
  , ⟨0xFF00FF, 0x500011, [⟨8, 8, 0, 128⟩], .u32, .ro, .v, 0, .any, none, false⟩  -- 5.0pp.11 timeouts (R221)
  , ⟨0xFF00FF, 0x500012, [⟨8, 8, 0, 128⟩], .u32, .ro, .v, 0, .any, none, false⟩  -- 5.0pp.12 fabric writes refused (R221)
  , ⟨0xFF00FF, 0x500020, [⟨8, 8, 0, 128⟩], .u64, .cmd, .v, 0, .any, none, false⟩  -- 5.0pp.20 arm swap (R239)
  , ⟨0xFF00FF, 0x500021, [⟨8, 8, 0, 128⟩], .u16, .rw, .v, 0, .custom, none, false⟩  -- 5.0pp.21 swap entry and mode (R239)
  , ⟨0xFF00FF, 0x500022, [⟨8, 8, 0, 128⟩], .u8, .cmd, .v, 0, .between 1 1, none, false⟩  -- 5.0pp.22 withdraw swap (R239)
  , ⟨0xFF00FF, 0x500023, [⟨8, 8, 0, 128⟩], .u8, .ro, .v, 0, .any, none, false⟩  -- 5.0pp.23 swap state (R239)
  , ⟨0xFF00FF, 0x500024, [⟨8, 8, 0, 128⟩], .u32, .ro, .v, 0, .any, none, false⟩  -- 5.0pp.24 swaps (R239)
  , ⟨0xFF00FF, 0x500025, [⟨8, 8, 0, 128⟩], .u32, .cmd, .v, 0, .any, some 66, false⟩  -- 5.0pp.25 inject (R239)
  , ⟨0xFF00FF, 0x500026, [⟨8, 8, 0, 128⟩], .u8, .ro, .v, 0, .any, none, false⟩  -- 5.0pp.26 injection status (R239)
  , ⟨0xFF00FF, 0x500027, [⟨8, 8, 0, 128⟩], .u16, .ro, .v, 0, .any, none, false⟩  -- 5.0pp.27 group mask (R239)
  , ⟨0xFF00FF, 0x500028, [⟨8, 8, 0, 128⟩], .u32, .ro, .v, 0, .any, none, false⟩  -- 5.0pp.28 pawn-word failures (R239)
  , ⟨0xFF00FF, 0x500029, [⟨8, 8, 0, 128⟩], .u32, .ro, .v, 0, .any, none, false⟩  -- 5.0pp.29 GO ignored (R239)
  , ⟨0xFF0FFF, 0x510000, [⟨12, 4, 0, 8⟩], .u8, .rwc, .n, 16, .between 8 16, none, false⟩  -- 5.1c0.00 cluster clock n (R221)
  , ⟨0xFF0FFF, 0x510002, [⟨12, 4, 0, 8⟩], .u32, .cmd, .v, 0, .custom, none, false⟩  -- 5.1c0.02 manual GO (R239)
  , ⟨0xFF0FF0, 0x510010, [⟨12, 4, 0, 8⟩, ⟨0, 4, 0, 8⟩], .blob, .ro, .v, 0, .blob 16 16, none, false⟩  -- 5.1c0.1l sequencer event line l (R221)
  ]

/-- Objects of area 6: pins and reflex. -/
def objRows6 : List ObjRow :=
  [ ⟨0xFF0F00, 0x600000, [⟨12, 4, 0, 16⟩, ⟨0, 8, 0, 16⟩], .u32, .rwh, .n, 0, .custom, none, false⟩  -- 6.0b0.pp pin configuration (R262)
  , ⟨0xFF0FFF, 0x600100, [⟨12, 4, 0, 16⟩], .u8, .ro, .v, 0, .any, none, false⟩  -- 6.0b1.00 bank status (R262)
  , ⟨0xFF0FFF, 0x600101, [⟨12, 4, 0, 16⟩], .u16, .rwc, .n, 3300, .between 1650 5500, none, false⟩  -- 6.0b1.01 declared bank voltage (R262)
  , ⟨0xFF0FFF, 0x600102, [⟨12, 4, 0, 16⟩], .u8, .cmd, .v, 0, .between 1 1, none, false⟩  -- 6.0b1.02 re-enable bank (R262)
  , ⟨0xFF0FFF, 0x600103, [⟨12, 4, 0, 16⟩], .u16, .rwc, .a, 0, .any, none, false⟩  -- 6.0b1.03 hold latches (R262)
  , ⟨0xFF0FFF, 0x600104, [⟨12, 4, 0, 16⟩], .u16, .ro, .v, 0, .any, none, false⟩  -- 6.0b1.04 measured bank voltage (R262)
  , ⟨0xFF0F00, 0x600200, [⟨12, 4, 0, 16⟩, ⟨0, 8, 0, 16⟩], .u64, .ro, .v, 0, .any, none, false⟩  -- 6.0b2.pp last edge (R262)
  , ⟨0xFFFFFF, 0x610000, [], .u64, .rw, .n, 18446744073709551615, .any, none, false⟩  -- 6.100.00 line enable (R262)
  , ⟨0xFFFFFF, 0x610001, [], .blob, .ro, .v, 0, .blob 32 32, none, false⟩  -- 6.100.01 forced pins (R262)
  , ⟨0xFFFFFF, 0x610002, [], .blob, .ro, .v, 0, .blob 32 32, none, false⟩  -- 6.100.02 frozen pins (R262)
  , ⟨0xFFFFFF, 0x610003, [], .u8, .cmd, .v, 0, .between 1 1, none, false⟩  -- 6.100.03 release all (R262)
  , ⟨0xFFFF00, 0x610100, [⟨0, 8, 0, 64⟩], .u32, .ro, .v, 0, .any, none, false⟩  -- 6.101.ll line raises (R262)
  , ⟨0xFFFFFF, 0x610200, [], .u64, .ro, .v, 0, .any, none, false⟩  -- 6.102.00 owner writes masked (R262)
  , ⟨0xFFFFFF, 0x610201, [], .u32, .ro, .v, 0, .any, none, false⟩  -- 6.102.01 force conflicts (R262)
  , ⟨0xFFFFFF, 0x610202, [], .u32, .ro, .v, 0, .any, none, false⟩  -- 6.102.02 wakes ignored (R262)
  , ⟨0xFFFFFF, 0x610203, [], .u64, .ro, .v, 0, .any, none, false⟩  -- 6.102.03 express events emitted (R262)
  , ⟨0xFFFFFF, 0x610204, [], .u64, .ro, .v, 0, .any, none, false⟩  -- 6.102.04 express events mapped (R262)
  ]

/-- Objects of area 7: message buses. -/
def objRows7 : List ObjRow :=
  [ ⟨0xFF0FFF, 0x700000, [⟨12, 4, 0, 8⟩], .u8, .rwh, .n, 0, .between 0 4, none, false⟩  -- 7.0n0.00 controller mode (R286)
  , ⟨0xFF0FFF, 0x700001, [⟨12, 4, 0, 8⟩], .u32, .rwc, .n, 2118024192, .custom, none, false⟩  -- 7.0n0.01 nominal bit timing (R286)
  , ⟨0xFF0FFF, 0x700002, [⟨12, 4, 0, 8⟩], .u32, .rwc, .n, 503777024, .custom, none, false⟩  -- 7.0n0.02 data bit timing (R286)
  , ⟨0xFF0FFF, 0x700003, [⟨12, 4, 0, 8⟩], .u16, .rwc, .n, 0, .custom, none, false⟩  -- 7.0n0.03 delay compensation (R286)
  , ⟨0xFF0FFF, 0x700004, [⟨12, 4, 0, 8⟩], .u8, .rwc, .n, 1, .custom, none, false⟩  -- 7.0n0.04 protocol options (R286)
  , ⟨0xFF0FFF, 0x700005, [⟨12, 4, 0, 8⟩], .u16, .rw, .n, 128, .between 1 65535, some 65, false⟩  -- 7.0n0.05 lonely-bus threshold (R286)
  , ⟨0xFF0FFF, 0x700006, [⟨12, 4, 0, 8⟩], .u8, .cmd, .v, 0, .between 1 2, none, false⟩  -- 7.0n0.06 bus-off recovery (R286)
  , ⟨0xFF0FFF, 0x700007, [⟨12, 4, 0, 8⟩], .u8, .rw, .n, 1, .between 0 3, none, false⟩  -- 7.0n0.07 notice enable (R286)
  , ⟨0xFF0FFF, 0x700100, [⟨12, 4, 0, 8⟩], .u32, .ro, .v, 0, .any, none, false⟩  -- 7.0n1.00 controller status (R286)
  , ⟨0xFF0FFF, 0x700101, [⟨12, 4, 0, 8⟩], .u16, .ro, .v, 0, .any, some 65, false⟩  -- 7.0n1.01 consecutive ACK errors (R286)
  , ⟨0xFF0FFF, 0x700102, [⟨12, 4, 0, 8⟩], .u32, .ro, .w, 0, .any, none, false⟩  -- 7.0n1.02 bus-off events (R286)
  , ⟨0xFF0FFF, 0x700103, [⟨12, 4, 0, 8⟩], .u64, .ro, .v, 0, .any, none, false⟩  -- 7.0n1.03 frames sent (R286)
  , ⟨0xFF0FFF, 0x700104, [⟨12, 4, 0, 8⟩], .u64, .ro, .v, 0, .any, none, false⟩  -- 7.0n1.04 frames stored (R286)
  , ⟨0xFF0FFF, 0x700105, [⟨12, 4, 0, 8⟩], .u64, .ro, .v, 0, .any, none, false⟩  -- 7.0n1.05 frames not accepted (R286)
  , ⟨0xFF0FFF, 0x700106, [⟨12, 4, 0, 8⟩], .u32, .ro, .v, 0, .any, none, false⟩  -- 7.0n1.06 receive overruns (R286)
  , ⟨0xFF0FFF, 0x700107, [⟨12, 4, 0, 8⟩], .u64, .ro, .v, 0, .any, none, false⟩  -- 7.0n1.07 arbitration losses (R286)
  , ⟨0xFF0FFF, 0x700108, [⟨12, 4, 0, 8⟩], .u16, .ro, .v, 0, .any, none, false⟩  -- 7.0n1.08 transmitter delay (R286)
  , ⟨0xFF0FFF, 0x700109, [⟨12, 4, 0, 8⟩], .u8, .cmd, .v, 0, .between 1 1, none, false⟩  -- 7.0n1.09 clear counters (R286)
  , ⟨0xFF0FFF, 0x710000, [⟨12, 4, 0, 2⟩], .u8, .rw, .a, 2, .between 0 3, none, false⟩  -- 7.1t0.00 transceiver state (R286)
  , ⟨0xFF0FFF, 0x710001, [⟨12, 4, 0, 2⟩], .u16, .rw, .n, 8, .between 4 512, none, false⟩  -- 7.1t0.01 wake filter (R286)
  , ⟨0xFF0FFF, 0x710002, [⟨12, 4, 0, 2⟩], .bool, .rw, .n, 1, .any, none, false⟩  -- 7.1t0.02 wake enable (R286)
  , ⟨0xFF0FFF, 0x710003, [⟨12, 4, 0, 2⟩], .bool, .ro, .a, 0, .any, none, false⟩  -- 7.1t0.03 wake flag (R286)
  , ⟨0xFF0FFF, 0x710004, [⟨12, 4, 0, 2⟩], .u8, .cmd, .v, 0, .between 1 1, none, false⟩  -- 7.1t0.04 clear wake flag (R286)
  , ⟨0xFF0FFF, 0x710005, [⟨12, 4, 0, 2⟩], .u8, .ro, .v, 0, .any, none, false⟩  -- 7.1t0.05 transceiver faults (R286)
  , ⟨0xFFFFFF, 0x712000, [], .u8, .ro, .v, 1, .any, none, false⟩  -- 7.120.00 INH level (R286)
  ]

/-- Objects of area 8: time and seal. -/
def objRows8a : List ObjRow :=
  [ ⟨0xFFFFFF, 0x800000, [], .time96, .ro, .v, 0, .any, none, false⟩  -- 8.000.00 fabric time (R312)
  , ⟨0xFFFFFF, 0x800001, [], .time96, .cmd, .v, 0, .custom, none, false⟩  -- 8.000.01 set fabric time (R312)
  , ⟨0xFFFFFF, 0x800002, [], .i16, .rw, .n, 37, .any, none, false⟩  -- 8.000.02 UTC offset (R312)
  , ⟨0xFFFF00, 0x800100, [⟨0, 8, 0, 4⟩], .u16, .rwc, .n, 0, .between 0 1022, none, false⟩  -- 8.001.00–03 master candidate, rank 0 to 3 (R312)
  , ⟨0xFFFFFF, 0x800104, [], .bool, .rw, .n, 1, .any, none, false⟩  -- 8.001.04 candidate return (R312)
  , ⟨0xFFFFFF, 0x801000, [], .u8, .ro, .v, 0, .any, none, false⟩  -- 8.010.00 servo state (R312)
  , ⟨0xFFFFFF, 0x801001, [], .i64, .ro, .v, 0, .any, none, false⟩  -- 8.010.01 last offset (R312)
  , ⟨0xFFFFFF, 0x801002, [], .i32, .ro, .v, 0, .any, none, false⟩  -- 8.010.02 rate adjustment (R312)
  , ⟨0xFFFFFF, 0x801003, [], .u8, .ro, .v, 255, .any, none, false⟩  -- 8.010.03 time port (R312)
  , ⟨0xFFFFFF, 0x801004, [], .u16, .ro, .v, 0, .any, none, false⟩  -- 8.010.04 current master (R312)
  , ⟨0xFFFFFF, 0x801005, [], .f32, .ro, .v, 0, .any, none, false⟩  -- 8.010.05 alignment bound A (R312)
  , ⟨0xFFFFFF, 0x801006, [], .f32, .ro, .v, 0, .any, none, false⟩  -- 8.010.06 holdover error (R312)
  , ⟨0xFFFFFF, 0x801007, [], .u8, .ro, .v, 0, .any, none, false⟩  -- 8.010.07 consecutive cycles without marker (R312)
  , ⟨0xFFFFFF, 0x801008, [], .u32, .ro, .w, 0, .any, none, false⟩  -- 8.010.08 steps applied (R312)
  , ⟨0xFFFFFF, 0x801009, [], .u32, .ro, .w, 0, .any, none, false⟩  -- 8.010.09 steps refused (R312)
  , ⟨0xFFFFFF, 0x80100A, [], .u8, .cmd, .v, 0, .between 1 1, none, false⟩  -- 8.010.0A accept next jump (R312)
  , ⟨0xFFFFFF, 0x80100B, [], .u32, .ro, .v, 0, .any, none, false⟩  -- 8.010.0B foreign markers ended (R312)
  , ⟨0xFFFFFF, 0x801100, [], .u8, .rw, .n, 3, .between 0 3, none, false⟩  -- 8.011.00 loss policy (R312)
  , ⟨0xFFFFFF, 0x801101, [], .u32, .rw, .n, 1000, .between 10 1000000, none, false⟩  -- 8.011.01 jump threshold J (R312)
  , ⟨0xFFFFFF, 0x801102, [], .u16, .rw, .n, 10, .between 1 10000, none, false⟩  -- 8.011.02 rate uncertainty u (R312)
  , ⟨0xFFFFFF, 0x801103, [], .u8, .rw, .n, 3, .between 2 16, none, false⟩  -- 8.011.03 master-loss count L (R312)
  , ⟨0xFFFFFF, 0x802000, [], .u8, .cmd, .v, 0, .between 1 4, some 32, false⟩  -- 8.020.00 seal command (R312)
  , ⟨0xFFFFFF, 0x802001, [], .time96, .rw, .v, 0, .custom, none, false⟩  -- 8.020.01 seal time (R312)
  , ⟨0xFFFFFF, 0x802002, [], .u8, .rw, .v, 0, .between 0 3, none, false⟩  -- 8.020.02 seal slot (R312)
  , ⟨0xFFFFFF, 0x802003, [], .u16, .rw, .n, 0, .between 0 4095, none, false⟩  -- 8.020.03 seal fork group (R312)
  , ⟨0xFFFFFF, 0x802004, [], .u16, .rw, .v, 0, .any, none, false⟩  -- 8.020.04 seal id (R312)
  , ⟨0xFFFFFF, 0x802005, [], .u8, .ro, .v, 0, .any, none, false⟩  -- 8.020.05 pending seals (R312)
  , ⟨0xFFFFFF, 0x802006, [], .u32, .ro, .v, 0, .any, none, false⟩  -- 8.020.06 seals taken (R312)
  , ⟨0xFFFFFF, 0x802007, [], .u32, .ro, .v, 0, .any, none, false⟩  -- 8.020.07 seals refused (R312)
  , ⟨0xFFFFFF, 0x802008, [], .u8, .rw, .n, 0, .bits 0x83, some 32, false⟩  -- 8.020.08 SEAL_IN control (R312)
  , ⟨0xFFFFFF, 0x802009, [], .u8, .rw, .n, 2, .between 2 16, none, false⟩  -- 8.020.09 SEAL_IN lead n (R312)
  , ⟨0xFFFFFF, 0x80200A, [], .u64, .ro, .v, 0, .any, none, false⟩  -- 8.020.0A last SEAL_IN edge (R312)
  , ⟨0xFFF0FF, 0x803000, [⟨8, 4, 0, 4⟩], .u32, .ro, .w, 0, .any, none, false⟩  -- 8.03p.00 calibrated span delay (R312)
  , ⟨0xFFF0FF, 0x803001, [⟨8, 4, 0, 4⟩], .i32, .rwc, .n, 0, .signed (-100000) 100000, none, false⟩  -- 8.03p.01 fibre asymmetry (R312)
  , ⟨0xFFF0FF, 0x803002, [⟨8, 4, 0, 4⟩], .i32, .ro, .w, 0, .any, none, false⟩  -- 8.03p.02 closure correction ε (R312)
  , ⟨0xFFF0FF, 0x803003, [⟨8, 4, 0, 4⟩], .i32, .ro, .w, 0, .any, none, false⟩  -- 8.03p.03 direction term δ (R312)
  , ⟨0xFFF0FF, 0x803004, [⟨8, 4, 0, 4⟩], .u16, .rwc, .n, 0, .between 0 253, none, false⟩  -- 8.03p.04 spans to master h_p (R312)
  , ⟨0xFFFFFF, 0x804000, [], .bool, .rwc, .n, 0, .any, some 35, false⟩  -- 8.040.00 PTP export enable (R312)
  , ⟨0xFFFFFF, 0x804001, [], .u8, .rwc, .n, 0, .between 0 1, some 35, false⟩  -- 8.040.01 PTP profile (R312)
  , ⟨0xFFFFFF, 0x804002, [], .u8, .rwc, .n, 0, .between 0 127, some 35, false⟩  -- 8.040.02 PTP domain (R312)
  ]
/-- Objects of area 8, continued. -/
def objRows8b : List ObjRow :=
  [ ⟨0xFFFFFF, 0x804003, [], .u8, .rwc, .n, 128, .any, some 35, false⟩  -- 8.040.03 PTP priority1 (R312)
  , ⟨0xFFFFFF, 0x804004, [], .u8, .rwc, .n, 0, .between 0 2, some 35, false⟩  -- 8.040.04 PTP transport (R312)
  , ⟨0xFFFFFF, 0x804005, [], .u32, .rwc, .n, 0, .any, some 35, false⟩  -- 8.040.05 PHY delays (R312)
  ]

/-- Objects of area 9: host bridge. -/
def objRows9 : List ObjRow :=
  [ ⟨0xFFFFFF, 0x900000, [], .u8, .ro, .v, 0, .any, none, false⟩  -- 9.000.00 link state (R366)
  , ⟨0xFFFFFF, 0x900001, [], .u32, .ro, .v, 0, .any, none, false⟩  -- 9.000.01 vendor and device ID (R366)
  , ⟨0xFFFFFF, 0x900100, [], .u8, .rwc, .n, 28, .between 20 38, none, false⟩  -- 9.001.00 aperture P size e (R366)
  , ⟨0xFFFFFF, 0x900101, [], .u8, .rwc, .n, 24, .between 20 38, none, false⟩  -- 9.001.01 aperture N size e (R366)
  , ⟨0xFFF0FF, 0x901000, [⟨8, 4, 0, 6⟩], .bool, .rwc, .n, 0, .any, none, false⟩  -- 9.01k.00 window enable (R366)
  , ⟨0xFFF0FF, 0x901001, [⟨8, 4, 0, 6⟩], .u8, .rwc, .n, 0, .between 0 1, none, false⟩  -- 9.01k.01 window claim (R366)
  , ⟨0xFFF0FF, 0x901002, [⟨8, 4, 0, 6⟩], .u8, .rwc, .n, 20, .between 12 38, none, false⟩  -- 9.01k.02 window size s (R366)
  , ⟨0xFFF0FF, 0x901003, [⟨8, 4, 0, 6⟩], .u64, .rwc, .n, 0, .custom, none, false⟩  -- 9.01k.03 aperture offset (R366)
  , ⟨0xFFF0FF, 0x901004, [⟨8, 4, 0, 6⟩], .u64, .rwc, .n, 0, .custom, none, false⟩  -- 9.01k.04 fabric base (R366)
  , ⟨0xFFF0FF, 0x901005, [⟨8, 4, 0, 6⟩], .u8, .rwc, .n, 4, .between 0 7, none, false⟩  -- 9.01k.05 window class (R366)
  , ⟨0xFFF0FF, 0x901006, [⟨8, 4, 0, 6⟩], .u32, .rwc, .n, 0, .between 0 1048575, none, false⟩  -- 9.01k.06 window flow label (R366)
  , ⟨0xFFF0FF, 0x901007, [⟨8, 4, 0, 6⟩], .u8, .ro, .v, 0, .any, none, false⟩  -- 9.01k.07 effective claim (R366)
  , ⟨0xFFF0FF, 0x901008, [⟨8, 4, 0, 6⟩], .bool, .rwc, .n, 0, .any, none, false⟩  -- 9.01k.08 acknowledged writes (R366)
  , ⟨0xFFFFFF, 0x901800, [], .u8, .cmd, .v, 0, .between 1 1, none, false⟩  -- 9.018.00 window commit (R366)
  , ⟨0xFFFFFF, 0x901801, [], .u8, .ro, .v, 0, .any, none, false⟩  -- 9.018.01 window check result (R366)
  , ⟨0xFFFFFF, 0x901802, [], .u8, .ro, .v, 0, .any, none, false⟩  -- 9.018.02 windows downgraded (R366)
  , ⟨0xFFFFFF, 0x902000, [], .u32, .rw, .n, 8000, .between 100 50000, none, false⟩  -- 9.020.00 read hold limit (R366)
  , ⟨0xFFFFFF, 0x902001, [], .u16, .rw, .n, 64, .oneOf [64, 128, 256, 512], none, false⟩  -- 9.020.01 prefetch size P (R366)
  , ⟨0xFFFFFF, 0x902002, [], .u32, .rw, .n, 10, .between 1 1000, none, false⟩  -- 9.020.02 prefetch life (R366)
  , ⟨0xFFF0FF, 0x903000, [⟨8, 4, 0, 16⟩], .blob, .ro, .v, 0, .blob 24 24, none, false⟩  -- 9.03e.00 posted-write error log entry e (R366)
  , ⟨0xFFFFFF, 0x904000, [], .u8, .ro, .v, 0, .any, none, false⟩  -- 9.040.00 posted-write error log head (R366)
  , ⟨0xFFFFFF, 0x904001, [], .u8, .ro, .v, 0, .any, none, false⟩  -- 9.040.01 prefetch-discard log head (R366)
  , ⟨0xFFF0FF, 0x905000, [⟨8, 4, 0, 16⟩], .blob, .ro, .v, 0, .blob 24 24, none, false⟩  -- 9.05e.00 prefetch-discard log entry e (R366)
  , ⟨0xFFF0FF, 0x906000, [⟨8, 4, 0, 8⟩], .u64, .rwc, .n, 0, .multiple 4096, none, false⟩  -- 9.06s.00 slot base (R366)
  , ⟨0xFFF0FF, 0x906001, [⟨8, 4, 0, 8⟩], .u8, .rwc, .n, 12, .between 12 40, none, false⟩  -- 9.06s.01 slot size z (R366)
  , ⟨0xFFF0FF, 0x906002, [⟨8, 4, 0, 8⟩], .u8, .rwc, .n, 0, .custom, none, false⟩  -- 9.06s.02 slot flags (R366)
  , ⟨0xFFF0FF, 0x906003, [⟨8, 4, 0, 8⟩], .u64, .rwc, .n, 0, .multiple 16, none, false⟩  -- 9.06s.03 stamp address (R366)
  , ⟨0xFFFFFF, 0x907000, [], .u64, .ro, .v, 0, .any, none, false⟩  -- 9.070.00 host reads completed (R366)
  , ⟨0xFFFFFF, 0x907001, [], .u64, .ro, .v, 0, .any, none, false⟩  -- 9.070.01 host reads with error status (R366)
  , ⟨0xFFFFFF, 0x907002, [], .u32, .ro, .v, 0, .any, none, false⟩  -- 9.070.02 late fabric responses (R366)
  , ⟨0xFFFFFF, 0x907003, [], .u64, .ro, .v, 0, .any, none, false⟩  -- 9.070.03 fabric requests refused (R366)
  , ⟨0xFFFFFF, 0x907004, [], .u64, .ro, .v, 0, .any, none, false⟩  -- 9.070.04 scheduled COPY writes (R366)
  , ⟨0xFFFFFF, 0x907005, [], .u32, .ro, .v, 0, .any, none, false⟩  -- 9.070.05 scheduled COPY dropped (R366)
  , ⟨0xFFFFFF, 0x907006, [], .u8, .cmd, .v, 0, .between 1 1, none, false⟩  -- 9.070.06 clear bridge counters (R366)
  ]

/-- Objects of area A: power. -/
def objRowsAa : List ObjRow :=
  [ ⟨0xFFFFFF, 0xA00000, [], .u64, .ro, .v, 0, .any, none, false⟩  -- A.000.00 supply warnings (R389)
  , ⟨0xFFFFFF, 0xA00001, [], .u16, .rwh, .n, 20000, .custom, none, false⟩  -- A.000.01 VHS warning level (R389)
  , ⟨0xFFFFFF, 0xA00002, [], .u16, .rwh, .n, 18000, .custom, none, false⟩  -- A.000.02 VHS undervoltage level (R389)
  , ⟨0xFFFFFF, 0xA00003, [], .u16, .rwh, .n, 33000, .custom, none, false⟩  -- A.000.03 VHS overvoltage level (R389)
  , ⟨0xFFFFFF, 0xA00004, [], .u16, .ro, .v, 0, .any, none, false⟩  -- A.000.04 measured VHS (R389)
  , ⟨0xFFFFFF, 0xA00005, [], .u32, .ro, .a, 0, .any, none, false⟩  -- A.000.05 supply warning events (R389)
  , ⟨0xFFFFFF, 0xA00100, [], .u16, .rwh, .n, 256, .between 0 511, none, false⟩  -- A.001.00 PG mask (R389)
  , ⟨0xFFFFFF, 0xA00101, [], .u16, .rwh, .n, 10, .between 0 1000, none, false⟩  -- A.001.01 power-good delay (R389)
  , ⟨0xFFFFFF, 0xA00102, [], .u16, .ro, .v, 0, .any, none, false⟩  -- A.001.02 power-good state (R389)
  , ⟨0xFFFFFF, 0xA00103, [], .u16, .rwh, .n, 100, .between 10 1000, none, false⟩  -- A.001.03 seating qualification time (R389)
  , ⟨0xFFFFFF, 0xA00104, [], .u8, .ro, .v, 0, .any, none, false⟩  -- A.001.04 seating state (R389)
  , ⟨0xFFFFFF, 0xA00105, [], .u32, .ro, .a, 0, .any, none, false⟩  -- A.001.05 unseat events (R389)
  , ⟨0xFFFFF0, 0xA00200, [⟨0, 4, 0, 16⟩], .blob, .ro, .a, 0, .blob 16 16, none, false⟩  -- A.002.0e power log entry e (R389)
  , ⟨0xFFFFFF, 0xA00210, [], .u32, .ro, .a, 0, .any, none, false⟩  -- A.002.10 power log overflow (R389)
  , ⟨0xFF0FFF, 0xA10000, [⟨12, 4, 0, 9⟩], .u32, .rwh, .n, 2000, .between 100 100000, none, false⟩  -- A.1c0.00 shunt resistance (R389)
  , ⟨0xFF0FFF, 0xA10001, [⟨12, 4, 0, 9⟩], .u32, .rwh, .n, 25000, .between 10000 100000, none, false⟩  -- A.1c0.01 current limit (R389)
  , ⟨0xFF0FFF, 0xA10002, [⟨12, 4, 0, 9⟩], .u8, .rwh, .n, 3, .between 2 4, none, false⟩  -- A.1c0.02 fast-trip multiple (R389)
  , ⟨0xFF0FFF, 0xA10003, [⟨12, 4, 0, 9⟩], .u32, .rwh, .n, 2000, .between 100 100000, none, false⟩  -- A.1c0.03 fault time (R389)
  , ⟨0xFF0FFF, 0xA10004, [⟨12, 4, 0, 9⟩], .u32, .rwh, .n, 5000, .custom, none, false⟩  -- A.1c0.04 inrush limit (R389)
  , ⟨0xFF0FFF, 0xA10005, [⟨12, 4, 0, 9⟩], .u16, .rwh, .n, 100, .between 1 1000, none, false⟩  -- A.1c0.05 start timeout (R389)
  , ⟨0xFF0FFF, 0xA10006, [⟨12, 4, 0, 9⟩], .u16, .rwh, .n, 500, .between 50 5000, none, false⟩  -- A.1c0.06 power-good V_DS limit (R389)
  , ⟨0xFF0FFF, 0xA10007, [⟨12, 4, 0, 9⟩], .u8, .rwh, .n, 0, .between 0 1, none, false⟩  -- A.1c0.07 auto-start (R389)
  , ⟨0xFF0FFF, 0xA10008, [⟨12, 4, 0, 9⟩], .u16, .rwh, .n, 0, .between 0 10000, none, false⟩  -- A.1c0.08 start delay (R389)
  , ⟨0xFF0FFF, 0xA10009, [⟨12, 4, 0, 9⟩], .u8, .rwh, .n, 0, .between 0 1, none, false⟩  -- A.1c0.09 Doze action (R389)
  , ⟨0xFF0FFF, 0xA1000A, [⟨12, 4, 0, 9⟩], .u8, .rwh, .n, 1, .between 0 2, none, false⟩  -- A.1c0.0A retry mode (R389)
  , ⟨0xFF0FFF, 0xA1000B, [⟨12, 4, 0, 9⟩], .u8, .rwh, .n, 3, .between 1 255, none, false⟩  -- A.1c0.0B retry limit (R389)
  , ⟨0xFF0FFF, 0xA1000C, [⟨12, 4, 0, 9⟩], .u32, .rwh, .n, 1000, .between 10 60000, none, false⟩  -- A.1c0.0C retry delay (R389)
  , ⟨0xFF0FFF, 0xA1000D, [⟨12, 4, 0, 9⟩], .u32, .rwh, .n, 10000, .between 100 600000, none, false⟩  -- A.1c0.0D good time (R389)
  , ⟨0xFF0FFF, 0xA1000E, [⟨12, 4, 0, 9⟩], .u8, .rwh, .n, 0, .custom, none, false⟩  -- A.1c0.0E thermal mode (R389)
  , ⟨0xFF0FFF, 0xA1000F, [⟨12, 4, 0, 9⟩], .f32, .rwh, .n, 1056964608, .f32 1008981770 1120403456, none, false⟩  -- A.1c0.0F R1 (R389)
  , ⟨0xFF0FFF, 0xA10010, [⟨12, 4, 0, 9⟩], .f32, .rwh, .n, 981668463, .f32 925353388 1120403456, none, false⟩  -- A.1c0.10 τ1 (R389)
  , ⟨0xFF0FFF, 0xA10011, [⟨12, 4, 0, 9⟩], .f32, .rwh, .n, 1109393408, .f32 1008981770 1148846080, none, false⟩  -- A.1c0.11 R2 (R389)
  , ⟨0xFF0FFF, 0xA10012, [⟨12, 4, 0, 9⟩], .f32, .rwh, .n, 1092616192, .f32 925353388 1148846080, none, false⟩  -- A.1c0.12 τ2 (R389)
  , ⟨0xFF0FFF, 0xA10013, [⟨12, 4, 0, 9⟩], .f32, .rwh, .n, 1114636288, .f32 3256877056 1123680256, none, false⟩  -- A.1c0.13 model ambient (R389)
  , ⟨0xFF0FFF, 0xA10014, [⟨12, 4, 0, 9⟩], .f32, .rwh, .n, 1125515264, .f32 1120403456 1127153664, none, false⟩  -- A.1c0.14 trip temperature (R389)
  , ⟨0xFF0FFF, 0xA10015, [⟨12, 4, 0, 9⟩], .f32, .rwh, .n, 1112014848, .f32 1092616192 1120403456, none, false⟩  -- A.1c0.15 retry hysteresis (R389)
  , ⟨0xFF0FFF, 0xA10016, [⟨12, 4, 0, 9⟩], .f32, .rwh, .n, 1123680256, .f32 1114636288 1125515264, none, false⟩  -- A.1c0.16 diode trip (R389)
  , ⟨0xFF0FFF, 0xA10100, [⟨12, 4, 0, 9⟩], .u8, .ro, .a, 0, .any, none, false⟩  -- A.1c1.00 channel state (R389)
  , ⟨0xFF0FFF, 0xA10101, [⟨12, 4, 0, 9⟩], .u8, .ro, .a, 0, .any, none, false⟩  -- A.1c1.01 last fault (R389)
  , ⟨0xFF0FFF, 0xA10102, [⟨12, 4, 0, 9⟩], .u8, .ro, .a, 0, .any, none, false⟩  -- A.1c1.02 retry count (R389)
  ]
/-- Objects of area A, continued. -/
def objRowsAb : List ObjRow :=
  [ ⟨0xFF0FFF, 0xA10103, [⟨12, 4, 0, 9⟩], .u32, .ro, .a, 0, .any, none, false⟩  -- A.1c1.03 retry time remaining (R389)
  , ⟨0xFF0FFF, 0xA10104, [⟨12, 4, 0, 9⟩], .i32, .ro, .v, 0, .any, none, false⟩  -- A.1c1.04 current (R389)
  , ⟨0xFF0FFF, 0xA10105, [⟨12, 4, 0, 9⟩], .u32, .ro, .v, 0, .any, none, false⟩  -- A.1c1.05 V_DS (R389)
  , ⟨0xFF0FFF, 0xA10106, [⟨12, 4, 0, 9⟩], .f32, .ro, .a, 0, .any, none, false⟩  -- A.1c1.06 model temperature (R389)
  , ⟨0xFF0FFF, 0xA10107, [⟨12, 4, 0, 9⟩], .f32, .ro, .v, 0, .any, none, false⟩  -- A.1c1.07 diode temperature (R389)
  , ⟨0xFF0FFF, 0xA10108, [⟨12, 4, 0, 9⟩], .u32, .ro, .a, 0, .any, none, false⟩  -- A.1c1.08 counting faults (R389)
  , ⟨0xFF0FFF, 0xA10109, [⟨12, 4, 0, 9⟩], .u32, .ro, .a, 0, .any, none, false⟩  -- A.1c1.09 fast trips (R389)
  , ⟨0xFF0FFF, 0xA1010A, [⟨12, 4, 0, 9⟩], .u8, .cmd, .v, 0, .between 1 1, none, false⟩  -- A.1c1.0A clear fault (R389)
  , ⟨0xFF0FFF, 0xA1010B, [⟨12, 4, 0, 9⟩], .u8, .cmd, .a, 0, .between 0 1, none, false⟩  -- A.1c1.0B channel command (R389)
  ]

/-- Objects of area B: sleep. -/
def objRowsB : List ObjRow :=
  [ ⟨0xFFFFFF, 0xB00000, [], .bool, .rw, .n, 0, .any, none, false⟩  -- B.000.00 sleep permitted (R406)
  , ⟨0xFFFFFF, 0xB00001, [], .u8, .cmd, .v, 0, .between 1 2, none, false⟩  -- B.000.01 propose sleep (R406)
  , ⟨0xFFFFFF, 0xB00002, [], .u16, .rwc, .n, 0, .between 0 4095, none, false⟩  -- B.000.02 sleep fork group (R406)
  , ⟨0xFFFFFF, 0xB00003, [], .blob, .rwc, .n, 0, .blob 128 128, none, false⟩  -- B.000.03 sleep members (R406)
  , ⟨0xFFFFFF, 0xB00004, [], .u8, .rw, .n, 8, .between 1 255, none, false⟩  -- B.000.04 veto flag threshold (R406)
  , ⟨0xFFFFFF, 0xB00005, [], .u16, .rw, .n, 16, .between 2 1024, none, false⟩  -- B.000.05 vote window (R406)
  , ⟨0xFFFFFF, 0xB00006, [], .u16, .rw, .n, 8, .between 4 1024, none, false⟩  -- B.000.06 commit lead (R406)
  , ⟨0xFFFFFF, 0xB00007, [], .u8, .ro, .v, 0, .any, none, false⟩  -- B.000.07 sleep state (R406)
  , ⟨0xFFFFFF, 0xB00008, [], .u32, .ro, .d, 0, .any, none, false⟩  -- B.000.08 proposal number (R406)
  , ⟨0xFFFFFF, 0xB00100, [], .bool, .rw, .v, 0, .any, none, false⟩  -- B.001.00 application veto (R406)
  , ⟨0xFFFFFF, 0xB00101, [], .u16, .ro, .d, 0, .any, none, false⟩  -- B.001.01 consecutive vetoes (R406)
  , ⟨0xFFFFFF, 0xB01000, [], .u8, .rw, .n, 1, .between 0 3, none, false⟩  -- B.010.00 WAKE_IN control (R406)
  , ⟨0xFFFFFF, 0xB01001, [], .u16, .rw, .n, 8, .between 1 65535, none, false⟩  -- B.010.01 WAKE_IN filter (R406)
  , ⟨0xFFFFFF, 0xB01002, [], .u16, .rw, .n, 80, .between 8 8000, none, false⟩  -- B.010.02 ring wake filter (R406)
  , ⟨0xFFFFFF, 0xB01003, [], .u32, .rw, .n, 0, .between 0 604800, none, false⟩  -- B.010.03 wake timer (R406)
  , ⟨0xFFFFFF, 0xB02000, [], .u8, .ro, .a, 0, .any, none, false⟩  -- B.020.00 last wake source (R406)
  , ⟨0xFFFFFF, 0xB02001, [], .u32, .ro, .a, 0, .any, none, false⟩  -- B.020.01 last wake AON count (R406)
  , ⟨0xFFFFFF, 0xB02002, [], .u32, .ro, .a, 0, .any, none, false⟩  -- B.020.02 Doze entries (R406)
  , ⟨0xFFFFFF, 0xB02003, [], .u32, .ro, .d, 0, .any, none, false⟩  -- B.020.03 frames discarded at entry (R406)
  , ⟨0xFFFFFF, 0xB02004, [], .u32, .ro, .d, 0, .any, none, false⟩  -- B.020.04 entries aborted (R406)
  , ⟨0xFFFFFF, 0xB02005, [], .u32, .ro, .a, 0, .any, none, false⟩  -- B.020.05 late wakes (R406)
  , ⟨0xFFFF00, 0xB03000, [⟨0, 8, 0, 32⟩], .blob, .ro, .d, 0, .blob 12 12, none, false⟩  -- B.030.ee insomniac log entry ee (R406)
  , ⟨0xFFFFFF, 0xB03100, [], .u8, .ro, .d, 0, .any, none, false⟩  -- B.031.00 insomniac log head (R406)
  , ⟨0xFFFFFF, 0xB03101, [], .u32, .ro, .d, 0, .any, none, false⟩  -- B.031.01 insomniac log overflow (R406)
  , ⟨0xFFFFFF, 0xB03200, [], .blob, .ro, .d, 0, .blob 32 32, none, false⟩  -- B.032.00 flagged nodes (R406)
  , ⟨0xFFFFFF, 0xB03201, [], .u8, .cmd, .v, 0, .between 1 1, none, false⟩  -- B.032.01 clear flags (R406)
  ]

/-- Objects of area C: update and repair. -/
def objRowsC : List ObjRow :=
  [ ⟨0xFFFFFF, 0xC00000, [], .u8, .ro, .v, 0, .any, none, false⟩  -- C.000.00 Noraskine keys valid (R453)
  , ⟨0xFFFFFF, 0xC00001, [], .u8, .ro, .v, 0, .any, none, false⟩  -- C.000.01 security version floor (R453)
  , ⟨0xFFFFF0, 0xC01000, [⟨0, 4, 0, 2⟩], .blob, .rwc, .n, 0, .blob 64 64, none, false⟩  -- C.010.0k integrator key k (R453)
  , ⟨0xFFFFFF, 0xC02000, [], .u32, .cmd, .v, 0, .custom, none, false⟩  -- C.020.00 begin staging (R453)
  , ⟨0xFFFFFF, 0xC02001, [], .blob, .cmd, .v, 0, .blob 5 2020, none, false⟩  -- C.020.01 staging chunk (R453)
  , ⟨0xFFFFFF, 0xC02002, [], .u32, .ro, .v, 0, .any, none, false⟩  -- C.020.02 bytes received (R453)
  , ⟨0xFFFFFF, 0xC02003, [], .u8, .cmd, .v, 0, .between 1 1, none, false⟩  -- C.020.03 verify (R453)
  , ⟨0xFFFFFF, 0xC02004, [], .u8, .ro, .v, 0, .any, none, false⟩  -- C.020.04 staging state (R453)
  , ⟨0xFFFFFF, 0xC02005, [], .u8, .ro, .v, 0, .any, none, false⟩  -- C.020.05 verify result (R453)
  , ⟨0xFFFFFF, 0xC02100, [], .u8, .cmd, .v, 0, .between 1 3, none, false⟩  -- C.021.00 promote (R453)
  , ⟨0xFFFFFF, 0xC02101, [], .u8, .ro, .v, 0, .any, none, false⟩  -- C.021.01 promotion state (R453)
  , ⟨0xFFFFFF, 0xC02102, [], .u16, .ro, .v, 0, .any, none, false⟩  -- C.021.02 failing entry index (R453)
  , ⟨0xFFFFFF, 0xC03000, [], .u8, .cmd, .v, 0, .between 1 1, none, false⟩  -- C.030.00 Keeper handover (R453)
  , ⟨0xFFFFFF, 0xC03001, [], .u8, .cmd, .v, 0, .between 1 1, none, false⟩  -- C.030.01 confirm firmware (R453)
  , ⟨0xFFFFFF, 0xC03002, [], .u16, .rw, .n, 60, .between 10 3600, none, false⟩  -- C.030.02 trial time (R453)
  , ⟨0xFFFFFF, 0xC03003, [], .u8, .ro, .v, 0, .any, none, false⟩  -- C.030.03 firmware slot state (R453)
  , ⟨0xFFFFFF, 0xC03004, [], .u32, .ro, .a, 0, .any, none, false⟩  -- C.030.04 handovers (R453)
  , ⟨0xFFFFFF, 0xC03005, [], .u32, .ro, .v, 0, .any, none, false⟩  -- C.030.05 last handover pause (R453)
  , ⟨0xFFFFFF, 0xC03100, [], .u32, .ro, .v, 0, .any, none, false⟩  -- C.031.00 firmware version, slot A (R453)
  , ⟨0xFFFFFF, 0xC03101, [], .u32, .ro, .v, 0, .any, none, false⟩  -- C.031.01 firmware version, slot B (R453)
  , ⟨0xFFFFFF, 0xC04000, [], .u8, .ro, .v, 0, .any, none, false⟩  -- C.040.00 active schedule slot (R453)
  , ⟨0xFFFFFF, 0xC04001, [], .bool, .rw, .n, 1, .any, none, false⟩  -- C.040.01 load schedule at bring-up (R453)
  , ⟨0xFFFFFF, 0xC04002, [], .u16, .rwc, .n, 0, .between 0 1022, none, false⟩  -- C.040.02 node for first load (R453)
  , ⟨0xFFFFFF, 0xC04003, [], .bool, .ro, .v, 0, .any, none, false⟩  -- C.040.03 contract record migrated (R453)
  , ⟨0xFFFFFF, 0xC04100, [], .u16, .ro, .v, 0, .any, none, false⟩  -- C.041.00 configuration store version (R453)
  , ⟨0xFFFFFF, 0xC04101, [], .u32, .ro, .v, 0, .any, none, false⟩  -- C.041.01 configuration entries skipped (R453)
  , ⟨0xFFFFFF, 0xC05000, [], .u8, .rw, .v, 0, .any, none, false⟩  -- C.050.00 part (R453)
  , ⟨0xFFFFFF, 0xC05001, [], .u64, .cmd, .v, 0, .any, none, false⟩  -- C.050.01 isolate at cycle (R453)
  , ⟨0xFFFFFF, 0xC05002, [], .u64, .cmd, .v, 0, .any, none, false⟩  -- C.050.02 return at cycle (R453)
  , ⟨0xFFFFFF, 0xC05003, [], .u8, .cmd, .v, 0, .between 1 2, none, false⟩  -- C.050.03 test (R453)
  , ⟨0xFFFFFF, 0xC05004, [], .u8, .ro, .v, 0, .any, none, false⟩  -- C.050.04 test result (R453)
  , ⟨0xFFFFFF, 0xC05100, [], .u64, .ro, .v, 0, .any, none, false⟩  -- C.051.00 isolated islands (R453)
  , ⟨0xFFFFFF, 0xC05101, [], .u8, .ro, .v, 0, .any, none, false⟩  -- C.051.01 isolated controllers (R453)
  ]

/-- Objects of area D: journal. -/
def objRowsD : List ObjRow :=
  [ ⟨0xFFFFFF, 0xD00000, [], .u16, .ro, .w, 0, .any, none, false⟩  -- D.000.00 journal head (R471)
  , ⟨0xFFFFFF, 0xD00001, [], .u16, .rw, .w, 0, .custom, none, false⟩  -- D.000.01 journal tail (R471)
  , ⟨0xFFFFFF, 0xD00002, [], .u16, .ro, .w, 0, .any, none, false⟩  -- D.000.02 unread records (R471)
  , ⟨0xFFFFFF, 0xD00003, [], .u8, .rw, .n, 0, .between 0 1, none, false⟩  -- D.000.03 full policy (R471)
  , ⟨0xFFFFFF, 0xD00004, [], .u16, .rw, .n, 1, .between 1 1024, none, false⟩  -- D.000.04 notice threshold (R471)
  , ⟨0xFFFFFF, 0xD00005, [], .u16, .rw, .n, 0, .between 0 511, none, false⟩  -- D.000.05 notice classes (R471)
  , ⟨0xFFFFFF, 0xD00006, [], .bool, .rw, .n, 0, .any, none, false⟩  -- D.000.06 notice enable (R471)
  , ⟨0xFFFFFF, 0xD00007, [], .u32, .ro, .w, 0, .any, none, false⟩  -- D.000.07 lost since summary (R471)
  , ⟨0xFFFFF0, 0xD00010, [⟨0, 4, 0, 9⟩], .u64, .ro, .w, 0, .any, none, false⟩  -- D.000.1c overflow count, class c (R471)
  , ⟨0xFFFF00, 0xD00100, [⟨0, 8, 0, 256⟩], .u64, .ro, .w, 0, .any, none, false⟩  -- D.001.rr records raised, reason rr (R471)
  , ⟨0xFFFFF0, 0xD00300, [⟨0, 4, 0, 9⟩], .u32, .ro, .a, 0, .any, none, false⟩  -- D.003.0c records raised since retention loss, class c (R471)
  , ⟨0xFFFFFF, 0xD01000, [], .u16, .rw, .n, 0, .between 0 1022, none, false⟩  -- D.010.00 collector node (R471)
  , ⟨0xFFFFFF, 0xD01001, [], .u16, .rw, .n, 0, .between 0 511, none, false⟩  -- D.010.01 forwarded classes (R471)
  , ⟨0xFFFFFF, 0xD01002, [], .u64, .ro, .w, 0, .any, none, false⟩  -- D.010.02 records forwarded (R471)
  , ⟨0xFFFFFF, 0xD01003, [], .u32, .ro, .w, 0, .any, none, false⟩  -- D.010.03 forwarding messages lost (R471)
  ]

/-- Objects of area E: snapshots. -/
def objRowsE : List ObjRow :=
  [ ⟨0xFF0FFF, 0xE00000, [⟨12, 4, 0, 4⟩], .u8, .ro, .w, 0, .any, none, false⟩  -- E.0s0.00 slot state (R472)
  , ⟨0xFF0FFF, 0xE00001, [⟨12, 4, 0, 4⟩], .u8, .cmd, .v, 0, .between 1 1, none, false⟩  -- E.0s0.01 release slot (R472)
  , ⟨0xFF0FFF, 0xE00002, [⟨12, 4, 0, 4⟩], .blob, .ro, .w, 0, .blob 256 256, none, false⟩  -- E.0s0.02 slot header (R472)
  , ⟨0xFF0FFF, 0xE00003, [⟨12, 4, 0, 4⟩], .u16, .ro, .w, 0, .any, none, false⟩  -- E.0s0.03 seal id (R472)
  , ⟨0xFF0FFF, 0xE00004, [⟨12, 4, 0, 4⟩], .u64, .ro, .w, 0, .any, none, false⟩  -- E.0s0.04 seal cycle (R472)
  , ⟨0xFF0FFF, 0xE00005, [⟨12, 4, 0, 4⟩], .u32, .ro, .w, 0, .any, none, false⟩  -- E.0s0.05 seal beat (R472)
  , ⟨0xFFFFFF, 0xE10000, [], .u8, .ro, .w, 0, .any, none, false⟩  -- E.100.00 slots not free (R472)
  ]

/-- The rows of one area: area digit `a` of the object number (R313). -/
def areaRows (a : Nat) : List ObjRow :=
  match a with
  | 0x0 => objRows0
  | 0x1 => objRows1
  | 0x2 => objRows2a ++ objRows2b
  | 0x3 => objRows3
  | 0x4 => objRows4
  | 0x5 => objRows5
  | 0x6 => objRows6
  | 0x7 => objRows7
  | 0x8 => objRows8a ++ objRows8b
  | 0x9 => objRows9
  | 0xA => objRowsAa ++ objRowsAb
  | 0xB => objRowsB
  | 0xC => objRowsC
  | 0xD => objRowsD
  | 0xE => objRowsE
  | _ => []

/-- The reason codes of R458, in ascending order: the sub-indices of D.001.rr. -/
def reasonCodes : List Nat :=
  [0x01, 0x02, 0x03, 0x04, 0x05, 0x06, 0x07, 0x08, 0x09, 0x0A, 0x0B, 0x0C, 0x0D, 0x0E, 0x11, 0x12, 0x13, 0x14, 0x15, 0x16, 0x17, 0x18,
   0x19, 0x1A, 0x20, 0x21, 0x22, 0x23, 0x24, 0x25, 0x26, 0x28, 0x29, 0x30, 0x31, 0x32, 0x33, 0x34, 0x35, 0x38] ++
  [0x40, 0x41, 0x42, 0x43, 0x44, 0x45, 0x46, 0x47, 0x48, 0x50, 0x51, 0x52, 0x53, 0x54, 0x55, 0x60, 0x61, 0x62, 0x63, 0x70, 0x71, 0x72,
   0x73, 0x74, 0x75, 0x76, 0x77, 0x78, 0x79, 0x7A, 0x7B, 0x80]

/-- The row of object number `n`, or none where no table lists it (R314). D.001.rr exists for the reason codes of R458. -/
def objRow (n : Nat) : Option ObjRow :=
  if n / 2 ^ 8 = 0xD001 && !(reasonCodes.contains (n % 2 ^ 8)) then none
  else (areaRows (n / 2 ^ 20)).find? (fun r => r.covers n)

/-- The default of an object (R318): what it reads before anything has been written to it. The identity values that the spec
leaves to the part or its firmware (R342, R453) are constants of `Config` with no value of their own. -/
def objDefault (n : Nat) : Nat :=
  match n with
  | 0x000002 => Config.coreDieId.toNat
  | 0x000003 => Config.portDieId.toNat
  | 0x000004 => Config.keeperFirmware.toNat
  | 0x001000 => 0x000000FF
  | 0x001001 => 0x0000000F
  | 0x001002 => 0x0000000F
  | 0x001003 => 0x00000003
  | 0x900001 => Config.bridgeVendorDevice.toNat
  | 0xC00000 => Config.noraskineKeysValid.toNat
  | 0xC00001 => min 64 Config.securityFloor.toNat
  | _ => match objRow n with
    | some r => r.dflt
    | none => 0

/-- The value size in bytes of a type (R315). STR and BLOB sizes are in the row's range. -/
def OdType.size : OdType → Nat
  | .bool => 1 | .u8 => 1 | .i8 => 1
  | .u16 => 2 | .i16 => 2
  | .u32 => 4 | .i32 => 4 | .f32 => 4
  | .u64 => 8 | .i64 => 8
  | .time96 => 12
  | .str => 255 | .blob => 2024

/-- STR and BLOB objects hold byte strings, the others numbers. -/
def OdType.isBytes : OdType → Bool
  | .str => true | .blob => true
  | _ => false

/-- The type code of R315. -/
def OdType.code : OdType → Nat
  | .bool => 0x01 | .u8 => 0x02 | .u16 => 0x03 | .u32 => 0x04 | .u64 => 0x05 | .i8 => 0x06 | .i16 => 0x07
  | .i32 => 0x08 | .i64 => 0x09 | .f32 => 0x0A | .time96 => 0x0B | .str => 0x0C | .blob => 0x0D

/-- The access code of R316. -/
def OdAccess.code : OdAccess → Nat
  | .ro => 0 | .rw => 1 | .wo => 2 | .rwc => 3 | .rwh => 4 | .cmd => 5

/-- The persistence code of R317. -/
def Persist.code : Persist → Nat
  | .v => 0 | .w => 1 | .d => 2 | .n => 3 | .a => 4

/-- The persistence class of an object; numbers that no table lists count as class V. -/
def objPersist (n : Nat) : Persist :=
  match objRow n with
  | some r => r.persist
  | none => .v

/-- The width in bits of a numeric object. -/
def objBits (n : Nat) : Nat :=
  match objRow n with
  | some r => 8 * r.type.size
  | none => 0

/-- The largest value length of an object, as its table states it (R315, R327). -/
def ObjRow.maxLen (r : ObjRow) : Nat :=
  match r.type, r.range with
  | .blob, .blob _ hi => hi
  | .str, .blob _ hi => hi
  | t, _ => t.size

end Sys2Proof.Machine
end

