-- ==== Sys2Proof/Machine/State.lean ====
section
/-!
DEFINITION. The state of the block as plain data, its reasons to stop, and the state after reset.
-/
namespace Sys2Proof.Machine

/-- Why a step can stop with a fault. No command of this block faults: every access the spec forbids is answered by an error code,
an outcome or a report, which is part of the next state. -/
inductive Fault where
  /-- Raised by no meaning; the type is the interface's. Safe. -/
  | none_
  deriving DecidableEq, Repr

/-- Why a step can be refused. -/
inductive Refusal where
  /-- A command whose meaning the model does not hold. Safe. -/
  | notModelled (mnemonic : String)
  deriving DecidableEq, Repr

/-- One byte-addressed memory (a process image bank, a pawn store): the sparse map of `Host.Cell`s whose unlisted bytes read as
zero. Every memory of this block is zero after the reset that clears it (R73), so nothing here is a chosen fill. -/
abbrev Memory := List Host.Cell

/-- The modes of R20 and R407, and the state before the end of the first POR. -/
inductive Mode where
  | noPower | standby | bringUp | test | configure | run | repair | hold | doze
  deriving DecidableEq, Repr

/-- A journal record (R459). -/
structure JRecord where
  sec    : Nat
  nano   : Nat
  node   : Nat
  island : Nat
  cls    : Nat
  reason : Nat
  tag    : Nat
  deriving DecidableEq, Repr

/-- The journal: the stored entries by entry number (R461), the posting buffers by island code (R460), and the power log with the counts of
the records raised by reason and lost by class while the Keeper does not run (R387). -/
structure JournalSt where
  recs    : NMap JRecord := []
  posted  : NMap (List JRecord) := []
  plog    : List JRecord := []
  plogCnt : NMap Nat := []
  plogLost : NMap Nat := []
  deriving DecidableEq, Repr

/-- What the hub keeps of one declared record of the active bank in the current cycle (R32 to R36, R71, R72): its state, whether an
in-time write reached it, whether its release boundary has passed, whether it has had a fresh value since its bank became active and which
was the last (R35), and the journal reason of its departure (0 none; 0xFF a departure that another node reports). -/
structure RecLive where
  state    : RecState := .missing
  arrived  : Bool := false
  released : Bool := false
  hadFresh : Bool := false
  last     : List Byte := []
  reason   : Nat := 0
  deriving DecidableEq, Repr

/-- A process image (R71, R73): the working and the completed bank, and the state map of the completed bank by word (R38). -/
structure Image where
  working   : Memory := []
  completed : Memory := []
  stMap     : NMap Nat := []
  deriving DecidableEq, Repr

/-- The working banks of the two images with their state maps, as they were at the first SEQ clock of a seal beat (R467). -/
structure SealImages where
  inImg  : Memory := []
  outImg : Memory := []
  inMap  : NMap Nat := []
  outMap : NMap Nat := []
  deriving DecidableEq, Repr

/-- The sequencer, SEQ island (R48 to R83), and the monitors of the contract (R24 to R41). `due` lists the moves of this beat not yet
executed; `heldMask` the islands (by code) whose moves run in hold since the last boundary, `withheld` those whose records are withheld to
the end of this cycle (R31); `envBad` the causes present per island, `envGood` the islands back within the envelope for the whole of
the cycle so far; `laneSaid` and `laneGood` the lanes (key 2 * port + lane) whose failure is journalled and which of them were good since the
last boundary (R496), the time condition likewise; `since` the first cycle of the active bank and `oldBank` the bank active before it, under whose
layout what is left of its cycles is handled (R107, R34), and `prevRun` that records were produced in the cycle before this one (R95); `checking` that a load check of the staged bank runs (R76); `sealed` the images as a beat with a
seal in it found them (R467). -/
structure SeqSt where
  released   : Bool := false
  inForce    : Bool := false
  input      : Image := {}
  output     : Image := {}
  recs       : List RecLive := []
  bank0      : Bank := Bank.empty
  bank1      : Bank := Bank.empty
  switchAt   : Option Nat := none
  due        : List Nat := []
  heldMask   : Nat := 0
  withheld   : Nat := 0
  envBad     : NMap Nat := []
  envGood    : NMap Bool := []
  laneGood   : NMap Bool := []
  laneSaid   : NMap Bool := []
  segFail    : Bool := false
  setupFail  : Bool := false
  timeBad    : Bool := false
  timeGood   : Bool := false
  timeSaid   : Bool := false
  timeHold   : Bool := false
  checking   : Bool := false
  since      : Nat := 0
  oldBank    : Bank := Bank.empty
  shadowed   : Bool := false
  prevRun    : Bool := false
  sealed     : Option SealImages := none
  deriving DecidableEq, Repr

/-- One word of an insertion buffer with its state (R105). -/
structure InsWord where
  word  : BitVec 32 := 0
  state : RecState := .missing
  deriving DecidableEq, Repr

/-- A delivered express event, kept to recognise its second copy (R122), with its emission time in full, in ns (R117). -/
structure ExpressSeen where
  event   : Nat
  source  : Nat
  time    : Nat
  at_     : Nat
  emitted : Nat
  deriving DecidableEq, Repr

/-- A frame sent on a ring port, kept while R134 may have to report it: what it was and when its FRM_END left, in units of 10 ps. -/
structure SentFrame where
  frame : Frame
  at_   : Nat
  deriving DecidableEq, Repr

/-- A segment sent on a ring port, kept while R134 may have to report it: its number, its tag, and when it left, in ns. -/
structure SentSegment where
  num : Nat
  tag : Nat
  at_ : Nat
  deriving DecidableEq, Repr

/-- One ring port (R124 to R139). `meas` holds the measurement exchanges without an answer yet (sequence and t1) and `measReqs` how many were begun, `measN` how
many are complete, with the sum, the least and the largest of t4 - t1 - r (R126); `tokens` is the express bucket (R121); `brkTag` and `brkSeq` are the
cycle tag and the sequence of the break declared (R131); `insBuf` the insertion buffer of this cycle, word `w` of segment `n` at key `2048 * n + w`, and
`insOld` that of the cycle before, for a region that runs past its end (R95, R105); `burst` the express events that reached the port in word clock `xClock`, with their
rank in the order of R120. The express bucket holds its 8 tokens at first (DESIGN CHOICE: R121 gives its capacity only). -/
structure PortSt where
  lock0      : Bool := false
  lock1      : Bool := false
  skewBase   : Nat := 0
  helloIn    : Bool := false
  ackIn      : Bool := false
  meas       : List (Nat × Nat) := []
  measReqs   : Nat := 0
  measN      : Nat := 0
  measSum    : Int := 0
  measMin    : Int := 0
  measMax    : Int := 0
  measDone   : Bool := false
  nextSeq    : Nat := 0
  path       : Option (Int × Int) := none
  errs0      : List Nat := []
  errs1      : List Nat := []
  tokens     : Nat := 8
  queue      : List Express := []
  waiting    : Bool := false
  inUse      : Bool := false
  broken     : Bool := false
  brkReason  : Nat := 0
  brkTag     : Nat := 0
  brkSeq     : Nat := 0
  wrapped    : Bool := false
  unwrapAt   : Option Nat := none
  unwrapTag  : Option (Nat × Nat) := none
  insBuf     : NMap InsWord := []
  insOld     : NMap InsWord := []
  sent       : List SentFrame := []
  sentSegs   : List SentSegment := []
  sentX      : List Nat := []
  xClock     : Nat := 0
  burst      : List (Nat × Express) := []
  deriving DecidableEq, Repr

/-- What the ring ports share: the last eight REPORTs (R132), the break sequence, the REPORTs already forwarded, the cycle of the
first break notice, the ports whose transmitter is enabled (R403, R411), the express events seen, the segments ended at a wrap in this cycle, and for each segment of a main-ring port (key 4096 * port + segment) the hops it
had made when it last arrived: how far its originator is. -/
structure RingSt where
  reports   : List WrapBlock := []
  brkSeq    : Nat := 0
  forwarded : List (Nat × Nat × Nat) := []
  brokenCyc : Option Nat := none
  seenX     : List ExpressSeen := []
  ended     : List (Nat × Nat) := []
  origins   : NMap Nat := []
  tx        : Nat := 0
  deriving DecidableEq, Repr

/-- The OD service of the Keeper (R322 to R331): the access queue, the messages in it that no operation reads, each with the number of accesses before it, the node
number under which the access in work was checked (R332), the mailbox registers and slots, and the reassembly of the MB0 service
channel with the frames it has sent. -/
structure OdSt where
  queue    : List OdAccessReq := []
  odd      : List (Nat × OdHdr × List Byte) := []
  checked  : Nat := 0
  reqWp    : Nat := 0
  reqRp    : Nat := 0
  rspWp    : Nat := 0
  rspRp    : Nat := 0
  ctrl     : Nat := 0
  ptrErr   : Bool := false
  reqMem   : Memory := []
  rspMem   : Memory := []
  asm      : Option (Nat × List Byte) := none
  mbOut    : List (Nat × CanFrame) := []
  deriving DecidableEq, Repr

/-- A boot record (R431). -/
structure BootRec where
  seq     : Nat := 0
  fwB     : Bool := false
  trial   : Bool := false
  started : Bool := false
  revert  : Bool := false
  schedB  : Bool := false
  schedOk : Bool := false
  storeB  : Bool := false
  deriving DecidableEq, Repr

/-- A stage of a Keeper handover (R438, R440): none, starting (steps 1 and 2), the pause of steps 3 and 4 until a time in ns, on the way to the incoming core
or back, or a trial of the incoming core. -/
inductive Handover where
  | idle | starting | trial
  | paused (until_ : Nat) (back : Bool)
  deriving DecidableEq, Repr

/-- A firmware slot (R430): whether it holds a firmware, the section, its version (that of the firmware the hub was delivered with where none is
given), its security version, the node field of the section, and the OD version that it carries (R441). -/
structure FwSlot where
  full    : Bool := false
  data    : List Byte := []
  version : Option Nat := none
  sec     : Nat := 0
  node    : Nat := 0
  od      : Nat := 0x0100
  deriving DecidableEq, Repr

/-- A copy of the class-N store in flash (R430, R441): its numbers and byte strings, and its OD version, 0 where it is empty. -/
structure StoreCopy where
  objs  : NMap Nat := []
  blobs : NMap (List Byte) := []
  ver   : Nat := 0
  deriving DecidableEq, Repr

/-- Update (R426 to R443): the staging area and the total length named, the two copies of the boot record and a record deferred by brace, the firmware and schedule
slots with the nodes of the schedules, the firmware slot that runs, whether the bank loaded
at bring-up is to be switched to once it is checked, the kind of section that a running promotion copies with what it copies, the Keeper handover, the security floor
as raised, the OD version of the active copy of the class-N store (its content is in `State.flash` and `State.flashBlobs`), the other copy, whether that is the
store from before a migration on trial (R442), and the objects of a configuration set that wait for one flash write (R437). -/
structure UpdateSt where
  staging   : List Byte := []
  total     : Nat := 0
  bootA     : List Byte := []
  bootB     : List Byte := []
  bootDefer : Option BootRec := none
  fwA       : FwSlot := { full := true }
  fwB       : FwSlot := {}
  schedA    : List Byte := []
  schedB    : List Byte := []
  nodeA     : Nat := 0
  nodeB     : Nat := 0
  runB      : Bool := false
  autoSwitch : Bool := false
  promoting : Nat := 0
  copying   : FwSlot := {}
  handover  : Handover := .idle
  secRaised : Nat := 0
  storeVer  : Nat := 0
  idleStore : StoreCopy := {}
  oldStore  : Bool := false
  setStores : List Nat := []
  deriving DecidableEq, Repr

/-- The active program and configuration of a pawn as the Keeper writes it back before its cluster returns (R449): instruction memory, slot map, divider, timeouts, and the
word of 5.0pp.21. -/
structure ReturnProg where
  imem  : NMap (BitVec 32)
  slots : NMap Nat
  divv  : Nat
  tos   : NMap Nat
  entry : Nat
  deriving DecidableEq, Repr

/-- Isolation in service (R446 to R450): the parts that are isolated, the boundaries named for isolations and returns, the parts that
owe a passed BIST, the parts under test, the one tested longest first, and by pawn the program that an IRST of its cluster took from its cells. -/
structure RepairSt where
  isolating : NMap Nat := []
  returning : NMap Nat := []
  owesBist  : List Nat := []
  testing   : List Nat := []
  saved     : NMap ReturnProg := []
  deriving DecidableEq, Repr

/-- Modes and bring-up (R407 to R424): whether the Keeper runs, whether a WRST waits for its boundary, the seconds last posted to the AON island,
whether VAON fell below its retention level, the 32.768 kHz count, and of the last POR the mode it met, whether it met brace, and its source. -/
structure ModeSt where
  keeperUp   : Bool := false
  wrst       : Bool := false
  postedSec  : Nat := 0
  aonLost    : Bool := false
  aonCount   : Nat := 0
  porMode    : Nat := 0
  porBrace  : Bool := false
  porSource  : Nat := 0
  deriving DecidableEq, Repr

/-- A marker accepted in the current cycle (R291): receive port, offset in units of 2^-16 ns, master, cycle number and boundary time. -/
structure MarkerSeen where
  port   : Nat
  off    : Int
  master : Nat
  cycle  : Nat
  btime  : Nat
  deriving DecidableEq, Repr

/-- A ring A marker that a root copies to its spurs at their marker beats (R98): the marker as received, with the span delay added, the local time
of its arrival, and the spurs still to be given it. -/
structure MarkerCopy where
  marker : Marker
  at_    : Nat
  left   : List Port
  deriving DecidableEq, Repr

/-- A pending seal (R306, R310): its time in units of 2^-16 ns, id, and trigger (1 armed, 2 SEAL_IN), and the beat it was converted to in this
cycle, if any (R308). -/
structure SealSt where
  time    : Nat
  id      : Nat
  trigger : Nat
  beat    : Option Nat := none
  next0   : Bool := false
  deriving DecidableEq, Repr

/-- Fabric time (R287 to R312): the local time at the start of the current beat, in units of 2^-16 ns; the beats since the release of the SEQ
island, the model's uniform clock for delays inside the hub; the boundary time of this cycle; the markers accepted in it and whether the
servo acted; the servo's counts of good and bad markers; a jump waiting for its step, with its marker; the master's entitlement; the
closure window (R294); pending seals by slot, the SEAL_IN id counter, a marker still to be copied to the spurs, and the mask of the ports on which MARK has
opened the marker check (R63). -/
structure TimeSt where
  now      : Nat := 0
  beats    : Nat := 0
  bnd      : Nat := 0
  seen     : List MarkerSeen := []
  acted    : Bool := false
  good     : Nat := 0
  bad      : Nat := 0
  stepped  : Bool := false
  step     : Option MarkerSeen := none
  takeJump : Bool := false
  lost     : Bool := false
  hadMark  : Bool := false
  timeSet  : Bool := false
  fromHold : Bool := false
  lockRun  : Nat := 0
  yield_   : Bool := false
  barred   : Bool := false
  lastMark : Nat := 0
  lockRate : Int := 0
  setTo    : Option Nat := none
  winN     : Nat := 0
  winGood  : Nat := 0
  winA     : Int := 0
  winB     : Int := 0
  calib    : Bool := false
  ownD     : NMap (Int × Nat) := []
  nbrD     : NMap (Int × Nat) := []
  epsDue   : NMap Int := []
  seals    : NMap SealSt := []
  sealCtr  : Nat := 0
  copy     : Option MarkerCopy := none
  opened   : Nat := 0
  deriving DecidableEq, Repr

/-- A host window in force since the last commit (R346, R347). -/
structure Window where
  aperN : Bool := false
  size  : Nat := 0
  off   : Nat := 0
  base  : Nat := 0
  cls   : Nat := 0
  flow  : Nat := 0
  ack   : Bool := false
  deriving DecidableEq, Repr

/-- One fabric request of a held host read (R349, R358): its transaction tag, the window, the range fetched, the bytes of it that the host asked for, the
prefetch block size where it was widened (0 otherwise), and the outcome and data once it is answered. -/
structure ReadPiece where
  tag    : Nat
  window : Nat
  addr   : Nat
  len    : Nat
  skip   : Nat
  want   : Nat
  block  : Nat
  answer : Option (Nat × List Byte)
  deriving DecidableEq, Repr

/-- A host read held by the bridge (R349): the host's tag, the host address of the next byte to return, and the pieces not yet returned. -/
structure HeldRead where
  hostTag : Nat
  at_     : Nat
  len     : Nat
  pieces  : List ReadPiece
  deriving DecidableEq, Repr

/-- A write piece sent on the fabric, by its tag (R352): what the posted-write error log would hold of it, and whether it is to be acknowledged. -/
structure SentPiece where
  tag    : Nat
  window : Nat
  addr   : Nat
  acked  : Bool
  deriving DecidableEq, Repr

/-- One MRd of a fabric request toward the host (R353, R354): its tag once issued, its range, the bytes received, and whether it is complete. -/
structure HostPart where
  tag  : Option Nat
  addr : Nat
  len  : Nat
  got  : List Byte
  done : Bool
  deriving DecidableEq, Repr

/-- A host write piece that waits for port 6 to take it (R352, R355): its window, the window's settings when the host wrote, its fabric address and its bytes. -/
structure HostPiece where
  window : Nat
  win    : Window
  addr   : Nat
  data   : List Byte
  deriving DecidableEq, Repr

/-- A scheduled COPY whose writes wait for the link (R355, R362): its cycle, its slot, and the writes with their host addresses. -/
structure CopyOut where
  cycle  : Nat
  slot   : Nat
  writes : List (Nat × List Byte)
  deriving DecidableEq, Repr

/-- A fabric request in progress toward the host (R353): the frame, its slot, its MRds, whether the fabric has been answered, and the host address of the MWrs of its
bytes while they wait for the link. -/
structure HostReq where
  frame : Frame
  slot  : Nat
  parts : List HostPart
  answered : Bool
  write : Option Nat := none
  deriving DecidableEq, Repr

/-- An entry of the prefetch buffer (R358): window, fabric address, bytes, and which of them the host has read. -/
structure Prefetch where
  window : Nat
  addr   : Nat
  data   : List Byte
  read   : List Bool
  deriving DecidableEq, Repr

/-- The host bridge, HBR island (R343 to R366): what the host configured in its function (bus mastering, MSI-X with its Function Mask, payload sizes, Completion Timeout Value
in ns, 0 disabled, ECRC generation and check), a Function Level Reset that no configuration has followed, the AER uncorrectable error status (PRESUMED, the bit positions of the PCI
Express Base Specification), the MSI-X table with its unmasked vectors and pending bits, the apertures as read at bring-up, the windows in force, host reads held,
write pieces waiting for port 6 and out, fabric requests toward the host, scheduled COPYs not yet sent, prefetch entries oldest first, and quarantined tags with the end of their
quarantine in ns. -/
structure BridgeSt where
  linkUp  : Bool := false
  bme     : Bool := false
  msixOn  : Bool := false
  fmask   : Bool := false
  ecrcGen : Bool := false
  ecrcChk : Bool := false
  flr     : Bool := false
  aer     : Nat := 0
  mps     : Nat := 128
  mrrs    : Nat := 512
  cplTime : Nat := 50000000
  vecOn   : Nat := 0
  vecMem  : Memory := []
  pba     : Nat := 0
  aperP   : Nat := 28
  aperN   : Nat := 24
  aperSet : Bool := false
  wins    : NMap Window := []
  held    : List HeldRead := []
  posted  : List HostPiece := []
  pieces  : List SentPiece := []
  reqs    : List HostReq := []
  copies  : List CopyOut := []
  fetch   : List Prefetch := []
  quarant : List (Nat × Nat) := []
  nextTag : Nat := 0
  pfSeq   : Nat := 0
  deriving DecidableEq, Repr

/-- A transmission request (R273): the frame as built, the policy and limit of the control word at that moment, attempts begun and attempts failed. -/
structure TxReq where
  frame    : CanFrame
  policy   : Nat
  limit    : Nat
  attempts : Nat := 0
  fails    : Nat := 0
  deriving DecidableEq, Repr

/-- A stored frame (R271): data, the identifier word and flags as received, its SOF timestamp, its storage time in half nanoseconds since the
release of SEQ, and its number among the frames stored in the object. -/
structure RxFrame where
  data  : List Byte
  rxId  : Nat
  flags : Nat
  ts    : Nat
  at2   : Nat
  num   : Nat
  deriving DecidableEq, Repr

/-- A message object, or the high-priority buffer (R268): its words, status fields, data, requests and last two stored frames. -/
structure MsgObj where
  idw     : Nat := 0
  mask    : Nat := 0
  ctrl    : Nat := 0x0008CC00
  isNew   : Bool := false
  overrun : Bool := false
  outcome : Nat := 0
  dstate  : Nat := 0
  attempts : Nat := 0
  ts      : Nat := 0
  data    : NMap Byte := []
  req     : Option TxReq := none
  next    : Option TxReq := none
  stored  : List RxFrame := []
  count   : Nat := 0
  latched : Nat := 0
  deriving DecidableEq, Repr

/-- A bus controller (R264, R276, R277): the mode in effect, fault confinement, error counters, the object in transmission and whether its request
is to be dropped at the end of the attempt. -/
structure BusCtl where
  mode    : Nat := 0
  conf    : Nat := 0
  lonely  : Bool := false
  tec     : Nat := 0
  rxe     : Nat := 0
  lastErr : Nat := 0
  objects : NMap MsgObj := []
  sending : Option Nat := none
  dropped : Bool := false
  deriving DecidableEq, Repr

/-- An integrated transceiver (R279): the state last requested, which returns when VCAN does, and the AON tick of its last wake (R282). -/
structure Transceiver where
  want : Nat := 2
  woke : Option (Nat × Nat) := none
  deriving DecidableEq, Repr

/-- The message buses, MBUS island (R263 to R286): controllers and transceivers by number. -/
structure BusSt where
  ctl  : NMap BusCtl := []
  xcvr : NMap Transceiver := []
  deriving DecidableEq, Repr

/-- A PAIR_STATUS as the arbiter keeps it (R147, R149): the cycle, the role, the flags and the last grant sequence. -/
structure PairReport where
  cycle : Nat
  role  : Nat
  flags : Nat
  grant : Nat
  deriving DecidableEq, Repr

/-- A redundant pair (R140 to R154). On a hub: the partner's heartbeat and the beacon of this cycle have arrived, PAIR_STATUS has been sent for it, castling
is requested, PAIR_SEL, the takeover accepted, the cycle of a release, a role to be taken at the next boundary, the mirror sequence last sent or
received, the mirrored items received since the last gap (descriptors), the mirror store of each image, the hash and synchronized flag last heard
from the partner, the object values last mirrored, and whether the pair link was up. On the arbiter, by entry of the pair table: PAIR_STATUS reports by hub
number, the hub named active, the grant sequence, a grant that its hub accepted (hub, takeover cycle), and the entries for which castling is commanded. -/
structure PairSt where
  heard    : Bool := false
  beacon   : Bool := false
  judged   : Bool := false
  askCastle : Bool := false
  sel      : Bool := false
  takeAt   : Option (Nat × Nat) := none
  releaseAt : Option Nat := none
  roleNext : Option Nat := none
  mirSeq   : Nat := 0
  got      : List Nat := []
  storeIn  : Memory := []
  storeOut : Memory := []
  hash     : Option Nat := none
  peerSync : Bool := false
  lastObj  : NMap (List Byte) := []
  linkWas  : Bool := false
  reports  : NMap (List PairReport) := []
  named    : NMap Nat := []
  grantSeq : NMap Nat := []
  granted  : NMap (Nat × Nat) := []
  commanded : List Nat := []
  deriving DecidableEq, Repr

/-- The run states of a pawn (R189). -/
inductive RunState where
  | halted | running | stalled | faulted
  deriving DecidableEq, Repr

/-- An entry of a pawn FIFO (R213): the word, its state, the end flag, and for the IN FIFO its effect edge in time units (R216). -/
structure FifoEntry where
  word  : BitVec 32 := 0
  state : RecState := .fresh
  last  : Bool := false
  edge  : Nat := 0
  deriving DecidableEq, Repr

/-- A FIFO of sixteen entries with 5-bit pointers (R213); `vwp` is the visible pointer of the OUT FIFO (R215). -/
structure Fifo where
  wp  : BitVec 5 := 0
  rp  : BitVec 5 := 0
  vwp : BitVec 5 := 0
  mem : NMap FifoEntry := []
  deriving DecidableEq, Repr

/-- One pawn (R189): its registers, memories, slot map, FIFOs and run state; the staged configuration of the shadow (R221); the phase of its
divider as the time of its last reset and the number of the current pawn cycle; how often the current stalling instruction has
executed, the beat it was issued in and the beat of the last GO (R209); the kind of the last shift (R237); the queued injection and when it reached the cluster (R232);
what its shadow holds for the return of its cluster (R449); the boundary an armed swap names and when the swap became pending (R223, R238); the barrier edge that released its SYNC (R208); and the visibility of words that COPY moves
wrote (R215), as the beats at which they become visible with their counts. -/
structure PawnSt where
  pc     : BitVec 6 := 0
  imem   : NMap (BitVec 32) := []
  shadow : NMap (BitVec 32) := []
  sh     : BitVec 32 := 0
  sc     : BitVec 5 := 0
  ca     : BitVec 16 := 0
  cb     : BitVec 16 := 0
  cmp    : BitVec 32 := 0
  z      : Bool := false
  e      : Bool := false
  t      : Bool := false
  h      : Bool := false
  slots  : NMap Nat := []
  hist   : Nat := 0
  divv   : Nat := 0x100
  tos    : NMap Nat := []
  stSlots : Option (NMap Nat) := none
  stDiv  : Option Nat := none
  stTos  : NMap Nat := []
  outF   : Fifo := {}
  inF    : Fifo := {}
  run    : RunState := .halted
  phase0 : Nat := 0
  cyc    : Nat := 0
  execs  : Nat := 0
  issue  : Nat := 0
  goBeat : Option Nat := none
  prev   : Option Nat := none
  shiftIn : Bool := false
  inj    : Option (BitVec 32) := none
  injAt  : Nat := 0
  swapAt : Option Nat := none
  swapBank : Bool := false
  pendAt : Nat := 0
  barrier : Option Nat := none
  vis    : List (Nat × Nat) := []
  ret    : Option ReturnProg := none
  deriving DecidableEq, Repr

/-- A sequencer event line in the current cycle (R207): raises, the time of the first, and the cluster clock edge of the last. -/
structure EventLine where
  raises : Nat := 0
  first  : Nat := 0
  edge   : Option Nat := none
  deriving DecidableEq, Repr

/-- All pawns, by pawn number, and the sequencer event lines, by 8 * cluster + line; manual GOs waiting for the next beat start (R231). -/
structure PawnsSt where
  pawns  : NMap PawnSt := []
  lines  : NMap EventLine := []
  manual : List (Nat × Nat) := []
  deriving DecidableEq, Repr

/-- What holds a pin forced or frozen (R256): the rule, its release mode and line, and the level. -/
structure PinHold where
  rule  : Nat
  mode  : Nat
  line  : Nat
  level : Bool
  deriving DecidableEq, Repr

/-- An edge of the filtered view of a pin (R246 to R248): its PIN clock in ns since the release of SEQ, the level after it, and its timestamp word. -/
structure EdgeRec where
  at_   : Nat
  level : Bool
  stamp : Nat
  deriving DecidableEq, Repr

/-- What the PIN island will do at a later PIN clock: release a pawn's output change (R193), change the filtered view of a pin whose raw level has been
stable since `raw` (R246), or raise the line of an EVT (R253). -/
inductive PinDue where
  | drive (pin : Nat) (level : Bool)
  | filtered (pin : Nat) (level : Bool) (raw : Nat)
  | line (l : Nat)
  deriving DecidableEq, Repr

/-- The PIN clock that the crossbar acts in (R257): its time in ns since the release of SEQ, the owner levels, forces and freezes as it began, whether the
releases of a cycle boundary fall into it, and those of a command with them, the lines raised in it so far, and the force conflicts counted for them. -/
structure PinClock where
  ns     : Nat
  owner  : Nat
  forced : NMap PinHold
  frozen : NMap PinHold
  bound  : Bool := false
  all    : Bool := false
  lines  : List Nat := []
  conf   : Nat := 0
  deriving DecidableEq, Repr

/-- A SAMPLE taken whose hold window may still be open (R26): its instant in ns since the release of SEQ, the move, its cycle, the input declarations of
its pins, the records in its eight bytes by index, and those of them already found in violation. -/
structure SampleTaken where
  ns    : Nat
  move  : MoveRec
  cycle : Nat
  decls : List InputRec
  recs  : List (Nat × RecDecl)
  bad   : List Nat
  deriving DecidableEq, Repr

/-- What core loss did to a pin (R251): it keeps its latch level, drives a safe level, or stops driving. -/
inductive LossAction where
  | keep | safe (level : Bool) | highZ
  deriving DecidableEq, Repr

/-- The pin banks and the reflex crossbar (R240 to R261): raw, filtered and owner levels as 256-bit masks (bit 16b + p for GIO_b_p), for SAMPLE mode 1 the PIN
clock of the first edge of each pin since its last such SAMPLE, the edges of each pin newest first, what is due at later PIN clocks in their order, forces and
freezes by pin and the PIN clock they were last changed in, staged configuration words, pending
re-enables and release, core loss, the bank masks of 6.0b1.00, samples just taken, and the
events this hub emitted that its own crossbar has still to see (R122). -/
structure PinsSt where
  raw     : Nat := 0
  filt    : Nat := 0
  owner   : Nat := 0
  flagAt  : NMap Nat := []
  hist    : NMap (List EdgeRec) := []
  due     : List (Nat × PinDue) := []
  clock   : Option PinClock := none
  forced  : NMap PinHold := []
  frozen  : NMap PinHold := []
  staged  : NMap Nat := []
  reEnable : Nat := 0
  relAll  : Bool := false
  coreLoss : Bool := false
  loss    : NMap LossAction := []
  present : Nat := 0
  outside : Nat := 0
  disabled : Nat := 0
  samples : List SampleTaken := []
  selfX   : List Express := []
  deriving DecidableEq, Repr

/-- Supplies and power channels, AON and PWR islands (R367 to R388): the last command of each channel, the channels with power-good asserted and those
whose retry timer runs, qualified seating, the rails below their warning and below their
reset level by index, the brace in progress (its first rail and its warnings), the rails that warned while it recovered (R421),
whether the AON copy of the parameters was lost, the values of the copy that differ from the objects while no bring-up has rewritten it (R388),
and the retry delay with which each retry timer started (R382). -/
structure PowerSt where
  cmd      : NMap Bool := []
  pg       : Nat := 0
  retry    : Nat := 0
  seated   : Bool := false
  warn     : Nat := 0
  under    : Nat := 0
  brace    : Option (Nat × Nat) := none
  again    : Nat := 0
  copyLost : Bool := true
  copy     : NMap Nat := []
  retryMs  : NMap Nat := []
  deriving DecidableEq, Repr

/-- A sleep proposal (R391, R392): its number, the vote deadline cycle V, the entry cycle P and the master that made it. -/
structure Proposal where
  num    : Nat
  v      : Nat
  p      : Nat
  master : Nat
  deriving DecidableEq, Repr

/-- Fabric sleep as the Keeper holds it (R390 to R405): on a member, the proposal it last answered (R393: with one vote), the one it accepted and the mode at
its commit; on the master, its own
proposal, whether it is still to be sent, the votes by node (result, veto reason, consecutive vetoes), whether it committed, and the
consecutive vetoes it keeps for each node; the cycle in which each wake source was last seen, the log entries not yet read, and the source of a wake of its own that
came between its accepting vote and a commit (R401). -/
structure SleepSt where
  answered : Option Proposal := none
  prop     : Option Proposal := none
  back     : Option Mode := none
  mine     : Option Proposal := none
  toSend   : Bool := false
  votes    : NMap (Nat × Nat × Nat) := []
  done     : Bool := false
  consec   : NMap Nat := []
  seen     : NMap Nat := []
  unread   : Nat := 0
  swept    : Bool := false
  woke     : Option Nat := none
  deriving DecidableEq, Repr

/-- Doze as the AON island holds it (R396 to R403): the ring watch armed, a wake recorded, the core rails that have fallen since the point of no
return (bit i for rail index 0x10 + i), INH claimed again, and a WAKE_ALL still owed after the exit. -/
structure DozeSt where
  armed : Bool := false
  woken : Bool := false
  fell  : Nat := 0
  inh   : Bool := false
  owes  : Bool := false
  deriving DecidableEq, Repr

/-- A snapshot slot (R466 to R468): its state, seal id, cycle, beat and time of sealing in ns, the islands that latched, the header (with the islands that delivered),
the island blocks by slot offset, and the images with their state maps. -/
structure SnapSlot where
  state     : Nat := 0
  id        : Nat := 0
  cycle     : Nat := 0
  beat      : Nat := 0
  at_       : Nat := 0
  latched   : Nat := 0
  header    : List Byte := []
  blocks    : NMap (List Byte) := []
  inImg     : Memory := []
  outImg    : Memory := []
  inMap     : NMap Nat := []
  outMap    : NMap Nat := []
  relAt     : Bool := false
  deriving DecidableEq, Repr

/-- A frame copy in the switch (R157, R158): the frame as it will leave, its ingress and egress port, queue class, captured epoch, buffer number,
and arrival time in ns since the release of SEQ. -/
structure FrameCopy where
  frame  : Frame
  ing    : Nat
  egress : Nat
  cls    : Nat
  epoch  : Nat
  id     : Nat
  at_    : Nat
  deriving DecidableEq, Repr

/-- Colours of R182. -/
inductive Colour where
  | green | yellow | red
  deriving DecidableEq, Repr

/-- A frame stored in the cell buffer (R158): its cells, the copies left, its epoch, and its colour. -/
structure StoredFrame where
  cells  : Nat := 0
  copies : Nat := 0
  epoch  : Nat := 0
  colour : Colour := .green
  deriving DecidableEq, Repr

/-- A route-change fence (R167): the destination, the buffer number from which frames are held, and when the route changed, in ns. -/
structure Fence where
  dst   : Nat
  first : Nat
  at_   : Nat
  deriving DecidableEq, Repr

/-- A time gate of a port and class (R177, R178): open until a close beat. -/
structure GateSt where
  isOpen : Bool := false
  close  : Nat := 0
  deriving DecidableEq, Repr

/-- A token bucket (R181, R182): its tokens in units of 2^-24 byte at the SWX clock of the last update. One that is not listed is full. -/
structure Bucket where
  tokens : Nat := 0
  at_    : Nat := 0
  deriving DecidableEq, Repr

/-- A frame on its way out of an egress port (R179), times in units of 10 ps: its copy, which holds its cells until it has left (R158), its queue, its end with
the WRAP blocks in it, the close of the gate it started under, how many WRAP blocks it holds, and whether its overrun is counted. -/
structure OnAir where
  copy  : Option FrameCopy := none
  queue : Nat := 0
  stop  : Nat := 0
  close : Option Nat := none
  wraps : Nat := 0
  late  : Bool := false
  deriving DecidableEq, Repr

/-- The switch, SWX island (R156 to R186). `feeds` holds the frames of a feed at key 16 * queue + ingress port; `deficit` and `round` the deficits and
the feeds left in the round of each queue (R184); `spareOf` the epoch under which the spare slot of a table entry was current (R169), plus
one; `batch` the writes of an open batch (R170); `shorts` the segments and cycles whose shortfall is journalled (R176); `onAir` the last frame begun on each egress port, and `heldWraps` the WRAP blocks that
wait for its end, with the ports whose ALIGN waits for it (R179); `old` the values that the switch uses to the end of this beat for configuration cells of the data path written in it (R18). -/
structure SwitchSt where
  feeds   : NMap (List FrameCopy) := []
  deficit : NMap Nat := []
  round   : NMap (List Nat) := []
  stored  : NMap StoredFrame := []
  nextId  : Nat := 0
  drain   : NMap Nat := []
  gates   : NMap GateSt := []
  shapers : NMap Bucket := []
  polC    : NMap Bucket := []
  polP    : NMap Bucket := []
  fences  : List Fence := []
  batch   : Option (List (Nat × Nat)) := none
  spareOf : NMap Nat := []
  old     : NMap Nat := []
  shorts  : List (Nat × Nat) := []
  onAir   : NMap OnAir := []
  heldWraps : NMap (List (Nat × WrapBlock)) := []
  heldAligns : Nat := 0
  deriving DecidableEq, Repr

/-- The states that the PTP port takes (R305): never SLAVE. -/
inductive PtpState where
  | master
  | passive
  | listening
  | disabled
  deriving DecidableEq, Repr

/-- The PTP Instance as a message of it shows it (R305). -/
structure PtpPort where
  profile    : Nat
  domain     : Nat
  priority1  : Nat
  transport  : Nat
  utcOffset  : Int
  clockClass : Nat
  state      : PtpState
  twoStep    : Bool
  deriving DecidableEq, Repr

/-- What the block sends out: frames and blocks on its ports, answers to OD accesses, messages to the host and drives of single pins.
The list of them, newest first, is the model's own record of the block's outputs. -/
inductive Out where
  | frame (port : Nat) (f : Frame)
  | marker (p : Port) (m : Marker)
  | segment (p : Port) (g : Segment)
  | express (p : Port) (x : Express)
  | wrap (p : Port) (subtype : Nat) (b : WrapBlock)
  | hello (p : Port) (ack : Bool) (h : Hello)
  | measureReq (p : Port) (seq : Nat)
  | measureRep (p : Port) (seq turnaround : Nat)
  | path (p : Port) (etx erx : Nat)
  | align (p : Port)
  | odResponse (h : OdHdr) (msg : List Byte)
  | can (bus : Nat) (f : CanFrame)
  | msix (vector : Nat)
  | ethernet (payload : List Byte)
  | ptpStamp (sent : Bool) (stamp : Nat) (port : PtpPort)
  | hostWrite (addr : Nat) (data : List Byte)
  | hostRead (addr len tag : Nat)
  | hostCompletion (tag status : Nat) (poisoned : Bool) (data : List Byte)
  deriving DecidableEq, Repr

/-- The state of the block: every register of the object dictionary (`objs`, by object number, and `blobs` for the byte-string objects), the
state of each unit the spec gives it, the queue of commands waiting (`pending`, first in, first out), the record of outputs (`out`)
and the counter of free values taken (`free`). -/
structure State where
  mode    : Mode
  objs    : NMap Nat
  blobs   : NMap (List Byte)
  flash   : NMap Nat
  flashBlobs : NMap (List Byte)
  stores  : NMap (List Byte)
  journal : JournalSt
  seq     : SeqSt
  ports   : NMap PortSt
  ring    : RingSt
  time    : TimeSt
  pawns   : PawnsSt
  pins    : PinsSt
  od      : OdSt
  update  : UpdateSt
  repair  : RepairSt
  modes   : ModeSt
  bridge  : BridgeSt
  switch  : SwitchSt
  bus     : BusSt
  snaps   : NMap SnapSlot
  power   : PowerSt
  sleep   : SleepSt
  doze    : DozeSt
  pair    : PairSt
  out     : List Out
  free    : Nat
  pending : List Instr
  deriving DecidableEq, Repr

/-- The machine right after reset, before any power: no mode has been entered (R407 row 1), every register reads its default (R318), every
store is empty (DESIGN CHOICE where the spec gives no default, see the assumption log), the core rails are absent, and no command waits. -/
def State.reset : State where
  mode := .noPower
  objs := []
  blobs := []
  flash := []
  flashBlobs := []
  stores := []
  journal := {}
  seq := {}
  ports := []
  ring := {}
  time := {}
  pawns := {}
  pins := {}
  od := {}
  update := {}
  repair := {}
  modes := {}
  bridge := {}
  switch := {}
  bus := {}
  snaps := []
  power := { under := 7 * 2 ^ 0x10 }
  sleep := {}
  doze := {}
  pair := {}
  out := []
  free := 0
  pending := []

end Sys2Proof.Machine
end

