-- ==== Sys2Proof/Machine/Ops.lean ====
section
/-!
DEFINITION. The named operations over the state that every meaning uses: reading and writing registers, counting, taking a free value,
sending out, and raising a journal record.
-/
namespace Sys2Proof.Machine

/-- The number of a port (R128): 0 E, 1 W, 2 S0, 3 S1. -/
def portNum : Port → Nat
  | .e => 0 | .w => 1 | .s0 => 2 | .s1 => 3

/-- The port of a number (R128). -/
def portOf : Nat → Port
  | 0 => .e | 1 => .w | 2 => .s0 | _ => .s1

/-- The island code of R10. -/
def islandCode : Island → Nat
  | .aon => 0x00 | .pin => 0x01 | .pwr => 0x02
  | .ring p => 0x10 + portNum p
  | .swx => 0x18 | .seq => 0x19
  | .pwn c => 0x20 + c.val
  | .mbus => 0x28 | .hbr => 0x29 | .mgt => 0x2A

/-- The island lies on the port die (R10). -/
def onPortDie : Island → Bool
  | .aon => true | .pin => true | .pwr => true
  | _ => false

/-- The mode code of 1.000.00 (R407); no power reads as Standby does, since the OD is served in neither. -/
def modeCode : Mode → Nat
  | .noPower => 0 | .standby => 0 | .bringUp => 1 | .test => 2 | .configure => 3 | .run => 4 | .repair => 5 | .hold => 6 | .doze => 7

/-- The value an object reads (R316): what was last written, its default otherwise. -/
def State.rd (s : State) (o : Nat) : Nat := (mfind s.objs o).getD (objDefault o)

/-- Writes an object's value. -/
def State.wr (s : State) (o v : Nat) : State := { s with objs := mset (objDefault o) s.objs o v }

/-- The default of a byte-string object (R318): zeros of its length, "BX9640" for the part name. -/
def blobDefault (o : Nat) : List Byte :=
  if o = 0x000000 then [0x42, 0x58, 0x39, 0x36, 0x34, 0x30]
  else match objRow o with
    | some r => match r.range with
      | .blob lo _ => zeros lo
      | _ => []
    | none => []

/-- The bytes a byte-string object reads. -/
def State.rdB (s : State) (o : Nat) : List Byte := (mfind s.blobs o).getD (blobDefault o)

/-- Writes a byte-string object. -/
def State.wrB (s : State) (o : Nat) (v : List Byte) : State := { s with blobs := mset (blobDefault o) s.blobs o v }

/-- The next free value, `w` bits wide, for a value the spec leaves open. -/
def State.freeNat (s : State) (w : Nat) : Nat := (Config.freeValue s.free).toNat % 2 ^ w

/-- Takes a free value: the next one is another. -/
def State.tookFree (s : State) : State := { s with free := s.free + 1 }

/-- Bytes whose value the spec leaves open: eight from each free value. -/
def State.freeBytes (s : State) (n : Nat) : List Byte := (List.range n).map (fun k => BitVec.ofNat 8 ((Config.freeValue (s.free + k / 8)).toNat / 256 ^ (k % 8)))

/-- Takes the free values of `n` free bytes. -/
def State.tookFreeBytes (s : State) (n : Nat) : State := { s with free := s.free + ceilDiv n 8 }

/-- Adds to a count. What a count reads once it would pass its width the spec does not say, except where it says that the count saturates:
the value is then free. -/
def State.addTo (s : State) (o n : Nat) : State :=
  if s.rd o + n < 2 ^ objBits o then s.wr o (s.rd o + n)
  else (s.wr o (s.freeNat (objBits o))).tookFree

/-- Adds one to a count. -/
def State.inc (s : State) (o : Nat) : State := s.addTo o 1

/-- Adds to a count that saturates at the top of its width (R128, R471, R155). -/
def State.addSat (s : State) (o n : Nat) : State := s.wr o (min (s.rd o + n) (2 ^ objBits o - 1))

/-- Adds one to a count that saturates. -/
def State.incSat (s : State) (o : Nat) : State := s.addSat o 1

/-- Sends something out. -/
def State.emit (s : State) (x : Out) : State := { s with out := x :: s.out }

/-- Sends several things out, the first of the list first. -/
def State.emitAll (s : State) (xs : List Out) : State := { s with out := xs.reverse ++ s.out }

/-- One ring port's state. -/
def State.port (s : State) (p : Port) : PortSt := mget {} s.ports (portNum p)

/-- Writes one ring port's state. -/
def State.setPort (s : State) (p : Port) (x : PortSt) : State := { s with ports := mset {} s.ports (portNum p) x }

/-- The object number of area 2 port object `2.0p<grp>.<sub>` (R128). -/
def portObj (p : Port) (grp sub : Nat) : Nat := 0x200000 + portNum p * 0x1000 + grp * 0x100 + sub

/-- The node number of this hub (R8, R342). -/
def State.node (s : State) : Nat := s.rd 0x000005

/-- One beat, 32 ns, in units of 2^-16 ns (R4). -/
def beatTicks : Nat := 32 * 65536

/-- The TIME96 of a time in units of 2^-16 ns (R287). -/
def toTime96 (t : Nat) : Time96 := ⟨t / (1000000000 * 65536), t / 65536 % 1000000000, t % 65536⟩

/-- The time in units of 2^-16 ns of a TIME96 (R287). -/
def ofTime96 (t : Time96) : Nat := (t.sec * 1000000000 + t.nano) * 65536 + t.frac

/-- The TIME96 as one 96-bit number, seconds first (R287: seconds 48 bits, nanoseconds 32, fraction 16). -/
def time96Nat (t : Time96) : Nat := t.sec * 2 ^ 48 + t.nano * 2 ^ 16 + t.frac

/-- The TIME96 a 96-bit number spells. -/
def natTime96 (v : Nat) : Time96 := ⟨v / 2 ^ 48 % 2 ^ 48, v / 2 ^ 16 % 2 ^ 32, v % 2 ^ 16⟩

/-- The cycle number (R50). -/
def State.cycle (s : State) : Nat := s.rd 0x401000

/-- The current beat (R48). -/
def State.beat (s : State) : Nat := s.rd 0x401001

/-- An active feature (R338, R341): feature bit 32w + b. -/
def State.feature (s : State) (f : Nat) : Bool := (s.rd (0x001300 + f / 32)).testBit (f % 32)

/-- The island's records can be raised (R460): the port die always, the core die from its release in stage 0x6 of bring-up. -/
def State.islandLive (s : State) (i : Island) : Bool := onPortDie i || s.seq.released

/-- The journal record of an event detected at a fabric time (R459), truncated to whole nanoseconds. -/
def jrecordAt (at_ : Nat) (i : Island) (cls reason tag : Nat) : JRecord :=
  let t := toTime96 at_
  ⟨t.sec % 2 ^ 32, t.nano, 0, islandCode i, cls, reason, tag % 2 ^ 32⟩

/-- The AON-timed journal record of an event detected while the Keeper does not run (R387, R459). -/
def State.aonRecord (s : State) (i : Island) (cls reason tag : Nat) : JRecord :=
  ⟨s.modes.aonCount % 2 ^ 32, 0xFFFFFFFF, 0, islandCode i, cls, reason, tag % 2 ^ 32⟩

/-- A record lost (R463): it adds one to the overflow count of its class and to the lost count, which saturates. A record forwarded with a class that R456 does not
name has no overflow count. -/
def State.recordLost (s : State) (cls : Nat) : State := (if cls < 9 then s.inc (0xD00010 + cls) else s).incSat 0xD00007

/-- Places a record in the power log of R387: sixteen entries, the oldest kept, the rest counted in A.002.10. -/
def State.powerLog (s : State) (r : JRecord) : State :=
  let j := s.journal
  if j.plog.length < 16 then { s with journal := { j with plog := j.plog ++ [r] } }
  else { s with journal := { j with plogLost := mupd 0 j.plogLost r.cls (· + 1) } }.inc 0xA00210

/-- Posts a record (R460): into the island's posting buffer of eight records, counted as lost where it is full. -/
def State.post (s : State) (i : Island) (r : JRecord) : State :=
  let buf := mget [] s.journal.posted (islandCode i)
  if buf.length < 8 then
    { s with journal := { s.journal with posted := mset [] s.journal.posted (islandCode i) (buf ++ [r]) } }
  else s.recordLost r.cls

/-- Raises a journal record of an event that the island detects at a fabric time (R455, R459, R460): the island counts it by reason, counts it by class in D.003.0c, and posts it. While the Keeper
does not run, the records of the port die go to the power log, and its counts are added when the log is posted (R387). -/
def State.raiseAt (s : State) (at_ : Nat) (i : Island) (cls reason tag : Nat) : State :=
  if s.islandLive i then
    let s1 := s.incSat (0xD00300 + cls)
    if s.modes.keeperUp then (s1.inc (0xD00100 + reason)).post i (jrecordAt at_ i cls reason tag)
    else if onPortDie i then
      ({ s1 with journal := { s1.journal with plogCnt := mupd 0 s1.journal.plogCnt reason (· + 1) } }).powerLog
        (s.aonRecord i cls reason tag)
    else (s1.inc (0xD00100 + reason)).post i (jrecordAt at_ i cls reason tag)
  else s

/-- Raises a journal record of an event detected in this beat at no edge that its command gives: DESIGN CHOICE, its time is the start of the beat. -/
def State.raise (s : State) (i : Island) (cls reason tag : Nat) : State := s.raiseAt s.time.now i cls reason tag

/-- The accesses that the queue holds (R322), with the messages in it that no operation reads. -/
def State.odHeld (s : State) : Nat := s.od.queue.length + s.od.odd.length

/-- The OD is served (R313 and before): the Keeper runs, in a mode in which the core die is powered. -/
def State.odServed (s : State) : Bool :=
  s.modes.keeperUp &&
    (match s.mode with
     | .bringUp => true | .test => true | .configure => true | .run => true | .repair => true | .hold => true
     | _ => false)

/-- The Keeper pauses for a handover (R438): accesses and journal records wait. -/
def State.keeperPaused (s : State) : Bool :=
  match s.update.handover with
  | .paused _ _ => true
  | _ => false

/-- The core die is powered and out of reset. -/
def State.coreUp (s : State) : Bool :=
  match s.mode with
  | .bringUp => true | .test => true | .configure => true | .run => true | .repair => true | .hold => true
  | _ => false

/-- Banks can be staged and checked (R75); a part can be isolated, tested and returned (R447). -/
def State.stagingMode (s : State) : Bool := s.mode = .configure || s.mode = .run || s.mode = .repair || s.mode = .hold

/-- The transmitter of a ring port is enabled or not (R396, R403, R411, R447). -/
def State.setTransmitter (s : State) (p : Port) (on : Bool) : State := { s with ring := { s.ring with tx := setBit s.ring.tx (portNum p) on } }

/-- Beats and cycle boundaries exist (R407): from the release of the SEQ island on. -/
def State.ticking (s : State) : Bool := s.coreUp && s.seq.released

/-- A configuration cell that the data path reads and for which no chapter names a boundary of its own (R18): those of the switch that no table epoch
governs (R186), the hop counts of express events and frames, the lonely-bus threshold (7.0n0.05), the servo's settings, the bit 7 and delay of the
seal input (8.020.08, 8.020.09), and the host bridge's sizes (9.020.xx). -/
def dataCell (o : Nat) : Bool :=
  (o / 0x10000 = 0x31 && o % 0x100 ≤ 5) || (o / 0x10000 = 0x35 && o % 0x100 ≤ 7) || o / 0x10 = 0x30010 || o = 0x300004 || o = 0x300005 ||
    o / 2 = 0x102000 || o &&& 0xFF0FFF = 0x700005 || o / 4 = 0x200440 || o = 0x802008 || o = 0x802009 || o / 0x100 = 0x9020

/-- A configuration cell as the data path sees it (R18): the value it had when this beat began. -/
def State.cell (s : State) (o : Nat) : Nat := (mfind s.switch.old o).getD (s.rd o)

/-- Writes a configuration cell of the data path (R18): where no chapter names a boundary, the new value takes effect with the next beat. -/
def State.writeCell (s : State) (o v : Nat) : State :=
  let s1 := if s.ticking && (mfind s.switch.old o).isNone then { s with switch := { s.switch with old := minsert s.switch.old o (s.rd o) } } else s
  s1.wr o v

/-- The bytes of host writes that wait for the switch (R355). -/
def State.postedBytes (s : State) : Nat := (s.bridge.posted.map (fun p => p.data.length)).sum

/-- The bytes of COPYs that wait for the link (R355). -/
def State.copyBytes (s : State) : Nat := (s.bridge.copies.map (fun c => (c.writes.map (fun w => w.2.length)).sum)).sum

/-- The part code is isolated (R446): an island, by its code, in C.051.00; a controller in C.051.01. -/
def State.partIsolated (s : State) (part : Nat) : Bool :=
  if part < 0x80 then (s.rd 0xC05100).testBit part else (s.rd 0xC05101).testBit (part - 0x80)

/-- The island is out of service: isolated. -/
def State.isolated (s : State) (i : Island) : Bool := s.partIsolated (islandCode i)

/-- The bytes of a frame's header before its header check (R110): FRM_START payload, H1 and the first six bytes of H2. -/
def frameStart (f : Frame) : List Byte :=
  natBE 7 (f.dst * 2 ^ 46 + f.src * 2 ^ 36 + f.cls * 2 ^ 33 + b2n f.cm * 2 ^ 32 + f.flow * 2 ^ 12 + f.type * 2 ^ 8 + f.hops)

/-- FRM_START payload, H1 and bytes 0 to 5 of H2 (R110). -/
def frameHeader (f : Frame) : List Byte :=
  frameStart f ++ natBE 8 f.addr ++ natBE 6 (f.tag * 2 ^ 32 + f.len * 2 ^ 20 + f.outcome * 2 ^ 16 + f.fork * 2 ^ 4)

/-- The header check of R110 over a frame's header. -/
def headerCheck (f : Frame) : Nat := crc16 (frameHeader f)

/-- The bytes under the frame check (R110): the header with its check, then the payload filled with zeros to whole blocks. -/
def frameBytes (f : Frame) : List Byte :=
  frameHeader f ++ natBE 2 (headerCheck f) ++ padTo (8 * ceilDiv f.payload.length 8) f.payload

/-- The frame check of R110. -/
def frameCheck (f : Frame) : Nat := crc32c (frameBytes f)

/-- The frame with both its checks computed, as its originator sends it. -/
def sealFrame (f : Frame) : Frame := { f with hcheck := headerCheck f, fcheck := frameCheck f }

/-- A frame that this hub originates (R110, R165): source, hops and length from the hub, checks computed. -/
def State.newFrame (s : State) (dst cls flow type addr tag outcome fork : Nat) (payload : List Byte) : Frame :=
  sealFrame ⟨dst, s.node, cls, false, flow, type, s.cell 0x204001, addr, tag, payload.length, outcome, fork, payload, 0, 0⟩

/-- What the execution of an OD write answers (R323, R335): the state after it, the error code, the detail code of error 0x0A, and whether the
effect waits for a boundary or a swap. -/
structure OdRes where
  st     : State
  err    : Nat := 0
  detail : Nat := 0
  staged : Bool := false
  deriving DecidableEq, Repr

/-- The write is done. -/
def okRes (s : State) : OdRes := { st := s }

/-- The write is accepted and its effect waits (R323). -/
def stagedRes (s : State) : OdRes := { st := s, staged := true }

/-- The write is answered with an error code (R336). -/
def errRes (s : State) (e : Nat) : OdRes := { st := s, err := e }

/-- The command is refused with a detail code (R336: 0x0A). -/
def refusedRes (s : State) (d : Nat) : OdRes := { st := s, err := 0x0A, detail := d }

end Sys2Proof.Machine
end

