-- ==== Sys2Proof/Machine/Sequencer.lean ====
section
/-!
DEFINITION. The sequencer's working parts (R31 to R37, R48 to R74): the active bank, the process images and their ports, the judging of
records, and which moves are due and how they are executed.
-/
namespace Sys2Proof.Machine

/-- The number of the active bank, 0xFF for none (R82). -/
def State.activeNum (s : State) : Nat := s.rd 0x400000

/-- A table bank is active (R75). -/
def State.hasBank (s : State) : Bool := s.activeNum == 0 || s.activeNum == 1

/-- The active bank; empty while none is active. -/
def State.activeBank (s : State) : Bank :=
  if s.activeNum = 0 then s.seq.bank0 else if s.activeNum = 1 then s.seq.bank1 else Bank.empty

/-- The bank of a cycle, this one or earlier (R42, R95, R107): the active bank since its first cycle, and before it the one it followed. -/
def State.bankOf (s : State) (cycle : Nat) : Bank := if !s.hasBank || cycle < s.seq.since then s.seq.oldBank else s.activeBank

/-- The number of the staged bank (R75, R436): bank 0 while none is active. -/
def State.stagedNum (s : State) : Nat := if s.activeNum = 0 then 1 else 0

/-- The staged bank (R75). -/
def State.stagedBank (s : State) : Bank := if s.stagedNum = 0 then s.seq.bank0 else s.seq.bank1

/-- Writes the staged bank's contents. -/
def State.setStaged (s : State) (b : Bank) : State :=
  if s.stagedNum = 0 then { s with seq := { s.seq with bank0 := b } } else { s with seq := { s.seq with bank1 := b } }

/-- The length of the current cycle in beats: the active bank's, 1,024 while none is active (R299, R407). -/
def State.cycleLen (s : State) : Nat := if s.hasBank then s.rd 0x400002 else 1024

/-- The record declarations of the active bank. -/
def State.records (s : State) : List RecDecl := bankRecordList s.activeBank

/-- The moves of the active bank. -/
def State.moves (s : State) : List MoveRec := bankMoveList s.activeBank

/-- One process image. -/
def State.image (s : State) : ImageSel → Image
  | .input => s.seq.input
  | .output => s.seq.output

/-- Writes one process image. -/
def State.setImage (s : State) (sel : ImageSel) (x : Image) : State :=
  match sel with
  | .input => { s with seq := { s.seq with input := x } }
  | .output => { s with seq := { s.seq with output := x } }

/-- The canonical form of a memory (R73): addresses strictly rising, and no byte listed that reads as zero, which is what an unlisted one reads as. -/
def Memory.wf (m : Memory) : Bool := mwf 0 m

/-- Reads `n` bytes of a memory from an offset. -/
def memRead (m : Memory) (o n : Nat) : List Byte := (List.range n).map (fun k => mget 0 m (o + k))

/-- Writes bytes into a memory from an offset. -/
def memWrite (m : Memory) (o : Nat) : List Byte → Memory
  | [] => m
  | b :: t => memWrite (mset 0 m o b) (o + 1) t

/-- The code of a record state (R32). -/
def stateCode : RecState → Nat
  | .fresh => 0 | .held => 1 | .late => 2 | .missing => 3

/-- The state a consumer gives a record received in time (R36): fresh stays fresh, anything else is held. -/
def carriedState : RecState → RecState
  | .fresh => .fresh
  | _ => .held

/-- The state of several words taken together: fresh only where every one is. -/
def joinStates (l : List RecState) : RecState := if l.all (fun x => x == .fresh) then .fresh else .held

/-- What the working bank keeps of record `i`. -/
def State.recLive (s : State) (i : Nat) : RecLive := s.seq.recs.getD i {}

/-- Writes what the working bank keeps of record `i`. -/
def State.setRecLive (s : State) (i : Nat) (r : RecLive) : State := { s with seq := { s.seq with recs := s.seq.recs.set i r } }

/-- The index of the declared record that covers a word, or none: a single-buffered word (R73). -/
def State.recordAt (s : State) (sel : ImageSel) (a : Nat) : Option Nat := s.records.findIdx? (fun r => r.covers sel a)

/-- The state of the word at an offset in the working bank (R38, R71): a single-buffered word counts as fresh. -/
def State.wordState (s : State) (sel : ImageSel) (a : Nat) : RecState :=
  match s.recordAt sel a with
  | some i => (s.recLive i).state
  | none => .fresh

/-- Writes one byte at the arrival port (R69, R73): into the working bank for a word of a record whose release boundary has not passed, into
both banks for a single-buffered word, nowhere for a record already released (R34). -/
def State.arriveByte (s : State) (sel : ImageSel) (a : Nat) (v : Byte) : State :=
  let im := s.image sel
  match s.recordAt sel a with
  | some i =>
    if (s.recLive i).released then s
    else s.setImage sel { im with working := mset 0 im.working a v }
  | none => s.setImage sel { im with working := mset 0 im.working a v, completed := mset 0 im.completed a v }

/-- Writes bytes at the arrival port from an offset. -/
def State.arriveBytes (s : State) (sel : ImageSel) (o : Nat) : List Byte → State
  | [] => s
  | v :: t => (s.arriveByte sel o v).arriveBytes sel (o + 1) t

/-- The item tag of a journal record about record `r` in the current cycle (R457). -/
def State.recTag (s : State) (r : RecDecl) : Nat :=
  r.off * 2 ^ 16 + (match r.img with | .input => 0 | .output => 2 ^ 15) + 2 ^ 8 + s.cycle % 256

/-- Record `i` departs from fresh on this node (R37): journalled once per record and cycle with a reason; 0xFF marks a departure that
another node reports. PIN, whose edge sampler sees it, detects a setup violation (R26); SEQ, whose image port compares, the others (R33). -/
def State.depart (s : State) (i reason : Nat) : State :=
  let r := s.recLive i
  if r.reason ≠ 0 then s
  else
    let s1 := s.setRecLive i { r with reason := reason }
    match s.records[i]? with
    | some d => if reason = 0xFF then s1 else s1.raise (if reason = 0x03 then .pin else .seq) 0x01 reason (s.recTag d)
    | none => s1

/-- The substitute of record `i` (R35, R72): under hold-last its last fresh value, once the record has had one since its bank became active;
otherwise its safe value. DEDUCED: where the last delivered value, which R72 names, was not fresh, R35 governs (R2). -/
def State.substitute (s : State) (i : Nat) : List Byte :=
  match s.records[i]? with
  | some d =>
    if d.policy = 0 && (s.recLive i).hadFresh then (s.recLive i).last
    else bankSafeValue s.activeBank d
  | none => []

/-- Writes record `i`'s substitute into the working bank. -/
def State.writeSubstitute (s : State) (i : Nat) : State :=
  match s.records[i]? with
  | some d => let im := s.image d.img
              s.setImage d.img { im with working := memWrite im.working d.off (s.substitute i) }
  | none => s

/-- A write reaches record `i` at its arrival port (R33, R34, R36): in time it gives the record the state `st`, worse states of the same
cycle standing; at or after the release boundary the record becomes late. -/
def State.noteArrival (s : State) (i : Nat) (st : RecState) (reason : Nat) : State :=
  let r := s.recLive i
  if r.released then
    if r.arrived then s
    else (s.setRecLive i { r with state := .late, arrived := true }).depart i 0x01
  else
    let st' := if r.arrived && r.state != .fresh then r.state else st
    let s1 := s.setRecLive i { r with state := st', arrived := true }
    if reason = 0 then s1 else s1.depart i reason

/-- The indices of the declared records that overlap `n` bytes at offset `o`. -/
def State.recordsIn (s : State) (sel : ImageSel) (o n : Nat) : List Nat :=
  (s.records.zipIdx.filter (fun e => e.1.overlaps sel o n)).map (·.2)

/-- Bytes reach an image at its arrival port (R33, R69): the bytes in time are written, and every record touched is judged. -/
def State.imgArrive (s : State) (sel : ImageSel) (o : Nat) (v : List Byte) (st : RecState) (reason : Nat) : State :=
  (s.recordsIn sel o v.length).foldl (fun s i => s.noteArrival i st reason) (s.arriveBytes sel o v)

/-- Record `i` is produced in hold (R65): its substitute is written, and its state is late, or missing where R41 applies. -/
def State.produceHeld (s : State) (st : RecState) (reason i : Nat) : State :=
  let r := s.recLive i
  if r.released || r.arrived then s
  else ((s.writeSubstitute i).setRecLive i { r with state := st, arrived := true }).depart i reason

/-- Every record in `n` bytes at offset `o` is produced in hold. -/
def State.holdRange (s : State) (sel : ImageSel) (o n : Nat) (st : RecState) (reason : Nat) : State :=
  (s.recordsIn sel o n).foldl (fun s i => s.produceHeld st reason i) s

/-- The bytes of an image that a move reads (R54, R69): the image, the offset and the length. -/
def moveReads (m : MoveRec) : Option (ImageSel × Nat × Nat) :=
  if m.act = 0x02 then some (.output, bits m.a 15 0, 8)
  else if m.act = 0x06 then some (.output, bits m.a 31 16, bits m.b 6 0)
  else if m.act = 0x03 && bits m.a 31 30 = 0 then some (.input, bits m.a 15 0, 4 * (bits m.a 27 16 + 1))
  else if m.act = 0x03 && bits m.a 31 30 = 1 then some (.output, bits m.a 15 0, 4 * (bits m.a 27 16 + 1))
  else none

/-- The bytes of an image that a move writes (R54): the image, the offset and the length. -/
def moveWrites (m : MoveRec) : Option (ImageSel × Nat × Nat) :=
  if m.act = 0x01 then some (.input, bits m.a 15 0, 8)
  else if m.act = 0x07 then some (.input, bits m.a 31 16, bits m.b 6 0 + (if bit m.b 8 then 8 else 0))
  else if m.act = 0x03 && bits m.a 29 28 = 0 then some (.input, bits m.b 15 0, 4 * (bits m.a 27 16 + 1))
  else if m.act = 0x03 && bits m.a 29 28 = 1 then some (.output, bits m.b 15 0, 4 * (bits m.a 27 16 + 1))
  else none

/-- The SEQ clocks that a move occupies the move port of an image (R69): the reads of APPLY, TXOBJ and COPY sources, and the writes of
COPY between images. -/
def portClocks (sel : ImageSel) (m : MoveRec) : Nat :=
  let rd := match moveReads m with
    | some (x, _, n) => if x = sel then ceilDiv n 8 else 0
    | none => 0
  let wr := if m.act = 0x03 && decide (bits m.a 31 30 ≤ 1) && decide (bits m.a 29 28 ≤ 1) then
      (match moveWrites m with | some (x, _, n) => if x = sel then ceilDiv n 8 else 0 | none => 0) else 0
  rd + wr

/-- A move consumes a record: it reads bytes of it. -/
def consumes (m : MoveRec) (r : RecDecl) : Bool :=
  match moveReads m with
  | some (sel, o, n) => r.overlaps sel o n
  | none => false

/-- A move produces a record: it writes bytes of it. -/
def produces (m : MoveRec) (r : RecDecl) : Bool :=
  match moveWrites m with
  | some (sel, o, n) => r.overlaps sel o n
  | none => false

/-- The extract entries of a bank that write a record. -/
def extractsInto (b : Bank) (r : RecDecl) : List LayoutRec :=
  (bankLayoutList b).filter (fun e => e.kind = 3 && r.overlaps .input e.imgOff (4 * e.words))

/-- Records are produced and judged (R408): a bank is active and the mode is Run, Repair or Hold. -/
def State.judging (s : State) : Bool :=
  s.hasBank && (match s.mode with | .run => true | .repair => true | .hold => true | _ => false)

/-- The release boundary of record `i` passes (R33, R72): with no in-time write the image port writes the substitute. -/
def State.releaseRecord (s : State) (i : Nat) : State :=
  let s1 := if (s.recLive i).arrived then s else s.writeSubstitute i
  s1.setRecLive i { s1.recLive i with released := true }

/-- The records whose release boundary is the start of beat `beat` pass it (R33): their first consumer move stands in that beat. -/
def State.releaseAt (s : State) (beat : Nat) : State :=
  if s.judging then
    let here := s.moves.filter (fun m => decide (m.beat = beat))
    let before := s.moves.filter (fun m => decide (m.beat < beat))
    if here.isEmpty then s
    else s.records.zipIdx.foldl
      (fun t e => if here.any (fun m => consumes m e.1) && !(before.any (fun m => consumes m e.1)) then t.releaseRecord e.2 else t) s
  else s

/-- The island of a group code (R52); PWN is executed cluster by cluster. -/
def groupIsland (g : Nat) : Nat :=
  match g with
  | 0 => 0x19 | 1 => 0x01 | 2 => 0x10 | 3 => 0x11 | 4 => 0x12 | 5 => 0x13 | 6 => 0x18 | 7 => 0x20 | 8 => 0x28 | _ => 0x29

/-- A condition fails: its bit of 4.080.01 is set and latches (R40, R46, R47). -/
def State.latchFailure (s : State) (n : Nat) : State := s.wr 0x408001 (setBit (s.rd 0x408001) n true)

/-- The conditions are monitored and their outcomes applied (R24): in Run and Repair, whenever a table bank is active. -/
def State.monitoring (s : State) : Bool := s.hasBank && (s.mode = .run || s.mode = .repair)

/-- How a move is executed. -/
inductive Disp where
  | normal
  | inHold (st : RecState) (reason : Nat)
  deriving DecidableEq, Repr

/-- The hub is one of a redundant pair (R140, R341: feature 0.2). -/
def State.inPair (s : State) : Bool := s.feature 2 && s.rd 0x208100 != 0

/-- The hub may speak for its service (R140, R141): it is in no pair, or its role is active. -/
def State.speaksService (s : State) : Bool := !s.inPair || s.rd 0x208200 = 1

/-- Every move is executed in hold: in Hold (R408), under a failed time condition (R40), or in the pair role holding (R151). -/
def State.globalHold (s : State) : Disp :=
  if s.mode = .hold then .inHold .late 0x01
  else if s.seq.timeHold then .inHold .late 0x05
  else if s.rd 0x208200 = 2 && s.inPair then .inHold .late 0x01
  else .normal

/-- How moves that address an island are executed (R31, R41): in hold where it is isolated, or flagged since the last boundary while the envelope is
monitored (R24). -/
def State.islandDisp (s : State) (code : Nat) : Disp :=
  if s.partIsolated code then .inHold .missing 0x07
  else if s.monitoring && s.seq.heldMask.testBit code then .inHold .late 0x04
  else .normal

/-- The first of two dispositions that is not normal. -/
def Disp.orElse : Disp → Disp → Disp
  | .normal, d => d
  | d, _ => d

/-- How a move of a group other than PWN is executed (R31, R40, R52, R65): a COPY also addresses the SEQ island. -/
def State.moveDisp (s : State) (m : MoveRec) : Disp :=
  ((s.islandDisp (groupIsland m.grp)).orElse s.globalHold).orElse (if m.act = 0x03 then s.islandDisp 0x19 else .normal)

/-- How a PWN move is executed at one cluster (R52). -/
def State.clusterDisp (s : State) (m : MoveRec) (c : Nat) : Disp :=
  ((s.islandDisp (0x20 + c)).orElse s.globalHold).orElse (if m.act = 0x03 then s.islandDisp 0x19 else .normal)

/-- How a move that names bus controller `n` is executed (R41, R447, R52): a controller can be isolated on its own, which comes before every other
reason. -/
def State.controllerDisp (s : State) (m : MoveRec) (n : Nat) : Disp :=
  if s.partIsolated (0x80 + n) then .inHold .missing 0x07 else s.moveDisp m

/-- How a NOPM, MARK or SEAL is executed (R52, R65): a NOPM of group PWN names no cluster. -/
def State.plainDisp (s : State) (m : MoveRec) : Disp := if m.grp = 7 then s.globalHold else s.moveDisp m

/-- The records that an island produces are withheld to the end of this cycle (R31): its VDDC or temperature left the envelope. -/
def State.withheldAt (s : State) (code : Nat) : Bool := s.seq.withheld.testBit code

/-- One island executes both moves (R52, R68): they are of one group, or both reach the SEQ island, as those of group SEQ and every COPY do. -/
def sameIsland (a b : MoveRec) : Bool := a.grp == b.grp || ((a.grp == 0 || a.act == 0x03) && (b.grp == 0 || b.act == 0x03))

/-- One move port serves both moves (R69). -/
def samePort (a b : MoveRec) : Bool :=
  [ImageSel.input, .output].any (fun sel => decide (0 < portClocks sel a) && decide (0 < portClocks sel b))

/-- The move of index `i` of the active bank is executed now (R67 to R69): it is due in this beat, its action is `act`, and no earlier due move waits
that the same island executes or the same move port serves. -/
def State.moveDue (s : State) (i act : Nat) : Option MoveRec :=
  match s.moves[i]? with
  | some m =>
    if m.act = act && s.seq.due.contains i &&
        (s.seq.due.takeWhile (fun j => j != i)).all
          (fun j => match s.moves[j]? with | some k => !(sameIsland k m) && !(samePort k m) | none => true)
    then some m else none
  | none => none

/-- The move of index `i` has been executed. -/
def State.moveDone (s : State) (i : Nat) : State := { s with seq := { s.seq with due := s.seq.due.filter (fun j => j != i) } }

/-- A move executed in hold counts in 4.010.02 (R82). -/
def State.countHold (s : State) (d : Disp) : State :=
  match d with
  | .normal => s
  | .inHold _ _ => s.inc 0x401002

/-- The moves of the active bank at beat `beat` that are issued (R408): all of them in Run, Repair and Hold, only MARK in Configure. -/
def State.dueAt (s : State) (beat : Nat) : List Nat :=
  if s.hasBank then
    (s.moves.zipIdx.filter (fun e => decide (e.1.beat = beat) && (s.judging || (s.mode = .configure && e.1.act = 0x09)))).map (·.2)
  else []

end Sys2Proof.Machine
end

