-- ==== Sys2Proof/Machine/LoadCheck.lean ====
section
/-!
DEFINITION. The load check of a staged bank (R44, R49 to R57, R66 to R70, R76, R77, R81, R104, R108, R109, R254, R495): a list of tests in the
order of R76, each giving an error code of R81 or none; the first error found is the answer.
-/
namespace Sys2Proof.Machine

/-- One finding of the load check: the error code of R81, the failing move index, and the failing train layout entry. -/
structure CheckError where
  code  : Nat
  move  : Nat
  entry : Nat
  deriving DecidableEq, Repr

/-- The error code `c` when a test fails. -/
def failIf (b : Bool) (c : Nat) : Option Nat := if b then some c else none

/-- The first error of a list of tests. -/
def firstErr (l : List (Option Nat)) : Option Nat := l.findSome? id

/-- The index of the first element of a list that a test picks; the test sees the index too. -/
def firstAt {α : Type} (f : Nat → α → Bool) (l : List α) : Option Nat := (l.zipIdx.find? (fun e => f e.2 e.1)).map (·.2)

/-- A cycle length is valid (R49). -/
def validCycleLen (n : Nat) : Bool := n % 256 = 0 && decide (1024 ≤ n) && decide (n ≤ 1048576)

/-- An action is permitted in a group (R53), COPY combinations apart. -/
def actionInGroup (act grp : Nat) : Bool :=
  match act with
  | 0x00 => decide (grp ≤ 9)
  | 0x01 => grp == 1
  | 0x02 => grp == 1
  | 0x03 => grp == 0 || (decide (2 ≤ grp) && decide (grp ≤ 5)) || grp == 7 || grp == 9
  | 0x04 => grp == 7
  | 0x05 => grp == 6
  | 0x06 => grp == 8
  | 0x07 => grp == 8
  | _ => grp == 0

/-- A COPY joins a pawn FIFO to something other than an image (R57): error 0x11. -/
def copyFifoOnly (m : MoveRec) : Bool :=
  let src := bits m.a 31 30
  let dst := bits m.a 29 28
  src = 2 && decide (2 ≤ dst)

/-- A port transmits a segment in a bank: it originates it or inserts into it (R57, R105). -/
def transmitsSegment (b : Bank) (port seg : Nat) : Bool :=
  (bankLayoutList b).any (fun e => (e.kind = 2 || e.kind = 4) && e.port = port && e.seg = seg)

/-- A COPY combination that its group carries (R57): a ring group's segment is one transmitted on its own port. -/
def copyInGroup (bk : Bank) (m : MoveRec) : Bool :=
  let src := bits m.a 31 30
  let dst := bits m.a 29 28
  if m.grp = 0 then decide (src ≤ 1) && decide (dst ≤ 1)
  else if 2 ≤ m.grp && m.grp ≤ 5 then decide (src ≤ 1) && dst = 2 && transmitsSegment bk (m.grp - 2) (bits m.b 27 16)
  else if m.grp = 7 then (decide (src ≤ 1) && dst = 3) || (src = 2 && decide (dst ≤ 1))
  else if m.grp = 9 then decide (src ≤ 1) && dst = 3
  else false

/-- The contract record marks an island as used (R43): one of the 20 entries of 8 bytes at 0x060. -/
def contractUses (b : Bank) (code : Nat) : Bool :=
  (List.range 20).any (fun k => leField b.contract (0x060 + 8 * k) 1 = code && bit (leField b.contract (0x061 + 8 * k) 1) 0)

/-- The cluster of the FIFO end that a COPY names, or none. -/
def copyFifoCluster (m : MoveRec) : Option Nat :=
  if m.act = 0x03 && (bits m.a 31 30 = 2 || (m.grp = 7 && bits m.a 29 28 = 3)) then some (bits m.b 62 60) else none

/-- The operand bits of a move that R54 does not list are zero, its offsets are aligned, and its regions lie within the image (R54, R81
code 0x07); the pawn number is listed wherever an end is a FIFO. DESIGN CHOICE: a reserved SAMPLE mode, a quad above 3, a reserved GATE egress port and a byte count above
64, for which R81 names no code, are reserved operand bits too. DESIGN CHOICE: a byte offset in a ring segment, for which R54 states neither alignment
nor bound, is a multiple of 4 and ends with its length within 8,192 bytes, as R108 lays segments out. -/
def operandsOk (bk : Bank) (m : MoveRec) : Bool :=
  match m.act with
  | 0x00 => m.a = 0 && m.b = 0
  | 0x01 => bits m.a 31 24 = 0 && decide (bits m.a 23 20 ≤ 2) && decide (bits m.a 19 16 ≤ 3) && bits m.a 15 0 % 8 = 0
  | 0x02 => bits m.a 31 20 = 0 && decide (bits m.a 19 16 ≤ 3) && bits m.a 15 0 % 8 = 0
  | 0x03 =>
    let len := 4 * (bits m.a 27 16 + 1)
    let src := bits m.a 31 30
    let dst := bits m.a 29 28
    let fifo := src = 2 || (dst = 3 && m.grp = 7)
    let high := if fifo then bit m.b 63 = false else bits m.b 63 56 = 0
    src != 3 && bits m.a 15 0 % 4 = 0 && (src = 2 || decide (bits m.a 15 0 + len ≤ 65536)) &&
    high &&
    (if dst ≤ 1 then bits m.b 15 0 % 4 = 0 && decide (bits m.b 15 0 + len ≤ 65536) && bits m.b 55 16 = 0
     else if dst = 2 then bits m.b 55 28 = 0 && bits m.b 15 0 % 4 = 0 && decide (bits m.b 15 0 + len ≤ 8192)
     else if m.grp = 7 then bits m.b 55 0 = 0
     else bits m.b 55 51 = 0) &&
    (match copyFifoCluster m with | some c => contractUses bk (0x20 + c) | none => true)
  | 0x04 => bits m.a 31 24 = 0 && bits m.b 63 9 = 0 && bits m.b 7 6 = 0
  | 0x05 => bits m.a 31 17 = 0 && bits m.a 7 4 = 0 && decide (bits m.a 3 0 ≤ 8) && bits m.b 63 20 = 0 &&
      (bit m.a 16 || m.b = 0)
  | 0x06 => bit m.a 15 = false && bits m.a 7 3 = 0 && bits m.a 31 16 % 4 = 0 && bits m.b 63 7 = 0 && decide (bits m.b 6 0 ≤ 64) &&
      decide (bits m.a 31 16 + bits m.b 6 0 ≤ 65536)
  | 0x07 => bit m.a 15 = false && bits m.a 7 3 = 0 && bits m.a 31 16 % 4 = 0 && bits m.b 63 9 = 0 && bit m.b 7 = false &&
      decide (bits m.b 6 0 ≤ 64) && decide (bits m.a 31 16 + bits m.b 6 0 + (if bit m.b 8 then 8 else 0) ≤ 65536)
  | 0x08 => bits m.a 31 2 = 0
  | 0x09 => bits m.a 31 4 = 0 && m.b = 0
  | _ => true

/-- The checks that concern one move alone, in ascending code order (R76 step 1). `prev` is the beat of the move before it, and
`marked` says that a MARK stood before. -/
def moveError (bk : Bank) (len : Nat) (marked : Bool) (prev : Nat) (m : MoveRec) : Option Nat :=
  firstErr
    [ failIf (decide (len ≤ m.beat)) 0x03
    , failIf (decide (m.beat < prev)) 0x04
    , failIf (decide (9 < m.grp) || decide (9 < m.act)) 0x05
    , failIf (!(actionInGroup m.act m.grp) ||
        (m.act == 0x03 && !(copyFifoOnly m) && bits m.a 31 30 != 3 && !(copyInGroup bk m))) 0x06
    , failIf (!(operandsOk bk m)) 0x07
    , failIf (m.act == 0x09 && (marked || m.beat != 0 || m.grp != 0)) 0x08
    , failIf (m.act == 0x03 && copyFifoOnly m) 0x11 ]

/-- The first move error of a table, with the move's index; `marked` says that a MARK stood before. DESIGN CHOICE: a table without a MARK (R63), which R76
does not place in its order, fails at the end of step 1 with move index 0. -/
def movesError (bk : Bank) (len : Nat) : Bool → Nat → Nat → List MoveRec → Option CheckError
  | marked, _, _, [] => if marked then none else some ⟨0x08, 0, 0⟩
  | marked, i, prev, m :: t =>
    match moveError bk len marked prev m with
    | some c => some ⟨c, i, 0⟩
    | none => movesError bk len (marked || m.act == 0x09) (i + 1) m.beat t

/-- The blocks a segment of P payload blocks occupies (R101). -/
def segmentBlocks (p : Nat) : Nat := p + 3 + ceilDiv p 16

/-- A beat lies at or after `a` and before `b` counted from `a` modulo the cycle length: the length of the span from `a` to `b`. -/
def spanBeats (len a b : Nat) : Nat := (b + len - a % len) % len

/-- The port on which the markers are forwarded by which an extracting port is judged (R98, R99): E and W cross over; in the middle of a sub-ring chain, whose
layout uses neither and gives the other spur regions, the other spur; at its far end the port itself. -/
def forwardPort (bk : Bank) (p : Nat) : Nat :=
  if p = 0 then 1
  else if p = 1 then 0
  else if (bankRegions bk 0).isNone && (bankRegions bk 1).isNone && (bankRegions bk (5 - p)).isSome then 5 - p
  else p

/-- An insertion runs past the payload of a segment that the port originates (R109). -/
def pastSegment (bk : Bank) (e : LayoutRec) : Bool :=
  (bankLayoutList bk).any (fun o => o.kind = 2 && o.port = e.port && o.seg = e.seg && decide (8 * o.p < e.off + 4 * e.words))

/-- The regions entries of a port are as R109 asks of entry `i`: it is the port's first, or the port that it needs one on has one. -/
def regionsOk (bk : Bank) (i : Nat) (e : LayoutRec) : Bool :=
  let l := bankLayoutList bk
  if e.kind = 1 then !((l.take i).any (fun o => o.kind = 1 && o.port = e.port))
  else l.any (fun o => o.kind = 1 && o.port = (if e.kind = 3 then forwardPort bk e.port else e.port))

/-- The checks of train layout entry `i` (R109), in ascending code order. -/
def layoutError (bk : Bank) (len i : Nat) (e : LayoutRec) : Option Nat :=
  if e.kind = 1 then
    firstErr
      [ failIf (decide (len ≤ e.m) || decide (len ≤ e.w) || decide (len ≤ e.t) || decide (len ≤ e.g)) 0x03
      , failIf (e.rsv != 0 || bits e.v 39 0 != 0 || !(regionsOk bk i e)) 0x07
      , failIf (decide (spanBeats len e.g e.m < 4)) 0x0C ]
  else if e.kind = 2 then
    firstErr
      [ failIf (e.rsv != 0 || bits e.v 59 0 != 0 || !(regionsOk bk i e)) 0x07
      , match bankRegions bk e.port with
        | some r => failIf (decide (spanBeats len r.m r.t * 25 <
            spanBeats len r.m e.depart * 25 + ceilDiv (segmentBlocks e.p * 128) 124 + 8)) 0x0C
        | none => none ]
  else if e.kind = 3 then
    failIf (e.rsv != 0 || bits e.v 43 0 != 0 || e.off % 4 != 0 || e.imgOff % 4 != 0 || decide (8192 < e.off + 4 * e.words) ||
      decide (65536 < e.imgOff + 4 * e.words) || !(regionsOk bk i e)) 0x07
  else if e.kind = 4 then
    failIf (e.rsv != 0 || bits e.v 79 0 != 0 || e.off % 4 != 0 || decide (8192 < e.off + 4 * e.words) || pastSegment bk e || !(regionsOk bk i e)) 0x07
  else some 0x05

/-- The first layout entry error, with the entry's index. -/
def layoutErrors (bk : Bank) (len : Nat) : Nat → List LayoutRec → Option CheckError
  | _, [] => none
  | i, e :: t =>
    match layoutError bk len i e with
    | some c => some ⟨c, 0, i⟩
    | none => layoutErrors bk len (i + 1) t

/-- The limits of R109 per port over the first entries of a layout: 256 originate entries, 1,024 extract and insert entries, 16 KiB of insertion
buffers. -/
def layoutWithin (l : List LayoutRec) : Bool :=
  (List.range 4).all (fun p =>
    let o : List LayoutRec := l.filter (fun e => e.kind = 2 && e.port = p)
    let x : List LayoutRec := l.filter (fun e => (e.kind = 3 || e.kind = 4) && e.port = p)
    let ins : List LayoutRec := x.filter (fun e => e.kind = 4)
    let held : Nat := (o.map (fun e => 8 * e.p)).sum + (ins.map (fun e => 4 * e.words)).sum
    decide (o.length ≤ 256) && decide (x.length ≤ 1024) && decide (held ≤ 16384))

/-- The first layout entry with which a limit of R109 is exceeded. -/
def layoutLimit (bk : Bank) : Option Nat :=
  let l := bankLayoutList bk
  if layoutWithin l then none else (List.range l.length).find? (fun k => !(layoutWithin (l.take (k + 1))))

/-- One entry of the crossbar map's line source table is right (R254). -/
def lineSourceError (v : Nat) : Option Nat :=
  firstErr [ failIf (bit v 15 && bits v 14 13 = 0) 0x07, failIf (bits v 12 8 != 0) 0x07 ]

/-- One crossbar rule is right (R254, R255): 0x05 for a reserved kind or release mode, 0x07 for reserved bits and a cluster above 7. -/
def ruleError (v : Nat) : Option Nat :=
  let kind := bits v 56 54
  let rel := bits v 53 52
  firstErr
    [ failIf (bit v 63 && (kind = 0 || decide (5 < kind))) 0x05
    , failIf (rel = 3) 0x05
    , failIf (bits v 45 44 != 0 || bits v 39 32 != 0) 0x07
    , failIf (bit v 63 && decide (3 ≤ kind) && (rel != 0 || bits v 51 46 != 0)) 0x07
    , failIf (bit v 63 && kind = 3 && decide (7 < bits v 43 40)) 0x07
    , failIf (bit v 63 && ((kind = 4 && bits v 15 12 != 0) || ((kind = 2 || kind = 3 || kind = 5) && bits v 15 0 != 0))) 0x07 ]

/-- The checks of the crossbar map (R254): its length, line sources, inbound map and rules, entry by entry. -/
def crossbarError (bk : Bank) : Option Nat :=
  if bk.crossbar = [] then none
  else if bk.crossbar.length ≠ 6272 then some 0x07
  else firstErr
    [ (List.range 64).findSome? (fun k => lineSourceError (leField bk.crossbar (2 * k) 2))
    , (List.range 4096).findSome? (fun k => failIf (bit (leField bk.crossbar (0x80 + k) 1) 6) 0x07)
    , (List.range 256).findSome? (fun k => ruleError (leField bk.crossbar (0x1080 + 8 * k) 8)) ]

/-- A divider value is allowed (R194): N from 1, bits [31:24] zero. -/
def dividerOk (v : Nat) : Bool := bits v 31 24 = 0 && bits v 23 8 != 0

/-- A timeout register value is allowed (R202): count from 1, bits [31:20] zero. -/
def timeoutOk (v : Nat) : Bool := bits v 31 20 = 0 && bits v 15 0 != 0

/-- The enabled output slots of a slot map name the pin (R191). -/
def slotDrives (slot pin : Nat) : Bool := bit slot 7 && bit slot 6 && bits slot 4 0 = pin

/-- The checks of one pawn program entry (R495); bit 15 of its swap word needs feature bit 2.3, as in 5.0pp.21. -/
def programError (s : State) (l : List Byte) : Option Nat :=
  let p := parseProgram l
  failIf (leField l 0 2 != p.pawn || leField l 2 2 != 0 || p.slotMap.any (fun b => bit b 5) || !(dividerOk p.divider) ||
    p.touts.any (fun v => !(timeoutOk v)) || bits p.swap 14 6 != 0 || (bit p.swap 15 && !(s.feature 67)) || leField l 290 6 != 0) 0x07

/-- The pawn programs name each pawn at most once, in ascending order (R495). -/
def programsAscend : List ProgramRec → Bool
  | [] => true
  | [_] => true
  | a :: b :: t => decide (a.pawn < b.pawn) && programsAscend (b :: t)

/-- No pin of a cluster gets two enabled output slots from the programs of a list (R192). -/
def outputSlotsOk (ps : List ProgramRec) : Bool :=
  (List.range 8).all (fun c => (List.range 32).all (fun pin =>
    decide (((ps.filter (fun p => p.pawn / 16 = c)).map (fun p => (p.slotMap.filter (fun b => slotDrives b pin)).length)).sum ≤ 1)))

/-- The pin number of a cluster pin index (R187): 16b + p. -/
def clusterPin (c i : Nat) : Nat := 32 * c + i

/-- The slot bytes a pawn has with a bank: those of its program, or those in force where the bank loads none. -/
def slotsWith (s : State) (bk : Bank) (q : Nat) : List Nat :=
  match (bankProgramList bk).find? (fun p => p.pawn = q) with
  | some p => p.slotMap
  | none => (List.range 8).map (mget 0 (mget {} s.pawns.pawns q).slots)

/-- The pins that enabled output slots of the pawns name with a bank (R56, R191). -/
def slotPins (s : State) (bk : Bank) : List Nat :=
  (List.range 128).flatMap (fun q => ((slotsWith s bk q).filter (fun b => bit b 7 && bit b 6)).map (fun b => clusterPin (q / 16) (bits b 4 0)))

/-- The pins of an APPLY's mask (R54). -/
def applyPins (m : MoveRec) : List Nat := (List.range 64).filterMap (fun k => if bit m.b k then some (64 * bits m.a 19 16 + k) else none)

/-- The checks of the gate list entries (R495), each alone. -/
def gateEntryError (g : GateRec) : Option Nat := failIf (decide (8 < g.port) || g.rsv != 0) 0x07

/-- The class masks that the GATE moves of a table name for a port. -/
def gateMoveMask (ms : List MoveRec) (port : Nat) : Nat :=
  (ms.filter (fun m => m.act = 0x05 && bits m.a 3 0 = port)).foldl (fun acc m => acc ||| bits m.a 15 8) 0

/-- The gate list names exactly the pairs of port and class of the GATE moves, once for each port (R495). -/
def gateListOk (bk : Bank) : Bool :=
  let ms := bankMoveList bk
  (List.range 9).all (fun p =>
    let named := (bankGateList bk).filter (fun g => g.port = p)
    decide (named.length ≤ 1) && ((named.map (fun g => g.mask)).sum == gateMoveMask ms p))

/-- The GATE moves of a table that open or close one pair of port and class, with their indices (R59). -/
def pairMoves (ms : List MoveRec) (port cls : Nat) : List (MoveRec × Nat) :=
  ms.zipIdx.filter (fun e => e.1.act = 0x05 && bits e.1.a 3 0 = port && bit e.1.a (8 + cls))

/-- The first GATE move of a pair, in the order of the cycle, that opens without a close at its close beat, or closes while not open; `prev` is the
move of the pair before it, the last of the cycle before the first (R59, R81 code 0x0F). -/
def pairFault (all_ : List (MoveRec × Nat)) : Option MoveRec → List (MoveRec × Nat) → Option Nat
  | _, [] => none
  | prev, (m, i) :: t =>
    let wrong := if bit m.a 16 then !(all_.any (fun k => bit k.1.a 16 = false && k.1.beat = bits m.b 19 0))
      else (match prev with | some k => !(bit k.a 16) | none => true)
    if wrong then some i else pairFault all_ (some m) t

/-- The first GATE move that breaks R59. -/
def gateFault (ms : List MoveRec) : Option Nat :=
  ((List.range 9).flatMap (fun p => (List.range 8).filterMap (fun c =>
    let l := pairMoves ms p c
    pairFault l (l.getLast?.map (·.1)) l))).min?

/-- The checks of the input declarations (R26, R495): each entry, and no pin twice. -/
def inputsError (bk : Bank) : Option Nat :=
  let l := bankInputList bk
  firstErr
    [ failIf (bk.inputs.length != 12 * bankInputCount bk) 0x07
    , failIf (l.any (fun e => decide (255 < e.pin) || e.rsv != 0 || decide (e.setup < 2000) || decide (e.hold < 1000))) 0x07
    , failIf (l.any (fun e => decide (1 < (l.filter (fun f => f.pin = e.pin)).length))) 0x07 ]

/-- The checks of the record declarations (R495). -/
def recordsError (bk : Bank) : Option Nat :=
  firstErr
    [ failIf (decide (bk.records.length < 12 * bankRecordCount bk)) 0x07
    , failIf ((bankRecordList bk).any (fun r => decide (1 < r.kind) || decide (1 < r.policy) || decide (1 < r.flags) || r.rsv != 0 ||
        r.off % 4 != 0 || decide (65536 < r.off + 4 * r.words) || r.safeAt % 4 != 0 ||
        (r.safeAt != 0 && (decide (r.safeAt < 12 * bankRecordCount bk) || decide (bk.records.length < r.safeAt + 4 * r.words))))) 0x07 ]

/-- The islands whose slices a move is written into (R52, R66): its group, and SEQ for a COPY. -/
def inSlice (grp : Nat) (m : MoveRec) : Bool := m.grp == grp || (grp == 0 && m.act == 0x03)

/-- The slice capacities of R66. -/
def sliceCap : Nat → Nat
  | 0 => 4096 | 1 => 4096 | 2 => 2048 | 3 => 2048 | 4 => 2048 | 5 => 2048 | 6 => 1024 | 7 => 2048 | 8 => 2048 | _ => 1024

/-- The first move with which a slice is over its capacity (R66). -/
def sliceOver (ms : List MoveRec) : Option Nat :=
  ((List.range 10).filterMap (fun g => (((ms.zipIdx).filter (fun e => inSlice g e.1)).drop (sliceCap g)).head?.map (·.2))).min?

/-- The first move with which more than 16 moves of one group share a beat (R68). -/
def shareOver (ms : List MoveRec) : Option Nat :=
  firstAt (fun i m => decide (16 ≤ ((ms.take i).filter (fun k => k.grp = m.grp && k.beat = m.beat)).length)) ms

/-- The move port of an image over a table (R69): for each move the SEQ clock, counted from the cycle boundary, at which its occupancy
ends; none once an occupancy would overlap a later beat's move. `last` is the beat of the last move that occupied the port, `busy` the end of
its occupancy. -/
def portEnds (sel : ImageSel) : Nat → Nat → List MoveRec → Option (List Nat)
  | _, _, [] => some []
  | last, busy, m :: t =>
    let n := portClocks sel m
    if n = 0 then (portEnds sel last busy t).map (fun l => 0 :: l)
    else
      let start := if m.beat = last then max busy (16 * m.beat) else 16 * m.beat
      if busy ≤ start then (portEnds sel m.beat (start + n) t).map (fun l => (start + n) :: l) else none

/-- The first move that finds a move port still busy from an earlier beat (R69, R81 code 0x0B). -/
def portClash (ms : List MoveRec) : Option Nat :=
  if (portEnds .input 0 0 ms).isSome && (portEnds .output 0 0 ms).isSome then none
  else (List.range ms.length).find? (fun k => (portEnds .input 0 0 (ms.take (k + 1))).isNone || (portEnds .output 0 0 (ms.take (k + 1))).isNone)

/-- The completion of a move at its destination, in picoseconds from the cycle boundary (R67, R70, R77): `clk` is the SEQ clock at which
its last move-port clock ends. -/
def moveCompletion (m : MoveRec) (clk : Nat) : Nat :=
  match m.act with
  | 0x01 => 32000 * m.beat + 16100
  | 0x03 =>
    if bits m.a 31 30 = 2 then 32000 * m.beat + 4000 + 24000
    else if bits m.a 29 28 ≤ 1 then 2000 * clk
    else if bits m.a 29 28 = 2 then 2000 * clk + 21360
    else if m.grp = 7 then 2000 * clk + 30000
    else 2000 * clk + 18000
  | 0x06 => 2000 * clk + 87000
  | 0x07 => 32000 * m.beat + 12500 + 61500
  | _ => 2000 * clk

/-- The moves of a table with the end of their move-port occupancy, or none where occupancies overlap (R69). -/
def movesWithEnds (ms : List MoveRec) : Option (List (MoveRec × Nat)) :=
  match portEnds .input 0 0 ms, portEnds .output 0 0 ms with
  | some a, some b => some (ms.zip (List.zipWith max a b))
  | _, _ => none

/-- The first move whose occupancy or completion runs past the cycle end (R81 code 0x0C). -/
def pastEnd (len : Nat) (mes : List (MoveRec × Nat)) : Option Nat :=
  firstAt (fun _ (p : MoveRec × Nat) => decide (16 * len < p.2) || decide (32000 * len < moveCompletion p.1 p.2)) mes

/-- The first APPLY that drives a pin an earlier APPLY of the beat drives, or one that an enabled output slot names (R56, R81 code 0x0D). -/
def applyClash (s : State) (bk : Bank) : Option Nat :=
  let ms := bankMoveList bk
  let drv := if ms.any (fun m => m.act = 0x02) then slotPins s bk else []
  firstAt (fun i m => m.act = 0x02 && (applyPins m).any (fun p => drv.contains p ||
    (ms.take i).any (fun k => k.act = 0x02 && k.beat = m.beat && (applyPins k).contains p))) ms

/-- The producers of a record (R77, R81 code 0x10): for a move its index and completion bound, for an extract entry its index and the bound of R104;
bounds in picoseconds. -/
def producersOf (bk : Bank) (mes : List (MoveRec × Nat)) (r : RecDecl) : List (Nat × Bool × Nat) :=
  (mes.zipIdx.filter (fun p => produces p.1.1 r)).map (fun p => (p.2, false, moveCompletion p.1.1 p.1.2)) ++
    (((bankLayoutList bk).zipIdx).filter (fun e => e.1.kind = 3 && r.overlaps .input e.1.imgOff (4 * e.1.words))).map
      (fun e => (e.2, true, 32000 * e.1.arrival + 90240))

/-- The first consumer move, in table order, before whose release boundary a record it consumes is not complete (R77, R109): its index, or the index of
the extract entry that completes too late. -/
def boundFault (bk : Bank) (mes : List (MoveRec × Nat)) : Option CheckError :=
  let rs := (bankRecordList bk).map (fun r => (r, producersOf bk mes r))
  (bankMoveList bk).zipIdx.findSome? (fun c =>
    rs.findSome? (fun x =>
      if consumes c.1 x.1 then
        (x.2.find? (fun p => decide (32000 * c.1.beat ≤ p.2.2))).map (fun p => if p.2.1 then ⟨0x0E, 0, p.1⟩ else ⟨0x0E, c.2, 0⟩)
      else none))

/-- The second producer of the first record that has more than one (R81 code 0x10). -/
def secondProducer (bk : Bank) (mes : List (MoveRec × Nat)) : Option CheckError :=
  (bankRecordList bk).findSome? (fun r =>
    ((producersOf bk mes r).drop 1).head?.map (fun p => if p.2.1 then ⟨0x10, 0, p.1⟩ else ⟨0x10, p.1, 0⟩))

/-- The checks of the bank as a whole, in ascending code order (R76 step 3). -/
def wholeError (s : State) (bk : Bank) (len : Nat) : Option CheckError :=
  let ms := bankMoveList bk
  let mes := (movesWithEnds ms).getD []
  let move (c : Nat) (o : Option Nat) : Option CheckError := o.map (fun i => ⟨c, i, 0⟩)
  [ move 0x09 (sliceOver ms)
  , (layoutLimit bk).map (fun i => ⟨0x09, 0, i⟩)
  , move 0x0A (shareOver ms)
  , move 0x0B (portClash ms)
  , move 0x0C (pastEnd len mes)
  , move 0x0D (applyClash s bk)
  , boundFault bk mes
  , move 0x0F (gateFault ms)
  , if gateListOk bk then none else some ⟨0x0F, 0, 0⟩
  , secondProducer bk mes ].findSome? id

/-- The reserved bytes and fields of a contract record are zero (R43, R44 Format). -/
def contractReserved (l : List Byte) : Bool :=
  leField l 0x018 8 = 0 && leField l 0x031 1 = 0 && leField l 0x034 12 = 0 && leField l 0x050 16 = 0 && leField l 0x1C8 24 = 0 &&
    leField l 0x006 2 < 1024 && leField l 0x014 4 < 4 &&
    (List.range 20).all (fun k => leField l (0x062 + 8 * k) 2 = 0 && leField l (0x061 + 8 * k) 1 < 4)

/-- The configured clock of an island in kHz (R10, R188): the pawn clusters run at n × 31.25 MHz. -/
def configuredClock (n : Nat → Nat) (code : Nat) : Nat :=
  if code = 0x00 then 8000 else if code = 0x01 then 1000000 else if code = 0x02 then 8000
  else if 0x10 ≤ code && code ≤ 0x13 then 390625 else if code = 0x18 then 625000 else if code = 0x19 then 500000
  else if 0x20 ≤ code && code ≤ 0x27 then 31250 * n (code - 0x20)
  else if code = 0x28 then 80000 else if code = 0x29 then 500000 else 400000

/-- The cyclic crossings of R30, as pairs of island codes; the SEQ side of SEQ and MBUS is divided to 250 MHz (R29). -/
def cyclicCrossings : List (Nat × Nat) :=
  [(0x01, 0x19), (0x19, 0x10), (0x19, 0x11), (0x19, 0x12), (0x19, 0x13), (0x19, 0x28), (0x19, 0x29)] ++
    (List.range 8).map (fun c => (0x19, 0x20 + c)) ++ (List.range 8).map (fun c => (0x01, 0x20 + c))

/-- The ratio of a crossing is at most 4:1 at the configured clocks (R27, R44). -/
def ratioOk (n : Nat → Nat) (x : Nat × Nat) : Bool :=
  let a := if x = (0x19, 0x28) then 250000 else configuredClock n x.1
  let b := configuredClock n x.2
  decide (max a b ≤ 4 * min a b)

/-- The Clocks check of R44. -/
def contractClocksOk (n : Nat → Nat) (bk : Bank) : Bool :=
  (List.range 20).all (fun k =>
    let code := leField bk.contract (0x060 + 8 * k) 1
    !(bit (leField bk.contract (0x061 + 8 * k) 1) 0) || leField bk.contract (0x064 + 8 * k) 4 == configuredClock n code) &&
  cyclicCrossings.all (fun x => !(contractUses bk x.1 && contractUses bk x.2) || ratioOk n x)

/-- The Figures check of R44: each field at 0x020 to 0x030 against the device figure of R43. -/
def contractFiguresOk (l : List Byte) : Bool :=
  decide (110 ≤ leField l 0x020 2) && decide (60 ≤ leField l 0x022 2) && decide (6 ≤ leField l 0x024 1) && decide (3 ≤ leField l 0x025 1) &&
    decide (leField l 0x026 1 ≤ 64) && decide (leField l 0x027 1 ≤ 25) && decide (720 ≤ leField l 0x028 2) && decide (leField l 0x02A 2 ≤ 880) &&
    decide (8 ≤ leField l 0x02C 2) && decide (1100 ≤ leField l 0x02E 2) && decide (leField l 0x030 1 ≤ 12)

/-- The Digests check of R44 (R43, R495): six SHA-256 digests over the sub-sections. -/
def contractDigestsOk (bk : Bank) : Bool :=
  (List.zip [bk.moves, bk.layout, bk.programs, bk.gates, bk.crossbar, bk.inputs] (List.range 6)).all
    (fun p => slice bk.contract (0x100 + 32 * p.2) 32 == sha256 p.1)

/-- The ports in use by a bank: those a train layout entry or the marker names. -/
def portInUse (bk : Bank) (p : Nat) : Bool := (bankLayoutList bk).any (fun e => e.port = p)

/-- The contract record checks of R44, in table order. -/
def contractError (s : State) (bk : Bank) : Option Nat :=
  let l := bk.contract
  firstErr
    [ failIf (l.length != 512 || leField l 0 4 != 0x4E435452 || leField l 5 1 != 1 || decide (s.rd 0x408005 < leField l 4 1) ||
        !(contractReserved l)) 0x20
    , failIf (slice l 0x1E0 32 != sha256 (l.take 0x1E0)) 0x21
    , failIf (!(contractDigestsOk bk)) 0x22
    , failIf (bankNode bk != bk.node.getD (if s.node = 0 then bankNode bk else s.node) || leField l 0x008 4 != bankCycleLen bk ||
        (bit (leField l 0x014 4) 0 != (bankNode bk == s.rd 0x800100)) ||
        (bit (leField l 0x014 4) 1 && !(s.feature 2))) 0x23
    , failIf (!(contractFiguresOk l)) 0x24
    , failIf (!(contractClocksOk (fun c => s.rd (0x510000 + 0x1000 * c)) bk)) 0x25
    , failIf ((List.range 4).any (fun p => portInUse bk p &&
        (let rec_ := leField l (0x040 + 4 * p) 4
         let meas := s.rd (0x200003 + 0x1000 * p)
         decide (leField l 0x032 2 < max rec_ meas - min rec_ meas)))) 0x26 ]

/-- The load check of a staged bank: the first error in the order of R76, or none. DESIGN CHOICE: an error of the image's directory (R495), which R76 does not
place, comes before everything else. -/
def loadCheck (s : State) (bk : Bank) : Option CheckError :=
  let len := bankCycleLen bk
  let ms := bankMoveList bk
  let plain (o : Option Nat) : Option CheckError := o.map (fun c => ⟨c, 0, 0⟩)
  [ plain (failIf (bk.dirError != 0) bk.dirError)
  , plain (failIf (!(validCycleLen len)) 0x01)
  , plain (failIf (decide (16384 < ms.length)) 0x02)
  , plain (failIf (bk.moves.length % 16 != 0) 0x07)
  , movesError bk len false 0 0 ms
  , plain (failIf (bk.layout.length != 0 && (decide (bk.layout.length < expressMapLen) || (bk.layout.length - expressMapLen) % 16 != 0)) 0x07)
  , layoutErrors bk len 0 (bankLayoutList bk)
  , plain (crossbarError bk)
  , plain (firstErr ((entries 296 bk.programs).map (programError s) ++
      [failIf (bk.programs.length % 296 != 0 || !(programsAscend (bankProgramList bk)) || !(outputSlotsOk (bankProgramList bk))) 0x07]))
  , plain (firstErr ((bankGateList bk).map gateEntryError ++ [failIf (bk.gates.length % 4 != 0) 0x07]))
  , plain (inputsError bk)
  , plain (recordsError bk)
  , wholeError s bk len
  , plain (contractError s bk) ].findSome? id

end Sys2Proof.Machine
end

