-- ==== Sys2Proof/Machine/Notice.lean ====
section
/-!
DEFINITION. Notices to the host (R360, R361): MSI-X vectors, their masks and pending bits.
-/
namespace Sys2Proof.Machine

/-- A vector's message can be sent (R360, and the standard rules of PCIe that it names): MSI-X is on, the function is not masked and may master, and the vector is unmasked. -/
def State.vectorOn (s : State) (v : Nat) : Bool := s.bridge.msixOn && !s.bridge.fmask && s.bridge.bme && s.bridge.vecOn.testBit v

/-- A notice is raised on a vector (R360): a message is sent, or the pending bit is set where none can be; while the pending bit is set no further message is sent. -/
def State.notice (s : State) (v : Nat) : State :=
  if s.bridge.pba.testBit v then s
  else if s.vectorOn v then s.emit (.msix v)
  else { s with bridge := { s.bridge with pba := setBit s.bridge.pba v true } }

/-- Vectors that are pending and whose message can now be sent send it (R360). -/
def State.flushNotices (s : State) : State :=
  if s.bridge.msixOn && !s.bridge.fmask && s.bridge.bme then
    (List.range 160).foldl (fun s v =>
      if s.bridge.pba.testBit v && s.vectorOn v then
        ({ s with bridge := { s.bridge with pba := setBit s.bridge.pba v false } }).emit (.msix v)
      else s) s
  else s

/-- IRQ_N is low (R361): MSI-X is off and a pending bit is set. -/
def State.irqLow (s : State) : Bool := !s.bridge.msixOn && s.bridge.pba != 0

end Sys2Proof.Machine
end

