-- ==== Sys2Proof/Machine/Contract.lean ====
section
/-!
DEFINITION. The monitors of the contract (R24 to R31, R40 to R42, R496): islands out of the envelope, lanes over their error bound, and what a
cycle boundary makes of them.
-/
namespace Sys2Proof.Machine

/-- The island of a code of R10. -/
def islandOf (code : Nat) : Island :=
  match code with
  | 0x00 => .aon | 0x01 => .pin | 0x02 => .pwr
  | 0x10 => .ring .e | 0x11 => .ring .w | 0x12 => .ring .s0 | 0x13 => .ring .s1
  | 0x18 => .swx | 0x19 => .seq | 0x28 => .mbus | 0x29 => .hbr
  | 0x20 => .pwn 0 | 0x21 => .pwn 1 | 0x22 => .pwn 2 | 0x23 => .pwn 3
  | 0x24 => .pwn 4 | 0x25 => .pwn 5 | 0x26 => .pwn 6 | 0x27 => .pwn 7
  | _ => .mgt

/-- The islands of the data hierarchy (R27), by code. -/
def dataIslands : List Nat :=
  [0x01, 0x10, 0x11, 0x12, 0x13, 0x18, 0x19, 0x20, 0x21, 0x22, 0x23, 0x24, 0x25, 0x26, 0x27, 0x28, 0x29]

/-- The item tag of the event record of R496. -/
def State.eventTag (s : State) (condition island cause : Nat) : Nat := condition * 2 ^ 24 + island * 2 ^ 16 + cause * 2 ^ 8 + s.cycle % 256

/-- An island is flagged as out of the envelope (R31, R40, R496), by cause: 0 clock, 1 VDDC, 2 gradient. -/
def State.envFlag (s : State) (code cause : Nat) : State :=
  let flagged := (s.rd 0x408002).testBit code
  let s1 := { s with seq := { s.seq with withheld := if cause = 0 then s.seq.withheld else setBit s.seq.withheld code true } }
  let s2 := (s1.latchFailure (1 + cause)).wr 0x408002 (setBit (s1.rd 0x408002) code true)
  if flagged then s2 else s2.raise (islandOf code) 0x00 0x04 (s2.eventTag 2 code (2 ^ cause))

/-- A cause for an island of the data hierarchy to leave the envelope begins to hold (R27); its outcomes follow while the envelope is monitored (R24). -/
def State.envFail (s : State) (code cause : Nat) : State :=
  if dataIslands.contains code then
    let s1 := { s with seq := { s.seq with
      envBad := mset 0 s.seq.envBad code (setBit (mget 0 s.seq.envBad code) cause true)
      envGood := merase s.seq.envGood code } }
    if s1.monitoring then s1.envFlag code cause else s1
  else s

/-- A cause of an island's excursion is over (R31): it returns at a boundary after a whole good cycle. -/
def State.envRecover (s : State) (code cause : Nat) : State :=
  { s with seq := { s.seq with envBad := mset 0 s.seq.envBad code (setBit (mget 0 s.seq.envBad code) cause false) } }

/-- The blocks of the window of R25, in ns: 2^36 word clocks of 2.56 ns. -/
def laneWindow : Nat := 175921860444

/-- The errored blocks of a lane in its window (R25, objects 2.0p1.00 and 2.0p1.01). -/
def State.laneErrors (s : State) (p : Port) (lane : Nat) : Nat :=
  ((if lane = 0 then (s.port p).errs0 else (s.port p).errs1).filter (fun t => decide (32 * s.time.beats ≤ t + laneWindow))).length

/-- The key of a lane. -/
def laneKey (p : Port) (lane : Nat) : Nat := 2 * portNum p + lane

/-- The lanes of the port carry the cyclic train in the active bank (R24, R95): the bank lays out what leaves there or takes something from what
arrives there, or it lays out the port that the train of this one goes on through. -/
def State.carriesTrain (s : State) (p : Port) : Bool :=
  (bankLayoutList s.activeBank).any (fun e => e.port = portNum p) ||
    (match p with
     | .e => (bankRegions s.activeBank 1).isSome
     | .w => (bankRegions s.activeBank 0).isSome
     | _ => false)

/-- A lane that carries the cyclic train is over its error bound (R25): more than 4 errored blocks in its window. -/
def State.laneOver (s : State) (p : Port) (lane : Nat) : Bool := s.carriesTrain p && decide (4 < s.laneErrors p lane)

/-- The eight lanes. -/
def allLanes : List (Port × Nat) := [(.e, 0), (.e, 1), (.w, 0), (.w, 1), (.s0, 0), (.s0, 1), (.s1, 0), (.s1, 1)]

/-- A lane is found over its error bound (R40, R496). -/
def State.laneFail (s : State) (p : Port) (lane : Nat) : State :=
  let k := laneKey p lane
  let said := mget false s.seq.laneSaid k
  let s1 := { s with seq := { s.seq with
    laneSaid := mset false s.seq.laneSaid k true
    laneGood := mset false s.seq.laneGood k false } }
  let s2 := s1.latchFailure 4
  if said then s2 else s2.raise (.ring p) 0x00 0x06 (s2.eventTag 3 (0x10 + portNum p) lane)

/-- An errored block on a lane (R92, R25): counted in its window and in the total; more than 4 in the window fail condition 3. -/
def State.countErrored (s : State) (p : Port) (lane : Nat) : State :=
  let x := s.port p
  let now := 32 * s.time.beats
  let keep (l : List Nat) : List Nat := now :: l.filter (fun t => decide (now ≤ t + laneWindow))
  let x' := if lane = 0 then { x with errs0 := keep x.errs0 } else { x with errs1 := keep x.errs1 }
  let s1 := (s.setPort p x').incSat (portObj p 1 0x0B)
  if s1.monitoring && s1.laneOver p lane then s1.laneFail p lane else s1

/-- A failure is present in part (R40): what makes 4.080.00 read 2. Conditions 2, 3 (the lanes) and 4 are judged as they stand; a segment check failure and
a setup violation are present to the end of their cycle. -/
def State.failurePresent (s : State) : Bool :=
  s.seq.envBad != [] || allLanes.any (fun e => s.laneOver e.1 e.2) || s.seq.timeBad || s.seq.segFail || s.seq.setupFail

/-- The contract state of 4.080.00 (R40, R46). -/
def State.contractState (s : State) : Nat := if s.seq.inForce then (if s.failurePresent then 2 else 1) else 0

/-- At a cycle boundary (R31, R40, R496): flagged islands that were good for a whole cycle return, the others run in hold; lanes whose count is back
are good again, and after a whole good cycle a new failure is said again. -/
def State.envAtBoundary (s : State) : State :=
  let flagged := s.rd 0x408002
  let back := dataIslands.filter (fun c => flagged.testBit c && mget 0 s.seq.envBad c == 0 && mget false s.seq.envGood c)
  let good := dataIslands.filter (fun c => flagged.testBit c && mget 0 s.seq.envBad c == 0 && !(mget false s.seq.envGood c))
  let left := back.foldl (fun m c => setBit m c false) flagged
  let s1 := { s with seq := { s.seq with
    envGood := good.foldl (fun m c => mset false m c true) []
    heldMask := left
    withheld := 0
    segFail := false
    setupFail := false } }
  s1.wr 0x408002 left

/-- The lanes at a cycle boundary (R40, R496). -/
def State.lanesAtBoundary (s : State) : State :=
  allLanes.foldl (fun s e =>
    let k := laneKey e.1 e.2
    if mget false s.seq.laneSaid k then
      if s.laneOver e.1 e.2 then { s with seq := { s.seq with laneGood := merase s.seq.laneGood k } }
      else if mget false s.seq.laneGood k then
        { s with seq := { s.seq with laneSaid := merase s.seq.laneSaid k, laneGood := merase s.seq.laneGood k } }
      else { s with seq := { s.seq with laneGood := mset false s.seq.laneGood k true } }
    else s) s

/-- Monitoring meets conditions that already fail (R24, R40): at a boundary in Run or Repair, islands out of the envelope and not yet flagged are flagged, the bits of the
causes that hold are set, and lanes over their bound are found so. DESIGN CHOICE: a failure from before monitoring is detected at the boundary where monitoring begins, and an
island that fails by several causes then is journalled once, with the lowest of them. -/
def State.monitorAtBoundary (s : State) : State :=
  if s.monitoring then
    let s1 := dataIslands.foldl (fun s c =>
      [0, 1, 2].foldl (fun s k =>
        if (mget 0 s.seq.envBad c).testBit k then (if (s.rd 0x408002).testBit c then s.latchFailure (1 + k) else s.envFlag c k) else s) s) s
    allLanes.foldl (fun s e => if s.laneOver e.1 e.2 then s.laneFail e.1 e.2 else s) s1
  else s

/-- The clock a contract record states for an island, in kHz (R43), whether or not the schedule uses the island (R27). -/
def contractClock (b : Bank) (code : Nat) : Option Nat :=
  ((List.range 20).find? (fun k => leField b.contract (0x060 + 8 * k) 1 = code)).map
    (fun k => leField b.contract (0x064 + 8 * k) 4)

/-- A clock count over a window of 10.24 µs is within ±0.5 % of a clock in kHz (R27, R28). -/
def clockWithin (count kHz : Nat) : Bool :=
  decide (200 * (count * 100000) ≤ 201 * (kHz * 1024)) && decide (199 * (kHz * 1024) ≤ 200 * (count * 100000))

/-- A window of the clock monitor ends (R27, R28): the clock and its source are judged against the contract record of the active bank. -/
def State.clockWindow (s : State) (code count : Nat) (locked : Bool) : State :=
  match contractClock s.activeBank code with
  | some f => if locked && clockWithin count f then s.envRecover code 0 else s.envFail code 0
  | none => s

/-- The binary32 number nearest below or at a ratio (R315): for a value of at least 2^-120. -/
def f32Ratio (num den : Nat) : Nat :=
  if num = 0 then 0
  else
    let m := num * 2 ^ 160 / den
    let e := Nat.log2 m
    (e + 127 - 160) * 2 ^ 23 + (m * 2 ^ 23 / 2 ^ e) % 2 ^ 23

/-- The spread of the eight readings of a die, in sixteenths of a kelvin (R27, R28). -/
def spread (l : List Nat) : Nat :=
  match l with
  | [] => 0
  | a :: t => t.foldl max a - t.foldl min a

/-- The temperature sensors of a die are read (R27, R28, R46): above 25 K every island of the data hierarchy on it leaves the envelope. -/
def State.temperatureRead (s : State) (portDie : Bool) (l : List Nat) : State :=
  let d := spread l
  let s1 := s.wr (if portDie then 0x408007 else 0x408006) (f32Ratio d 16)
  (dataIslands.filter (fun c => (c == 0x01) == portDie)).foldl
    (fun s c => if 400 < d then s.envFail c 2 else s.envRecover c 2) s1

/-- A write of 1 to 4.080.03 (R46, R47): bits whose condition holds again are cleared. -/
def State.clearFailures (s : State) : State :=
  let v := s.rd 0x408001
  let causes := s.seq.envBad.foldl (fun m e => m ||| e.2) 0
  let present (n : Nat) : Bool :=
    match n with
    | 0 => !s.hasBank && s.rd 0x400001 == 3
    | 1 => causes.testBit 0 | 2 => causes.testBit 1 | 3 => causes.testBit 2
    | 4 => allLanes.any (fun e => s.laneOver e.1 e.2) | 5 => s.seq.segFail | 6 => s.seq.timeBad | 7 => s.seq.setupFail
    | _ => true
  s.wr 0x408001 ((List.range 8).foldl (fun m n => if m.testBit n && !(present n) then setBit m n false else m) v)

end Sys2Proof.Machine
end

