-- ==== Sys2Proof/Machine/Blocks.lean ====
section
/-!
DEFINITION. The blocks of a link (R88 to R92): control block types, their CRC-8, errored blocks, and the control blocks in which the hub sends markers,
segments, frames, express events, training and WRAP messages.
-/
namespace Sys2Proof.Machine

/-- The control block types of R90. -/
inductive BlockType where
  | idle | mark | segStart | segEnd | frmStart | frmEnd | express | align | train | wrap
  deriving DecidableEq, Repr

/-- The type value of a control block (R90). -/
def blockCode : BlockType → Nat
  | .idle => 0x1E
  | .mark => 0x2D
  | .segStart => 0x33
  | .segEnd => 0x4B
  | .frmStart => 0x55
  | .frmEnd => 0x66
  | .express => 0x78
  | .align => 0x87
  | .train => 0x99
  | .wrap => 0xB4

/-- The types of R90, in its order. -/
def blockTypes : List BlockType := [.idle, .mark, .segStart, .segEnd, .frmStart, .frmEnd, .express, .align, .train, .wrap]

/-- The type that a type value names; none for a reserved value (R90). -/
def blockTypeOf (n : Nat) : Option BlockType := blockTypes.find? (fun t => blockCode t == n)

/-- The types whose payload bits [7:0] hold a CRC-8 (R90). -/
def blockChecked : BlockType → Bool
  | .mark => true
  | .segStart => true
  | .segEnd => true
  | .express => true
  | .train => true
  | .wrap => true
  | .idle => false
  | .frmStart => false
  | .frmEnd => false
  | .align => false

/-- The CRC-8 over payload bits [55:8] (R90). -/
def blockCrc (v : Nat) : Nat := crc8 (natBE 6 v)

/-- A control block with a CRC-8 (R90): its 64 bits from its payload bits [55:8]. -/
def checkedBlock (t : BlockType) (v : Nat) : Nat := blockCode t * 2 ^ 56 + v % 2 ^ 48 * 2 ^ 8 + blockCrc (v % 2 ^ 48)

/-- A control block without a CRC-8 (R90): its 64 bits from its 56 payload bits. -/
def plainBlock (t : BlockType) (v : Nat) : Nat := blockCode t * 2 ^ 56 + v % 2 ^ 56

/-- A block is errored (R88, R90, R92): an invalid sync header, a reserved type, or a failed CRC-8. -/
def blockErrored (sync block : Nat) : Bool :=
  match sync with
  | 1 => false
  | 2 => (match blockTypeOf (bits block 63 56) with
    | some t => blockChecked t && blockCrc (bits block 55 8) != bits block 7 0
    | none => true)
  | _ => true

/-- The payload bits [55:8] of MARK (R97). -/
def markBits (m : Marker) : Nat := m.master % 1024 * 2 ^ 38 + m.tag % 256 * 2 ^ 30 + m.timeState % 4 * 2 ^ 28 + m.cycleLen % 2 ^ 21 * 2 ^ 7

/-- The payload bits [55:8] of SEG_START (R101): the length field holds P - 1. -/
def segStartBits (g : Segment) : Nat := g.num % 4096 * 2 ^ 36 + g.tag % 256 * 2 ^ 28 + g.origin % 1024 * 2 ^ 18 + (g.plen - 1) % 1024 * 2 ^ 8

/-- The payload bits [55:8] of SEG_END (R101). -/
def segEndBits (g : Segment) : Nat := g.check % 2 ^ 32 * 2 ^ 16 + g.hops % 256 * 2 ^ 8 + g.consumed % 256

/-- The payload bits [55:8] of EXPRESS (R117). -/
def expressBits (x : Express) : Nat := x.event % 4096 * 2 ^ 36 + x.source % 1024 * 2 ^ 26 + x.time % 2 ^ 18 * 2 ^ 8 + x.hops % 256

/-- The payload bits [55:8] of WRAP (R131). -/
def wrapBits (subtype : Nat) (b : WrapBlock) : Nat :=
  subtype % 16 * 2 ^ 44 + b.node % 1024 * 2 ^ 34 + portNum b.port * 2 ^ 32 + b.tag % 256 * 2 ^ 24 + b.reason % 256 * 2 ^ 16 + b.hops % 256 * 2 ^ 8 + b.seq % 256

/-- The payload bits [55:8] of TRAIN (R125): a subtype over 44 bits of fields. -/
def trainBits (subtype fields : Nat) : Nat := subtype % 16 * 2 ^ 44 + fields % 2 ^ 44

/-- The fields of HELLO and HELLO_ACK (R125). -/
def helloFields (h : Hello) : Nat := h.node % 1024 * 2 ^ 34 + portNum h.port * 2 ^ 32 + h.major % 16 * 2 ^ 28 + h.minor % 16 * 2 ^ 24

/-- The control blocks of an output on a ring port, in the order in which they leave (R89, R90); ALIGN on both lanes (R94). -/
def Out.controlBlocks : Out → List Nat
  | .marker _ m => [checkedBlock .mark (markBits m)]
  | .segment _ g => [checkedBlock .segStart (segStartBits g), checkedBlock .segEnd (segEndBits g)]
  | .express _ x => [checkedBlock .express (expressBits x)]
  | .wrap _ k b => [checkedBlock .wrap (wrapBits k b)]
  | .hello _ ack h => [checkedBlock .train (trainBits (if ack then 2 else 1) (helloFields h))]
  | .measureReq _ n => [checkedBlock .train (trainBits 3 (n % 256 * 2 ^ 36))]
  | .measureRep _ n r => [checkedBlock .train (trainBits 4 (n % 256 * 2 ^ 36 + r % 2 ^ 36))]
  | .path _ etx erx => [checkedBlock .train (trainBits 5 (etx % 65536 * 2 ^ 28 + erx % 65536 * 2 ^ 12))]
  | .align _ => [plainBlock .align 0x5A5A5A5A5A5A5A, plainBlock .align 0x5A5A5A5A5A5A5A]
  | .frame port f =>
    if port < 4 then
      [plainBlock .frmStart (f.dst % 1024 * 2 ^ 46 + f.src % 1024 * 2 ^ 36 + f.cls % 8 * 2 ^ 33 + b2n f.cm * 2 ^ 32 + f.flow % 2 ^ 20 * 2 ^ 12 +
        f.type % 16 * 2 ^ 8 + f.hops % 256), plainBlock .frmEnd (f.fcheck % 2 ^ 32 * 2 ^ 24)]
    else []
  | _ => []

end Sys2Proof.Machine
end

