-- ==== Sys2Proof/Machine/Express.lean ====
section
/-!
DEFINITION. Ring ports as transmitters (R9, R87, R98, R124, R130, R138, R144) and the sending of express events (R117 to R121).
-/
namespace Sys2Proof.Machine

/-- The state of a port (R124, object 2.0p0.00). -/
def State.portState (s : State) (p : Port) : Nat := s.rd (portObj p 0 0)

/-- Moves a port to a state of R124. -/
def State.setPortState (s : State) (p : Port) (v : Nat) : State := s.wr (portObj p 0 0) v

/-- The port carries acyclic frames and express events (R124): it is UP or in SERVICE and not isolated. -/
def State.portUsable (s : State) (p : Port) : Bool := (s.portState p = 6 || s.portState p = 7) && !(s.isolated (.ring p))

/-- The other main-ring port (R87). -/
def otherRing : Port → Port
  | .e => .w
  | .w => .e
  | p => p

/-- The other spur port. -/
def otherSpur : Port → Port
  | .s0 => .s1
  | .s1 => .s0
  | p => p

/-- The pair-link port of a pair hub (R144). -/
def State.pairLink (s : State) : Option Port := if s.inPair then some (portOf (s.rd 0x208103)) else none

/-- The spurs carry sub-rings only while feature 0.1 is active (R341). -/
def State.spurAllowed (s : State) (p : Port) : Bool :=
  match p with
  | .s0 => s.feature 1
  | .s1 => s.feature 1
  | _ => true

/-- The port belongs to a ring (R9, R144, R341): it carries markers, segments, express events, REPORTs and routed frames. A pair link carries none. -/
def State.ringPort (s : State) (p : Port) : Bool := s.spurAllowed p && s.pairLink != some p

/-- The port belongs to a ring and carries traffic (R124). -/
def State.ringUsable (s : State) (p : Port) : Bool := s.ringPort p && s.portUsable p

/-- The hub is a node of a sub-ring chain (R87, R138): its train uses neither E nor W, or, while no bank is active, neither is usable or broken. The hubs
of a pair sit on the main ring. -/
def State.chainNode (s : State) : Bool :=
  !s.inPair &&
    (if s.hasBank then (bankRegions s.activeBank 0).isNone && (bankRegions s.activeBank 1).isNone
     else !(s.portUsable .e) && !(s.portUsable .w) && !(s.port .e).broken && !(s.port .w).broken)

/-- The port on which a block received on `p` goes on where the ring is intact (R98, R118): E and W cross over; along a sub-ring chain the other
spur, or the receiving spur itself at the far end; nowhere from a spur at a root. -/
def State.onward (s : State) (p : Port) : Option Port :=
  match p with
  | .e => some .w
  | .w => some .e
  | q => if s.chainNode then (if s.ringUsable (otherSpur q) then some (otherSpur q) else some q) else none

/-- The hub is the far end of a sub-ring (R138). -/
def State.farEnd (s : State) : Bool := s.chainNode && (s.ringUsable .s0 != s.ringUsable .s1)

/-- The ring transmit port that takes over from a lost one (R130, R138): the other ring, or the other spur along a sub-ring chain. -/
def State.turnPort (s : State) (p : Port) : Option Port :=
  match p with
  | .e => if s.portUsable .w then some .w else none
  | .w => if s.portUsable .e then some .e else none
  | q => if s.chainNode && s.ringUsable (otherSpur q) then some (otherSpur q) else none

/-- The port on which a block for transmit port `p` leaves (R130, R138): `p` itself, or the one that takes over where the hub turns there. -/
def State.txPort (s : State) (p : Port) : Option Port :=
  if (s.port p).wrapped || ((s.port p).broken && !(s.portUsable p)) then s.turnPort p
  else if s.portUsable p then some p
  else none

/-- The item tag of an express event (R456): event, source node, zero. -/
def expressTag (x : Express) : Nat := x.event * 2 ^ 20 + x.source * 2 ^ 10

/-- The time of the start of the current beat in ns since the release of SEQ. -/
def State.beatNs (s : State) : Nat := 32 * s.time.beats

/-- Sends an express event on a port (R120, R121), at a fabric time: it takes a token, waits in the 16-entry queue where there is none, and is dropped and
journalled where the queue is full. -/
def State.sendExpressAt (s : State) (at_ : Nat) (p : Port) (x : Express) : State :=
  let q := s.port p
  if 0 < q.tokens && q.queue = [] then
    (s.setPort p { q with tokens := q.tokens - 1, sentX := s.beatNs :: q.sentX }).emit (.express p x)
  else if q.queue.length < 16 then
    (s.setPort p { q with queue := q.queue ++ [x] }).incSat (portObj p 1 0x08)
  else (s.incSat (portObj p 1 0x09)).raiseAt at_ (.ring p) 0x07 0x28 (expressTag x)

/-- Sends an express event on a port in this beat. -/
def State.sendExpressOn (s : State) (p : Port) (x : Express) : State := s.sendExpressAt s.time.now p x

/-- The number of the first word clock of this beat, of 2.56 ns each, since the release of SEQ. -/
def State.wordClock (s : State) : Nat := ceilDiv (25 * s.time.beats) 2

/-- The fabric time at which a word clock begins. -/
def State.clockTime (s : State) (clk : Nat) : Nat := s.time.now + clk * 64 * 65536 / 25 - s.beatNs * 65536

/-- The events of one word clock in the order of R120: by rank (0 E, 1 W, 2 S0, 3 S1, 4 local), those of one rank as they came. -/
def rankExpress (b : List (Nat × Express)) (rank : Nat) (x : Express) : List (Nat × Express) :=
  b.filter (fun e => decide (e.1 ≤ rank)) ++ (rank, x) :: b.filter (fun e => decide (rank < e.1))

/-- The newest express outputs on a port take these events, the last sent first. -/
def renameSent (p : Port) : List Express → List Out → List Out
  | [], l => l
  | _, [] => []
  | x :: xs, .express q y :: l => if q = p then .express p x :: renameSent p xs l else .express q y :: renameSent p (x :: xs) l
  | xs, o :: l => o :: renameSent p xs l

/-- An express event reaches an egress port in a word clock (R120): of the events that reach it in that clock the first in rank take the places in the stream, the next those
in the queue, and the last is dropped where there is no room. -/
def State.offerExpress (s : State) (p : Port) (rank clk : Nat) (x : Express) : State :=
  let q := s.port p
  let l := rankExpress (if q.xClock = clk then q.burst else []) rank x
  let s1 := s.sendExpressAt (s.clockTime clk) p ((l.getLast?.map (·.2)).getD x)
  let q1 := s1.port p
  let lost := q1.tokens = q.tokens && q1.queue = q.queue
  let kept := if lost then l.dropLast else l
  let waits := min kept.length q1.queue.length
  let sent := (kept.take (kept.length - waits)).map (·.2)
  let s2 := s1.setPort p { q1 with
    xClock := clk
    burst := kept
    queue := q1.queue.take (q1.queue.length - waits) ++ (kept.drop (kept.length - waits)).map (·.2) }
  { s2 with out := renameSent p sent.reverse s2.out }

/-- Sends an express event toward several ring ports, each link once (R120). -/
def State.sendExpressAll (s : State) (rank clk : Nat) (x : Express) (ps : List Port) : State :=
  (((ps.filter s.ringPort).filterMap s.txPort).eraseDups).foldl (fun s q => s.offerExpress q rank clk x) s

/-- The ports of a mask: [0] E, [1] W, [2] S0, [3] S1 (R54, R119). -/
def maskPorts (m : Nat) : List Port := [Port.e, .w, .s0, .s1].filter (fun p => m.testBit (portNum p))

/-- Emits an express event from this hub (R117, R119, R261): on the ports its map entry gives, with the fabric time of the PIN clock `ns`; its own crossbar sees it once (R122). DESIGN CHOICE: an event whose map entry names no ring port is emitted on no
port (R256), so it does not count as emitted and the own crossbar does not see it. Without feature 0.0 nothing is emitted (R341). -/
def State.emitExpress (s : State) (event ns : Nat) : State :=
  if s.feature 0 then
    let x : Express := ⟨event, s.node, (toTime96 (s.time.now + ns * 65536 - s.beatNs * 65536)).nano % 2 ^ 18, s.cell 0x204000⟩
    let ps := (maskPorts (bankExpressEntry s.activeBank event % 16)).filter s.ringPort
    let s1 := s.sendExpressAll 4 (ceilDiv (25 * ns) 64) x ps
    if ps = [] then s1
    else ({ s1 with pins := { s1.pins with selfX := s1.pins.selfX ++ [x] } }).inc 0x610203
  else s

/-- The emission time of a received event in full, in ns (R117): the latest fabric time, not after this hub's own, whose nanosecond bits [17:0] are the field. -/
def emissionNs (now : Time96) (field : Nat) : Nat :=
  let latest (nano : Nat) : Nat := nano - (nano + 2 ^ 18 - field % 2 ^ 18) % 2 ^ 18
  if field % 2 ^ 18 ≤ now.nano then now.sec * 10 ^ 9 + latest now.nano
  else (now.sec - 1) * 10 ^ 9 + latest (10 ^ 9 - 1)

end Sys2Proof.Machine
end

