-- ==== Sys2Proof/Machine/Pins.lean ====
section
/-!
DEFINITION. Pin banks (R240 to R251): the configuration of a pin, its filtered and driven levels, owner writes, the hold latches, and the
edge history and timestamps.
-/
namespace Sys2Proof.Machine

/-- The configuration word of a pin, 16b + p (R243). -/
def State.pinConfig (s : State) (pin : Nat) : Nat := s.rd (0x600000 + 0x1000 * (pin / 16) + pin % 16)

/-- The glitch filter length F in ns; bypass counts as 1 (R243, R246). -/
def State.pinFilter (s : State) (pin : Nat) : Nat := max 1 (bits (s.pinConfig pin) 31 16)

/-- The output mode of a pin (R243): 0 input only, 1 push-pull, 2 open drain. -/
def State.outputMode (s : State) (pin : Nat) : Nat := bits (s.pinConfig pin) 5 4

/-- The bank's outputs may drive (R241, R242): its supply is present and it is not disabled after a loss. -/
def State.bankDrives (s : State) (bank : Nat) : Bool := s.pins.present.testBit bank && !(s.pins.disabled.testBit bank)

/-- The level that forces, freezes and owner levels give a pin, in the order of R249. -/
def heldLevel (forced frozen : NMap PinHold) (owner pin : Nat) : Bool :=
  match mfind forced pin with
  | some f => f.level
  | none => match mfind frozen pin with
    | some h => h.level
    | none => owner.testBit pin

/-- The level a pin drives, or would drive if its output were enabled (R249): forced, frozen, or the owner's. -/
def State.pinLevel (s : State) (pin : Nat) : Bool := heldLevel s.pins.forced s.pins.frozen s.pins.owner pin

/-- The level at the ball that the hub drives (R245, R249, R251): none where the pin is an input, the bank does not drive, an open drain is
high, or core loss made the pin stop driving. -/
def State.drivenLevel (s : State) (pin : Nat) : Option Bool :=
  if s.outputMode pin = 0 || !(s.bankDrives (pin / 16)) then none
  else
    let lvl := match mfind s.pins.loss pin with
      | some .highZ => none
      | some (.safe l) => some l
      | some .keep => some (s.pinLevel pin)
      | none => some (s.pinLevel pin)
    match lvl with
    | some true => if s.outputMode pin = 2 then none else some true
    | x => x

/-- The hold latch of a pin follows the level the pin drives (R250). -/
def State.syncLatch (s : State) (pin : Nat) : State :=
  let o := 0x600103 + 0x1000 * (pin / 16)
  s.wr o (setBit (s.rd o) (pin % 16) (s.pinLevel pin))

/-- An owner writes a level to a pin, as it appears there (R249, R250): the owner level is updated, a write masked by a force or freeze is counted in 6.102.00, the
latch follows, the crossbar of this PIN clock sees it (R257), and the pin leaves the level that core loss gave it (R251). -/
def State.ownerSet (s : State) (pin : Nat) (lvl : Bool) : State :=
  let masked := (mfind s.pins.forced pin).isSome || (mfind s.pins.frozen pin).isSome
  let s1 := { s with pins := { s.pins with
    owner := setBit s.pins.owner pin lvl
    clock := s.pins.clock.map (fun (c : PinClock) => { c with owner := setBit c.owner pin lvl })
    loss := merase s.pins.loss pin } }
  (if masked then s1.inc 0x610200 else s1).syncLatch pin

/-- The time of the start of the current beat in ns since the release of SEQ. -/
def State.nowNs (s : State) : Nat := 32 * s.time.beats

/-- The filtered level of a pin as the edge sampler had it at a time in ns: the level after the last edge at or before it. -/
def levelIn (l : List EdgeRec) (ns : Nat) (cur : Bool) : Bool :=
  match l with
  | [] => cur
  | e :: rest => if e.at_ ≤ ns then e.level else levelIn rest ns (!e.level)

/-- The filtered level of a pin at a time in ns (R193, R246); edges are kept newest first. -/
def State.levelAt (s : State) (pin ns : Nat) : Bool := levelIn (mget [] s.pins.hist pin) ns (s.pins.filt.testBit pin)

/-- The timestamp word of an edge (R247, R248): the fabric time of the first raw sample at the new level, that of the PIN clock `raw`, less 0.7 ns. -/
def State.edgeStamp (s : State) (raw : Nat) (lvl : Bool) : Nat :=
  let raw10 := 10 * (s.time.now + raw * 65536) - 10 * (s.nowNs * 65536) - 7 * 65536
  let t := toTime96 (raw10 / 10)
  (t.sec % 2 ^ 32) * 2 ^ 32 + b2n lvl * 2 ^ 31 + 2 ^ 30 + t.nano

/-- The object of a pin's last edge (R248, R262). -/
def lastEdgeObj (pin : Nat) : Nat := 0x600200 + 0x1000 * (pin / 16) + pin % 16

/-- Core loss takes a pin to its core-loss action (R251). -/
def State.lossOf (s : State) (pin : Nat) : LossAction :=
  match bits (s.pinConfig pin) 15 14 with
  | 1 => .safe (bit (s.pinConfig pin) 13)
  | 2 => .highZ
  | _ => .keep

/-- What core loss does to the pins (R251): an output that holds drives its hold latch level, any other output takes its action, and a pin in input-only mode
none. -/
def State.lossActions (s : State) : NMap LossAction :=
  (List.range 256).foldl (fun m p => if s.outputMode p = 0 then m else mset .keep m p (s.lossOf p)) s.pins.loss

/-- Every output applies its core-loss action (R251). What the core die sent and the PIN island has not released yet is lost with it (R259); filtered
changes still to come are not. -/
def State.coreLost (s : State) : State :=
  { s with pins := { s.pins with
      coreLoss := true
      loss := s.lossActions
      due := s.pins.due.filter (fun e => match e.2 with | .filtered _ _ _ => true | _ => false) } }

/-- The place of an event within its PIN clock: output changes come first, the lines of pawns last. -/
def PinDue.rank : PinDue → Nat
  | .drive _ _ => 0 | .filtered _ _ _ => 1 | .line _ => 2

/-- An event joins those due at later PIN clocks, after those that it does not precede. -/
def dueInsert (l : List (Nat × PinDue)) (e : Nat × PinDue) : List (Nat × PinDue) :=
  let first := l.takeWhile (fun x => decide (x.1 < e.1) || (x.1 == e.1 && decide (x.2.rank ≤ e.2.rank)))
  first ++ e :: l.drop first.length

/-- The PIN island is to act at PIN clock `ns`. -/
def State.pinLater (s : State) (ns : Nat) (d : PinDue) : State := { s with pins := { s.pins with due := dueInsert s.pins.due (ns, d) } }

/-- The level that a pawn's output slot last set on a pin (R196), whether or not the PIN island has released it (R193). -/
def State.slotOutput (s : State) (pin : Nat) : Bool :=
  s.pins.due.foldl (fun b e => match e.2 with | .drive p l => if p = pin then l else b | _ => b) (s.pins.owner.testBit pin)

/-- The pins of a 64-bit quad mask (R54). -/
def quadPins (quad mask : Nat) : List Nat := (List.range 64).filterMap (fun k => if mask.testBit k then some (64 * quad + k) else none)

/-- The bank status of 6.0b1.00 (R241, R242, R262). -/
def State.bankStatus (s : State) (b : Nat) : Nat :=
  b2n (s.pins.present.testBit b) + 2 * b2n (s.pins.outside.testBit b) + 4 * b2n (s.pins.disabled.testBit b)

end Sys2Proof.Machine
end

