-- ==== Sys2Proof/Machine/Pawn.lean ====
section
/-!
DEFINITION. Pawns (R187 to R238): their registers, slots, dividers, FIFOs, starts, swaps and word failures. Times inside a pawn are exact: one
time unit is 1/720,720 ns, in which the period 32 ÷ n ns of every cluster clock n from 8 to 16 (R188) is a whole number.
-/
namespace Sys2Proof.Machine

/-- Time units in a nanosecond. -/
def unitsPerNs : Nat := 720720

/-- Time units in a beat. -/
def unitsPerBeat : Nat := 32 * unitsPerNs

/-- HALT, the reset value of instruction memory (R195). -/
def haltWord : BitVec 32 := 0xA8000000

/-- One pawn. -/
def State.pawn (s : State) (q : Nat) : PawnSt := mget {} s.pawns.pawns q

/-- Writes one pawn. -/
def State.setPawn (s : State) (q : Nat) (p : PawnSt) : State := { s with pawns := { s.pawns with pawns := mset {} s.pawns.pawns q p } }

/-- The cluster of a pawn number (R187). -/
def clusterOf (q : Nat) : Fin 8 := ⟨q / 16 % 8, Nat.mod_lt _ (by decide)⟩

/-- The object of a pawn (R221): 5.0pp.ss. -/
def pawnObj (q sub : Nat) : Nat := 0x500000 + 0x100 * q + sub

/-- The period of a cluster clock in time units: 32 ÷ n ns (R188). -/
def State.clusterPeriod (s : State) (c : Nat) : Nat := 32 * unitsPerNs / max 8 (s.rd (0x510000 + 0x1000 * c))

/-- The cluster clock edge at which pawn cycle j begins, counted from the divider phase reset (R194). -/
def startEdge (divv j : Nat) : Nat := ceilDiv (j * bits divv 23 0) 256

/-- The start of pawn cycle j in time units since the release of SEQ (R194). -/
def State.cycleStart (s : State) (q j : Nat) : Nat :=
  let p := s.pawn q
  p.phase0 + startEdge p.divv j * s.clusterPeriod (q / 16)

/-- The start s_j of the pawn's next cycle. -/
def State.sj (s : State) (q : Nat) : Nat := s.cycleStart q (s.pawn q).cyc

/-- The slot byte of a slot (R191). -/
def PawnSt.slot (p : PawnSt) (i : Nat) : Nat := mget 0 p.slots i

/-- A slot is enabled (R191). -/
def slotOn (b : Nat) : Bool := bit b 7

/-- A slot is an enabled output (R191). -/
def slotOut (b : Nat) : Bool := bit b 7 && bit b 6

/-- The pin of a slot of a pawn (R187, R191). -/
def slotPin (q b : Nat) : Nat := clusterPin (q / 16) (bits b 4 0)
where
  clusterPin (c i : Nat) : Nat := 32 * c + i

/-- The level a pawn cycle that starts at `sj` sees on a slot (R191, R193, R242): that of its pin 32 ns before; low where the slot is disabled or
the bank is disabled. -/
def State.slotLevel (s : State) (q i sj : Nat) : Bool :=
  let b := (s.pawn q).slot i
  slotOn b && !(s.pins.disabled.testBit (slotPin q b / 16)) && s.levelAt (slotPin q b) (sj / unitsPerNs - 32)

/-- The levels of all eight slots. -/
def State.slotLevels (s : State) (q sj : Nat) : Nat := ((List.range 8).map (fun i => b2n (s.slotLevel q i sj) * 2 ^ i)).sum

/-- The count of a FIFO between two of its pointers (R213). -/
def fifoCount (wp rp : BitVec 5) : Nat := (wp - rp).toNat

/-- A FIFO is full (R213). -/
def Fifo.full (f : Fifo) : Bool := fifoCount f.wp f.rp == 16

/-- Writes an entry (R213). -/
def Fifo.write (f : Fifo) (x : FifoEntry) : Fifo := { f with mem := mset {} f.mem (f.wp.toNat % 16) x, wp := f.wp + 1 }

/-- The entry at the read pointer (R213). -/
def Fifo.front (f : Fifo) : FifoEntry := mget {} f.mem (f.rp.toNat % 16)

/-- Advances the read pointer (R213). -/
def Fifo.pop (f : Fifo) : Fifo := { f with rp := f.rp + 1 }

/-- The words of the OUT FIFO that the pawn sees (R215). -/
def PawnSt.outCount (p : PawnSt) : Nat := fifoCount p.outF.vwp p.outF.rp

/-- The words in the IN FIFO (R213). -/
def PawnSt.inCount (p : PawnSt) : Nat := fifoCount p.inF.wp p.inF.rp

/-- The code of a run state (R190). -/
def runCode : RunState → Nat
  | .halted => 0 | .running => 1 | .stalled => 2 | .faulted => 3

/-- The pawn status word (R190). -/
def PawnSt.status (p : PawnSt) : Nat :=
  runCode p.run * 2 ^ 30 + p.pc.toNat * 2 ^ 24 + p.sc.toNat * 2 ^ 19 + p.inCount * 2 ^ 11 + p.outCount * 2 ^ 6 + b2n p.h * 8 + b2n p.t * 4 +
    b2n p.e * 2 + b2n p.z

/-- The word at an address of the active program (R189, R195). -/
def PawnSt.word (p : PawnSt) (a : Nat) : BitVec 32 := mget haltWord p.imem a

/-- The count C of a timeout register: count × 2^k (R202). -/
def PawnSt.limit (p : PawnSt) (i : Nat) : Nat :=
  let v := mget 0xFFFF p.tos i
  bits v 15 0 * 2 ^ bits v 19 16

/-- The item tag of a class 0x05 record (R237). -/
def pawnTag (q : Nat) (p : PawnSt) (whole : Bool) (words : Nat) : Nat :=
  q * 2 ^ 24 + b2n p.shiftIn * 2 ^ 23 + b2n whole * 2 ^ 22 + p.pc.toNat * 2 ^ 16 + words * 2 ^ 8 + p.sc.toNat

/-- The fabric time of an instant in time units, in units of 2^-16 ns. -/
def State.fabricTicks (s : State) (u : Nat) : Nat := (s.time.now * unitsPerNs + u * 65536 - s.time.beats * unitsPerBeat * 65536) / unitsPerNs

/-- A pawn-word failure at an instant (R236): counted in 5.0pp.28 and journalled once. -/
def State.wordFailure (s : State) (q u reason : Nat) (whole : Bool) (words : Nat) : State :=
  (s.inc (pawnObj q 0x28)).raiseAt (s.fabricTicks u) (.pwn (clusterOf q)) 0x05 reason (pawnTag q (s.pawn q) whole words)

/-- The words that the stalled instruction of a pawn would write: a PUSH one, a TSTMP one or two; none otherwise (R236). -/
def PawnSt.stalledWords (p : PawnSt) : Option Nat :=
  let w := (p.word p.pc.toNat).toNat
  if p.run = .stalled then
    (if bits w 31 27 = 0x0D then some 1 else if bits w 31 27 = 0x11 then some (if bit w 1 then 2 else 1) else none)
  else none

/-- A partial word or an abandoned PUSH or TSTMP is reported at an instant (R236): reason pawn word discarded. -/
def State.reportDiscard (s : State) (q u : Nat) : State :=
  let p := s.pawn q
  match p.stalledWords with
  | some n => s.wordFailure q u 0x53 true n
  | none => if p.sc ≠ 0 then s.wordFailure q u 0x53 false 0 else s

/-- A queued injection is discarded (R233): 5.0pp.26 reads 4. -/
def State.dropInjection (s : State) (q : Nat) : State :=
  if (s.pawn q).inj.isSome then (s.setPawn q { s.pawn q with inj := none }).wr (pawnObj q 0x26) 4 else s

/-- The slot bytes of a pawn's active map. -/
def PawnSt.slotBytes (p : PawnSt) : List Nat := (List.range 8).map p.slot

/-- Some pin would get two output slots within the pawn's cluster if the pawn had these slot bytes (R192). -/
def State.slotClash (s : State) (q : Nat) (bytes : List Nat) : Bool :=
  let mine := (bytes.filter slotOut).map (fun b => bits b 4 0)
  let others := ((List.range 16).filter (fun i => 16 * (q / 16) + i != q)).flatMap
    (fun i => (((s.pawn (16 * (q / 16) + i)).slotBytes).filter slotOut).map (fun b => bits b 4 0))
  mine.any (fun x => decide (1 < (mine.filter (fun y => y = x)).length) || others.contains x)

/-- The slot bytes that a swap would put in force: the staged map, or the active one where none is staged (R221, R223). -/
def PawnSt.nextSlots (p : PawnSt) : List Nat :=
  match p.stSlots with
  | some m => (List.range 8).map (fun i => mget 0 m i)
  | none => p.slotBytes

/-- The shadow program and the staged configuration become active (R223). -/
def PawnSt.takeShadow (p : PawnSt) : PawnSt :=
  { p with
    imem := p.shadow
    slots := p.stSlots.getD p.slots
    divv := p.stDiv.getD p.divv
    tos := p.stTos.foldl (fun m e => mset 0xFFFF m e.1 e.2) p.tos
    swapAt := none
    swapBank := false }

/-- A swap is made at a swap point (R223, R224): refused and journalled where a pin would get two output slots, otherwise the shadow becomes active and
the swap is counted. The answer says whether it was made. -/
def State.makeSwap (s : State) (q u : Nat) : State × Bool :=
  let p := s.pawn q
  if s.slotClash q p.nextSlots then
    (((s.setPawn q { p with swapAt := none, swapBank := false }).wr (pawnObj q 0x23) 3).raiseAt (s.fabricTicks u) (.pwn (clusterOf q)) 0x05 0x55 (pawnTag q p false 0), false)
  else ((((s.setPawn q p.takeShadow).wr (pawnObj q 0x23) 0).inc (pawnObj q 0x24)).dropInjection q, true)

/-- A swap is pending (R223): 5.0pp.23 reads 2. -/
def State.swapPending (s : State) (q : Nat) : Bool := s.rd (pawnObj q 0x23) = 2

/-- The entry address of 5.0pp.21 (R223). -/
def State.swapEntry (s : State) (q : Nat) : Nat := bits (s.rd (pawnObj q 0x21)) 5 0

/-- The swap of 5.0pp.21 is forced (R225). -/
def State.swapForced (s : State) (q : Nat) : Bool := bit (s.rd (pawnObj q 0x21)) 15

/-- A forced swap that will be made discards the word in work (R225, R236): a partial word, or that of an abandoned PUSH or TSTMP, is reported, and SC is 0. -/
def State.swapDiscards (s : State) (q u : Nat) : State :=
  if s.swapForced q && !(s.slotClash q (s.pawn q).nextSlots) then
    let t := s.reportDiscard q u
    t.setPawn q { t.pawn q with sc := 0 }
  else s

/-- A divider that a swap changed counts from the swap's effect edge; the cycle before it began at `prev`. -/
def State.rebase (s : State) (q old edge : Nat) (prev : Option Nat) : State :=
  if (s.pawn q).divv = old then s else s.setPawn q { s.pawn q with phase0 := edge, cyc := 0, prev := prev }

/-- The start of the cycle before this one (R209): none before the first cycle that follows a GO or a wake. -/
def State.previousStart (s : State) (q : Nat) : Option Nat :=
  let p := s.pawn q
  if p.cyc = 0 then p.prev else some (s.cycleStart q (p.cyc - 1))

/-- A swap made while the pawn is halted or faulted, at a cluster clock edge (R223, R225): PC goes to the entry address, the run state stays. -/
def State.swapHalted (s : State) (q edge : Nat) : State :=
  match (s.swapDiscards q edge).makeSwap q edge with
  | (t, true) => (t.setPawn q { t.pawn q with pc := BitVec.ofNat 6 (t.swapEntry q) }).rebase q (s.pawn q).divv edge (s.previousStart q)
  | (t, false) => t

/-- The swap becomes pending (R223): at once made where the pawn is halted or faulted. -/
def State.swapBecomesPending (s : State) (q : Nat) : State :=
  let s1 := (s.setPawn q { s.pawn q with swapAt := none, swapBank := false, pendAt := unitsPerBeat * s.time.beats }).wr (pawnObj q 0x23) 2
  match (s.pawn q).run with
  | .halted => s1.swapHalted q (unitsPerBeat * s.time.beats)
  | .faulted => s1.swapHalted q (unitsPerBeat * s.time.beats)
  | _ => s1

/-- A forced swap takes effect (R225): the partial word is reported, a stalled instruction abandoned, and the pawn goes on at the entry address. -/
def State.forceSwap (s : State) (q u : Nat) : State :=
  match (s.swapDiscards q u).makeSwap q u with
  | (t, true) =>
    let p := t.pawn q
    t.setPawn q { p with pc := BitVec.ofNat 6 (t.swapEntry q), execs := 0, barrier := none, run := if p.run = .stalled then .running else p.run }
  | (t, false) => t

/-- The levels that a cycle compares with for an edge (R210): those of the cycle before; in cycle 0 of a new phase the ones that it sees itself, so that no edge is
seen in it. -/
def PawnSt.history (p : PawnSt) (levels : Nat) : Nat := if p.cyc = 0 && p.prev.isNone then levels else p.hist

/-- The phase of a pawn's divider is reset at a cluster clock edge, and its edge history set to the levels that cycle 0 sees (R194, R210). -/
def State.resetPhase (s : State) (q edge : Nat) : State :=
  let s1 := s.setPawn q { s.pawn q with phase0 := edge, cyc := 0, prev := none }
  s1.setPawn q { s1.pawn q with hist := s1.slotLevels q edge }

/-- A pawn woken by the crossbar (R256): a halted pawn runs on as after a GO resume, its cycle 0 at the first cluster clock edge at or after 32 ns
past the PIN clock `ns`; any other pawn ignores the wake, which is counted. No wake reaches an isolated cluster, whose crossings are closed (R447). -/
def State.wakePawn (s : State) (q ns : Nat) : State :=
  let p := s.pawn q
  if s.partIsolated (0x20 + q / 16) then s
  else if p.run = .halted then
    let per := s.clusterPeriod (q / 16)
    (s.setPawn q { p with run := .running }).resetPhase q (ceilDiv ((ns + 32) * unitsPerNs) per * per)
  else s.inc 0x610202

/-- The pawns of a cluster halt at an isolation boundary (R447): partial words are reported. -/
def State.haltCluster (s : State) (c : Nat) : State :=
  (List.range 16).foldl (fun s i =>
    let q := 16 * c + i
    let s1 := s.reportDiscard q (unitsPerBeat * s.time.beats)
    let p := s1.pawn q
    s1.setPawn q { p with run := if p.run = .faulted then .faulted else .halted, sc := 0, execs := 0 }) s

/-- A reset that reaches a cluster (R212): every pawn of it takes its reset state, and its class-V objects their defaults. -/
def State.resetCluster (s : State) (c : Nat) : State :=
  { s with pawns := { s.pawns with
      pawns := s.pawns.pawns.filter (fun e => e.1 / 16 != c)
      lines := s.pawns.lines.filter (fun e => e.1 / 8 != c) } }

/-- The fabric time of an instant in time units, in nanoseconds (R206). -/
def State.fabricNs (s : State) (u : Nat) : Nat :=
  (s.time.now * unitsPerNs + u * 65536 - s.time.beats * unitsPerBeat * 65536) / (unitsPerNs * 65536)

/-- The pawn's group members of its own cluster (R228). -/
def State.groupOf (s : State) (q : Nat) : List Nat :=
  (List.range 16).filterMap (fun i => if (s.rd (pawnObj q 0x27)).testBit i then some (16 * (q / 16) + i) else none)

/-- A pawn has SYNC as its current instruction at an instant (R208). -/
def State.atSync (s : State) (q u : Nat) : Bool :=
  let p := s.pawn q
  (p.run = .running || p.run = .stalled) && bits (p.word p.pc.toNat).toNat 31 27 = 0x13 && decide (s.cycleStart q (p.cyc - p.execs) ≤ u)

/-- Adds the words of a COPY to the OUT FIFO (R57, R215): `wp` advances now, the words become visible at beat `vb`. -/
def PawnSt.copyIn (p : PawnSt) (ws : List (BitVec 32 × RecState)) (vb : Nat) : PawnSt :=
  let n := ws.length
  let f := (ws.zipIdx).foldl (fun f e => f.write ⟨e.1.1, e.1.2, e.2 + 1 == n, 0⟩) p.outF
  { p with outF := f, vis := p.vis ++ [(vb, n)] }

/-- Words become visible to the pawn (R215). -/
def PawnSt.reveal (p : PawnSt) (n : Nat) : PawnSt := { p with outF := { p.outF with vwp := p.outF.vwp + BitVec.ofNat 5 n } }

/-- The IN FIFO words that a COPY at an instant may pop (R216): those pushed at least the PWN → SEQ crossing bound before it. -/
def State.copyable (s : State) (q u : Nat) : Nat :=
  let p := s.pawn q
  let bound := 12 * unitsPerNs + 3 * s.clusterPeriod (q / 16)
  ((List.range p.inCount).takeWhile (fun k =>
    decide ((mget {} p.inF.mem ((p.inF.rp.toNat + k) % 16)).edge + bound ≤ u))).length

end Sys2Proof.Machine
end

