-- ==== Sys2Proof/Machine/Reflex.lean ====
section
/-!
DEFINITION. The reflex crossbar (R253 to R261): event lines, the map of the active bank, and its rules in the fixed order of R257.
-/
namespace Sys2Proof.Machine

/-- One crossbar rule (R255). -/
structure RuleRec where
  on      : Bool
  line    : Nat
  kind    : Nat
  mode    : Nat
  relLine : Nat
  bank    : Nat
  mask    : Nat
  value   : Nat
  deriving DecidableEq, Repr

/-- Reads a rule from its 64 bits (R255). -/
def parseRule (v : Nat) : RuleRec :=
  ⟨bit v 63, bits v 62 57, bits v 56 54, bits v 53 52, bits v 51 46, bits v 43 40, bits v 31 16, bits v 15 0⟩

/-- The rules of the active bank's map, with their numbers (R254, R258). -/
def State.rules (s : State) : List (Nat × RuleRec) :=
  let c := s.activeBank.crossbar
  if c.length < 6272 then [] else (List.range 256).map (fun k => (k, parseRule (leField c (0x1080 + 8 * k) 8)))

/-- The line source entry of a line (R254). -/
def State.lineSource (s : State) (l : Nat) : Nat :=
  let c := s.activeBank.crossbar
  if c.length < 6272 then 0 else leField c (2 * l) 2

/-- The inbound express map byte of an event (R254). -/
def State.inboundMap (s : State) (event : Nat) : Nat :=
  let c := s.activeBank.crossbar
  if c.length < 6272 then 0 else leField c (0x80 + event) 1

/-- The pins of a rule's mask (R255): bank and 16-bit mask. -/
def rulePins (r : RuleRec) : List Nat := (List.range 16).filterMap (fun p => if r.mask.testBit p then some (16 * r.bank + p) else none)

/-- The PIN clock `ns` as far as it has gone: the one the crossbar is in, or a new one. -/
def State.pinClock (s : State) (ns : Nat) : PinClock :=
  let fresh : PinClock := { ns := ns, owner := s.pins.owner, forced := s.pins.forced, frozen := s.pins.frozen }
  match s.pins.clock with
  | some c => if c.ns = ns then c else fresh
  | none => fresh

/-- An event line acts (R258): its bit in 6.100.00 is set. -/
def State.lineOn (s : State) (l : Nat) : Bool := (s.rd 0x610000).testBit l

/-- The enabled rules of a kind whose line was raised in a PIN clock, in the order of the table (R255, R257, R258). -/
def State.clockRules (s : State) (c : PinClock) (kind : Nat) : List (Nat × RuleRec) :=
  s.rules.filter (fun e => e.2.on && e.2.kind == kind && c.lines.contains e.2.line && s.lineOn e.2.line)

/-- A held force or freeze ends in a PIN clock (R256, R257): a boundary release, a release by command, or its release line; and whatever the rules of kind
release name. -/
def State.clockEnds (s : State) (c : PinClock) (e : Nat × PinHold) : Bool :=
  (c.bound && (e.2.mode == 0 || c.all)) || (e.2.mode == 1 && c.lines.contains e.2.line && s.lineOn e.2.line) ||
    (s.clockRules c 5).any (fun r => (rulePins r.2).contains e.1)

/-- The forces of a PIN clock (R256, R257): what its releases leave, then every pin of a force rule, where the lowest-numbered rule holds; with the pins
forced in this clock and the number of conflicts. -/
def State.clockForces (s : State) (c : PinClock) : NMap PinHold × List Nat × Nat :=
  (s.clockRules c 1).foldl (fun acc r => (rulePins r.2).foldl (fun a pin =>
      if a.2.1.contains pin then (a.1, a.2.1, a.2.2 + 1)
      else (minsert a.1 pin ⟨r.1, r.2.mode, r.2.relLine, r.2.value.testBit (pin % 16)⟩, pin :: a.2.1, a.2.2)) acc)
    (c.forced.filter (fun e => !(s.clockEnds c e)), [], 0)

/-- The freezes of a PIN clock (R256, R257): what its releases leave, then every pin of a freeze rule, at the level it drives after the forces of the clock. -/
def State.clockFreezes (s : State) (c : PinClock) (forced : NMap PinHold) : NMap PinHold × List Nat :=
  (s.clockRules c 2).foldl (fun acc r => (rulePins r.2).foldl (fun a pin =>
      (minsert a.1 pin ⟨r.1, r.2.mode, r.2.relLine, heldLevel forced a.1 c.owner pin⟩, pin :: a.2)) acc)
    (c.frozen.filter (fun e => !(s.clockEnds c e)), [])

/-- The crossbar's releases, forces and freezes of a PIN clock, all lines of it together (R256, R257): the holders that result, the conflicts counted once
(6.102.01), and the latches that follow. A pin forced or frozen leaves the level that core loss gave it (R251). -/
def State.settleClock (s : State) (c : PinClock) : State :=
  let f := s.clockForces c
  let z := s.clockFreezes c f.1
  let touched := ((s.pins.forced ++ s.pins.frozen ++ f.1 ++ z.1).map (fun e => e.1)).eraseDups
  let s1 : State := { s with pins := { s.pins with
    forced := f.1
    frozen := z.1
    clock := some { c with conf := f.2.2 }
    loss := (f.2.1 ++ z.2).foldl (fun m p => merase m p) s.pins.loss } }
  touched.foldl (fun s p => s.syncLatch p) ((List.range (f.2.2 - c.conf)).foldl (fun s _ => s.inc 0x610201) s1)

/-- The wakes and emissions that a line triggers (R256, R257); they cease after core loss (R259). -/
def State.lineActs (s : State) (l ns : Nat) : State :=
  if s.pins.coreLoss then s
  else
    (s.rules.filter (fun e => e.2.on && e.2.line == l && (e.2.kind == 3 || e.2.kind == 4))).foldl
      (fun s e =>
        if e.2.kind == 3 then
          (List.range 16).foldl (fun s p => if e.2.mask.testBit p then s.wakePawn (16 * (e.2.bank % 8) + p) ns else s) s
        else s.emitExpress (e.2.value % 4096) ns) s

/-- An event line is raised for the PIN clock `ns` (R253, R256 to R258): raises of one line in one clock count as one; only enabled lines act. -/
def State.raiseLine (s : State) (l ns : Nat) : State :=
  let c := s.pinClock ns
  if c.lines.contains l then s
  else
    let s1 := s.inc (0x610100 + l)
    let c1 := { c with lines := c.lines ++ [l] }
    if s.lineOn l then (s1.settleClock c1).lineActs l ns else { s1 with pins := { s1.pins with clock := some c1 } }

/-- A received or emitted express event reaches the crossbar (R122, R253): it raises the line its inbound map byte assigns. Without feature 0.0
nothing is delivered (R341); after core loss nothing is raised (R259). -/
def State.crossbarExpress (s : State) (x : Express) (ns : Nat) : State :=
  let b := s.inboundMap x.event
  if s.feature 0 && bit b 7 && !s.pins.coreLoss then (s.inc 0x610204).raiseLine (b % 64) ns else s

/-- The edge kind of a line source matches an edge to `lvl` (R254). -/
def edgeMatches (src : Nat) (lvl : Bool) : Bool := if lvl then bit src 13 else bit src 14

/-- The lines whose pin source is this pin and edge (R253, R254). -/
def State.pinLines (s : State) (pin : Nat) (lvl : Bool) : List Nat :=
  (List.range 64).filter (fun l => bit (s.lineSource l) 15 && bits (s.lineSource l) 7 0 = pin && edgeMatches (s.lineSource l) lvl)

/-- Releases of the cycle boundary, at its first PIN clock (R256): holders of release mode 0, and every holder after a command. -/
def State.boundaryReleases (s : State) : State :=
  let s1 := s.settleClock { s.pinClock s.nowNs with bound := true, all := s.pins.relAll }
  { s1 with pins := { s1.pins with relAll := false } }

end Sys2Proof.Machine
end

