-- ==== Sys2Proof/Machine/PawnInstr.lean ====
section
/-!
DEFINITION. The pawn instruction set (R195 to R211): what each instruction does in one pawn cycle, stalls and timeouts (R201, R202), injected
instructions (R232, R233), illegal words (R211), and GO (R210, R229).
-/
namespace Sys2Proof.Machine

/-- One pawn cycle (R200): the pawn, the word it executes, its start s_j and effect edge in time units, the slot levels it sees, and whether
the word is injected (R232). -/
structure PawnCycle where
  q        : Nat
  w        : Nat
  sj       : Nat
  edge     : Nat
  levels   : Nat
  injected : Bool
  deriving DecidableEq, Repr

/-- Opcode (R195). -/
def opcodeOf (w : Nat) : Nat := bits w 31 27
/-- Condition field (R195). -/
def condOf (w : Nat) : Nat := bits w 26 24
/-- Target of a jump (R197). -/
def targetOf (w : Nat) : Nat := bits w 5 0
/-- The timeout register named (R197). -/
def toOf (w : Nat) : Nat := bits w 15 14
/-- The slot named (R197). -/
def slotOf (w : Nat) : Nat := bits w 10 8

/-- The word has a reserved opcode, condition code or operand bit (R197, R211). -/
def illegalWord (w : Nat) : Bool :=
  let c := condOf w
  let o := bits w 15 0
  match opcodeOf w with
  | 0x00 => c != 0 || o != 0
  | 0x01 => c != 0 || bits o 15 6 != 0
  | 0x02 => bits o 15 6 != 0
  | 0x03 => c != 0 || bits o 15 6 != 0
  | 0x04 => c != 0 || bits o 15 6 != 0
  | 0x05 => decide (3 < c)
  | 0x06 => decide (3 < c)
  | 0x07 => decide (3 < c)
  | 0x08 => decide (1 < c) || bits o 13 11 != 0 || bits o 7 0 != 0
  | 0x09 => decide (2 < c) || bits o 13 11 != 0 || bits o 7 0 != 0
  | 0x0A => decide (1 < c) || bits o 15 14 != 0
  | 0x0B => decide (1 < c) || bits o 15 11 != 0 || bits o 7 0 != 0
  | 0x0C => decide (1 < c) || bits o 15 11 != 0 || bits o 7 0 != 0
  | 0x0D => c != 0 || bits o 13 1 != 0
  | 0x0E => c != 0 || bits o 13 0 != 0
  | 0x0F => bits o 15 6 != 0
  | 0x10 => decide (3 < c)
  | 0x11 => c != 0 || bits o 13 2 != 0
  | 0x12 => c != 0 || bits o 15 9 != 0 || bits o 7 6 != 0 || (bit o 8 && bits o 5 3 != 0)
  | 0x13 => c != 0 || bits o 13 0 != 0
  | 0x14 => c != 0 || bits o 15 6 != 0
  | 0x15 => c != 0 || o != 0
  | _ => true

/-- A pawn drives a slot at an effect edge (R191, R193, R203): only an enabled output slot drives its pin, and none while the cluster is isolated, its crossings
closed (R447, R448). The PIN island releases the change 32 ns after the edge; DESIGN CHOICE within the ± 2 ns of R193: at the first PIN clock at or after that. -/
def State.driveSlot (s : State) (q i edge : Nat) (lvl : Bool) : State :=
  let b := (s.pawn q).slot i
  if slotOut b && !(s.partIsolated (0x20 + q / 16)) then s.pinLater (ceilDiv edge unitsPerNs + 32) (.drive (slotPin q b) lvl) else s

/-- The side field of an instruction (R196), but for a slot that its SHO drives. -/
def State.sideCodes (s : State) (c : PawnCycle) (skip : Option Nat) : State :=
  (List.range 4).foldl (fun s i =>
    if skip = some i then s
    else match bits c.w (17 + 2 * i) (16 + 2 * i) with
      | 1 => s.driveSlot c.q i c.edge false
      | 2 => s.driveSlot c.q i c.edge true
      | 3 => s.driveSlot c.q i c.edge (!(s.slotOutput (slotPin c.q ((s.pawn c.q).slot i))))
      | _ => s) s

/-- The cycle is the first execution of its instruction (R196). -/
def State.firstExec (s : State) (c : PawnCycle) : Bool := c.injected || (s.pawn c.q).execs = 0

/-- The side field acts in the first execution only (R196). -/
def State.sideFirst (s : State) (c : PawnCycle) : State := if s.firstExec c then s.sideCodes c none else s

/-- Where a cycle that ends leaves the pawn (R200, R232, R233): the PC at `pc`, or the next word; an injected word leaves the PC unless it sets
it, and a halted or faulted pawn its run state. -/
def PawnSt.endCycle (p : PawnSt) (c : PawnCycle) (pc : Option Nat) : PawnSt :=
  let p1 := { p with hist := c.levels, cyc := p.cyc + 1 }
  if c.injected then
    match pc with
    | some a => { p1 with pc := BitVec.ofNat 6 a, execs := 0, inj := none, run := if p.run = .stalled then .running else p.run }
    | none => { p1 with inj := none }
  else { p1 with pc := (match pc with | some a => BitVec.ofNat 6 a | none => p.pc + 1), execs := 0, barrier := none, run := .running }

/-- A finished injection reads 2 in 5.0pp.26 (R239). -/
def State.noteInjected (s : State) (c : PawnCycle) (v : Nat) : State := if c.injected then s.wr (pawnObj c.q 0x26) v else s

/-- The instruction completes (R203): its effect on the pawn's own registers is `f`, its PC effect `pc`. -/
def State.finish (s : State) (c : PawnCycle) (pc : Option Nat) (f : PawnSt → PawnSt) : State :=
  (s.setPawn c.q ((f (s.pawn c.q)).endCycle c pc)).noteInjected c 2

/-- The instruction completes in its first cycle, with its side field (R196, R203). -/
def State.finishSide (s : State) (c : PawnCycle) (pc : Option Nat) (f : PawnSt → PawnSt) : State := (s.sideFirst c).finish c pc f

/-- The instruction stalls (R201). -/
def State.stall (s : State) (c : PawnCycle) : State :=
  let s1 := s.sideFirst c
  let p := s1.pawn c.q
  s1.setPawn c.q { p with hist := c.levels, cyc := p.cyc + 1, execs := p.execs + 1, run := .stalled }

/-- An injected instruction whose condition does not hold (R233): T and the side field only; 5.0pp.26 reads 3. -/
def State.injectedMiss (s : State) (c : PawnCycle) : State :=
  let s1 := s.sideFirst c
  let p := s1.pawn c.q
  (s1.setPawn c.q { p with hist := c.levels, cyc := p.cyc + 1, t := true, inj := none }).noteInjected c 3

/-- A completion with T set counts in 5.0pp.11 (R221). -/
def State.countTimeout (s : State) (q : Nat) : State := s.inc (pawnObj q 0x11)

/-- A stalling instruction completes by timeout (R202): T is set, the PC goes on, a lost word is reported (R236), and WAITE clears E. -/
def State.timeout (s : State) (c : PawnCycle) (clearE : Bool) (lost : Option (Nat × Nat)) : State :=
  let s1 := match lost with
    | some (reason, words) => s.wordFailure c.q c.edge reason false words
    | none => s
  (s1.countTimeout c.q).finish c none (fun p => { p with t := true, e := p.e && !clearE })

/-- One execution of a stalling instruction under a timeout register (R201, R202, R233): `done` where its condition holds. -/
def State.waitFor (s : State) (c : PawnCycle) (holds clearE : Bool) (lost : Option (Nat × Nat)) (done : State → State) : State :=
  if holds then done (s.sideFirst c)
  else if c.injected then s.injectedMiss c
  else if (s.pawn c.q).limit (toOf c.w) ≤ (s.pawn c.q).execs then s.timeout c clearE lost
  else s.stall c

/-- NOP (R203). -/
def effNop (c : PawnCycle) (s : State) : State := s.finishSide c none id

/-- JMP (R203). -/
def effJmp (c : PawnCycle) (s : State) : State := s.finishSide c (some (targetOf c.w)) id

/-- A jump taken or not. -/
def jumpIf (b : Bool) (w : Nat) : Option Nat := if b then some (targetOf w) else none

/-- The jump conditions of JCC (R198). -/
def PawnSt.jcc (p : PawnSt) (k : Nat) : Bool :=
  match k with
  | 0 => p.z | 1 => !p.z | 2 => p.e | 3 => !p.e | 4 => p.t | 5 => !p.t
  | 6 => decide (0 < p.outCount)
  | _ => !p.inF.full

/-- JCC (R198, R203). -/
def effJcc (c : PawnCycle) (s : State) : State := s.finishSide c (jumpIf ((s.pawn c.q).jcc (condOf c.w)) c.w) id

/-- DJA (R203). -/
def effDja (c : PawnCycle) (s : State) : State :=
  let n := (s.pawn c.q).ca - 1
  s.finishSide c (jumpIf (n != 0) c.w) (fun p => { p with ca := n, z := n == 0 })

/-- DJB (R203). -/
def effDjb (c : PawnCycle) (s : State) : State :=
  let n := (s.pawn c.q).cb - 1
  s.finishSide c (jumpIf (n != 0) c.w) (fun p => { p with cb := n, z := n == 0 })

/-- The source of LDA and LDB (R204). -/
def loadSource (w : Nat) (sh : BitVec 32) (other : BitVec 16) : BitVec 16 :=
  match condOf w with
  | 0 => BitVec.ofNat 16 (bits w 15 0)
  | 1 => sh.setWidth 16
  | 2 => (sh >>> 16).setWidth 16
  | _ => other

/-- LDA (R204). -/
def effLda (c : PawnCycle) (s : State) : State := s.finishSide c none (fun p => { p with ca := loadSource c.w p.sh p.cb })

/-- LDB (R204). -/
def effLdb (c : PawnCycle) (s : State) : State := s.finishSide c none (fun p => { p with cb := loadSource c.w p.sh p.ca })

/-- The new comparand of LDC (R204). -/
def loadCmp (w : Nat) (sh cmp : BitVec 32) : BitVec 32 :=
  let imm := bits w 15 0
  match condOf w with
  | 0 => BitVec.ofNat 32 (cmp.toNat / 65536 * 65536 + imm)
  | 1 => BitVec.ofNat 32 (imm * 65536 + cmp.toNat % 65536)
  | 2 => sh
  | _ => BitVec.ofNat 32 imm

/-- LDC (R204). -/
def effLdc (c : PawnCycle) (s : State) : State := s.finishSide c none (fun p => { p with cmp := loadCmp c.w p.sh p.cmp })

/-- WAITP (R203). -/
def effWaitp (c : PawnCycle) (s : State) : State :=
  s.waitFor c (c.levels.testBit (slotOf c.w) == (condOf c.w == 1)) false none (fun s => s.finish c none (fun p => { p with t := false }))

/-- The edge that WAITE names is seen in this cycle (R203, R210). -/
def edgeSeen (kind : Nat) (prev cur : Bool) : Bool :=
  match kind with
  | 0 => !prev && cur
  | 1 => prev && !cur
  | _ => prev != cur

/-- WAITE (R203). -/
def effWaite (c : PawnCycle) (s : State) : State :=
  s.waitFor c (edgeSeen (condOf c.w) (((s.pawn c.q).history c.levels).testBit (slotOf c.w)) (c.levels.testBit (slotOf c.w))) true none
    (fun s => s.finish c none (fun p => { p with e := true, t := false }))

/-- The target beat of WAITB (R209): none where no GO has started the pawn since reset. -/
def waitTarget (c : PawnCycle) (p : PawnSt) (first : Bool) : Option Nat :=
  let k := bits c.w 13 0
  if condOf c.w = 0 then p.goBeat.map (· + k) else some ((if first then c.sj / unitsPerBeat else p.issue) + k)

/-- WAITB (R209). DESIGN CHOICE: in a cycle that no cycle precedes, a target beat before its start has passed. -/
def effWaitb (c : PawnCycle) (s : State) : State :=
  let p := s.pawn c.q
  let first := s.firstExec c
  match waitTarget c p first with
  | none => ((s.sideFirst c).countTimeout c.q).finish c none (fun p => { p with t := true })
  | some b =>
    if unitsPerBeat * b ≤ c.sj then
      let passed := first && (match s.previousStart c.q with | some t => decide (unitsPerBeat * b ≤ t) | none => decide (unitsPerBeat * b < c.sj))
      (if passed then (s.sideFirst c).countTimeout c.q else s.sideFirst c).finish c none (fun p => { p with t := passed })
    else if c.injected then s.injectedMiss c
    else
      let t := s.stall c
      if first then t.setPawn c.q { t.pawn c.q with issue := c.sj / unitsPerBeat } else t

/-- SHO (R196, R203). -/
def effSho (c : PawnCycle) (s : State) : State :=
  let p := s.pawn c.q
  let lsb := bit c.w 24
  let b := if lsb then p.sh.toNat.testBit 0 else p.sh.toNat.testBit 31
  ((s.sideCodes c (some (slotOf c.w))).driveSlot c.q (slotOf c.w) c.edge b).finish c none
    (fun p => { p with sh := if lsb then p.sh >>> 1 else p.sh <<< 1, sc := p.sc + 1, shiftIn := false })

/-- SHI (R203). -/
def effShi (c : PawnCycle) (s : State) : State :=
  let b := c.levels.testBit (slotOf c.w)
  let v : BitVec 32 := if b then 1 else 0
  s.finishSide c none
    (fun p => { p with sh := if bit c.w 24 then (v <<< 31) ||| (p.sh >>> 1) else (p.sh <<< 1) ||| v, sc := p.sc + 1, z := !b, shiftIn := true })

/-- The state of the words that a pawn pushes (R203, R206): held if H is set. -/
def PawnSt.pushState (p : PawnSt) : RecState := if p.h then .held else .fresh

/-- Words enter the IN FIFO (R213, R218): a word with the end flag completes a packet, which is counted and, where enabled, noticed. -/
def State.pushIn (s : State) (q edge : Nat) (last : Bool) (ws : List (BitVec 32)) : State :=
  let p := s.pawn q
  let n := ws.length
  let f := (ws.zipIdx).foldl (fun f e => f.write ⟨e.1, p.pushState, last && e.2 + 1 == n, edge⟩) p.inF
  let s1 := s.setPawn q { p with inF := f }
  if last then
    let s2 := s1.wr (pawnObj q 0x10) ((s1.rd (pawnObj q 0x10) + 1) % 65536)
    if s2.rd (pawnObj q 0x0F) = 1 then s2.notice (32 + q) else s2
  else s1

/-- PUSH (R203). -/
def effPush (c : PawnCycle) (s : State) : State :=
  s.waitFor c (!(s.pawn c.q).inF.full) false (some (0x50, 1))
    (fun s => (s.pushIn c.q c.edge (bit c.w 0) [(s.pawn c.q).sh]).finish c none (fun p => { p with sc := 0, t := false }))

/-- PULL (R203). -/
def effPull (c : PawnCycle) (s : State) : State :=
  s.waitFor c (decide (0 < (s.pawn c.q).outCount)) false (some (0x51, 1))
    (fun s => s.finish c none (fun p =>
      let x := p.outF.front
      { p with outF := p.outF.pop, sh := x.word, sc := 0, h := p.h || x.state != .fresh, z := x.last, t := false }))

/-- The relations of CMPJ (R199). -/
def cmpRel (k : Nat) (sh cmp : BitVec 32) : Bool :=
  match k with
  | 0 => sh == cmp
  | 1 => sh != cmp
  | 2 => decide (sh.toNat < cmp.toNat)
  | 3 => decide (cmp.toNat ≤ sh.toNat)
  | 4 => decide (cmp.toNat < sh.toNat)
  | 5 => decide (sh.toNat ≤ cmp.toNat)
  | 6 => (sh &&& cmp) != 0
  | _ => (sh &&& cmp) == 0

/-- CMPJ (R199, R203). -/
def effCmpj (c : PawnCycle) (s : State) : State :=
  let p := s.pawn c.q
  s.finishSide c (jumpIf (cmpRel (condOf c.w) p.sh p.cmp) c.w) (fun p => { p with z := p.sh == p.cmp })

/-- The CRC register after one bit (R205). -/
def crcStep (reflected b : Bool) (poly r : BitVec 16) : BitVec 16 :=
  if reflected then (r >>> 1) ^^^ (if (r.toNat.testBit 0) != b then poly else 0)
  else (r <<< 1) ^^^ (if (r.toNat.testBit 15) != b then poly else 0)

/-- CRCS (R205). -/
def effCrcs (c : PawnCycle) (s : State) : State :=
  let p := s.pawn c.q
  let b := if bit c.w 24 then p.sh.toNat.testBit 0 else p.sh.toNat.testBit 31
  let r := crcStep (bit c.w 25) b (BitVec.ofNat 16 (bits c.w 15 0)) (p.cmp.setWidth 16)
  s.finishSide c none (fun p => { p with cmp := BitVec.ofNat 32 (p.cmp.toNat / 65536 * 65536 + r.toNat), z := r == 0 })

/-- The words that TSTMP pushes (R206). -/
def State.stampWords (s : State) (c : PawnCycle) : List (BitVec 32) :=
  let ns := s.fabricNs c.sj
  if bit c.w 1 then [BitVec.ofNat 32 (ns / 1000000000), BitVec.ofNat 32 (ns % 1000000000 / 2 * 2)] else [BitVec.ofNat 32 (ns / 2)]

/-- TSTMP (R203, R206). -/
def effTstmp (c : PawnCycle) (s : State) : State :=
  let n := if bit c.w 1 then 2 else 1
  s.waitFor c (decide ((s.pawn c.q).inCount + n ≤ 16)) false (some (0x52, n))
    (fun t => (t.pushIn c.q c.edge (bit c.w 0) (s.stampWords c)).finish c none (fun p => { p with t := false }))


/-- A sequencer event line of a cluster is raised (R207): raises at one cluster clock edge count as one. -/
def State.raiseSeqLine (s : State) (cl l edge : Nat) : State :=
  let k := 8 * cl + l
  let x := mget {} s.pawns.lines k
  if x.edge = some edge then s
  else
    let x' : EventLine := ⟨x.raises + 1, if x.raises = 0 then s.fabricTicks edge else x.first, some edge⟩
    { s with pawns := { s.pawns with lines := mset {} s.pawns.lines k x' } }

/-- EVT (R207, R253): a reflex line is raised in the PIN island 30 ns after the effect edge, and none after core loss (R259). Nothing leaves an isolated cluster, whose
crossings are closed (R447, R448). -/
def effEvt (c : PawnCycle) (s : State) : State :=
  let s1 := s.finishSide c none id
  if s1.partIsolated (0x20 + c.q / 16) then s1
  else if bit c.w 8 then s1.raiseSeqLine (c.q / 16) (bits c.w 2 0) c.edge
  else if s1.pins.coreLoss then s1
  else s1.pinLater (ceilDiv c.edge unitsPerNs + 30) (.line (bits c.w 5 0))

/-- At the cycle start of a SYNC the barrier of a pawn of the cluster completes (R208, R228): the pawn is at SYNC, as is every member of its own group. -/
def State.barrierMet (s : State) (c : PawnCycle) (m : Nat) : Bool :=
  let at_ (k : Nat) : Bool := k == c.q || s.atSync k c.sj
  at_ m && (s.pawn m).barrier.isNone && (s.groupOf m).all at_

/-- The start of a SYNC completes every barrier of the cluster that waited for it (R208): each pawn keeps the edge of its own. -/
def State.meetBarrier (s : State) (c : PawnCycle) : State :=
  (((List.range 16).map (fun i => 16 * (c.q / 16) + i)).filter (s.barrierMet c)).foldl
    (fun t m => t.setPawn m { t.pawn m with barrier := some c.sj }) s

/-- SYNC (R208, R228). -/
def effSync (c : PawnCycle) (s : State) : State :=
  let s1 := s.meetBarrier c
  s1.waitFor c (match (s1.pawn c.q).barrier with | some e => decide (e ≤ c.sj) | none => false) false none
    (fun s => s.finish c none (fun p => { p with t := false, barrier := none }))

/-- SWAP (R203, R223, R224, R238): it sees a swap that became pending at or before its cycle's start. An injection that waits behind a fetched SWAP is discarded by the
swap it makes (R233). -/
def effSwap (c : PawnCycle) (s : State) : State :=
  let p := s.pawn c.q
  if s.swapPending c.q && decide (p.pendAt ≤ c.sj) then
    let s1 := s.sideFirst c
    match (if c.injected then s1.setPawn c.q { s1.pawn c.q with inj := none } else s1).makeSwap c.q c.edge with
    | (t, true) => (t.finish c (some (targetOf c.w)) id).rebase c.q p.divv c.edge (some c.sj)
    | (t, false) => t.finish c none id
  else s.finishSide c none id

/-- HALT (R203, R223, R233): a pending swap is made at its effect edge. -/
def effHalt (c : PawnCycle) (s : State) : State :=
  let r := (s.pawn c.q).run
  let s1 := s.finishSide c none id
  let s2 := s1.setPawn c.q { s1.pawn c.q with run := if r = .faulted then .faulted else .halted, execs := 0 }
  if s2.swapPending c.q then s2.swapHalted c.q c.edge else s2

/-- An illegal word (R211): the pawn is faulted, the PC stays, nothing else is done but the journal record. -/
def effIllegal (c : PawnCycle) (s : State) : State :=
  let p := s.pawn c.q
  (s.setPawn c.q { p with hist := c.levels, cyc := p.cyc + 1, execs := 0, run := .faulted }).raiseAt (s.fabricTicks c.edge) (.pwn (clusterOf c.q)) 0x05 0x54
    (c.q * 2 ^ 24 + p.pc.toNat * 2 ^ 16 + p.sc.toNat)

/-- The effect of one cycle by the opcode of its word (R203). -/
def effOf (c : PawnCycle) (s : State) : State :=
  if illegalWord c.w then effIllegal c s
  else match opcodeOf c.w with
    | 0x00 => effNop c s
    | 0x01 => effJmp c s
    | 0x02 => effJcc c s
    | 0x03 => effDja c s
    | 0x04 => effDjb c s
    | 0x05 => effLda c s
    | 0x06 => effLdb c s
    | 0x07 => effLdc c s
    | 0x08 => effWaitp c s
    | 0x09 => effWaite c s
    | 0x0A => effWaitb c s
    | 0x0B => effSho c s
    | 0x0C => effShi c s
    | 0x0D => effPush c s
    | 0x0E => effPull c s
    | 0x0F => effCmpj c s
    | 0x10 => effCrcs c s
    | 0x11 => effTstmp c s
    | 0x12 => effEvt c s
    | 0x13 => effSync c s
    | 0x14 => effSwap c s
    | _ => effHalt c s

/-- The cycle that the pawn executes next: the word at PC, or the injected one, from s_j to s_(j+1), or to `cut` where a GO ends it (R229). -/
def State.nextCycle (s : State) (q : Nat) (injected : Bool) (cut : Option Nat) : PawnCycle :=
  let p := s.pawn q
  let sj := s.sj q
  ⟨q, (match injected, p.inj with | true, some w => w.toNat | _, _ => (p.word p.pc.toNat).toNat), sj,
   cut.getD (s.cycleStart q (p.cyc + 1)), s.slotLevels q sj, injected⟩

/-- The pawn's clock runs: its cluster is released and not isolated by a halt. -/
def State.pawnLive (s : State) (q : Nat) : Bool := decide (q < 128) && s.ticking

/-- The pawn executes instructions: running or stalled (R189, R200). -/
def PawnSt.goes (p : PawnSt) : Bool := p.run = .running || p.run = .stalled

/-- The pawn's next cycle executes the queued injected word (R232): it begins after the write reached the cluster. -/
def State.injects (s : State) (q : Nat) : Bool := (s.pawn q).inj.isSome && decide ((s.pawn q).injAt ≤ s.sj q)

/-- The pawn's next cycle executes the word at PC with opcode `op`, and the word is legal. -/
def State.fetches (s : State) (q op : Nat) : Bool :=
  let p := s.pawn q
  let w := (p.word p.pc.toNat).toNat
  s.pawnLive q && p.goes && !(s.injects q) && !(illegalWord w) && opcodeOf w == op

/-- The pawn's next cycle executes an illegal word at PC (R211). -/
def State.fetchesIllegal (s : State) (q : Nat) : Bool :=
  let p := s.pawn q
  s.pawnLive q && p.goes && !(s.injects q) && illegalWord (p.word p.pc.toNat).toNat

/-- One pawn cycle of an instruction: it takes place where the pawn fetches it. -/
def State.pawnCycle (s : State) (q op : Nat) (eff : PawnCycle → State → State) : State :=
  if s.fetches q op then eff (s.nextCycle q false none) s else s

/-- The stalling instruction at PC would complete by timeout in its next execution (R202). -/
def State.timesOut (s : State) (q : Nat) : Bool :=
  let p := s.pawn q
  let w := (p.word p.pc.toNat).toNat
  let c := s.nextCycle q false none
  s.pawnLive q && p.goes && !(s.injects q) && !(illegalWord w) && decide (p.limit (toOf w) ≤ p.execs) &&
    (match opcodeOf w with
     | 0x08 => !(c.levels.testBit (slotOf w) == (condOf w == 1))
     | 0x09 => !(edgeSeen (condOf w) ((p.history c.levels).testBit (slotOf w)) (c.levels.testBit (slotOf w)))
     | 0x0D => p.inF.full
     | 0x0E => decide (p.outCount = 0)
     | 0x11 => !(decide (p.inCount + (if bit w 1 then 2 else 1) ≤ 16))
     | 0x13 => (match ((s.meetBarrier c).pawn q).barrier with | some e => !(decide (e ≤ c.sj)) | none => true)
     | _ => false)

/-- The cycle in progress at a GO edge ends there with its normal effects (R229). -/
def State.cutCycle (s : State) (q edge : Nat) : State :=
  if decide (s.sj q < edge) then effOf (s.nextCycle q (s.injects q) (some edge)) s else s

/-- A GO start reaches a pawn at a beat start (R58, R210, R223, R229): the cycle in progress of a running pawn ends, a discarded word is
reported, a pending swap is made, an injection dropped, and the pawn starts. -/
def State.goStart (s : State) (q addr group : Nat) : State :=
  let edge := unitsPerBeat * s.time.beats
  let sc := if (s.pawn q).run = .running then s.cutCycle q edge else s
  let s0 := sc.reportDiscard q edge
  let s1 := if s0.swapPending q then (s0.makeSwap q edge).1 else s0
  let s2 := s1.dropInjection q
  let s3 := s2.setPawn q { s2.pawn q with
    pc := BitVec.ofNat 6 addr, sc := 0, z := false, e := false, t := false, h := false, run := .running, execs := 0, barrier := none
    goBeat := some s.time.beats }
  (s3.resetPhase q edge).wr (pawnObj q 0x27) group

/-- A GO resume reaches a pawn (R58, R210, R229): the cycle in progress ends at the GO edge; a faulted pawn ignores the GO and counts it. -/
def State.goResume (s : State) (q group : Nat) : State :=
  let edge := unitsPerBeat * s.time.beats
  let sc := if (s.pawn q).goes then s.cutCycle q edge else s
  let p := sc.pawn q
  match p.run with
  | .faulted => sc.inc (pawnObj q 0x29)
  | r =>
    let s1 := sc.setPawn q { p with run := if r = .halted then .running else r, goBeat := some s.time.beats }
    (s1.resetPhase q edge).wr (pawnObj q 0x27) group

/-- A GO reaches the pawns of a mask in one cluster (R58, R228). -/
def State.goCluster (s : State) (c mask : Nat) (resume : Bool) (addr : Nat) : State :=
  (List.range 16).foldl (fun s i => if mask.testBit i then
    (if resume then s.goResume (16 * c + i) mask else s.goStart (16 * c + i) addr mask) else s) s

/-- The next cycle of a halted or faulted pawn's divider at or after now (R233). -/
def State.alignCycle (s : State) (q : Nat) : State :=
  let p := s.pawn q
  if p.goes then s
  else
    let now := unitsPerBeat * s.time.beats
    let e := ceilDiv (now - p.phase0) (s.clusterPeriod (q / 16))
    let j := if e = 0 then 0 else 256 * (e - 1) / max 1 (bits p.divv 23 0) + 1
    s.setPawn q { p with cyc := max p.cyc j }

/-- The queued injected instruction executes, in the first cycle that begins after its write (R232, R233). -/
def State.injectedCycle (s : State) (q : Nat) : State :=
  let s1 := s.alignCycle q
  if s.pawnLive q && s1.injects q then effOf (s1.nextCycle q true none) s1 else s

end Sys2Proof.Machine
end

