-- ==== Sys2Proof/Machine/PawnService.lean ====
section
/-!
DEFINITION. Pawns in service: arming and withdrawing swaps (R223 to R227), injection (R232 to R234), manual GO (R231), the staged configuration
(R221), the FIFO ports and the instruction memories (R215 to R220).
-/
namespace Sys2Proof.Machine

/-- A write to 5.0pp.20 arms a swap (R223): pending at once while no bank is active. A swap made on the write that would give a pin two output slots is refused with the
range error (R192, R224). -/
def State.armSwap (s : State) (q v : Nat) : OdRes :=
  if s.hasBank then stagedRes ((s.setPawn q { s.pawn q with swapAt := some v, swapBank := false }).wr (pawnObj q 0x23) 1)
  else
    let t := s.swapBecomesPending q
    if t.rd (pawnObj q 0x23) = 3 then errRes t 0x04 else okRes t

/-- The armed swaps whose boundary this is become pending (R223). -/
def State.swapsAtBoundary (s : State) : State :=
  (s.pawns.pawns.filter (fun e => e.2.swapAt == some 0 || e.2.swapAt == some s.cycle)).foldl (fun s e => s.swapBecomesPending e.1) s

/-- A write of 1 to 5.0pp.22 withdraws an armed or pending swap (R227). -/
def State.withdrawSwap (s : State) (q : Nat) : State :=
  if s.rd (pawnObj q 0x23) = 1 || s.rd (pawnObj q 0x23) = 2 then
    (s.setPawn q { s.pawn q with swapAt := none, swapBank := false }).wr (pawnObj q 0x23) 0
  else s

/-- A forced swap takes effect at the first pawn cycle start at or after its boundary (R225): the cycle in progress there completes first, with the word at PC or
the injected one (R232). A pawn that faults in that cycle, or has faulted since, swaps too and stays faulted (R211, R223). -/
def State.forcedSwapDue (s : State) (q : Nat) : State :=
  let p := s.pawn q
  if s.pawnLive q && s.swapPending q && s.swapForced q && (!p.goes || decide (p.pendAt ≤ s.sj q ∨ p.pendAt ≤ s.cycleStart q (p.cyc + 1))) then
    let s1 := if p.goes && decide (s.sj q < p.pendAt) then effOf (s.nextCycle q (s.injects q) none) s else s
    if s1.swapPending q then (s1.forceSwap q (s1.sj q)).rebase q (s1.pawn q).divv (s1.sj q) (s1.previousStart q) else s1
  else s

/-- The active bank names a cluster in a GO move or in a COPY from or to a pawn FIFO (R234). -/
def State.clusterScheduled (s : State) (c : Nat) : Bool :=
  s.moves.any (fun m => (m.act == 0x04 && m.a.testBit (16 + c)) || copyFifoCluster m == some c)

/-- A write to 5.0pp.25 (R232 to R234). -/
def State.inject (s : State) (q w : Nat) : OdRes :=
  let busy := (s.pawn q).inj.isSome
  if illegalWord w then errRes (if busy then s else s.wr (pawnObj q 0x26) 5) 0x04
  else if busy then errRes s 0x06
  else if (s.mode = .run || s.mode = .repair) && s.clusterScheduled (q / 16) && !(s.partIsolated (0x20 + q / 16)) then errRes (s.wr (pawnObj q 0x26) 5) 0x02
  else okRes ((s.setPawn q { s.pawn q with inj := some (BitVec.ofNat 32 w), injAt := unitsPerBeat * s.time.beats }).wr (pawnObj q 0x26) 1)

/-- A write to 5.1c0.02 (R231): the GO is issued at the next beat start. -/
def State.manualGo (s : State) (c v : Nat) : OdRes :=
  let ok := match s.mode with
    | .configure => true | .test => true | .hold => true
    | .repair => s.partIsolated (0x20 + c)
    | _ => false
  if ok then okRes { s with pawns := { s.pawns with manual := s.pawns.manual ++ [(c, v)] } } else errRes s 0x02

/-- The manual GOs written since the last beat start reach their clusters (R231). -/
def State.runManual (s : State) : State :=
  s.pawns.manual.foldl (fun s e => s.goCluster e.1 (bits e.2 31 16) (bit e.2 8) (bits e.2 5 0))
    { s with pawns := { s.pawns with manual := [] } }

/-- A write to a slot map goes to the staged configuration (R192, R221): refused where a pin would get two output slots or the reserved
bit of a slot byte is set (R191). -/
def State.stageSlots (s : State) (q : Nat) (v : List Byte) : OdRes :=
  let b := v.map (·.toNat)
  if s.slotClash q b || b.any (fun x => bit x 5) then errRes s 0x04
  else stagedRes (s.setPawn q { s.pawn q with stSlots := some ((b.zipIdx).filterMap (fun e => if e.1 = 0 then none else some (e.2, e.1))) })

/-- A write to a divider goes to the staged configuration (R194, R221). -/
def State.stageDivider (s : State) (q v : Nat) : OdRes :=
  if dividerOk v then stagedRes (s.setPawn q { s.pawn q with stDiv := some v }) else errRes s 0x04

/-- A write to a timeout register goes to the staged configuration (R202, R221). -/
def State.stageTimeout (s : State) (q i v : Nat) : OdRes :=
  if timeoutOk v then stagedRes (s.setPawn q { s.pawn q with stTos := minsert (s.pawn q).stTos i v }) else errRes s 0x04

/-- The Keeper loads a pawn program entry into the shadow (R222, R495). -/
def State.loadProgram (s : State) (r : ProgramRec) : State :=
  let p := s.pawn r.pawn
  let mem := ((r.words.map (BitVec.ofNat 32)).zipIdx).foldl (fun m e => mset haltWord m e.2 e.1) []
  (s.setPawn r.pawn { p with
    shadow := mem
    stSlots := some ((r.slotMap.zipIdx).filterMap (fun e => if e.1 = 0 then none else some (e.2, e.1)))
    stDiv := some r.divider
    stTos := (r.touts.zipIdx).map (fun e => (e.2, e.1)) }).wr (pawnObj r.pawn 0x21) r.swap

/-- A pawn program entry differs from what the pawn executes: its instruction memory, slot map, divider and timeouts (R223). -/
def State.programChanges (s : State) (r : ProgramRec) : Bool :=
  let p := s.pawn r.pawn
  !((List.range 64).map (fun k => (p.word k).toNat) == r.words && p.slotBytes == r.slotMap && p.divv == r.divider &&
    (List.range 4).map (mget 0xFFFF p.tos) == r.touts)

/-- The Keeper arms the swap of every pawn whose program changes with a bank for that bank's switch boundary (R223). DESIGN CHOICE: a swap already pending stays
pending. -/
def State.armPrograms (s : State) (b : Bank) : State :=
  (bankProgramList b).foldl (fun s r =>
    if s.programChanges r && !(s.swapPending r.pawn) then
      (s.setPawn r.pawn { s.pawn r.pawn with swapAt := none, swapBank := true }).wr (pawnObj r.pawn 0x23) 1
    else s) s

/-- The swaps that the Keeper armed for a bank switch become pending at its boundary (R223). -/
def State.swapPrograms (s : State) : State :=
  (s.pawns.pawns.filter (fun e => e.2.swapBank)).foldl (fun s e => s.swapBecomesPending e.1) s

/-- The bank switch for which the Keeper armed swaps is withdrawn (R83, R223): they are no longer armed. -/
def State.disarmPrograms (s : State) : State :=
  (s.pawns.pawns.filter (fun e => e.2.swapBank)).foldl (fun s e =>
    (s.setPawn e.1 { s.pawn e.1 with swapBank := false }).wr (pawnObj e.1 0x23) 0) s

/-- The words of a COPY become visible in the OUT FIFO (R215). -/
def State.revealWords (s : State) (q : Nat) : State :=
  let p := s.pawn q
  match p.vis with
  | (vb, n) :: rest => if vb ≤ s.time.beats then s.setPawn q (({ p with vis := rest }).reveal n) else s
  | [] => s

/-- The pawn whose FIFO end a COPY of group PWN names (R54, R57): the IN FIFO as a source, the OUT FIFO as a destination. -/
def copyPawn (m : MoveRec) (out : Bool) : Option Nat :=
  if m.act = 0x03 && m.grp = 7 && (if out then bits m.a 29 28 = 3 else bits m.a 31 30 = 2) then some (bits m.b 62 56) else none

/-- A FIFO end belongs to the schedule (R217). -/
def State.endScheduled (s : State) (q : Nat) (out : Bool) : Bool := s.moves.any (fun m => copyPawn m out == some q)

/-- Outcome of a fabric request (R114) with the value it returns and its bytes. -/
structure PortAnswer where
  st      : State
  outcome : Nat
  value   : Nat := 0
  deriving DecidableEq, Repr

/-- A fabric read of a FIFO port (R217, R219): `n` bytes at offset `o` of pawn `q`. -/
def State.fifoRead (s : State) (q o n : Nat) : PortAnswer :=
  let p := s.pawn q
  if (n ≠ 4 && n ≠ 8) || o % n ≠ 0 then { st := s, outcome := 0x8 }
  else if o = 0x00 then
    if s.endScheduled q false then { st := s, outcome := 0x5 }
    else if p.inCount = 0 then { st := s, outcome := 0 }
    else
      let x := p.inF.front
      let v := if n = 4 then x.word.toNat
        else x.word.toNat + stateCode x.state * 2 ^ 32 + b2n x.last * 2 ^ 34 + 2 ^ 35
      { st := s.setPawn q { p with inF := p.inF.pop }, outcome := 0, value := v }
  else if o = 0x08 then
    { st := s, outcome := 0, value := p.inCount + p.outCount * 2 ^ 8 + s.rd (pawnObj q 0x10) * 2 ^ 16 }
  else { st := s, outcome := 0x8 }

/-- A fabric write of one word into the OUT FIFO (R215, R217, R219): both write pointers advance together; a full FIFO refuses and counts. -/
def State.fifoPush (s : State) (q : Nat) (w : BitVec 32) (last : Bool) : PortAnswer :=
  let p := s.pawn q
  if s.endScheduled q true then { st := s, outcome := 0x5 }
  else if p.outF.full then { st := s.inc (pawnObj q 0x12), outcome := 0x5 }
  else
    let f := p.outF.write ⟨w, .fresh, last, 0⟩
    { st := s.setPawn q { p with outF := { f with vwp := f.vwp + 1 } }, outcome := 0 }

/-- A fabric write to a FIFO port (R219). Offsets 0x00 and 0x04 take one word each, the low word of an access of 8 bytes. -/
def State.fifoWrite (s : State) (q o n v : Nat) : PortAnswer :=
  if (n ≠ 4 && n ≠ 8) || o % n ≠ 0 then { st := s, outcome := 0x8 }
  else if o = 0x00 then s.fifoPush q (BitVec.ofNat 32 v) false
  else if o = 0x04 then s.fifoPush q (BitVec.ofNat 32 v) true
  else if o = 0x08 then { st := s, outcome := 0x5 }
  else { st := s, outcome := 0x8 }

/-- A read of space 0x05 (R220): bytes of the active program or of the shadow, words little-endian; before the return of its cluster a shadow holds the active program
(R449). -/
def State.imemRead (s : State) (o n : Nat) : Option (List Byte) :=
  if (n = 4 || n = 8) && o % n = 0 then
    let p := s.pawn (o / 0x200)
    some ((List.range (n / 4)).flatMap (fun k =>
      let i := o % 0x200 / 4 + k
      natLE 4 (if i < 64 then mget haltWord p.imem i else mget haltWord ((p.ret.map (·.imem)).getD p.shadow) (i - 64)).toNat))
  else none

/-- A write to space 0x05 (R220): always into the shadow. -/
def State.imemWrite (s : State) (o : Nat) (v : List Byte) : Option State :=
  if (v.length = 4 || v.length = 8) && o % v.length = 0 then
    some ((List.range (v.length / 4)).foldl (fun s k =>
      let q := o / 0x200
      let p := s.pawn q
      s.setPawn q { p with shadow := mset haltWord p.shadow ((o % 0x200 / 4 + k) % 64) (BitVec.ofNat 32 (leField v (4 * k) 4)) }) s)
  else none

/-- The slot map as an object reads it (R221): the active bytes. -/
def PawnSt.slotBlob (p : PawnSt) : List Byte := p.slotBytes.map (BitVec.ofNat 8)

end Sys2Proof.Machine
end

