-- ==== Sys2Proof/Machine/PinCmds.lean ====
section
/-!
DEFINITION. Pins in service: taking samples with the setup and hold check (R26, R55), edges (R246 to R248), pin configuration (R243, R244), hold
latches (R250), bank supplies (R241, R242), core loss (R251) and the release command (R256).
-/
namespace Sys2Proof.Machine

/-- The input declaration of a pin in the active bank (R26, R495). DESIGN CHOICE: a sampled pin for which the bank declares none has setup and hold 0, a
window of no width. -/
def State.inputDecl (s : State) (pin : Nat) : InputRec :=
  ((bankInputList s.activeBank).find? (fun d => d.pin == pin)).getD ⟨pin, 0, 0, 0⟩

/-- The edge sampler recorded an edge of a pin in the window of R26 about the sample instant `ns`. -/
def State.pinViolates (s : State) (pin ns : Nat) : Bool :=
  let d := s.inputDecl pin
  (mget [] s.pins.hist pin).any (fun e => decide (1000 * ns ≤ 1000 * e.at_ + d.setup) && decide (1000 * e.at_ ≤ 1000 * ns + d.hold))

/-- The level of a pin at the start of the window of R26, before any edge in it. -/
def State.windowLevel (s : State) (pin ns : Nat) : Bool := s.levelAt pin (ceilDiv (1000 * ns - (s.inputDecl pin).setup) 1000 - 1)

/-- Writes bits of a pin mask into a 64-bit word. -/
def putBits (old quad : Nat) (pins : List Nat) (f : Nat → Bool) : Nat := pins.foldl (fun w p => setBit w (p - 64 * quad) (f p)) old

/-- The timestamp word of a pin with its new bit cleared (R248). -/
def clearNew (w : Nat) : Nat := setBit w 30 false

/-- A SAMPLE of mode 1 or 2 at `ns` consumes the edges it saw (R55, R248): the flag of a pin is set again from its first later edge, and the edges before the
instant are no longer new. -/
def State.consumeEdges (s : State) (mode ns : Nat) (pins : List Nat) : State :=
  match mode with
  | 1 =>
    let later (p : Nat) : Option Nat := ((mget [] s.pins.hist p).filter (fun e => decide (ns < e.at_))).getLast?.map (·.at_)
    { s with pins := { s.pins with flagAt := pins.foldl (fun m p => match later p with | some t => minsert m p t | none => merase m p) s.pins.flagAt } }
  | 2 => match pins with
    | p :: _ =>
      let l := (mget [] s.pins.hist p).map (fun e => if e.at_ < ns then { e with stamp := clearNew e.stamp } else e)
      match l with
      | e :: _ => ({ s with pins := { s.pins with hist := mset [] s.pins.hist p l } }).wr (lastEdgeObj p) e.stamp
      | [] => s
    | [] => s
  | _ => s

/-- The timestamp word of the latest edge of a pin before an instant (R248); zero before its first edge. -/
def State.edgeBefore (s : State) (pin ns : Nat) : Nat :=
  match (mget [] s.pins.hist pin).find? (fun e => decide (e.at_ < ns)) with
  | some e => e.stamp
  | none => 0

/-- A pin has had an edge since its last SAMPLE of mode 1, at or before an instant (R55). -/
def State.edgeFlag (s : State) (pin ns : Nat) : Bool := match mfind s.pins.flagAt pin with | some t => decide (t ≤ ns) | none => false

/-- The eight bytes that a SAMPLE at `ns` writes (R55). -/
def State.sampleValue (s : State) (mode off quad ns : Nat) (pins : List Nat) : List Byte :=
  match mode with
  | 0 => natLE 8 (putBits (leNat (memRead s.seq.input.working off 8)) quad pins (fun p => s.levelAt p ns))
  | 1 => natLE 8 (putBits (leNat (memRead s.seq.input.working off 8)) quad pins (fun p => s.edgeFlag p ns))
  | _ => match pins with
    | p :: _ => natLE 8 (s.edgeBefore p ns)
    | [] => natLE 8 0

/-- The pins of a SAMPLE that a record takes from it (R55, R26): those whose bit lies in one of the record's words; in mode 0x2, where the word is a
timestamp, every pin of the mask. -/
def samplePins (m : MoveRec) (r : RecDecl) : List Nat :=
  (quadPins (bits m.a 19 16) m.b).filter
    (fun p => bits m.a 23 20 == 2 || r.covers .input (bits m.a 15 0 + (p - 64 * bits m.a 19 16) / 32 * 4))

/-- The window of R26 about a sample is over for every pin. -/
def SampleTaken.open_ (t : SampleTaken) (ns : Nat) : Bool := t.decls.any (fun d => decide (1000 * ns ≤ 1000 * t.ns + d.hold))

/-- An input setup violation (R40): bit [7] of 4.080.01, present to the end of the cycle. -/
def State.setupFailed (s : State) : State := ({ s with seq := { s.seq with setupFail := true } }).latchFailure 7

/-- Record `i`, in the eight bytes of a SAMPLE, is in setup violation (R26, R34, R37): counted in 4.080.13 and journalled, and, while its release boundary
has not passed, late with the level that each of its pins had at the start of the window as its value. DESIGN CHOICE: in modes 0x1 and 0x2 the flags or
the timestamp already written are kept, since R26 speaks of levels. DEDUCED from R42: a violation found after the release boundary, or after the
cycle of the sample, changes nothing that was delivered. -/
def State.violateRecord (s : State) (t : SampleTaken) (e : Nat × RecDecl) : State :=
  let quad := bits t.move.a 19 16
  let off := bits t.move.a 15 0
  let s1 := s.inc 0x408013
  if t.cycle != s.cycle then s1.raise .pin 0x01 0x03 (e.2.off * 2 ^ 16 + 2 ^ 8 + t.cycle % 256)
  else if (s.recLive e.1).released then s1.depart e.1 0x03
  else
    let v := putBits (leNat (memRead s.seq.input.working off 8)) quad (samplePins t.move e.2) (fun p => s.windowLevel p t.ns)
    let s2 := if bits t.move.a 23 20 = 0 then s1.arriveBytes .input off (natLE 8 v) else s1
    (s2.setRecLive e.1 { s2.recLive e.1 with state := .late, arrived := true }).depart e.1 0x03

/-- Pins violate the window of a sample (R26): every record of it with such a pin, not yet found in violation, is. -/
def State.violateSample (s : State) (t : SampleTaken) (hit : Nat → Bool) : State × SampleTaken :=
  let new := t.recs.filter (fun e => !(t.bad.contains e.1) && (samplePins t.move e.2).any hit)
  (new.foldl (fun s e => s.violateRecord t e) s, { t with bad := t.bad ++ new.map (·.1) })

/-- A SAMPLE executed normally (R55) at the beat start `ns`: a pin of a bank without supply makes its record late (R242); a violated window of R26
makes the record late with the level before the window. -/
def State.takeSample (s : State) (m : MoveRec) : State :=
  let quad := bits m.a 19 16
  let mode := bits m.a 23 20
  let pins := quadPins quad m.b
  let off := bits m.a 15 0
  let ns := s.nowNs
  if pins.any (fun p => s.pins.disabled.testBit (p / 16)) then s.holdRange .input off 8 .late 0x0B
  else
    let v := s.sampleValue mode off quad ns pins
    let s1 := s.imgArrive .input off v .fresh 0
    let t : SampleTaken := {
      ns := ns, move := m, cycle := s.cycle, decls := pins.map s.inputDecl, bad := []
      recs := (s.recordsIn .input off 8).filterMap (fun k => (s.records[k]?).map (fun r => (k, r))) }
    let (s2, t2) := if pins.any (fun p => s1.pinViolates p ns) then s1.setupFailed.violateSample t (fun p => s1.pinViolates p ns) else (s1, t)
    let s3 := s2.consumeEdges mode ns pins
    { s3 with pins := { s3.pins with samples := t2 :: s3.pins.samples } }

/-- The edge of a pin at `ns` falls into the hold window of a sample already taken (R26). -/
def SampleTaken.holds (t : SampleTaken) (pin ns : Nat) : Bool :=
  decide (t.ns ≤ ns) && t.decls.any (fun d => d.pin == pin && decide (1000 * ns ≤ 1000 * t.ns + d.hold))

/-- The samples already taken are checked against an edge of a pin at `ns` (R26). -/
def State.lateHold (s : State) (pin ns : Nat) : List SampleTaken → State
  | [] => { s with pins := { s.pins with samples := [] } }
  | t :: rest =>
    let s1 := s.lateHold pin ns rest
    let (s2, t2) := if t.holds pin ns then s1.setupFailed.violateSample t (fun p => p == pin) else (s1, t)
    { s2 with pins := { s2.pins with samples := t2 :: s2.pins.samples } }

/-- Edges kept: those that a window of R26 or a pawn slot can still see, and the one before them. -/
def recentEdges (l : List EdgeRec) (ns : Nat) : List EdgeRec :=
  let r := l.takeWhile (fun e => decide (ns ≤ e.at_ + 8600000))
  r ++ (l.drop r.length).take 1

/-- The filtered view of a pin changes to a level at the PIN clock `ns`, the first raw sample at that level having been at `raw` (R246 to R248): edge flag,
last edge, history, the check of samples just taken (R26), and the lines whose source it is (R253). -/
def State.filteredEdge (s : State) (pin raw ns : Nat) (lvl : Bool) : State :=
  let p := s.pins
  let w := s.edgeStamp raw lvl
  let s1 := { s with pins := { p with
    filt := setBit p.filt pin lvl
    flagAt := if (mfind p.flagAt pin).isSome then p.flagAt else minsert p.flagAt pin ns
    hist := mset [] p.hist pin (recentEdges (⟨ns, lvl, w⟩ :: mget [] p.hist pin) ns) } }
  let s2 := s1.wr (lastEdgeObj pin) w
  let s3 := s2.lateHold pin ns s2.pins.samples
  (s3.pinLines pin lvl).foldl (fun s l => s.raiseLine l ns) s3

/-- What is due at a PIN clock takes place there (R193, R246, R253). -/
def State.pinDue (s : State) (e : Nat × PinDue) : State :=
  match e.2 with
  | .drive pin lvl => s.ownerSet pin lvl
  | .filtered pin lvl raw => s.filteredEdge pin raw e.1 lvl
  | .line l => s.raiseLine l e.1

/-- The PIN island acts up to and with the PIN clock `ns`. -/
def State.pinsThrough (s : State) (ns : Nat) : State :=
  (s.pins.due.filter (fun e => decide (e.1 ≤ ns))).foldl (fun s e => s.pinDue e)
    { s with pins := { s.pins with due := s.pins.due.filter (fun e => decide (ns < e.1)) } }

/-- The PIN island acts to the end of the beat (R240); and beats go on, which ends what core loss stopped (R259), unless the
island failed its BIST (R413). -/
def State.pinsToBeat (s : State) : State :=
  let s1 := s.pinsThrough (s.nowNs + 31)
  { s1 with pins := { s1.pins with coreLoss := s1.isolated .pin } }

/-- A filtered change of a pin that has not come true by `ns` is given up (R246): its raw level changed again. -/
def State.breakPulse (s : State) (pin ns : Nat) : State :=
  { s with pins := { s.pins with due := s.pins.due.filter (fun e => match e.2 with
    | .filtered p _ _ => !(p == pin && decide (ns ≤ e.1))
    | _ => true) } }

/-- The edge sampler takes its first sample of a pin at a new raw level at the PIN clock `off` ns into the current beat (R246): the filtered view follows at
the F-th sample in a row at that level, at once in bypass; a shorter pulse is suppressed. While the hub is powered but the sampler is not, the level is the one it
will start from, without an edge. -/
def State.pinEdge (s : State) (pin off : Nat) (lvl : Bool) : State :=
  if 256 ≤ pin then s
  else if s.coreUp then
    let ns := s.nowNs + off
    if s.pins.raw.testBit pin == lvl then s.pinsThrough ns
    else
      let s1 := (s.breakPulse pin ns).pinsThrough ns
      let s2 := { s1 with pins := { s1.pins with raw := setBit s1.pins.raw pin lvl } }
      if s2.pins.filt.testBit pin == lvl then s2
      else if s2.pinFilter pin = 1 then s2.filteredEdge pin ns ns lvl
      else s2.pinLater (ns + (s2.pinFilter pin - 1)) (.filtered pin lvl ns)
  else if s.mode != .noPower then { s with pins := { s.pins with raw := setBit s.pins.raw pin lvl, filt := setBit s.pins.filt pin lvl } }
  else s

/-- A pin configuration word is allowed (R243): reserved fields zero, no reserved code, no filter length of 1. -/
def pinWordOk (v : Nat) : Bool :=
  bits v 31 16 != 1 && bits v 15 14 != 3 && bit v 12 == false && bits v 5 4 != 3 && bits v 3 0 == 0

/-- The configuration word of a pin takes effect (R244): a pin that was in input-only mode and is an output now drives its hold latch level. -/
def State.setPinConfig (s : State) (pin v : Nat) : State :=
  let loss := if s.outputMode pin = 0 && bits v 5 4 != 0 then merase s.pins.loss pin else s.pins.loss
  ({ s with pins := { s.pins with loss := loss } }).wr (0x600000 + 0x1000 * (pin / 16) + pin % 16) v

/-- A write to 6.0b0.pp (R244): at the next cycle boundary while a table bank is active, else at once. -/
def State.writePinConfig (s : State) (pin v : Nat) : OdRes :=
  let o := 0x600000 + 0x1000 * (pin / 16) + pin % 16
  if !(pinWordOk v) then errRes s 0x04
  else if s.hasBank then stagedRes { s with pins := { s.pins with staged := minsert s.pins.staged o v } }
  else okRes (s.setPinConfig pin v)

/-- A write to 6.100.00 (R258): at the next cycle boundary, whether or not a table bank is active; at once while there are no boundaries (R407). -/
def State.writeLineEnable (s : State) (v : Nat) : OdRes := if !s.ticking then okRes (s.wr 0x610000 v) else stagedRes { s with pins := { s.pins with staged := minsert s.pins.staged 0x610000 v } }

/-- A write to 6.0b1.03 (R250): owner level and latch of every pin of the bank that is neither forced nor frozen. -/
def State.writeLatches (s : State) (bank v : Nat) : State :=
  (List.range 16).foldl (fun s p =>
    let pin := 16 * bank + p
    if (mfind s.pins.forced pin).isSome || (mfind s.pins.frozen pin).isSome then s
    else ({ s with pins := { s.pins with owner := setBit s.pins.owner pin (v.testBit p) } }).syncLatch pin) s

/-- A bank is enabled again (R242). -/
def State.enableBank (s : State) (b : Nat) : State := { s with pins := { s.pins with disabled := setBit s.pins.disabled b false } }

/-- A write of 1 to 6.0b1.02 (R242): at the next cycle boundary while a table bank is active, else at once; a bank whose supply is absent stays
disabled. -/
def State.reEnable (s : State) (b : Nat) : OdRes :=
  if s.hasBank then stagedRes { s with pins := { s.pins with reEnable := setBit s.pins.reEnable b true } }
  else okRes (if s.pins.present.testBit b then s.enableBank b else s)

/-- A write of 1 to 6.100.03 (R256): every force and freeze ends at the next cycle boundary; at once while there are none (R407). -/
def State.releaseAll (s : State) : OdRes :=
  let t : State := { s with pins := { s.pins with relAll := true } }
  if s.ticking then stagedRes t else okRes t.boundaryReleases

/-- A staged word takes effect (R244, R258): a pin configuration word, or the line enables. -/
def State.putStaged (s : State) (o v : Nat) : State := if o = 0x610000 then s.wr o v else s.setPinConfig (16 * (o / 0x1000 % 16) + o % 16) v

/-- The pin actions of a cycle boundary (R242, R244, R256, R258): staged words, re-enabled banks, releases. -/
def State.pinsAtBoundary (s : State) : State :=
  let s1 := s.pins.staged.foldl (fun s e => s.putStaged e.1 e.2) s
  let s2 := (List.range 16).foldl (fun s b =>
    if s.pins.reEnable.testBit b && s.pins.present.testBit b then s.enableBank b else s) s1
  ({ s2 with pins := { s2.pins with staged := [], reEnable := 0 } }).boundaryReleases

/-- VIOb is measured (R241): object 6.0b1.04 and the window of ±10 % about the declared voltage. -/
def State.vioMeasure (s : State) (b mv : Nat) : State :=
  let decl := s.rd (0x600101 + 0x1000 * b)
  let out := decide (10 * mv < 9 * decl) || decide (11 * decl < 10 * mv)
  ({ s with pins := { s.pins with outside := setBit s.pins.outside b out } }).wr (0x600104 + 0x1000 * b) mv

/-- VIOb falls below its reset level (R242): the bank stops driving and stays disabled. -/
def State.bankLost (s : State) (b : Nat) : State :=
  { s with pins := { s.pins with present := setBit s.pins.present b false, disabled := setBit s.pins.disabled b true } }

/-- VIOb is above its reset level (R241). -/
def State.bankPresent (s : State) (b : Nat) : State := { s with pins := { s.pins with present := setBit s.pins.present b true } }

/-- What a reset of the PIN island leaves (R250): forces, freezes, staged words and what was due end, each owner level is that of its hold latch, and the
filtered view starts from the raw levels. -/
def State.resetPins (s : State) : State :=
  let owner := (List.range 16).foldl (fun m b => m + s.rd (0x600103 + 0x1000 * b) * 2 ^ (16 * b)) 0
  { s with pins := { owner := owner, raw := s.pins.raw, filt := s.pins.raw, present := s.pins.present, outside := s.pins.outside, disabled := s.pins.disabled,
                     loss := s.pins.loss, coreLoss := s.pins.coreLoss } }

/-- The mask of the pins that the crossbar forces, or freezes (R262): 32 bytes, bit 16b + p for GIO_b_p. -/
def holdMask (m : NMap PinHold) : List Byte := natLE 32 (m.foldl (fun a e => a + 2 ^ e.1) 0)

end Sys2Proof.Machine
end

