-- ==== Sys2Proof/Machine/Switch.lean ====
section
/-!
DEFINITION. The switch (R156 to R186): lookup, policing, admission, queues, gates, shapers, arbitration, epochs and fences, and the discards that
are journalled and reported (R115, R185).
-/
namespace Sys2Proof.Machine

/-- Cells of a frame with `n` payload bytes (R158). -/
def frameCells (n : Nat) : Nat := 1 + ceilDiv (n - 200) 256

/-- The queue of an egress port and class (R157). -/
def queueOf (port cls : Nat) : Nat := 8 * port + cls

/-- The object of a queue (R186): 3.1qq.ss. -/
def queueObj (q sub : Nat) : Nat := 0x310000 + 0x100 * q + sub

/-- The SWX clocks since the release of SEQ, `off` ns into this beat: 20 to the beat, at 625 MHz. -/
def State.swxClock (s : State) (off : Nat) : Nat := 20 * s.time.beats + off * 5 / 8

/-- The time `off` ns into this beat, in units of 10 ps since the release of SEQ. -/
def State.at10ps (s : State) (off : Nat) : Nat := 3200 * s.time.beats + 100 * off

/-- The frames of a feed (R157). -/
def State.feed (s : State) (q ing : Nat) : List FrameCopy := mget [] s.switch.feeds (16 * q + ing)

/-- Writes the frames of a feed. -/
def State.setFeed (s : State) (q ing : Nat) (l : List FrameCopy) : State :=
  { s with switch := { s.switch with feeds := mset [] s.switch.feeds (16 * q + ing) l } }

/-- All copies of a queue. -/
def State.queueCopies (s : State) (q : Nat) : List FrameCopy := (List.range 9).flatMap (fun i => s.feed q i)

/-- The copies that are leaving, which hold their cells until they have left (R158). -/
def State.airCopies (s : State) : List FrameCopy := s.switch.onAir.filterMap (fun e => e.2.copy)

/-- The copies charged to a queue: those that wait in it and one of it that is leaving. -/
def State.chargedCopies (s : State) (q : Nat) : List FrameCopy :=
  s.queueCopies q ++ s.airCopies.filter (fun c => queueOf c.egress c.cls == q)

/-- The depth of a queue in cells (R159, object 3.1qq.06). -/
def State.queueDepth (s : State) (q : Nat) : Nat := ((s.chargedCopies q).map (fun c => frameCells c.frame.len)).sum

/-- The reserve of a queue (R159). -/
def State.reserve (s : State) (q : Nat) : Nat := s.cell (queueObj q 0)

/-- The sum of all reserves (R159). -/
def State.reserveSum (s : State) : Nat := ((List.range 72).map s.reserve).sum

/-- Cells taken from the shared pool (R159). -/
def State.poolUsed (s : State) : Nat := ((List.range 72).map (fun q => s.queueDepth q - s.reserve q)).sum

/-- Free cells of the buffer (R158, object 3.000.00). -/
def State.freeCells (s : State) : Nat := 16384 - (s.switch.stored.map (fun e => e.2.cells)).sum

/-- A copy of `n` cells can be charged to queue `q` (R159). -/
def State.admits (s : State) (q n : Nat) : Bool :=
  let d := s.queueDepth q
  let r := s.reserve q
  decide (d + n ≤ r) ||
    (decide (s.poolUsed + (d + n - max d r) + s.reserveSum ≤ 16384) && decide (d + n ≤ s.cell (queueObj q 1)))

/-- The table epoch (R169). -/
def State.epoch (s : State) : Nat := s.rd 0x300002

/-- The drain count of an epoch (R169). -/
def State.drainOf (s : State) (e : Nat) : Nat := mget 0 s.switch.drain e

/-- The drain counts as object 3.000.03 shows them (R186). -/
def State.drainWord (s : State) : Nat := ((List.range 4).map (fun e => s.drainOf e * 2 ^ (16 * e))).sum

/-- The route code of a node table entry (R163): the own entry reads 6, code 7 reads 0; spur codes act as 0 without feature 0.1 (R341). -/
def State.routeCode (s : State) (n : Nat) : Nat :=
  if n = s.node then 6
  else
    let c := s.rd (0x320000 + n)
    if c = 7 then 0 else if (c = 4 || c = 5) && !(s.feature 1) then 0 else c

/-- The folded hash h4 of a flow (R166). -/
def flowHash (src dst flow : Nat) : Nat :=
  let k := src * 2 ^ 30 + dst * 2 ^ 20 + flow
  let h8 := (bits k 39 32) ^^^ (bits k 31 24) ^^^ (bits k 23 16) ^^^ (bits k 15 8) ^^^ (bits k 7 0)
  (bits h8 7 4) ^^^ (bits h8 3 0)

/-- How far along ring A a node lies from this hub. -/
def State.ringAhead (s : State) (n : Nat) : Nat := ((Config.ringPlace n).toNat + 1024 - (Config.ringPlace s.node).toNat) % 1024

/-- A broken main-ring span lies on the way along ring A to a node (R136): the span after the reporting node's port E, before its port W. -/
def State.onRingA (s : State) (d : Nat) (r : WrapBlock) : Bool :=
  match r.port with
  | .e => decide (s.ringAhead r.node < s.ringAhead d)
  | .w => decide (0 < s.ringAhead r.node) && decide (s.ringAhead r.node ≤ s.ringAhead d)
  | _ => false

/-- The breaks of the main ring that this hub knows (R132, R136): its own and those of the REPORTs it holds. A port that it has isolated itself is none
of them: frames for it are discarded (R185, R447). -/
def State.mainBreaks (s : State) : List WrapBlock :=
  let own := [Port.e, .w].filterMap (fun p =>
    if (s.port p).broken && !(s.partIsolated (0x10 + portNum p)) then some (⟨s.node, p, 0, (s.port p).brkReason, 0, 0⟩ : WrapBlock) else none)
  own ++ s.ring.reports.filter (fun r => (r.port = .e || r.port = .w) && r.node != s.node)

/-- The ring that reaches a node without crossing a broken span (R136): the one wanted, or the other, or none. -/
def State.ringFor (s : State) (d : Nat) (wantA : Bool) : Option Nat :=
  let bs := s.mainBreaks
  let aOk := bs.all (fun r => !(s.onRingA d r))
  let bOk := bs.all (fun r => s.onRingA d r)
  if wantA then (if aOk then some 0 else if bOk then some 1 else none)
  else (if bOk then some 1 else if aOk then some 0 else none)

/-- The sub-ring and the link of it that a REPORT of a spur port names (R138): link 0 at the root, link k after the chain's node at place k. -/
def breakLink (r : WrapBlock) : Nat × Nat :=
  let spur := b2n (r.port = .s1)
  if Config.subRing r.node = 0 then ((Config.rootRing (2 * r.node + spur)).toNat, 0)
  else ((Config.subRing r.node).toNat, (Config.subPlace r.node).toNat - b2n ((Config.spurOut r.node).toNat != spur))

/-- The breaks of sub-rings that this hub knows (R132, R138): its own spurs' and those of the REPORTs it holds. -/
def State.spurBreaks (s : State) : List WrapBlock :=
  let own := [Port.s0, .s1].filterMap (fun p =>
    if (s.port p).broken && !(s.partIsolated (0x10 + portNum p)) then some (⟨s.node, p, 0, (s.port p).brkReason, 0, 0⟩ : WrapBlock) else none)
  own ++ s.ring.reports.filter (fun r => (r.port = .s0 || r.port = .s1) && r.node != s.node)

/-- A broken link of a sub-ring lies between this hub and a node (R137, R138): they are in different arcs. -/
def State.subCut (s : State) (d : Nat) : Bool :=
  s.spurBreaks.any (fun r =>
    let (k, link) := breakLink r
    let place (n : Nat) : Nat := if (Config.subRing n).toNat = k then (Config.subPlace n).toNat else 0
    let x := place s.node
    let y := place d
    k != 0 && decide (min x y ≤ link) && decide (link < max x y))

/-- The egress port for a spur route (R138, R144): none for a pair link, nor for a broken spur that nothing takes over from. -/
def State.spurRoute (s : State) (p : Port) : Option Nat :=
  if s.ringPort p && !((s.port p).broken && (s.txPort p).isNone) then some (portNum p) else none

/-- The egress port for a route code 1 to 5 (R164, R166): none for a node beyond a break of a sub-ring (R138). -/
def State.routePort (s : State) (code d h4 : Nat) : Option Nat :=
  if s.subCut d then none else
  match code with
  | 1 => s.ringFor d (decide (h4 < s.rd 0x300006))
  | 2 => s.ringFor d true
  | 3 => s.ringFor d false
  | 4 => s.spurRoute .s0
  | 5 => s.spurRoute .s1
  | _ => none

/-- The local port for a frame that this hub takes (R164). -/
def localPort (f : Frame) : Nat :=
  match f.type with
  | 0x5 => 7
  | 0x7 => 7
  | 0x8 => 8
  | 0x2 => respPort f.tag
  | 0x4 => respPort f.tag
  | 0x6 => respPort f.tag
  | 0x9 => respPort f.tag
  | _ => if bits f.addr 53 48 = 0x08 then 6 else 4
where
  respPort (tag : Nat) : Nat := if 4 ≤ bits tag 15 12 && bits tag 15 12 ≤ 8 then bits tag 15 12 else 7

/-- The node number is this hub's, or its pair's service number while its role is active (R140, R141). -/
def State.isOwn (s : State) (n : Nat) : Bool :=
  (s.routeCode n = 6) || (n != 0 && n = s.rd 0x208100 && s.inPair && s.rd 0x208200 = 1)

/-- The frames of the pair's service name the service number (R140): addressed to it, they are answered in its name. -/
def State.ownName (s : State) (dst : Nat) : Nat := if s.inPair && dst = s.rd 0x208100 then dst else s.node

/-- A frame in the name of another source, its checks made again. -/
def inName (n : Nat) (f : Frame) : Frame := sealFrame { f with src := n }

/-- The egress ports that a fork group names (R174), on ports that carry a ring (R144) and local ones. -/
def State.forkPorts (s : State) (f : Frame) : List Nat :=
  (List.range 9).filter (fun p => (s.rd (0x330000 + f.fork)).testBit p && (decide (4 ≤ p) || s.ringPort (portOf p)))

/-- The hub is a destination of a frame (R112, R113, R164, R174). -/
def State.destined (s : State) (f : Frame) : Bool :=
  f.dst = 0 || (if f.dst = 0x3FF then (s.forkPorts f).any (fun p => decide (4 ≤ p)) else s.isOwn f.dst)

/-- The egress ports of a frame (R164, R174): an outcome where it has none. From a pair link only link-local frames are taken (R144). -/
def State.lookup (s : State) (ing : Nat) (f : Frame) : Sum Nat (List Nat) :=
  if ing < 4 && f.dst != 0 && s.pairLink = some (portOf ing) then .inl 0x8
  else if f.dst = 0 then .inr [if f.type = 0x7 then 7 else localPort f]
  else if f.dst = 0x3FF then
    if f.type = 0x0 || f.type = 0x7 || f.type = 0x8 then
      let ps := s.forkPorts f
      .inr (if f.src = s.node && ing ≤ 3 then ps.filter (fun p => decide (4 ≤ p)) else ps)
    else .inl 0x8
  else if s.isOwn f.dst then .inr [localPort f]
  else match s.routePort (s.routeCode f.dst) f.dst (flowHash f.src f.dst f.flow) with
    | some p => .inr [p]
    | none => .inl 0x1

/-- The item tag of a switch record (R175). -/
def switchTag (f : Frame) (egress : Nat) : Nat := f.tag * 2 ^ 16 + egress * 2 ^ 12 + (if f.dst = 0x3FF then f.fork else 0)

/-- The failure report of a discarded frame (R115): its FRM_START payload filled to 8 bytes, then its H1. -/
def State.failureReport (s : State) (f : Frame) (outcome : Nat) : Frame :=
  s.newFrame f.src f.cls f.flow 0x9 0 f.tag outcome 0 (frameStart f ++ [0] ++ natBE 8 f.addr)

/-- The island of an egress port (R185, R447): ring ports, MBUS and HBR. -/
def egressIsland (p : Nat) : Option Nat :=
  if p < 4 then some (0x10 + p) else if p = 5 then some 0x28 else if p = 6 then some 0x29 else none

/-- Frames for this egress port find its island isolated (R185). -/
def State.egressIsolated (s : State) (p : Nat) : Bool :=
  match egressIsland p with
  | some c => s.partIsolated c
  | none => false

/-- The increment of a bucket in every SWX clock, from a rate in kb/s (R181): ⌈r × 3.3554432⌉ units of 2^-24 byte. -/
def increment (rate : Nat) : Nat := ceilDiv (rate * 33554432) 10000000

/-- Tokens of a bucket at an SWX clock, under a rate and a burst (R181): it starts full, and is refilled up to the burst. -/
def bucketTokens (b : Option Bucket) (rate burst clock : Nat) : Nat :=
  match b with
  | some x => min (burst * 2 ^ 24) (x.tokens + increment rate * (clock - x.at_))
  | none => burst * 2 ^ 24

/-- A charged length in units of 2^-24 byte (R157, R181). -/
def chargedLen (n : Nat) (o : Int) : Nat := ((24 + n : Int) + o).toNat * 2 ^ 24

/-- A queue's shaper is on (R181, R341). -/
def State.shaped (s : State) (q : Nat) : Bool := s.feature 6 && s.cell (queueObj q 3) != 0

/-- The charge of a frame at its queue's shaper (R181). -/
def State.shaperCharge (s : State) (q n : Nat) : Nat := chargedLen n (toSigned 16 (s.cell (queueObj q 5)))

/-- The tokens of a queue's shaper, `off` ns into this beat (R181). -/
def State.shaperTokens (s : State) (q off : Nat) : Nat :=
  bucketTokens (mfind s.switch.shapers q) (s.cell (queueObj q 3)) (s.cell (queueObj q 4)) (s.swxClock off)

/-- The queue's shaper lets a frame of `n` payload bytes pass, `off` ns into this beat (R181). -/
def State.shaperOk (s : State) (q off n : Nat) : Bool := !(s.shaped q) || decide (s.shaperCharge q n ≤ s.shaperTokens q off)

/-- The shaper pays for a frame sent, `off` ns into this beat (R181). -/
def State.shaperPay (s : State) (q off n : Nat) : State :=
  if s.shaped q then
    let b : Bucket := ⟨s.shaperTokens q off - s.shaperCharge q n, s.swxClock off⟩
    { s with switch := { s.switch with shapers := minsert s.switch.shapers q b } }
  else s

/-- The pre-colour of a frame (R182): from the colour map of its ingress port in colour-aware mode. -/
def State.preColour (s : State) (ing cls mode : Nat) : Colour :=
  if mode = 2 then
    match bits (s.rd (0x340100 + ing)) (2 * cls + 1) (2 * cls) with
    | 0 => .green | 1 => .yellow | _ => .red
  else .green

/-- Policing of a frame (R182, R183): its colour, and the policer that met it. -/
def State.police (s : State) (ing : Nat) (f : Frame) : State × Option (Colour × Nat) :=
  let k := s.rd (0x340000 + 8 * ing + f.cls)
  let o := 0x350000 + 0x100 * k
  let mode := s.cell o
  if !(s.feature 5) || k = 0xFF || mode = 0 then (s, none)
  else
    let c := chargedLen f.len (toSigned 16 (s.cell (o + 5)))
    let now := s.swxClock 0
    let tp := bucketTokens (mfind s.switch.polP k) (s.cell (o + 3)) (s.cell (o + 4)) now
    let tc := bucketTokens (mfind s.switch.polC k) (s.cell (o + 1)) (s.cell (o + 2)) now
    let pre := s.preColour ing f.cls mode
    let polP := minsert s.switch.polP k ⟨tp - c, now⟩
    if pre = .red || decide (tp < c) then (s.inc (o + 0xA), some (.red, k))
    else if pre = .yellow || decide (tc < c) then (({ s with switch := { s.switch with polP := polP } }).inc (o + 9), some (.yellow, k))
    else (({ s with switch := { s.switch with polP := polP, polC := minsert s.switch.polC k ⟨tc - c, now⟩ } }).inc (o + 8), some (.green, k))

/-- The colour that a policer gave a frame; green for one that none has met. -/
def colourOf (v : Option (Colour × Nat)) : Colour :=
  match v with
  | some x => x.1
  | none => .green

/-- The buckets of a cell whose value changes are settled under the old values (R18, R181, R182). -/
def State.settleBuckets (s : State) (o : Nat) : State :=
  let now := s.swxClock 0
  if o / 0x10000 = 0x31 then
    let q := o / 0x100 % 0x100
    { s with switch := { s.switch with shapers := minsert s.switch.shapers q ⟨s.shaperTokens q 0, now⟩ } }
  else if o / 0x10000 = 0x35 then
    let k := o / 0x100 % 0x100
    let b := 0x350000 + 0x100 * k
    { s with switch := { s.switch with
        polP := minsert s.switch.polP k ⟨bucketTokens (mfind s.switch.polP k) (s.cell (b + 3)) (s.cell (b + 4)) now, now⟩
        polC := minsert s.switch.polC k ⟨bucketTokens (mfind s.switch.polC k) (s.cell (b + 1)) (s.cell (b + 2)) now, now⟩ } }
  else s

/-- A gated pair of port and class (R177): one that a GATE move of the active bank names. -/
def State.gated (s : State) (q : Nat) : Bool :=
  s.hasBank && s.mode != .configure && s.moves.any (fun m => m.act == 0x05 && bits m.a 3 0 == q / 8 && m.a.testBit (8 + q % 8))

/-- Time units of 10 ps in a beat. -/
def beat10ps : Nat := 3200

/-- The time of a frame's transmission in units of 10 ps (R178): the ring figure, or bytes at the drain rate of R156. -/
def frameTime (port n : Nat) : Nat :=
  if port < 4 then (ceilDiv ((4 + ceilDiv n 8) * 128) 124 + 8) * 128
  else
    let rate := match port with | 4 => 4000 | 5 => 128 | 6 => 3200 | 7 => 1280 | _ => 100
    ceilDiv ((24 + n) * 8 * 10000) rate

/-- The time from `off` ns into this beat to the start of beat `b`, taken modulo the cycle (R178). -/
def State.timeTo (s : State) (off b : Nat) : Nat := ((b + s.cycleLen - s.beat) % s.cycleLen) * beat10ps - off * 100

/-- The regions of a port that govern this beat (R95), with the cycle length they are counted in: up to the marker beat those of the cycle before, whose region may
run past its end, under the bank of that cycle. -/
def State.regionsNow (s : State) (port : Nat) : Option (LayoutRec × Nat) :=
  let now := (bankRegions s.activeBank port).map (fun r => (r, s.cycleLen))
  let before := if s.cycle = 0 then none
    else (bankRegions (s.bankOf (s.cycle - 1)) port).map (fun r => (r, bankCycleLen (s.bankOf (s.cycle - 1))))
  match before, now with
  | some b, some n => some (if s.beat < n.1.m then b else n)
  | some b, none => if s.beat < b.1.m then some b else none
  | none, n => n

/-- The time from `off` ns into this beat to a later beat `b`, counted modulo a cycle of `len` beats. -/
def State.timeIn (s : State) (len off b : Nat) : Nat := ((b + len - s.beat % len) % len) * beat10ps - off * 100

/-- The ring port's region lets a frame start now and end in time (R178): by the train end in the cyclic region, by the guard start in the acyclic one; none starts in
the guard band. -/
def State.regionOk (s : State) (port off d : Nat) : Bool :=
  if 4 ≤ port || !s.hasBank then true
  else match s.regionsNow port with
    | some (r, len) =>
      let since (b : Nat) : Nat := (b + len - r.m % len) % len
      if since s.beat < since r.t then decide (d ≤ s.timeIn len off r.t)
      else decide (since s.beat < since r.g) && decide (d ≤ s.timeIn len off r.g)
    | none => true

/-- The gate of a queue lets a frame of `n` bytes start `off` ns into this beat, sent on `port` (R178). -/
def State.gateOk (s : State) (q port off n : Nat) : Bool :=
  let d := frameTime port n
  s.regionOk port off d &&
    (!(s.gated q) || (let g := mget {} s.switch.gates q; g.isOpen && decide (d ≤ s.timeTo off g.close)))

/-- A frame for a destination, under a buffer number, is held by a fence (R167). -/
def State.fenced (s : State) (dst id : Nat) : Bool := s.switch.fences.any (fun f => f.dst == dst && decide (f.first ≤ id))

/-- The length of a frame in the arbitration of R184. -/
def drrLen (c : FrameCopy) : Nat := 24 + c.frame.len

/-- The weight of a feed (R184, R341): distinct sources of a ring feed, at most 32; 1 for a local feed, or without feature 0.4. -/
def State.feedWeight (s : State) (q ing : Nat) : Nat :=
  if ing < 4 && s.feature 4 then min 32 (((s.feed q ing).map (fun c => c.frame.src)).eraseDups).length else 1

/-- A new grant round of a queue (R184). -/
def State.newRound (s : State) (q : Nat) : State :=
  let live := (List.range 9).filter (fun i => s.feed q i != [])
  let dead := (List.range 9).filter (fun i => s.feed q i == [])
  let d1 := dead.foldl (fun m i => merase m (16 * q + i)) s.switch.deficit
  let d2 := live.foldl (fun m i => mupd 0 m (16 * q + i) (· + s.feedWeight q i * 2304)) d1
  { s with switch := { s.switch with deficit := d2, round := mset [] s.switch.round q live } }

/-- Turns of the round that cannot serve end (R184), until the feed at the front can serve its head frame. -/
def State.settleRound (s : State) (q : Nat) : Nat → State
  | 0 => s
  | fuel + 1 =>
    match mget [] s.switch.round q with
    | [] => if s.queueCopies q = [] then s else (s.newRound q).settleRound q fuel
    | i :: rest =>
      let drop := { s with switch := { s.switch with round := mset [] s.switch.round q rest } }
      match s.feed q i with
      | [] => ({ drop with switch := { drop.switch with deficit := merase drop.switch.deficit (16 * q + i) } }).settleRound q fuel
      | c :: _ => if drrLen c ≤ mget 0 s.switch.deficit (16 * q + i) then s else drop.settleRound q fuel

/-- The candidate frame of a queue with its feed (R178, R184), after `settleRound`. -/
def State.candidate (s : State) (q : Nat) : Option FrameCopy :=
  match mget [] s.switch.round q with
  | i :: _ => (s.feed q i).head?
  | [] => none

/-- One copy of a stored frame has left or been discarded (R158, R169): with the last one the cells are free and the drain count falls. -/
def State.releaseCopy (s : State) (c : FrameCopy) : State :=
  let x := mget {} s.switch.stored c.id
  if x.copies ≤ 1 then
    { s with switch := { s.switch with
        stored := merase s.switch.stored c.id
        drain := mset 0 s.switch.drain x.epoch (s.drainOf x.epoch - 1) } }
  else { s with switch := { s.switch with stored := mset {} s.switch.stored c.id { x with copies := x.copies - 1 } } }

/-- Takes a copy out of its feed. -/
def State.unfeed (s : State) (c : FrameCopy) : State :=
  let q := queueOf c.egress c.cls
  s.setFeed q c.ing ((s.feed q c.ing).filter (fun x => x.id != c.id))

/-- A copy leaves its feed without being sent: its cells are released. -/
def State.unqueue (s : State) (c : FrameCopy) : State := (s.unfeed c).releaseCopy c

/-- A frame on its way out of a port has ended by a time (R158): its copy has left. -/
def State.settlePort (s : State) (now port : Nat) : State :=
  let a := mget {} s.switch.onAir port
  match a.copy with
  | some c =>
    if a.stop ≤ now then ({ s with switch := { s.switch with onAir := mset {} s.switch.onAir port { a with copy := none } } }).releaseCopy c else s
  | none => s

/-- The copies that have left by a time release their cells (R158). -/
def State.settleAir (s : State) (now : Nat) : State := (List.range 9).foldl (fun t p => t.settlePort now p) s

/-- An egress port is sending a frame at a time (R171, R180). -/
def State.sending (s : State) (port now : Nat) : Bool := decide (now < (mget {} s.switch.onAir port).stop)

/-- At the start of a beat (R18, R158): frames that have left release their cells, and settings written in the last beat take effect. -/
def State.switchAtBeat (s : State) : State :=
  let s1 := s.settleAir (s.at10ps 0)
  let s2 := s1.switch.old.foldl (fun (t : State) e => t.settleBuckets e.1) s1
  { s2 with switch := { s2.switch with old := [] } }

/-- A frame leaves on a port (R113, R156), its end leaving at `stop`: out of the hub on a ring port, to the local user otherwise. A ring port keeps it for R134. -/
def State.transmitTill (s : State) (port : Nat) (f : Frame) (stop : Nat) : State :=
  let s1 := s.emit (.frame port f)
  if port < 4 then
    let p := portOf port
    let x := s1.port p
    s1.setPort p { x with sent := ⟨f, stop⟩ :: x.sent.filter (fun e => decide (100 * s.nowNs ≤ e.at_ + 20000000)) }
  else s1

/-- A frame leaves on a port at once. -/
def State.transmit (s : State) (port : Nat) (f : Frame) : State := s.transmitTill port f (100 * s.nowNs)

/-- The header of a copy that leaves on a ring port from a ring port is rewritten (R113): hops, header check, and frame check, stomped where the
received check failed. -/
def forwardFrame (ing : Nat) (f : Frame) : Frame :=
  let st := judgeCheck f.fcheck (frameCheck f)
  let f1 := if ing < 4 then { f with hops := f.hops - 1 } else f
  let f2 := { f1 with hcheck := headerCheck f1 }
  { f2 with fcheck := forwardCheck st (frameCheck f2) }

/-- A frame with its congestion mark set and its checks made again (R113, R173). -/
def markFrame (f : Frame) : Frame :=
  let st := judgeCheck f.fcheck (frameCheck f)
  let f1 := { f with cm := true }
  let f2 := { f1 with hcheck := headerCheck f1 }
  { f2 with fcheck := forwardCheck st (frameCheck f2) }

/-- A frame in another class, with its checks made again (R113, R183): a check that had failed stays stomped. -/
def reclassFrame (f : Frame) (c : Nat) : Frame :=
  let st := judgeCheck f.fcheck (frameCheck f)
  let f1 := { f with cls := c }
  let f2 := { f1 with hcheck := headerCheck f1 }
  { f2 with fcheck := forwardCheck st (frameCheck f2) }

/-- A frame whose header check fails, or that R111 or R112 discards, counts as a frame check failure. -/
def badHeader (f : Frame) : Bool := headerCheck f != f.hcheck || f.src = 0 || f.src = 0x3FF || decide (0xA ≤ f.type)

/-- A frame arrives on a ring port (R92, R111 to R113, R128): one that fails a check counts once as a frame check failure; a failed frame check that is not
stomped is an errored block on each lane, whatever becomes of the frame. -/
def State.countArrival (s : State) (ing : Nat) (f : Frame) : State :=
  if ing < 4 then
    let p := portOf ing
    let st := judgeCheck f.fcheck (frameCheck f)
    let s1 := if badHeader f || st != .ok then s.incSat (portObj p 1 0x06) else s
    if st = .failed then (s1.countErrored p 0).countErrored p 1 else s1
  else s

end Sys2Proof.Machine
end

