-- ==== Sys2Proof/Machine/SwitchOps.lean ====
section
/-!
DEFINITION. The switch at work: ingress (R161), egress selection (R180), discards (R185), table updates (R169, R170), fences (R167), and the messages
that the hub sends (R165).
-/
namespace Sys2Proof.Machine

/-- The lowest number of free cells is kept (R186: 3.000.01). -/
def State.noteCells (s : State) : State := if s.freeCells < s.rd 0x300001 then s.wr 0x300001 s.freeCells else s

/-- A copy is marked on admission where its queue is deeper than its threshold (R173, R341). -/
def State.markOn (s : State) (q : Nat) (f : Frame) : State × Frame :=
  if s.feature 3 && decide (s.cell (queueObj q 2) < s.queueDepth q) then (s.inc (queueObj q 8), markFrame f) else (s, f)

/-- One copy of a frame is admitted to a queue (R158, R159, R161, R173) under buffer number `id`, with its colour. -/
def State.admitCopy (s : State) (ing egress id : Nat) (col : Colour) (f : Frame) : State :=
  let q := queueOf egress f.cls
  let (s1, f1) := s.markOn q f
  let x := mget ⟨frameCells f.len, 0, s.epoch, col⟩ s1.switch.stored id
  let s2 := s1.setFeed q ing (s1.feed q ing ++ [⟨f1, ing, egress, f.cls, s.epoch, id, s.nowNs⟩])
  { s2 with switch := { s2.switch with stored := minsert s2.switch.stored id { x with copies := x.copies + 1 } } }

/-- The journal record of a frame copy that the switch does not deliver (R115, R175, R185). -/
def State.journalDrop (s : State) (f : Frame) (egress reason : Nat) : State := s.raise .swx 0x02 reason (switchTag f egress)

/-- A JOURNAL_FWD message (R464): one that draws a failure report is not journalled. -/
def isJournalFwd (f : Frame) : Bool := f.type = 0x7 && beField f.payload 0 2 = 0x0D10

/-- Discards a frame copy (R115, R185): journalled, but for a JOURNAL_FWD (R464), and reported to its source unless it is itself a report. -/
def State.discardWith (report : State → Frame → State) (s : State) (f : Frame) (egress outcome reason : Nat) : State :=
  let s1 := if isJournalFwd f then s else s.journalDrop f egress reason
  if f.type = 0x9 then s1 else report s1 (s1.failureReport f outcome)

/-- Each egress of a frame's set takes its copy or discards it (R161 step 5, R175, R185): a copy that its queue cannot take counts there. -/
def State.admitAll (report : State → Frame → State) (s : State) (ing id : Nat) (col : Colour) (f : Frame) (ps : List Nat) : State :=
  ps.foldl (fun s p =>
    if p < 4 && f.hops = 0 then s.discardWith report f p 0x9 0x19
    else if p < 4 && (s.port (portOf p)).broken && (s.txPort (portOf p)).isNone then s.discardWith report f p 0x1 0x11
    else if s.egressIsolated p then (s.discardWith report f p 0x6 0x16).inc (queueObj (queueOf p f.cls) 9)
    else if s.admits (queueOf p f.cls) (frameCells f.len) then s.admitCopy ing p id col f
    else (s.discardWith report f p 0xA 0x22).inc (queueObj (queueOf p f.cls) 9)) s

/-- A frame that passed its policer is admitted (R161 steps 5 and 6, R169). -/
def State.storeFrame (report : State → Frame → State) (s : State) (ing : Nat) (col : Colour) (f : Frame) (ps : List Nat) : State :=
  let id := s.switch.nextId
  let e := s.epoch
  let s1 := ({ s with switch := { s.switch with nextId := id + 1 } }).admitAll report ing id col f ps
  let s2 := if (mfind s1.switch.stored id).isSome then
      { s1 with switch := { s1.switch with drain := mset 0 s1.switch.drain e (s1.drainOf e + 1) } }
    else s1
  s2.noteCells

/-- What a policer's verdict makes of a frame (R183): the frame that goes on, or none where it is discarded. CM is never set without feature 0.3 (R341). -/
def State.policed (s : State) (f : Frame) (v : Option (Colour × Nat)) : Option Frame :=
  match v with
  | some (.red, _) => none
  | some (.yellow, k) =>
    match s.cell (0x350006 + 0x100 * k) with
    | 0 => some f
    | 1 => some (if s.feature 3 then markFrame f else f)
    | 2 => some (reclassFrame f (s.cell (0x350007 + 0x100 * k)))
    | _ => none
  | _ => some f

/-- A frame that passed its policer, `f` as it arrived and `f1` as it goes on, is stored whole: one whose frame check failed or is stomped is discarded and
journalled (R113, R172). -/
def State.storeJudged (report : State → Frame → State) (s : State) (ing : Nat) (col : Colour) (f f1 : Frame) (ps : List Nat) : State :=
  if judgeCheck f.fcheck (frameCheck f) = .ok then s.storeFrame report ing col f1 ps else s.journalDrop f (ps.headD 0) 0x20

/-- Policing and admission of a frame whose egress ports are fixed (R161 steps 4 to 6). -/
def State.takeFrame (report : State → Frame → State) (s : State) (ing : Nat) (f : Frame) (ps : List Nat) : State :=
  let (s1, v) := s.police ing f
  match s1.policed f v with
  | none => s1.discardWith report f (ps.headD 0) 0xA 0x21
  | some f1 => s1.storeJudged report ing (colourOf v) f f1 ps

/-- Ingress of a frame at a port (R161), in the order of its steps; `report` sends a failure report. -/
def State.ingressWith (report : State → Frame → State) (s : State) (ing : Nat) (f : Frame) : State :=
  if ing < 4 && headerCheck f != f.hcheck then s.journalDrop f 0 0x20
  else if f.src = 0 || f.src = 0x3FF then s.journalDrop f 0 0x20
  else if f.hops = 0 && !(s.destined f) then s.discardWith report f 0 0x9 0x19
  else if 0xA ≤ f.type then s.journalDrop f 0 0x20
  else match s.lookup ing f with
    | .inl oc => s.discardWith report f 0 oc (0x10 + oc)
    | .inr ps => s.takeFrame report ing f ps

/-- The hub has entered Hold for sleep (R396): it originates no acyclic frame other than sleep messages, in its own name or its pair's. -/
def State.quiet (s : State) (f : Frame) : Bool := s.rd 0xB00007 = 4 && !(f.type = 0x7 && beField f.payload 0 2 / 16 = 0x0B1)

/-- A failure report enters the switch (R115): one that cannot be delivered is journalled and not reported. -/
def State.sendReport (s : State) (f : Frame) : State := if s.quiet f then s else s.ingressWith (fun s _ => s) 4 f

/-- A frame enters the switch at a port (R161). -/
def State.ingress (s : State) (ing : Nat) (f : Frame) : State :=
  if 4 ≤ ing && s.quiet f then s else s.ingressWith State.sendReport ing f

/-- A link-local message of the hub's own leaves on a ring port (R112, R161, R294): through the port's queue, and its regions and gates. -/
def State.sendLinkLocal (s : State) (p : Port) (f : Frame) : State := if s.quiet f then s else s.takeFrame State.sendReport 7 f [portNum p]

/-- Discards a frame copy, journalled and reported (R115, R185). -/
def State.discardFrame (s : State) (f : Frame) (egress outcome reason : Nat) : State := s.discardWith State.sendReport f egress outcome reason

/-- Discards a queued copy (R185): counted in 3.1qq.09. -/
def State.discardCopy (s : State) (c : FrameCopy) (outcome reason : Nat) : State :=
  ((s.unqueue c).inc (queueObj (queueOf c.egress c.cls) 9)).discardFrame c.frame c.egress outcome reason

/-- The copy is older than the frame age limit (R160). -/
def State.aged (s : State) (c : FrameCopy) : Bool := decide (c.at_ + 1000 * s.cell 0x300004 < s.nowNs)

/-- The candidate of a queue, with copies past their age discarded at the head of their feed (R160, R184). -/
def State.findCandidate (s : State) (q : Nat) : Nat → State × Option FrameCopy
  | 0 => (s, none)
  | fuel + 1 =>
    let s1 := s.settleRound q 64
    match s1.candidate q with
    | none => (s1, none)
    | some c => if s1.aged c then (s1.discardCopy c 0xA 0x23).findCandidate q fuel else (s1, some c)

/-- The candidate is eligible to start `off` ns into this beat on the port `tx` (R167, R178, R181). -/
def State.eligible (s : State) (q tx off : Nat) (c : FrameCopy) : Bool :=
  !(s.fenced c.frame.dst c.id) && s.gateOk q tx off c.frame.len && s.shaperOk q off c.frame.len

/-- The WRAP blocks that wait for the end of a frame go out, ahead of the next frame (R179). -/
def State.releaseWraps (s : State) (tx : Nat) : State :=
  let s1 := { s with switch := { s.switch with heldWraps := merase s.switch.heldWraps tx } }
  (mget [] s.switch.heldWraps tx).foldl (fun (t : State) (w : Nat × WrapBlock) => t.emit (.wrap (portOf tx) w.1 w.2)) s1

/-- At the start of a beat the WRAP blocks held for a frame that has ended go out (R179). -/
def State.wrapsAtBeat (s : State) : State :=
  s.switch.heldWraps.foldl (fun (t : State) (e : Nat × List (Nat × WrapBlock)) =>
    if (mget {} t.switch.onAir e.1).stop ≤ t.at10ps 0 then t.releaseWraps e.1 else t) s

/-- The ALIGN of a port waits for the end of the frame that it is sending (R179). -/
def State.holdAlign (s : State) (p : Port) : State :=
  { s with switch := { s.switch with heldAligns := setBit s.switch.heldAligns (portNum p) true } }

/-- At the start of a beat the ALIGN blocks held for a frame that has ended go out (R179). -/
def State.alignsHeld (s : State) : State :=
  [Port.e, .w, .s0, .s1].foldl (fun (t : State) p =>
    if t.switch.heldAligns.testBit (portNum p) && !(t.sending (portNum p) (t.at10ps 0)) then
      ({ t with switch := { t.switch with heldAligns := setBit t.switch.heldAligns (portNum p) false } }).emit (.align p)
    else t) s

/-- The end of a frame of `n` payload bytes that starts on a port `off` ns into this beat, without the express allowance of R178. -/
def State.frameStop (s : State) (tx off n : Nat) : Nat := s.at10ps off + frameTime tx n - (if tx < 4 then 8 * 128 else 0)

/-- A copy starts on an egress port, `off` ns into this beat (R158, R179): its end, and the close of its gate. -/
def State.startsOn (s : State) (q tx off : Nat) (c : FrameCopy) : State :=
  let close := if s.gated q then some (s.at10ps off + s.timeTo off (mget {} s.switch.gates q).close) else none
  { s with switch := { s.switch with onAir := mset {} s.switch.onAir tx ⟨some c, q, s.frameStop tx off c.frame.len, close, 0, false⟩ } }

/-- The frame that a port is sending ends one block later (R134, R179). -/
def State.stretchSent (s : State) (tx : Nat) : State :=
  let x := s.port (portOf tx)
  match x.sent with
  | e :: rest => s.setPort (portOf tx) { x with sent := { e with at_ := e.at_ + 128 } :: rest }
  | [] => s

/-- A WRAP block goes out on a ring or spur port (R132, R179): into the frame under way, up to 48 of them, which it stretches by one block and past
whose gate's close the overrun is counted; further ones wait for the end of the frame. -/
def State.wrapOut (s : State) (tx subtype : Nat) (b : WrapBlock) : State :=
  let a := mget {} s.switch.onAir tx
  if a.stop ≤ s.at10ps 0 then s.emit (.wrap (portOf tx) subtype b)
  else if 48 ≤ a.wraps then
    { s with switch := { s.switch with heldWraps := mset [] s.switch.heldWraps tx (mget [] s.switch.heldWraps tx ++ [(subtype, b)]) } }
  else
    let past := match a.close with | some c => decide (c < a.stop + 128) | none => false
    let s1 := { s with switch := { s.switch with
      onAir := mset {} s.switch.onAir tx { a with stop := a.stop + 128, wraps := a.wraps + 1, late := a.late || past } } }
    ((if past && !a.late then s1.inc (queueObj a.queue 0xA) else s1).stretchSent tx).emit (.wrap (portOf tx) subtype b)

/-- Sends a copy on a port, `off` ns into this beat (R113, R158, R179, R181): the held WRAP blocks go first, the shaper pays, and the copy holds its cells until it
has left. -/
def State.launch (s : State) (q tx off : Nat) (c : FrameCopy) : State :=
  let s1 := ((s.releaseWraps tx).startsOn q tx off c).shaperPay q off c.frame.len
  (s1.transmitTill tx (if tx < 4 then forwardFrame c.ing c.frame else c.frame) (s1.frameStop tx off c.frame.len)).inc (queueObj q 7)

/-- Sends a candidate, `off` ns into this beat (R180, R184). -/
def State.sendCopy (s : State) (q tx off : Nat) (c : FrameCopy) : State :=
  let s1 := s.unfeed c
  ({ s1 with switch := { s1.switch with deficit := mupd 0 s1.switch.deficit (16 * q + c.ing) (· - drrLen c) } }).launch q tx off c

/-- The egress port on which the frames of a port leave (R130, R168): the other ring where the hub is wrapped on it; none where it is down. -/
def State.egressPort (s : State) (port : Nat) : Option Nat :=
  if port < 4 then (s.txPort (portOf port)).map portNum else if port < 9 then some port else none

/-- Egress selection from a class downward (R180). -/
def State.selectFrom (s : State) (port tx off : Nat) : Nat → State
  | 0 => s
  | n + 1 =>
    let q := queueOf port n
    let (s1, c) := s.findCandidate q ((s.queueCopies q).length + 1)
    match c with
    | some x => if s1.eligible q tx off x then s1.sendCopy q tx off x else s1.selectFrom port tx off n
    | none => s1.selectFrom port tx off n

/-- An egress port that is free sends the candidate of its highest eligible class, `off` ns into the current beat (R180). -/
def State.egressSelect (s : State) (port off : Nat) : State :=
  let s1 := s.settleAir (s.at10ps off)
  match s1.egressPort port with
  | some tx => if s1.egressIsolated tx || s1.sending tx (s.at10ps off) then s1 else s1.selectFrom port tx off 8
  | none => s1

/-- Cut-through applies to a frame (R171). -/
def State.cutsThrough (s : State) (ing : Nat) (f : Frame) (p : Nat) : Bool :=
  let q := queueOf p f.cls
  s.feature 7 && ing < 4 && (s.cell (0x300100 + ing)).testBit f.cls && p < 4 && f.dst != 0x3FF && s.queueCopies q == [] &&
    !(s.sending p (s.at10ps 0)) && s.egressPort p == some p && !(s.egressIsolated p) && !(s.fenced f.dst s.switch.nextId) &&
    (List.range 8).all (fun c => decide (c ≤ f.cls) || (let (t, x) := s.findCandidate (queueOf p c) ((s.queueCopies (queueOf p c)).length + 1)
                                                     match x with | some y => !(t.eligible (queueOf p c) p 0 y) | none => true)) &&
    s.gateOk q p 0 f.len && s.shaperOk q 0 f.len && s.admits q (frameCells f.len)

/-- A frame is forwarded cut-through on port `p` (R159, R171 to R173): `f` as it arrived, `f1` as its policer lets it go on. Its cells are admitted at once and
held until it has left; a hub that finds its frame check failed journals it, and sends it stomped. -/
def State.cutThrough (s : State) (ing p : Nat) (col : Colour) (f f1 : Frame) : State :=
  let q := queueOf p f1.cls
  let id := s.switch.nextId
  let (s1, f2) := s.markOn q f1
  let s2 := { s1 with switch := { s1.switch with
    nextId := id + 1
    stored := minsert s1.switch.stored id ⟨frameCells f1.len, 1, s.epoch, col⟩
    drain := mset 0 s1.switch.drain s.epoch (s1.drainOf s.epoch + 1) } }
  let s3 := (s2.launch q p 0 ⟨f2, ing, p, f1.cls, s.epoch, id, s.nowNs⟩).noteCells
  if judgeCheck f.fcheck (frameCheck f) = .failed then s3.journalDrop f p 0x20 else s3

/-- A frame reaches a ring or local ingress port (R161, R171, R172): forwarded cut-through where R171 allows it, stored otherwise. -/
def State.frameIngress (s0 : State) (ing : Nat) (f : Frame) : State :=
  let s := s0.countArrival ing f
  if !(badHeader f) && f.hops != 0 then
    match s.lookup ing f with
    | .inr [p] =>
      if s.cutsThrough ing f p then
        let (s1, v) := s.police ing f
        match s1.policed f v with
        | some f1 =>
          if f1.cls = f.cls then s1.cutThrough ing p (colourOf v) f f1
          else s1.storeJudged State.sendReport ing (colourOf v) f f1 [p]
        | none => s1.discardFrame f p 0xA 0x21
      else s.ingress ing f
    | _ => s.ingress ing f
  else s.ingress ing f

/-- The hub sends a frame of its own from a local port (R161, R165). -/
def State.sendFrame (s : State) (port : Nat) (f : Frame) : State := s.ingress port f

/-- A control message (R147, R176): class 7, a tag of port 7 with the low twelve bits of the message code. -/
def State.controlFrame (s : State) (dst : Nat) (payload : List Byte) : Frame :=
  s.newFrame dst 7 0 0x7 0 (0x7000 + beField payload 0 2 % 4096) 0 0 payload

/-- A control message to a fork group (R174). -/
def State.controlFork (s : State) (group : Nat) (payload : List Byte) : Frame :=
  s.newFrame 0x3FF 7 0 0x7 0 (0x7000 + beField payload 0 2 % 4096) 0 (group % 4096) payload

/-- The first twelve bytes of a control message (R147): code, sender, cycle. -/
def controlHead (code sender cycle : Nat) : List Byte := natBE 2 code ++ natBE 2 sender ++ natBE 8 cycle

/-- Sends a control message through the switch. -/
def State.sendControl (s : State) (dst : Nat) (payload : List Byte) : State := s.sendFrame 7 (s.controlFrame dst payload)

/-- Sends a control message to a fork group through the switch. -/
def State.sendFork (s : State) (group : Nat) (payload : List Byte) : State := s.sendFrame 7 (s.controlFork group payload)

/-- The destinations whose route changes are fenced (R167): a fence each, 64 at most, the rest counted in 3.000.09. A fence that is open for the same destination
stays, and holds what it held; one that no frame has met since is renewed. -/
def State.openFences (s : State) (dsts : List Nat) : State :=
  dsts.foldl (fun s d =>
    let f : Fence := ⟨d, s.switch.nextId, s.nowNs⟩
    let others := s.switch.fences.filter (fun g => g.dst != d || g.first != f.first)
    if others.length < 64 then { s with switch := { s.switch with fences := others ++ [f] } } else s.inc 0x300009) s

/-- The rings or spurs that the flows to a destination take, for every value of the flow hash (R166, R167). -/
def State.routesTo (s : State) (d : Nat) : List (Option Nat) := (List.range 16).map (fun h => s.routePort (s.routeCode d) d h)

/-- After a change of tables or breaks, fences open for every destination whose effective route changed (R167). -/
def State.fenceChanges (s old : State) (dsts : List Nat) : State :=
  s.openFences (dsts.filter (fun d => s.routesTo d != old.routesTo d))

/-- All unicast destinations. -/
def allNodes : List Nat := (List.range 1022).map (· + 1)

/-- The destinations that a table object bears on: one for a node table entry, all for the ring A share. -/
def tableDests (o : Nat) : List Nat := if o = 0x300006 then allNodes else if o / 0x1000 = 0x320 then [o % 0x1000] else []

/-- The spare slot of a table entry still drains (R169). -/
def State.spareDrains (s : State) (o : Nat) : Bool :=
  match mfind s.switch.spareOf o with
  | some e => decide (0 < s.drainOf (e - 1))
  | none => false

/-- An update of epoch-governed entries (R169): refused as busy where a spare slot still drains or the next epoch has frames; otherwise every
written slot becomes current under one epoch advance, and changed routes are fenced (R167). -/
def State.epochUpdate (s : State) (ws : List (Nat × Nat)) : Option State :=
  let e := s.epoch
  let e' := (e + 1) % 4
  if s.drainOf e' ≠ 0 || ws.any (fun w => s.spareDrains w.1) then none
  else
    let s1 := ws.foldl (fun s w => s.wr w.1 w.2) s
    let s2 := { s1 with switch := { s1.switch with spareOf := ws.foldl (fun m (w : Nat × Nat) => mset 0 m w.1 (e + 1)) s1.switch.spareOf } }
    some ((s2.wr 0x300002 e').fenceChanges s ((ws.flatMap (fun (w : Nat × Nat) => tableDests w.1)).eraseDups))

/-- A write to an epoch-governed object (R169, R170): into the open batch, of at most 256 entries, or as an update of its own. -/
def State.writeTable (s : State) (o v : Nat) : OdRes :=
  match s.switch.batch with
  | some l => if l.length < 256 then okRes { s with switch := { s.switch with batch := some (l ++ [(o, v)]) } } else errRes s 0x06
  | none => match s.epochUpdate [(o, v)] with
    | some t => okRes t
    | none => errRes s 0x06

/-- A write of 1 to 3.000.07 begins a batch (R170). -/
def State.batchBegin (s : State) : OdRes :=
  if s.switch.batch.isSome then errRes s 0x06 else okRes { s with switch := { s.switch with batch := some [] } }

/-- A write of 2 to 3.000.07 commits the batch (R170): all its slots under one epoch advance. -/
def State.batchCommit (s : State) : OdRes :=
  match s.switch.batch with
  | none => errRes s 0x02
  | some l =>
    if l = [] then okRes { s with switch := { s.switch with batch := none } }
    else match s.epochUpdate l with
      | some t => okRes { t with switch := { t.switch with batch := none } }
      | none => errRes s 0x06

/-- A write of 3 to 3.000.07 abandons the batch (R170). -/
def State.batchAbandon (s : State) : OdRes := okRes { s with switch := { s.switch with batch := none } }

/-- A fence may end (R167): no frame for its destination admitted under the old route remains in the buffer, and the fence time has elapsed. -/
def State.fenceOver (s : State) (f : Fence) : Bool :=
  !((List.range 72).any (fun q => (s.chargedCopies q).any (fun c => c.frame.dst == f.dst && decide (c.id < f.first)))) &&
    decide (f.at_ + 1000 * s.cell 0x300005 ≤ s.nowNs)

/-- The fences of a destination that may end do so (R167). -/
def State.fenceEnd (s : State) (d : Nat) : State :=
  { s with switch := { s.switch with fences := s.switch.fences.filter (fun f => f.dst != d || !(s.fenceOver f)) } }

/-- A write of 1 to 3.000.08 (R186): the counts restart at zero. -/
def State.clearSwitch (s : State) : State :=
  let s1 := (s.wr 0x300001 s.freeCells).wr 0x300009 0
  let s2 := (List.range 72).foldl (fun s q => (((s.wr (queueObj q 7) 0).wr (queueObj q 8) 0).wr (queueObj q 9) 0).wr (queueObj q 0xA) 0) s1
  let s3 := (List.range 64).foldl (fun s k => let o := 0x350000 + 0x100 * k; ((s.wr (o + 8) 0).wr (o + 9) 0).wr (o + 0xA) 0) s2
  s3.wr 0x360000 0

/-- A GATE move (R59, R177). -/
def State.gateMove (s : State) (m : MoveRec) : State :=
  (List.range 8).foldl (fun s c =>
    if m.a.testBit (8 + c) then
      let q := queueOf (bits m.a 3 0) c
      let g : GateSt := if bit m.a 16 then ⟨true, bits m.b 19 0⟩ else ⟨false, 0⟩
      { s with switch := { s.switch with gates := mset {} s.switch.gates q g } }
    else s) s

/-- All gates are closed: at the boundary at which a bank becomes active, and on entering Run or Hold from Configure (R177). -/
def State.closeGates (s : State) : State := { s with switch := { s.switch with gates := [] } }

/-- SEG_SHORT at the originator (R176): counted, reported in 3.600.01 and 3.600.02, journalled once per segment and cycle. Those of the last 256 cycles are
remembered. -/
def State.segShort (s : State) (seg cycle : Nat) : State :=
  let s1 := ((s.inc 0x360000).wr 0x360001 seg).wr 0x360002 cycle
  if s.switch.shorts.contains (seg, cycle) then s1
  else
    let l := (seg, cycle) :: s.switch.shorts.filter (fun e => decide (cycle ≤ e.2 + 256))
    ({ s1 with switch := { s1.switch with shorts := l } }).raise .swx 0x01 0x09 (seg * 2 ^ 20 + cycle % 256 * 2 ^ 12)

/-- The switch discards every frame still held (R396): the frames are counted in B.020.03, their copies in 3.1qq.09, and one record carries the count. -/
def State.discardAll (s : State) : State :=
  let n := (((List.range 72).flatMap s.queueCopies).map (·.id)).eraseDups.length
  let s1 := (List.range 72).foldl (fun s q => (s.queueCopies q).foldl (fun s c =>
    (s.unqueue c).inc (queueObj (queueOf c.egress c.cls) 9)) s) s
  (s1.wr 0xB02003 n).raise .swx 0x02 0x26 (n % 65536)

/-- Copies queued for an isolated egress port are discarded (R185, R447). -/
def State.discardPort (s : State) (port : Nat) : State :=
  (List.range 8).foldl (fun s c => (s.queueCopies (queueOf port c)).foldl (fun s x => s.discardCopy x 0x6 0x16) s) s

end Sys2Proof.Machine
end

