-- ==== Sys2Proof/Machine/Journal.lean ====
section
/-!
DEFINITION. The journal (R387, R459 to R465): storing, the overflow rules, forwarding to a collector, and the power log.
-/
namespace Sys2Proof.Machine

/-- A record as its 128 bits (R459). -/
def JRecord.nat (r : JRecord) : Nat :=
  r.sec * 2 ^ 96 + r.nano * 2 ^ 64 + r.node * 2 ^ 54 + r.island * 2 ^ 48 + r.cls * 2 ^ 40 + r.reason * 2 ^ 32 + r.tag

/-- The record that 128 bits spell (R459). -/
def natRecord (v : Nat) : JRecord :=
  ⟨bits v 127 96, bits v 95 64, bits v 63 54, bits v 53 48, bits v 47 40, bits v 39 32, bits v 31 0⟩

/-- The unread count (R462). -/
def State.unread (s : State) : Nat := (s.rd 0xD00000 + 2048 - s.rd 0xD00001) % 2048

/-- The notice for a stored record (R465). -/
def State.journalNotice (s : State) (cls : Nat) : State :=
  if s.rd 0xD00006 = 1 && ((s.rd 0xD00005).testBit cls || decide (s.rd 0xD00004 ≤ s.unread)) then s.notice 4 else s

/-- JOURNAL_FWD with one record (R464). -/
def State.forwardRecord (s : State) (r : JRecord) : State :=
  let peer := s.rd 0xD01000
  if peer != 0 && r.node = 0 && (s.rd 0xD01001).testBit r.cls then
    (s.inc 0xD01002).sendControl peer (controlHead 0x0D10 s.node s.cycle ++ natBE 2 1 ++ zeros 2 ++ natBE 16 r.nat)
  else s

/-- Writes a record at the head entry and advances the head (R462). -/
def State.keepRecord (s : State) (r : JRecord) : State :=
  let h := s.rd 0xD00000
  (({ s with journal := { s.journal with recs := minsert s.journal.recs (h % 1024) r } }).wr 0xD00000 ((h + 1) % 2048)).journalNotice r.cls

/-- Stores a record (R462, R464): its copy goes to the collector. -/
def State.putRecord (s : State) (r : JRecord) : State := (s.keepRecord r).forwardRecord r

/-- A record that finds the journal full (R463): lost, or stored over the oldest. -/
def State.fullPolicy (s : State) (r : JRecord) : State :=
  if s.rd 0xD00003 = 1 then
    let t := s.rd 0xD00001
    let lost := ((mfind s.journal.recs (t % 1024)).map (·.cls)).getD 0
    ((s.wr 0xD00001 ((t + 1) % 2048)).recordLost lost).putRecord r
  else s.recordLost r.cls

/-- The summary record of R463. -/
def State.summary (s : State) : JRecord := jrecordAt s.time.now .mgt 0x00 0x80 (min (s.rd 0xD00007) 0xFFFFFFFF)

/-- The Keeper stores a record (R462, R463): a due summary goes immediately before it, and the lost count is set to zero before either is forwarded, so that
a loss that the forwarding adds is kept. -/
def State.storeRecord (s : State) (r : JRecord) : State :=
  let free := 1024 - s.unread
  if s.rd 0xD00007 ≠ 0 then
    if 2 ≤ free then
      let s1 := ((((s.incSat 0xD00300).inc 0xD00180).keepRecord s.summary).keepRecord r).wr 0xD00007 0
      (s1.forwardRecord s.summary).forwardRecord r
    else s.fullPolicy r
  else if 1 ≤ free then s.putRecord r
  else s.fullPolicy r

/-- The Keeper is there to store records (R387, R438): it runs, and no handover pause is under way. -/
def State.keeperStores (s : State) : Bool := s.modes.keeperUp && !s.keeperPaused

/-- The oldest record of an island's posting buffer reaches the Keeper (R460). -/
def State.takePosted (s : State) (code : Nat) : State :=
  if s.keeperStores then
    match mget [] s.journal.posted code with
    | r :: rest => ({ s with journal := { s.journal with posted := mset [] s.journal.posted code rest } }).storeRecord r
    | [] => s
  else s

/-- Once the Keeper runs, it posts the power log to the journal in order and adds the counts kept meanwhile (R387). -/
def State.postPowerLog (s : State) : State :=
  let j := s.journal
  let s1 := { s with journal := { j with plog := [], plogCnt := [], plogLost := [] } }
  let s2 := j.plogCnt.foldl (fun s (e : Nat × Nat) => s.addTo (0xD00100 + e.1) e.2) s1
  let s3 := j.plogLost.foldl (fun s (e : Nat × Nat) => (s.addTo (0xD00010 + e.1) e.2).addSat 0xD00007 e.2) s2
  j.plog.foldl (fun s r => s.storeRecord r) s3

/-- The Keeper stops (R387, R460): waiting records of the port die move to the power log, AON-timed as every
record of it (R459), those of the core die are lost. -/
def State.keeperStops (s : State) : State :=
  let port := s.journal.posted.filter (fun e => onPortDie (if e.1 = 0 then .aon else if e.1 = 1 then .pin else if e.1 = 2 then .pwr else .mgt))
  let core := s.journal.posted.filter (fun e => decide (2 < e.1))
  let s1 := { s with journal := { s.journal with posted := [] }, modes := { s.modes with keeperUp := false } }
  let s2 := core.foldl (fun s e => e.2.foldl (fun s r => s.recordLost r.cls) s) s1
  port.foldl (fun s e => e.2.foldl (fun s r => s.powerLog { r with sec := s.modes.aonCount % 2 ^ 32, nano := 0xFFFFFFFF }) s) s2

/-- A write to D.000.01 (R462): records released by a new tail. -/
def State.writeTail (s : State) (v : Nat) : OdRes :=
  if (s.rd 0xD00000 + 2048 - v % 2048) % 2048 ≤ 1024 && v < 2048 then okRes (s.wr 0xD00001 v) else errRes s 0x04

/-- The collector stores forwarded records under the sender's node number (R464); those that reach it while its Keeper does not store are lost, and counted
(R463). -/
def State.journalFwd (s : State) (payload : List Byte) : State :=
  if beField payload 0 2 = 0x0D10 then
    let n := beField payload 2 2 % 1024
    let k := beField payload 12 2
    (List.range (min k 16)).foldl (fun s i =>
      let r : JRecord := { natRecord (beField payload (16 + 16 * i) 16) with node := n }
      if s.keeperStores then s.storeRecord r else s.recordLost r.cls) s
  else s

/-- A read of the journal at an offset of space 0x06 (R461). -/
def State.journalRead (s : State) (o n : Nat) : List Byte :=
  (List.range n).map (fun k =>
    let a := o + k
    BitVec.ofNat 8 (((mfind s.journal.recs (a / 16)).map JRecord.nat).getD 0 / 2 ^ (8 * (a % 16))))

end Sys2Proof.Machine
end

