-- ==== Sys2Proof/Machine/Bus.lean ====
section
/-!
DEFINITION. The message buses (R263 to R286): message objects, requests, attempts, acceptance, fault confinement and transceivers.
-/
namespace Sys2Proof.Machine

/-- The number of the high-priority buffer among a controller's objects (R268). -/
def highPriority : Nat := 128

/-- A controller. -/
def State.ctl (s : State) (n : Nat) : BusCtl := mget {} s.bus.ctl n

/-- Writes a controller. -/
def State.setCtl (s : State) (n : Nat) (c : BusCtl) : State := { s with bus := { s.bus with ctl := mset {} s.bus.ctl n c } }

/-- A message object of a controller. -/
def BusCtl.obj (c : BusCtl) (m : Nat) : MsgObj := mget {} c.objects m

/-- Writes a message object. -/
def BusCtl.setObj (c : BusCtl) (m : Nat) (x : MsgObj) : BusCtl := { c with objects := mset {} c.objects m x }

/-- A message object of a controller of the hub. -/
def State.msg (s : State) (n m : Nat) : MsgObj := (s.ctl n).obj m

/-- Writes a message object of a controller of the hub. -/
def State.setMsg (s : State) (n m : Nat) (x : MsgObj) : State := s.setCtl n ((s.ctl n).setObj m x)

/-- An object of a controller in the object dictionary (R286): 7.0n0.ss, 7.0n1.ss. -/
def busObj (n grp sub : Nat) : Nat := 0x700000 + 0x1000 * n + 0x100 * grp + sub

/-- An object of a transceiver in the object dictionary (R286): 7.1t0.ss. -/
def xcvrObj (t sub : Nat) : Nat := 0x710000 + 0x1000 * t + sub

/-- The MBUS island works, and the controller is not isolated (R447). -/
def State.ctlLive (s : State) (n : Nat) : Bool :=
  decide (n < 8) && s.ticking && !(s.isolated .mbus) && !(s.partIsolated (0x80 + n))

/-- The hub's role keeps its controllers listening (R265): standby or holding in a pair. -/
def State.listening (s : State) : Bool := s.inPair && s.rd 0x208200 != 1

/-- The role keeps a controller configured in mode 1 or 3 listening (R265). -/
def State.mutes (s : State) (n : Nat) : Bool := s.listening && (s.rd (busObj n 0 0) = 1 || s.rd (busObj n 0 0) = 3)

/-- What a controller sends reaches its bus (R279, R283, R284): an integrated transceiver drives in Normal and without a fault, and at core loss every
transmit line is recessive. -/
def State.busDrives (s : State) (n : Nat) : Bool :=
  !s.pins.coreLoss && (decide (2 ≤ n) || (s.rd (xcvrObj n 0) = 0 && s.rd (xcvrObj n 5) = 0))

/-- A controller hears its bus (R279): the receiver of an integrated transceiver is on in Normal and Listen-only. -/
def State.busHears (s : State) (n : Nat) : Bool := decide (2 ≤ n) || decide (s.rd (xcvrObj n 0) ≤ 1)

/-- The mode a controller is to run in (R264, R265, R447). -/
def State.wantMode (s : State) (n : Nat) : Nat :=
  let m := s.rd (busObj n 0 0)
  if !(s.ctlLive n) then 0 else if s.mutes n then 2 else m

/-- The item tag of a bus record (R278). -/
def busTag (n m attempts : Nat) : Nat :=
  n * 2 ^ 29 + (if m = highPriority then 2 ^ 28 else m * 2 ^ 21) + min attempts 255 * 2 ^ 13

/-- A request ends without success (R278): outcome code of the status word and journal reason. -/
def State.busJournal (s : State) (n m attempts reason : Nat) : State := s.raise .mbus 0x04 reason (busTag n m attempts)

/-- The smallest CAN FD length that holds a count (R273). -/
def fdLength (n : Nat) : Nat :=
  if n ≤ 8 then n else if n ≤ 12 then 12 else if n ≤ 16 then 16 else if n ≤ 20 then 20 else if n ≤ 24 then 24
  else if n ≤ 32 then 32 else if n ≤ 48 then 48 else 64

/-- The data bytes of an object. -/
def MsgObj.bytes (x : MsgObj) (n : Nat) : List Byte := (List.range n).map (fun k => mget 0 x.data k)

/-- Writes data bytes of an object from an index. -/
def MsgObj.put (x : MsgObj) (o : Nat) (l : List Byte) : MsgObj :=
  { x with data := (l.zipIdx).foldl (fun m e => mset 0 m (o + e.2) e.1) x.data }

/-- Object enabled, and a transmit object (R268). -/
def MsgObj.transmits (x : MsgObj) : Bool := bit x.idw 31 && bit x.idw 30

/-- Object enabled, and a receive object (R268). -/
def MsgObj.receives (x : MsgObj) : Bool := bit x.idw 31 && !(bit x.idw 30)

/-- The frame built from an object at a request of `count` bytes (R273). The error state is that of the attempt (R263); a remote frame states the length it asks
for. -/
def MsgObj.build (x : MsgObj) (count : Nat) : CanFrame :=
  let fd := bit x.ctrl 31
  let pad := List.replicate (fdLength count - count) (BitVec.ofNat 8 (bits x.ctrl 15 8))
  { ide := bit x.idw 29
    id := if bit x.idw 29 then bits x.idw 28 0 else bits x.idw 28 18 * 2 ^ 18
    fdf := fd
    brs := fd && bit x.ctrl 30
    esi := false
    rtr := bit x.ctrl 29
    data := if bit x.ctrl 29 then [] else if fd then x.bytes count ++ pad else x.bytes count
    rlen := if bit x.ctrl 29 then count else 0 }

/-- CAN FD is enabled on a controller (R263, R286, R341). -/
def State.fdOn (s : State) (n : Nat) : Bool := bit (s.rd (busObj n 0 4)) 0 && s.feature 64

/-- A request that an object cannot make (R278). -/
def State.mismatch (s : State) (n : Nat) (x : MsgObj) (count : Nat) : Bool :=
  !x.transmits || (!(bit x.ctrl 31) && decide (8 < count)) || decide (64 < count) ||
    (bit x.ctrl 31 && !(s.fdOn n)) || (bit x.ctrl 29 && bit x.ctrl 31)

/-- Pending or waiting requests and the frame in transmission, as a flag (R268: status [29]). -/
def MsgObj.pending (x : MsgObj) : Bool := x.req.isSome || x.next.isSome

/-- A request is put to an object (R273). -/
def State.queueRequest (s : State) (n m : Nat) (r : TxReq) : State :=
  let x := s.msg n m
  if (s.ctl n).sending = some m then
    match x.next with
    | some old => (s.setMsg n m { x with next := some r, outcome := 5 }).busJournal n m old.attempts 0x43
    | none => s.setMsg n m { x with next := some r }
  else
    match x.req with
    | some old => (s.setMsg n m { x with req := some r, outcome := 5, attempts := 0 }).busJournal n m old.attempts 0x43
    | none => s.setMsg n m { x with req := some r, attempts := 0 }

/-- A transmission request of `count` bytes (R268, R273, R278), which leaves the attempts of a current one as they are: mismatched objects and controllers that cannot send end it at once. -/
def State.request (s : State) (n m count : Nat) : State :=
  let x := s.msg n m
  let kept := if x.req.isSome then x.attempts else 0
  if s.mismatch n x count then (s.setMsg n m { x with outcome := 7, attempts := kept }).busJournal n m 0 0x45
  else if s.mutes n then
    (s.setMsg n m { x with outcome := 6, attempts := kept }).busJournal n m 0 0x44
  else if (s.ctl n).mode != 1 && (s.ctl n).mode != 4 then s.busJournal n m 0 0x46
  else s.queueRequest n m { frame := x.build count, policy := bits x.ctrl 28 27, limit := bits x.ctrl 23 16 }

/-- An abort (R273): pending and waiting requests end as abandoned; a frame in transmission completes its attempt and is not retried. -/
def State.abortObj (s : State) (n m : Nat) : State :=
  let x := s.msg n m
  let s1 := match x.next with
    | some r => (s.setMsg n m { x with next := none, outcome := 6 }).busJournal n m r.attempts 0x44
    | none => s
  if (s1.ctl n).sending = some m then s1.setCtl n { s1.ctl n with dropped := true }
  else
    let y := s1.msg n m
    match y.req with
    | some r => (s1.setMsg n m { y with req := none, outcome := 6 }).busJournal n m r.attempts 0x44
    | none => s1

/-- Every pending and waiting request of a controller is abandoned (R265, R277, R396, R447). -/
def State.abandonAll (s : State) (n : Nat) : State := (List.range 128).foldl (fun s m => if (s.msg n m).pending then s.abortObj n m else s) s

/-- The order in which frames win arbitration on the bus (R274): the 11 leading identifier bits, base before extended, the rest, data before
remote. -/
def arbKey (f : CanFrame) : Nat :=
  bits f.id 28 18 * 2 ^ 21 + b2n f.ide * 2 ^ 20 + (if f.ide then bits f.id 17 0 * 2 else 0) + b2n f.rtr

/-- The pending object that would win on the bus; equal frames in ascending object number (R274). -/
def BusCtl.winner (c : BusCtl) : Option Nat :=
  ((List.range 128).filter (fun m => (c.obj m).req.isSome)).foldl (fun acc m =>
    match acc, (c.obj m).req with
    | some b, some r => match (c.obj b).req with
      | some q => if arbKey r.frame < arbKey q.frame then some m else some b
      | none => some m
    | none, some _ => some m
    | a, none => a) none

/-- The controller sends frames now (R264, R265, R277). -/
def State.sends (s : State) (n : Nat) : Bool :=
  s.ctlLive n && ((s.ctl n).mode = 1 || (s.ctl n).mode = 4) && (s.ctl n).conf < 2 && !(s.mutes n)

/-- A frame as it goes out: an error passive controller says so in an FD frame (R263, ISO 11898-1). -/
def BusCtl.onBus (c : BusCtl) (f : CanFrame) : CanFrame := { f with esi := f.fdf && c.conf == 1 }

/-- At a start-of-frame opportunity the controller enters arbitration with its best frame (R274). In loopback, and where its transmitter is off, nothing
reaches the bus (R264, R279, R283). -/
def State.arbitrate (s : State) (n : Nat) : State :=
  let c := s.ctl n
  if s.sends n && c.sending.isNone then
    match c.winner with
    | some m =>
      let x := c.obj m
      match x.req with
      | some r =>
        let r1 := { r with attempts := r.attempts + 1 }
        let s1 := s.setCtl n { c.setObj m { x with req := some r1, attempts := min r1.attempts 255 } with sending := some m }
        if c.mode = 1 && s.busDrives n then s1.emit (.can n (c.onBus r.frame)) else s1
      | none => s
    | none => s
  else s

/-- The confinement state that the error counters give (R263, R277): passive above 127; bus-off and recovery are left only by command. -/
def BusCtl.confine (c : BusCtl) : BusCtl :=
  if 2 ≤ c.conf then c else { c with conf := if 127 < c.tec || 127 < c.rxe then 1 else 0 }

/-- The request in transmission leaves its object, with an outcome (R268, R273): a waiting request becomes the current one, without an attempt yet. -/
def MsgObj.endRequest (x : MsgObj) (outcome : Nat) : MsgObj :=
  { x with req := x.next, next := none, outcome := outcome, attempts := if x.next.isSome then 0 else x.attempts }

/-- The request in transmission leaves its object (R268, R273). -/
def State.endRequest (s : State) (n m outcome : Nat) : State :=
  let s1 := s.setMsg n m ((s.msg n m).endRequest outcome)
  s1.setCtl n { s1.ctl n with dropped := false }

/-- The request in transmission ends without success: journalled once (R278). -/
def State.failRequest (s : State) (n m attempts outcome reason : Nat) : State := (s.endRequest n m outcome).busJournal n m attempts reason

/-- A request of this controller that ends now without success ends as abandoned (R265, R273, R276): it was removed, or the role listens. -/
def State.abandons (s : State) (n : Nat) : Bool := (s.ctl n).dropped || s.mutes n

/-- An attempt has failed or lost (R273, R275): a removed request ends; a waiting request replaces one that did not succeed; else the policy decides. -/
def State.judgePolicy (s : State) (n m : Nat) (r : TxReq) (failed : Bool) : State :=
  let x := s.msg n m
  let r1 := if failed then { r with fails := r.fails + 1 } else r
  if s.abandons n then s.failRequest n m r.attempts 6 0x44
  else if x.next.isSome then s.failRequest n m r.attempts 5 0x43
  else if r.policy = 1 then s.failRequest n m r.attempts 4 0x42
  else if r.policy = 2 && failed && decide (r.limit ≤ r1.fails) then s.failRequest n m r.attempts 3 0x41
  else s.setMsg n m { x with req := some r1 }

/-- A TIME stamp of R285: fabric time at the first MBUS clock edge, of 12.5 ns each since the release of SEQ, after an edge `ago` ns before the start of this beat (R304);
seconds [31:0] above nanoseconds. -/
def State.busStamp (s : State) (ago : Nat) : Nat :=
  let edge := (2 * (32 * s.time.beats - ago) / 25 + 1) * 25
  let t := toTime96 (s.time.now + edge * 32768 - 64 * s.time.beats * 32768)
  t.sec % 2 ^ 32 * 2 ^ 32 + t.nano

/-- A notice of a controller (R272, R277, R360): vectors 16 + n high-priority, 24 + n bus-off. -/
def State.busNotice (s : State) (n k vector : Nat) : State := if bit (s.rd (busObj n 0 7)) k then s.notice (vector + n) else s

/-- Stores a frame into an object (R271): new, overrun, counts, and the last two frames kept. -/
def State.storeIn (s : State) (n m : Nat) (f : CanFrame) (sofAgo off : Nat) : State :=
  let x := s.msg n m
  let full := x.isNew
  let rid := (if f.ide then 2 ^ 29 else 0) + f.id
  let flags := b2n f.fdf * 2 ^ 15 + b2n f.brs * 2 ^ 14 + b2n f.esi * 2 ^ 13 + b2n f.rtr * 2 ^ 12 + f.data.length
  let ts := s.busStamp sofAgo
  let y : MsgObj := { x with
    isNew := true
    overrun := x.overrun || full
    ts := ts
    data := ((f.data.zipIdx).foldl (fun d e => mset 0 d e.2 e.1) [])
    count := x.count + 1
    stored := (⟨f.data, rid, flags, ts, 64 * s.time.beats + 2 * off, x.count + 1⟩ :: x.stored).take 2 }
  let s1 := (s.setMsg n m y).inc (busObj n 1 4)
  let s2 := if full then (s1.inc (busObj n 1 6)).raiseAt (s.time.now + off * 65536) .mbus 0x04 0x47 (busTag n m 0) else s1
  if m = highPriority then s2.busNotice n 0 16 else s2

/-- A frame matches an object's filter (R270). -/
def MsgObj.matches_ (x : MsgObj) (f : CanFrame) : Bool :=
  let w := if f.ide then 2 ^ 29 - 1 else 2 ^ 29 - 2 ^ 18
  x.receives && ((f.id ^^^ bits x.idw 28 0) &&& bits x.mask 28 0 &&& w) == 0 && (!(bit x.mask 31) || f.ide == bit x.idw 29)

/-- The object in which a frame is stored (R270): the high-priority filter first, then the receive objects in ascending number. -/
def BusCtl.accepts (c : BusCtl) (f : CanFrame) : Option Nat :=
  if (c.obj highPriority).matches_ f then some highPriority else (List.range 128).find? (fun m => (c.obj m).matches_ f)

/-- The controller stores frames of its bus (R264, R279): not those of a bus it does not hear, and in loopback only its own. -/
def State.storesFrames (s : State) (n : Nat) : Bool :=
  s.ctlLive n && s.busHears n && decide (1 ≤ (s.ctl n).mode) && decide ((s.ctl n).mode ≤ 3) && (s.ctl n).conf < 2

/-- A frame is one that the controller can receive (R263): with CAN FD disabled, an FD frame is none. -/
def State.canReceive (s : State) (n : Nat) (f : CanFrame) : Bool := s.storesFrames n && (!f.fdf || s.fdOn n)

/-- A valid frame received (R276, and ISO 11898-1 for REC): the lonely count restarts, the flag clears, REC falls. -/
def State.validReceived (s : State) (n : Nat) : State :=
  let c := s.ctl n
  let down := if 127 < c.rxe then 119 + s.freeNat 4 % 9 else c.rxe - 1
  let s1 := (s.setCtl n ({ c with lonely := false, rxe := if c.mode = 1 then down else c.rxe }).confine).wr (busObj n 1 1) 0
  if 127 < c.rxe && c.mode = 1 then s1.tookFree else s1

/-- A received frame is stored at the end of its EOF, `off` ns into this beat, its SOF `sofAgo` ns before the beat start (R270, R271, R285). -/
def State.frameStored (s : State) (n : Nat) (f : CanFrame) (sofAgo off : Nat) : State :=
  if s.canReceive n f then
    match (s.ctl n).accepts f with
    | some m => (s.validReceived n).storeIn n m f sofAgo off
    | none => s
  else s

/-- A valid frame that matches nothing (R270): counted. -/
def State.frameRefused (s : State) (n : Nat) (f : CanFrame) : State :=
  if s.canReceive n f && ((s.ctl n).accepts f).isNone then (s.validReceived n).inc (busObj n 1 5) else s

/-- A frame sent in loopback returns internally (R264): it is stored in the object that accepts it, or counted as not accepted. -/
def State.loopBack (s : State) (n : Nat) (f : CanFrame) (sofAgo : Nat) : State :=
  match (s.ctl n).accepts f with
  | some m => s.storeIn n m f sofAgo 0
  | none => s.inc (busObj n 1 5)

/-- An error on a frame being received (R263, ISO 11898-1): REC rises by 1, or by 8 where a dominant bit follows the error flag. With the protocol exception
option a protocol exception raises none; without it the same bit is a form error. -/
def State.receiveError (s : State) (n : Nat) (code : Fin 8) (heavy : Bool) : State :=
  let c := s.ctl n
  if s.ctlLive n && s.busHears n && 1 ≤ c.mode && c.mode ≤ 3 && c.conf < 2 then
    let exempt := code.val = 7 && bit (s.rd (busObj n 0 4)) 1
    let r := if c.mode = 1 && !exempt then min 255 (c.rxe + (if heavy then 8 else 1)) else c.rxe
    s.setCtl n ({ c with rxe := r, lastErr := if code.val = 7 && !exempt then 2 else code.val }).confine
  else s

/-- The controller goes bus-off (R277). -/
def State.goBusOff (s : State) (n m attempts : Nat) : State :=
  let c := s.ctl n
  ((((s.setCtl n { c with conf := 2, tec := 256 }).inc (busObj n 1 2)).busJournal n m attempts 0x48)).busNotice n 1 24

/-- An acknowledgement error on an own transmission counts toward the lonely-bus threshold (R276); reaching it ends the request. -/
def State.countLonely (s : State) (n m attempts : Nat) : State × Bool :=
  if s.feature 65 then
    let k := s.rd (busObj n 1 1) + 1
    if s.cell (busObj n 0 5) ≤ k then
      let s1 := s.wr (busObj n 1 1) 0
      let s2 := s1.setCtl n { s1.ctl n with lonely := true }
      (if s2.abandons n then s2.failRequest n m attempts 6 0x44 else s2.failRequest n m attempts 2 0x40, true)
    else (s.wr (busObj n 1 1) k, false)
  else (s, false)

/-- A transmission attempt ends in an error (R275 to R277): TEC rises by 8, except for acknowledgement errors in error passive. -/
def State.attemptFailed (s : State) (n m : Nat) (r : TxReq) (code : Fin 8) : State :=
  let c := s.ctl n
  let ack := code.val = 3
  let tec := if ack && c.conf = 1 then c.tec else c.tec + 8
  let s1 := s.setCtl n ({ c with sending := none, lastErr := code.val, tec := min tec 256 }).confine
  let (s2, ended) := if ack then s1.countLonely n m r.attempts else (s1, false)
  let s3 := if 255 < tec then s2.goBusOff n m r.attempts else s2
  if ended then s3 else s3.judgePolicy n m r true

/-- The length of a data bit in units of 12.5 ns (R266). -/
def State.dataBit (s : State) (n : Nat) : Nat :=
  let w := s.rd (busObj n 0 2)
  (bits w 4 0 + 1) * (bits w 28 24 + bits w 19 16 + 3)

/-- The transmitter delay measured on a frame sent with BRS is reported (R267). -/
def State.noteDelay (s : State) (n : Nat) (f : CanFrame) (delay : Option Nat) : State :=
  match delay with
  | some d => if f.fdf && f.brs then s.wr (busObj n 1 8) (d % 65536) else s
  | none => s

/-- The measured transmitter delay is more than three data bits (R267). -/
def State.delayTooLong (s : State) (n : Nat) (f : CanFrame) (delay : Option Nat) : Bool :=
  match delay with
  | some d => f.fdf && f.brs && decide (3 * s.dataBit n < d)
  | none => false

/-- The mode asked for takes effect (R264, R265): mode 0 zeroes the error counters, which does not end bus-off (R277); a controller that starts to listen abandons
its requests. -/
def State.modeChange (s : State) (n : Nat) : State :=
  let c := s.ctl n
  let m := s.wantMode n
  if n < 8 && s.ticking && c.mode != m && c.sending.isNone then
    let s1 := if s.listening && m = 2 then s.abandonAll n else s
    let c1 := s1.ctl n
    s1.setCtl n (if m = 0 then ({ c1 with mode := 0, tec := 0, rxe := 0 }).confine else { c1 with mode := m })
  else s

/-- A transmission has succeeded (R264, R273, R276, R285). -/
def State.attemptSent (s : State) (n m ago : Nat) (r : TxReq) : State :=
  let c := s.ctl n
  let x := c.obj m
  let c1 := ({ c with sending := none, tec := c.tec - 1, lonely := false, dropped := false }).confine
  let s1 := (s.setCtl n c1).wr (busObj n 1 1) 0
  let s2 := s1.setMsg n m { x.endRequest 1 with ts := s.busStamp ago }
  let s3 := s2.inc (busObj n 1 3)
  if c.mode = 4 then s3.loopBack n (c.onBus r.frame) ago else s3

/-- What the end of an attempt does to the request in transmission (R275 to R277). One whose transmitter is off is met as a bit or an acknowledgement error, whichever
comes first (R283). DEDUCED: a delay above three data bits, R267's bit error, is an error of a
dominant bit, code 5. -/
def State.attemptResult (s : State) (n : Nat) (e : AttemptEnd) : State :=
  match (s.ctl n).sending with
  | some m =>
    match (s.msg n m).req with
    | some r =>
      match e with
      | .sent ago delay =>
        let t := s.noteDelay n r.frame delay
        if (s.ctl n).mode = 1 && !(s.busDrives n) then s.tookFree.attemptFailed n m r (if s.freeNat 1 = 0 then 5 else 3)
        else if s.delayTooLong n r.frame delay then t.attemptFailed n m r 5 else t.attemptSent n m ago r
      | .error code delay => (s.noteDelay n r.frame delay).attemptFailed n m r code
      | .lost => ((s.setCtl n { s.ctl n with sending := none }).inc (busObj n 1 7)).judgePolicy n m r false
    | none => s.setCtl n { s.ctl n with sending := none }
  | none => s

/-- A transmission attempt ends (R275 to R277, R285); a controller that its role has told to listen does so from here (R265). -/
def State.attemptEnd (s : State) (n : Nat) (e : AttemptEnd) : State :=
  let t := s.attemptResult n e
  if t.mutes n then t.modeChange n else t

/-- The controllers follow a change of role (R265): where it listens, requests are abandoned and idle controllers run in mode 2; a frame in transmission completes its
attempt first. The way back to sending waits for bus integration (R264). -/
def State.busFollow (s : State) : State :=
  (List.range 8).foldl (fun s n => if s.mutes n then (s.abandonAll n).modeChange n else s) s

/-- Bus-off recovery is commanded (R277); `abandon` ends every request first. -/
def State.busRecover (s : State) (n : Nat) (abandon : Bool) : OdRes :=
  if (s.ctl n).conf = 2 then
    let s1 := if abandon then s.abandonAll n else s
    okRes (s1.setCtl n { s1.ctl n with conf := 3 })
  else errRes s 0x02

/-- After 128 recessive sequences the controller is error active (R277). -/
def State.busRecovered (s : State) (n : Nat) : State :=
  let c := s.ctl n
  if s.ctlLive n && c.conf = 3 then s.setCtl n { c with conf := 0, tec := 0, rxe := 0 } else s

/-- A write to 7.0n0.00 (R264): loopback is accepted in Test only. -/
def State.writeBusMode (s : State) (n v : Nat) : OdRes :=
  if v = 4 && s.mode != .test then errRes s 0x03 else okRes (s.wr (busObj n 0 0) v)

/-- A write of 1 to 7.0n1.09 (R286): the counts restart at zero. -/
def State.clearBus (s : State) (n : Nat) : State := [1, 2, 3, 4, 5, 6, 7].foldl (fun s k => s.wr (busObj n 1 k) 0) s

/-- The controller status word of 7.0n1.00 (R286), with the bus idle bit as given; it reads 0 of a disabled controller, as at reset, and of one that is
transmitting. -/
def State.ctlStatus (s : State) (n idle : Nat) : Nat :=
  let c := s.ctl n
  c.conf * 2 ^ 30 + b2n c.lonely * 2 ^ 29 + (if c.mode = 0 || c.sending.isSome then 0 else idle % 2) * 2 ^ 28 + c.mode * 2 ^ 25 + (if c.conf = 2 then 256 else min c.tec 256) * 2 ^ 16 + min c.rxe 255 * 2 ^ 8 + c.lastErr

/-- The status word of an object (R268). -/
def MsgObj.status (x : MsgObj) : Nat :=
  let f := match x.stored with | r :: _ => r.flags | [] => 0
  b2n x.isNew * 2 ^ 31 + b2n x.overrun * 2 ^ 30 + b2n x.pending * 2 ^ 29 + x.outcome * 2 ^ 26 + x.dstate * 2 ^ 24 + x.attempts * 2 ^ 16 + f

/-- A read-clear of the status word (R268). -/
def State.readClear (s : State) (n m : Nat) : State :=
  let x := s.msg n m
  s.setMsg n m { x with isNew := false, overrun := false }

/-- The word of an object at an offset (R268); the command word and reserved words read as zero. -/
def MsgObj.word (x : MsgObj) (o : Nat) : Nat :=
  match o with
  | 0x00 => x.idw | 0x04 => x.mask | 0x08 => x.ctrl | 0x0C => x.status | 0x20 => x.status
  | 0x10 => (match x.stored with | r :: _ => r.rxId | [] => 0)
  | 0x18 => x.ts % 2 ^ 32 | 0x1C => x.ts / 2 ^ 32
  | _ => if 0x40 ≤ o then leNat (x.bytes 64 |> fun l => slice l (o - 0x40) 4) else 0

/-- The controller, object and offset in it of an offset of space 0x04 (R268). -/
def busPlace (o : Nat) : Option (Nat × Nat × Nat) :=
  let n := o / 0x8000
  let r := o % 0x8000
  if n < 8 then
    if r < 0x4000 then some (n, r / 0x80, r % 0x80) else if r < 0x4080 then some (n, highPriority, r - 0x4000) else none
  else none

/-- An access to space 0x04 is well formed (R268). -/
def busAccessOk (o n : Nat) : Bool := o % 4 = 0 && n % 4 = 0 && decide (4 ≤ n) && decide (n ≤ 128) && decide (o % 0x80 + n ≤ 0x80)

/-- A read in space 0x04 (R268): outcome and bytes; a read that takes in the read-clear word clears it. -/
def State.busRead (s : State) (o n : Nat) : State × Nat × List Byte :=
  match busPlace o with
  | none => (s, 0x3, [])
  | some (c, m, a) =>
    if !(busAccessOk o n) then (s, 0x8, [])
    else
      let x := s.msg c m
      let v := (List.range (n / 4)).flatMap (fun k => natLE 4 (x.word (a + 4 * k)))
      (if a ≤ 0x20 && 0x20 < a + n then s.readClear c m else s, 0x0, v)

/-- The active bank names an object in a TXOBJ, or in a TXOBJ or RXLATCH (R269). -/
def State.busNamed (s : State) (n m : Nat) (txOnly : Bool) : Bool :=
  (s.mode = .run || s.mode = .repair) &&
    s.moves.any (fun k => (k.act == 0x06 || (!txOnly && k.act == 0x07)) && bits k.a 2 0 == n && bits k.a 14 8 == m)

/-- MB0 carries the OD service channel (R331, R341): its objects 126 and 127 belong to the channel. -/
def State.serviceOn (s : State) : Bool := s.feature 97 && s.rd 0x003100 = 1 && (s.ctl 0).mode = 1 && bit (s.rd (busObj 0 0 4)) 0 && s.feature 64

/-- An object belongs to the service channel (R331). -/
def State.serviceObj (s : State) (n m : Nat) : Bool := s.serviceOn && n = 0 && (m = 126 || m = 127)

/-- A write of one word of an object is allowed (R268, R269, R331). -/
def State.busWordOk (s : State) (n m a v : Nat) : Bool :=
  let x := s.msg n m
  if s.serviceObj n m then false
  else if a < 0x0C then !x.pending && !(s.busNamed n m false) && !(a = 0 && m = highPriority && bit v 30)
  else if a = 0x24 then v = 1 || v = 2
  else if 0x40 ≤ a then bit x.idw 30 && !(s.busNamed n m true)
  else false

/-- The mask word without its reserved bits (R5, R268). -/
def maskBits (v : Nat) : Nat := bits v 31 31 * 2 ^ 31 + bits v 28 0

/-- The control word without its reserved bits (R5, R268). -/
def ctrlBits (v : Nat) : Nat := bits v 31 27 * 2 ^ 27 + bits v 23 8 * 2 ^ 8 + bits v 6 0

/-- Writes one word of an object; a command word requests or aborts. -/
def State.busPutWord (s : State) (n m a v : Nat) : State :=
  let x := s.msg n m
  match a with
  | 0x00 => s.setMsg n m { x with idw := v }
  | 0x04 => s.setMsg n m { x with mask := maskBits v }
  | 0x08 => s.setMsg n m { x with ctrl := ctrlBits v }
  | 0x24 => if v = 1 then s.request n m (bits x.ctrl 6 0) else s.abortObj n m
  | _ => s.setMsg n m (x.put (a - 0x40) (natLE 4 v))

/-- A write in space 0x04 (R268, R269): outcome. -/
def State.busWrite (s : State) (o : Nat) (v : List Byte) : State × Nat :=
  match busPlace o with
  | none => (s, 0x3)
  | some (c, m, a) =>
    if !(busAccessOk o v.length) then (s, 0x8)
    else
      let ws := (List.range (v.length / 4)).map (fun k => (a + 4 * k, leField v (4 * k) 4))
      if ws.all (fun w => s.busWordOk c m w.1 w.2) then (ws.foldl (fun s (w : Nat × Nat) => s.busPutWord c m w.1 w.2) s, 0x0)
      else (s, 0x5)

/-- The frame that an RXLATCH takes (R61): the last one stored at least 61.5 ns before the beat. -/
def State.latchFrame (s : State) (n m : Nat) : Option RxFrame := (s.msg n m).stored.find? (fun r => decide (r.at2 + 123 ≤ 64 * s.time.beats))

/-- A transceiver. -/
def State.xcvr (s : State) (t : Nat) : Transceiver := mget {} s.bus.xcvr t

/-- Writes a transceiver's requested state. -/
def State.setWant (s : State) (t v : Nat) : State := { s with bus := { s.bus with xcvr := mset {} s.bus.xcvr t { s.xcvr t with want := v } } }

/-- INH is driven high while a transceiver claims it (R281). -/
def State.syncInh (s : State) : State := s.wr 0x712000 (if s.rd (xcvrObj 0 0) = 3 && s.rd (xcvrObj 1 0) = 3 then 0 else 1)

/-- Moves a transceiver to a state (R279). -/
def State.setXcvr (s : State) (t v : Nat) : State := (s.wr (xcvrObj t 0) v).syncInh

/-- The state in which a requested state leaves a transceiver (R265, R280): Normal runs in Listen-only while the role listens; Standby while
VCAN is low. -/
def State.xcvrState (s : State) (t v : Nat) : Nat :=
  if v ≤ 1 && bit (s.rd (xcvrObj t 5)) 1 then 2 else if v = 0 && s.listening then 1 else v

/-- The AON tick of 125 ns (R282): the AON count outside the core's beats, and the ticks that these have made. -/
def State.aonTick (s : State) : Nat × Nat := (s.modes.aonCount, s.nowNs / 125)

/-- A write to 7.1t0.00 (R280, R282): a wake in the same AON tick as a write of Sleep leaves Standby. -/
def State.writeXcvr (s : State) (t v : Nat) : State :=
  let w := if v = 3 && (s.xcvr t).woke = some s.aonTick then 2 else v
  (s.setWant t w).setXcvr t (s.xcvrState t w)

/-- The transceivers follow a change of role (R265). -/
def State.xcvrFollow (s : State) : State :=
  [0, 1].foldl (fun s t => if s.rd (xcvrObj t 0) ≤ 1 then s.setXcvr t (s.xcvrState t (s.xcvr t).want) else s) s

/-- A hub that begins or ceases to listen (R265): its controllers and transceivers follow. -/
def State.listenFollow (s : State) : State := s.busFollow.xcvrFollow

/-- VCAN falls below its reset level (R280, R283). -/
def State.vcanLow (s : State) : State :=
  [0, 1].foldl (fun s t =>
    let s1 := s.wr (xcvrObj t 5) (setBit (s.rd (xcvrObj t 5)) 1 true)
    if s1.rd (xcvrObj t 0) ≤ 1 then s1.setXcvr t 2 else s1) s

/-- VCAN is restored (R280): the requested state returns. -/
def State.vcanBack (s : State) : State :=
  [0, 1].foldl (fun s t =>
    let s1 := s.wr (xcvrObj t 5) (setBit (s.rd (xcvrObj t 5)) 1 false)
    if s1.rd (xcvrObj t 0) = 2 && (s1.xcvr t).want ≤ 1 then s1.setXcvr t (s1.xcvrState t (s1.xcvr t).want) else s1) s

/-- Every transceiver in Sleep moves to Standby (R402, R403). -/
def State.wakeXcvrs (s : State) : State :=
  [0, 1].foldl (fun s t => if s.rd (xcvrObj t 0) = 3 then (s.setWant t 2).setXcvr t 2 else s) s

/-- A transmitter fault of an integrated transceiver (R283): bit 0 TXD dominant timeout, bit 2 over-temperature. -/
def State.xcvrFault (s : State) (t k : Nat) (on : Bool) : State :=
  if t < 2 && s.mode != .noPower then s.wr (xcvrObj t 5) (setBit (s.rd (xcvrObj t 5)) k on) else s

end Sys2Proof.Machine
end

