-- ==== Sys2Proof/Machine/Rails.lean ====
section
/-!
DEFINITION. Power channels as their registers show them (R372, R374, R379, R388) and how one turns off (R381, R382, R387).
-/
namespace Sys2Proof.Machine

/-- A channel object of area A (R389): A.1c0.ss and A.1c1.ss. -/
def chanObj (c grp sub : Nat) : Nat := 0xA10000 + 0x1000 * c + 0x100 * grp + sub

/-- A class-N parameter as the PWR and AON islands hold it (R388): the AON copy, which shows the default after a loss of VAON, and what it held before a
reset of the core die, until the next bring-up. -/
def State.pwrParam (s : State) (o : Nat) : Nat := (mfind s.power.copy o).getD (if s.power.copyLost then objDefault o else s.rd o)

/-- An AON copy of the object is held: the class-N objects of the power chapter (R388), the brace recovery time (R425) and the port enables (R411). -/
def copiedObj (o : Nat) : Bool := (o / 2 ^ 20 = 0xA && objPersist o = .n) || o = 0x103001 || o &&& 0xFF0FFF = 0x200005

/-- The AON copy as a reset of the core die finds it (R388): the objects return to what the flash holds, the copy does not. -/
def State.copyKept (s : State) : NMap Nat :=
  ((s.objs.map Prod.fst ++ s.flash.map Prod.fst).filter copiedObj).foldl (fun m o => minsert m o (s.pwrParam o)) s.power.copy

/-- The Keeper accepts a write of a copied object (R388): the AON copy takes the value with it. -/
def State.copyWritten (s : State) (o v : Nat) : State :=
  if copiedObj o && (s.power.copyLost || !s.power.copy.isEmpty) then { s with power := { s.power with copy := minsert s.power.copy o v } } else s

/-- A start is requested of a power channel (R372 condition 1): its auto-start is 1, which it always is for the inlet (R389), or its last channel
command was on. -/
def State.startWanted (s : State) (c : Nat) : Bool := c = 8 || s.pwrParam (chanObj c 0 7) = 1 || mfind s.power.cmd c = some true

/-- The rails of R367 whose warning starts brace: VDDC, VDDS, VDDH, VAON and VHS. -/
def braceRails : Nat := 2 ^ 0x10 + 2 ^ 0x11 + 2 ^ 0x12 + 2 ^ 0x13 + 2 ^ 0x15

/-- The core-rail supervisors, indices 0x10 to 0x12, start no brace and write no record from the point of no return to the end of the next CPR (R397). -/
def State.coreRailsQuiet (s : State) : Bool := s.mode = .doze

/-- The rails that hold the hub in brace, below their warning level: those that start brace, and any rail that warned while brace recovered (R421). -/
def State.braceWarn (s : State) : Nat :=
  s.power.warn &&& ((if s.coreRailsQuiet then 2 ^ 0x13 + 2 ^ 0x15 else braceRails) ||| s.power.again)

/-- The brace state of 1.030.00 (R420, R421): 1 while a rail that holds the hub in brace is below its warning, 2 while brace recovers. -/
def State.braceState (s : State) : Nat :=
  if s.power.brace.isSome then (if s.braceWarn != 0 then 1 else 2) else 0

/-- The hub is in brace (R420). -/
def State.inBrace (s : State) : Bool := s.power.brace.isSome

/-- The run state that a channel keeps: a code of R374, with 0 for both off and waiting. -/
def State.chanRun (s : State) (c : Nat) : Nat := s.rd (chanObj c 1 0)

/-- The channel state of R374. -/
def State.chanState (s : State) (c : Nat) : Nat := if s.chanRun c = 0 && s.startWanted c then 1 else s.chanRun c

/-- The gate of a channel is on: starting or on (R374). -/
def State.gateOn (s : State) (c : Nat) : Bool := s.chanRun c = 2 || s.chanRun c = 3 || s.chanRun c = 4

/-- The power-good state of A.001.02 (R379, R389): PG is high when every masked channel asserts power-good, PG_WARN while a masked channel's
fault timer counts. -/
def State.pgState (s : State) : Nat :=
  let mask := s.pwrParam 0xA00100
  let inMask (f : Nat → Bool) : List Nat := (List.range 9).filter (fun c => mask.testBit c && f c)
  s.power.pg + b2n (inMask (fun c => s.chanRun c = 4) != []) * 2 ^ 14 + b2n (inMask (fun c => !(s.power.pg.testBit c)) == []) * 2 ^ 15

/-- The item tag of R387. -/
def powerTag (source code retry state : Nat) : Nat := source * 2 ^ 24 + code * 2 ^ 16 + min retry 255 * 2 ^ 8 + state

/-- A channel fault is journalled (R387). -/
def State.chanJournal (s : State) (c code : Nat) : State :=
  s.raise .pwr 0x00 0x70 (powerTag c code (s.rd (chanObj c 1 2)) (s.chanState c))

/-- Fault codes that enter the retry policy (R381). -/
def countingFault (code : Nat) : Bool := 0x01 ≤ code && code ≤ 0x05

/-- What the retry policy makes of a counting fault (R382): latched off, or waiting for a retry. -/
def State.retryState (s : State) (c : Nat) : Nat :=
  match s.pwrParam (chanObj c 0 0xA) with
  | 0 => 6
  | 1 => if s.pwrParam (chanObj c 0 0xB) < s.rd (chanObj c 1 2) then 6 else 5
  | _ => 5

/-- A channel's gate turns off with a fault code (R379, R381, R382): power-good is withdrawn, the fault recorded, and a counting fault enters the
retry policy. The caller journals it. -/
def State.gateOff (s : State) (c code : Nat) : State :=
  let s1 := ({ s with power := { s.power with pg := setBit s.power.pg c false } }).wr (chanObj c 1 1) code
  if countingFault code then
    let s2 := (s1.inc (chanObj c 1 2)).inc (chanObj c 1 8)
    let delay := s.pwrParam (chanObj c 0 0xC)
    ({ s2 with power := { s2.power with retry := setBit s2.power.retry c true, retryMs := minsert s2.power.retryMs c delay } }).wr (chanObj c 1 0)
      (s2.retryState c)
  else s1.wr (chanObj c 1 0) 0

/-- A channel that is on turns off with a fault code, and it is journalled once (R381, R387). -/
def State.chanOff (s : State) (c code : Nat) : State := if s.gateOn c then (s.gateOff c code).chanJournal c code else s

/-- Every e-fuse that is on turns off: the inlet's power-good is withdrawn (R381: 0x0A). -/
def State.fusesOff (s : State) : State := (List.range 8).foldl (fun s c => s.chanOff c 0x0A) s

/-- Every gate turns off as seating is lost (R376), each channel's fault journalled (R387), and the event is counted. -/
def State.unseat (s : State) : State :=
  let s1 := (List.range 9).foldl (fun s c => s.chanOff c 0x09) s
  ({ s1 with power := { s1.power with seated := false } }).inc 0xA00105

/-- On entering Doze the e-fuses whose Doze action is 0 turn off (R381: 0x0C). -/
def State.dozeOff (s : State) : State :=
  (List.range 8).foldl (fun s c => if s.pwrParam (chanObj c 0 9) = 0 then s.chanOff c 0x0C else s) s

end Sys2Proof.Machine
end

