-- ==== Sys2Proof/Machine/Ring.lean ====
section
/-!
DEFINITION. Ring topology (R87, R98, R118, R130, R138) and WRAP blocks (R131, R132).
-/
namespace Sys2Proof.Machine

/-- The wrap state of 2.080.00 (R155). -/
def State.wrapState (s : State) : Nat :=
  match (s.port .e).wrapped, (s.port .w).wrapped with
  | true, true => 3
  | true, false => 1
  | false, true => 2
  | false, false => if s.farEnd then 4 else 0

/-- Sends a WRAP block on a port, without a token (R132, R179). -/
def State.sendWrap (s : State) (p : Port) (subtype : Nat) (b : WrapBlock) : State := s.wrapOut (portNum p) subtype b

/-- A REPORT leaves on every other ring transmit port in use (R132), the pair link apart (R144). -/
def State.reportOn (s : State) (p : Port) (b : WrapBlock) : State :=
  ([Port.e, .w, .s0, .s1].filter (fun q => q != p && s.ringUsable q)).foldl (fun s q => s.sendWrap q 2 b) s

/-- The hub knows of a break (R132, R136): its own, or one of a REPORT that it holds. A port that it has isolated is none. -/
def State.breakKnown (s : State) : Bool :=
  !(s.ring.reports.isEmpty) || [Port.e, .w, .s0, .s1].any (fun p => (s.port p).broken && !(s.partIsolated (0x10 + portNum p)))

/-- The span after a place of the main ring is broken, as far as this hub knows (R132, R136). -/
def State.spanBroken (s : State) (place : Nat) : Bool :=
  s.mainBreaks.any (fun r =>
    (Config.ringPlace r.node).toNat = place && r.port == .e ||
      ((Config.ringPlace r.node).toNat + Config.ringLast.toNat) % (Config.ringLast.toNat + 1) = place && r.port == .w)

/-- The route of an extracted segment crosses a broken span (R136), which the hub that ends the segment there accounts for: from its originator, as many spans back as it
made hops when it last arrived and one more. Where both spans of the originator are broken, the hub that would have sent it may be gone, and the segment with it: its records
are missing as such (R153). A segment never seen, or one of a sub-ring, crosses any break that is known. -/
def State.routeBroken (s : State) (e : LayoutRec) : Bool :=
  match mfind s.ring.origins (4096 * e.port + e.seg) with
  | some h =>
    let len := Config.ringLast.toNat + 1
    let own := (Config.ringPlace s.node).toNat
    let span (k : Nat) : Nat := if e.port = 1 then (own + (k + 1) * len - (k + 1)) % len else (own + k) % len
    (List.range (h + 1)).any (fun k => s.spanBroken (span k)) && !(s.spanBroken (span h) && s.spanBroken (span (h + 1)))
  | none => s.breakKnown

/-- The last eight REPORTs, newest first (R132). -/
def keepReports (l : List WrapBlock) (b : WrapBlock) : List WrapBlock := (b :: l).take 8

/-- A port E and a port W are the two ends of one main-ring span: the place after the one is the place of the other. -/
def sameSpan (n : Nat) (p : Port) (n' : Nat) (p' : Port) : Bool :=
  let follows (a b : Nat) : Bool :=
    Config.ringPlace b = (if Config.ringPlace a = Config.ringLast then 0 else Config.ringPlace a + 1)
  match p, p' with
  | .e, .w => follows n n'
  | .w, .e => follows n' n
  | q, q' => n = n' && q = q'

/-- The cycle that a tag names, at or before this one (R103, R131, R176). -/
def State.pastCycle (s : State) (tag : Nat) : Nat := s.cycle - (s.cycle % 256 + 256 - tag) % 256

/-- A broken cycle begins with the first notice of a break: one for the other end of a span whose
break is known, in that cycle or the one before, names none (R135). -/
def State.noteBroken (s : State) (known : List WrapBlock) (n : Nat) (p : Port) (tag : Nat) : State :=
  if known.any (fun r => sameSpan r.node r.port n p && (r.node = s.node || decide ((tag + 256 - r.tag) % 256 ≤ 1))) then s else
  { s with ring := { s.ring with brokenCyc := some (s.ring.brokenCyc.getD (s.pastCycle tag)) } }

/-- The item tag of a segment's journal record (R103). -/
def segTag (num tag : Nat) : Nat := num * 2 ^ 20 + tag % 256 * 2 ^ 12

/-- A segment is ended at a wrap or lost at a break (R130, R134, R136): journalled once per segment and cycle. -/
def State.endSegment (s : State) (p : Port) (num tag : Nat) : State :=
  if s.ring.ended.contains (num, tag) then s
  else ({ s with ring := { s.ring with ended := (num, tag) :: s.ring.ended } }).raise (.ring p) 0x01 0x08 (segTag num tag)

/-- An acyclic frame is lost at a break (R134, R175, R185): journalled, and reported to its source unless it is itself a report. -/
def State.loseFrame (s : State) (p : Port) (f : Frame) (egress : Nat) : State :=
  let s1 := if isJournalFwd f then s else s.raise (.ring p) 0x02 0x08 (switchTag f egress)
  if f.type = 0x9 then s1 else s1.sendReport (s1.failureReport f 0x1)

/-- What a break cut off while it was received (R134). -/
def State.cutItem (s : State) (p : Port) (c : Option Cut) : State :=
  match c with
  | some (.frame f) => s.loseFrame p f 0
  | some (.segment num tag) => s.endSegment p num tag
  | none => s

/-- What was sent on a span in the last 2 µs plus twice the cable delay (R134), in ns. -/
def State.lossWindow (s : State) (p : Port) : Nat := 2000 + ceilDiv (2 * s.rd (portObj p 0 3)) 1000

/-- A frame whose FRM_END left so lately, or has not left yet, is within the window of R134. -/
def State.sentLately (s : State) (p : Port) (e : SentFrame) : Bool := decide (100 * s.nowNs ≤ e.at_ + 100 * s.lossWindow p)

/-- Frames, segments and express events sent on a span shortly before its break (R134). -/
def State.flushSpan (s : State) (p : Port) : State :=
  let x := s.port p
  let n := (x.sentX.filter (fun t => decide (s.nowNs ≤ t + s.lossWindow p))).length
  let s1 := s.setPort p { x with sent := [], sentX := [], sentSegs := [] }
  let s2 := (x.sent.filter (s.sentLately p)).foldl (fun t e => t.loseFrame p e.frame (portNum p)) s1
  let s3 := (x.sentSegs.filter (fun e => decide (s.nowNs ≤ e.at_ + s.lossWindow p))).foldl (fun t e => t.endSegment p e.num e.tag) s2
  if n = 0 then s3 else s3.raise (.ring p) 0x07 0x08 (n % 65536)

/-- Frames queued for a lost port that nothing takes over from are discarded (R136 to R138, R185): nothing reaches their destinations. Where another port takes over,
the link-local ones are, whose neighbour is behind the break. -/
def State.flushQueue (s : State) (p : Port) : State :=
  if (s.port p).broken && !(s.partIsolated (0x10 + portNum p)) then
    let all := (s.txPort p).isNone
    (List.range 8).foldl (fun s c =>
      ((s.queueCopies (queueOf (portNum p) c)).filter (fun x => all || x.frame.dst = 0)).foldl (fun s x => s.discardCopy x 0x1 0x08) s) s
  else s

/-- The queues of every lost port are flushed: a port that had taken over from another may be the one now lost (R137). -/
def State.flushQueues (s : State) : State := [Port.e, .w, .s0, .s1].foldl State.flushQueue s

/-- A port goes to DOWN and starts training again after 100 ms (R124). -/
def State.portDown (s : State) (p : Port) (wait : Bool) : State :=
  let x := s.port p
  (s.setPort p { x with
    lock0 := false, lock1 := false, helloIn := false, ackIn := false, meas := [], measReqs := 0, measN := 0, measSum := 0
    measDone := false, path := none, waiting := wait }).setPortState p 0

/-- A break is declared on a receive port (R129 to R138): reported in 2.080.xx, the port goes DOWN, the hub wraps on E or W, and NOTICE and
REPORT are sent, REPORT alone with hops; what was on the span is reported. `tag` names the broken cycle (R135). The transmitter of an isolated port has
stopped and sends no NOTICE, and its records are missing, not late (R41, R447). -/
def State.declareBreak (s : State) (p : Port) (reason tag : Nat) : State :=
  let isolated := s.partIsolated (0x10 + portNum p)
  let x := s.port p
  if x.broken && !x.inUse then s
  else
    let main := p == .e || p == .w
    let s1 := { s with ring := { s.ring with brkSeq := (s.ring.brkSeq + 1) % 256 } }
    let b : WrapBlock := ⟨s.node, p, s.cycle % 256, reason, s.cell 0x204000, s1.ring.brkSeq⟩
    let s2 := s1.portDown p true
    let s3 := s2.setPort p { s2.port p with
      broken := true
      brkReason := reason
      brkTag := b.tag
      brkSeq := b.seq
      wrapped := main
      inUse := false
      unwrapAt := none
      unwrapTag := none }
    let sB := (s3.wr 0x208001 s.node).wr 0x208002 s.cycle
    let s4 := if isolated then sB else sB.noteBroken s.mainBreaks s.node p tag
    let s5 := if main then s4.inc 0x208003 else s4
    let s6 := if isolated then s5 else (List.range 16).foldl (fun (t : State) _ => t.sendWrap p 1 { b with hops := 0 }) s5
    let s7 := ((s6.reportOn p b).flushSpan p).flushQueues
    s7.fenceChanges s allNodes

/-- The WRAP block of the break that a port has declared (R131). -/
def State.breakBlock (s : State) (p : Port) : WrapBlock :=
  ⟨s.node, p, (s.port p).brkTag, (s.port p).brkReason, 0, (s.port p).brkSeq⟩

/-- NOTICE is repeated while a port stays broken (R132): until it is UP again. -/
def State.noticeRepeat (s : State) (p : Port) : State :=
  if (s.port p).broken && s.portState p != 6 && s.portState p != 7 && !(s.partIsolated (0x10 + portNum p)) then s.sendWrap p 1 (s.breakBlock p) else s

/-- A REPORT is received on a port (R132, R135, R138): kept, forwarded once with one hop fewer, and the routes it changes are fenced. DESIGN CHOICE: a REPORT has
no event number and so no express-map entry that could govern its copy between the main ring and a sub-ring; it is copied both ways. -/
def State.reportReceived (s : State) (p : Port) (b : WrapBlock) : State :=
  let key := (b.node, portNum b.port, b.seq)
  if s.ring.forwarded.contains key || b.node = s.node then s
  else
    let s1 := { s with ring := { s.ring with
      reports := keepReports s.ring.reports b
      forwarded := (key :: s.ring.forwarded).take 64 } }
    let s2 := ((s1.wr 0x208001 b.node).wr 0x208002 (s.pastCycle b.tag)).noteBroken s.mainBreaks b.node b.port b.tag
    let out := match s.onward p with
      | some q => if q == p && !(s.chainNode) then [] else [q]
      | none => []
    let extra := if p == .e || p == .w then [Port.s0, .s1].filter (fun q => s.ringUsable q && !(s.chainNode))
      else if s.chainNode then [] else [Port.e, .w]
    let s3 := if 1 < b.hops then
        (((out ++ extra).filterMap s2.txPort).eraseDups).foldl (fun s q => s.sendWrap q 2 { b with hops := b.hops - 1 }) s2
      else s2
    s3.fenceChanges s allNodes

/-- An UNWRAP_REQ leaves on a port that came up again (R139): with the tag of the cycle two after this one. -/
def State.askUnwrap (s : State) (p : Port) : State :=
  let x := s.port p
  if x.wrapped && (s.portState p = 6 || s.portState p = 7) then
    let c := s.cycle + 2
    (s.setPort p { x with unwrapTag := some (c % 256, s.time.beats), unwrapAt := none }).sendWrap p 3 { s.breakBlock p with tag := c % 256 }
  else s

/-- The cycle that a tag names, at or after this one (R139). -/
def State.cycleOfTag (s : State) (tag : Nat) : Nat := s.cycle + (tag + 256 - s.cycle % 256) % 256

/-- An UNWRAP_REQ is received (R139): answered with UNWRAP_ACK once this hub's port is UP, and both end the wrap at the cycle named. -/
def State.unwrapReq (s : State) (p : Port) (b : WrapBlock) : State :=
  if s.portUsable p then
    let s1 := s.sendWrap p 4 { s.breakBlock p with tag := b.tag, reason := b.reason }
    s1.setPort p { s1.port p with unwrapAt := some (s.cycleOfTag b.tag), unwrapTag := none }
  else s

/-- An UNWRAP_ACK is received (R139). -/
def State.unwrapAck (s : State) (p : Port) (b : WrapBlock) : State :=
  let x := s.port p
  match x.unwrapTag with
  | some (tag, _) => if tag = b.tag then s.setPort p { x with unwrapAt := some (s.cycleOfTag tag), unwrapTag := none } else s
  | none => s

/-- A write of 1 to 2.080.04 asks again for the unwrap of every wrapped port that is UP (R139, R155). -/
def State.retryUnwrap (s : State) : State := [Port.e, .w].foldl (fun s p => s.askUnwrap p) s

/-- At a cycle boundary (R139): wraps whose cycle this is end, and with them the REPORTs of the healed span. -/
def State.unwrapAtBoundary (s : State) : State :=
  [Port.e, .w, .s0, .s1].foldl (fun s p =>
    let x := s.port p
    match x.unwrapAt with
    | some c =>
      if c ≤ s.cycle then
        let s1 := s.setPort p { x with unwrapAt := none, wrapped := false, broken := false, brkReason := 0 }
        let s2 := { s1 with ring := { s1.ring with reports := s1.ring.reports.filter (fun r => !(sameSpan r.node r.port s.node p)) } }
        s2.fenceChanges s allNodes
      else s
    | none => s) s

/-- At the start of a beat (R139): an UNWRAP_REQ not answered within one cycle is sent again, with a new tag. -/
def State.unwrapRetries (s : State) : State :=
  [Port.e, .w].foldl (fun s p =>
    match (s.port p).unwrapTag with
    | some (_, sent) => if sent + s.cycleLen ≤ s.time.beats then s.askUnwrap p else s
    | none => s) s

end Sys2Proof.Machine
end

