-- ==== Sys2Proof/Machine/Training.lean ====
section
/-!
DEFINITION. Link training and cable measurement (R92, R94, R124 to R128).
-/
namespace Sys2Proof.Machine

/-- The port exists for training (R10, R411, R447): the core die's islands are released and its ring island is not isolated. -/
def State.portLive (s : State) (p : Port) : Bool := s.ticking && !(s.isolated (.ring p))

/-- Signal is detected on both lanes of an enabled port that is DOWN and does not wait (R124): an attempt begins. -/
def State.signalDetected (s : State) (p : Port) : State :=
  if s.portLive p && s.portState p = 0 && s.rd (portObj p 0 5) = 1 && !(s.port p).waiting then
    (s.setPortState p 1).incSat (portObj p 0 7)
  else s

/-- Clock data recovery locks on both lanes (R124). -/
def State.cdrLocked (s : State) (p : Port) : State :=
  if s.portLive p && s.portState p = 1 then s.setPortState p 2 else s

/-- A lane gains block lock (R92); with both the port leaves LOCK (R124). -/
def State.lockGained (s : State) (p : Port) (lane : Nat) : State :=
  if s.portLive p && s.portState p = 2 then
    let x := s.port p
    let y := if lane = 0 then { x with lock0 := true } else { x with lock1 := true }
    let s1 := s.setPort p y
    if y.lock0 && y.lock1 then s1.setPortState p 3 else s1
  else s

/-- A lane loses block lock (R92, R124, R128): counted; in LOCK or in use a ring break, in the later training states a failure. -/
def State.lockLost (s : State) (p : Port) (cut : Option Cut) : State :=
  let st := s.portState p
  if s.portLive p && 2 ≤ st && st ≤ 7 then
    let s1 := s.incSat (portObj p 1 2)
    if (s.port p).inUse then (s1.cutItem p cut).declareBreak p 1 (s.cycle % 256)
    else if st = 2 then (s1.portDown p true).declareBreak p 1 (s.cycle % 256)
    else s1.portDown p true
  else s

/-- A training state times out (R124): the port returns to DOWN; in LOCK this is reported as a ring break. -/
def State.trainingTimeout (s : State) (p : Port) : State :=
  let st := s.portState p
  if s.portLive p && 1 ≤ st && st ≤ 5 then (if st = 2 then (s.portDown p true).declareBreak p 1 (s.cycle % 256) else s.portDown p true) else s

/-- 100 ms after a timeout or failure the port may start again (R124). -/
def State.trainingRestart (s : State) (p : Port) : State :=
  if s.portLive p && s.portState p = 0 then s.setPort p { s.port p with waiting := false } else s

/-- A write of 1 to 2.0p0.06 (R124): the port goes DOWN and trains again; a port in use is a link that the hub itself takes down. DESIGN CHOICE: the table lists the
command for SERVICE and REFUSED; in any other state it takes the port DOWN too, and a port that waits in DOWN waits no longer. -/
def State.retrain (s : State) (p : Port) : State := s.portDown p false

/-- A port is disabled by a write of 0 to 2.0p0.05 (R128, R131): one in use declares a break of reason 4, any other goes DOWN. -/
def State.portDisable (s : State) (p : Port) : State := if (s.port p).inUse then s.declareBreak p 4 (s.cycle % 256) else s.portDown p false

/-- A write of 1 to 2.0p1.0C (R128): the counts other than those of the current window restart at zero, the two of area 2.070 with them. -/
def State.clearPort (s : State) (p : Port) : State :=
  [2, 3, 4, 5, 6, 7, 8, 9, 0xA, 0xB].foldl (fun s k => s.wr (portObj p 1 k) 0) (((s.wr (portObj p 0 7) 0).wr 0x207001 0).wr 0x207002 0)

/-- An ALIGN pair arrives with a lane skew in picoseconds (R94): the skew is measured in DESKEW, and checked later. -/
def State.alignReceived (s : State) (p : Port) (skew : Nat) : State :=
  let st := s.portState p
  let x := s.port p
  if s.portLive p then
    if st = 3 then
      if skew ≤ 10240 then ((s.setPort p { x with skewBase := skew }).wr (portObj p 0 4) skew).setPortState p 4
      else s.setPortState p 8
    else if 4 ≤ st && st ≤ 7 then
      if x.skewBase + 1280 < skew || skew + 1280 < x.skewBase then
        let s1 := (s.setPort p { x with skewBase := skew })
        ((if skew ≤ 10240 then s1.wr (portObj p 0 4) skew else s1).countErrored p 0).countErrored p 1
      else s
    else s
  else s

/-- What this hub says in HELLO and HELLO_ACK (R125): version 0x10. -/
def State.ownHello (s : State) (p : Port) : Hello := ⟨s.node, p, 1, 0⟩

/-- In HELLO a hub sends HELLO (R125). -/
def State.helloSend (s : State) (p : Port) : State :=
  if s.portLive p && s.portState p = 4 then s.emit (.hello p false (s.ownHello p)) else s

/-- Two ports are compatible (R125): equal major versions, different nodes. -/
def State.compatible (s : State) (h : Hello) : Bool := h.major == 1 && h.node != s.node

/-- The port leaves HELLO once a HELLO and a HELLO_ACK have both arrived (R124). -/
def State.helloDone (s : State) (p : Port) : State :=
  let x := s.port p
  if x.helloIn && x.ackIn then
    (s.setPort p { x with meas := [], measReqs := 0, measN := 0, measSum := 0, measDone := false, path := none }).setPortState p 5
  else s

/-- The neighbour's values are recorded (R128: 2.0p0.01, 2.0p0.02). -/
def State.noteNeighbour (s : State) (p : Port) (h : Hello) : State :=
  (s.wr (portObj p 0 1) h.node).wr (portObj p 0 2) (portNum h.port)

/-- A HELLO is received (R124, R125): it is answered, and refused where it is not compatible. A hub that has gone on to MEASURE still answers, so
that its neighbour can follow. -/
def State.helloIn (s : State) (p : Port) (h : Hello) : State :=
  let st := s.portState p
  if s.portLive p && (st = 4 || st = 5) then
    let s1 := s.emit (.hello p true (s.ownHello p))
    if st = 5 then s1
    else
      let s2 := s1.noteNeighbour p h
      if s.compatible h then (s2.setPort p { s2.port p with helloIn := true }).helloDone p else s2.setPortState p 8
  else s

/-- A HELLO_ACK is received in HELLO (R124, R125). -/
def State.helloAck (s : State) (p : Port) (h : Hello) : State :=
  if s.portLive p && s.portState p = 4 then
    let s1 := s.noteNeighbour p h
    if s.compatible h then (s1.setPort p { s1.port p with ackIn := true }).helloDone p else s1.setPortState p 8
  else s

/-- A MEASURE_REQ leaves its ball at `t1` picoseconds (R126): one of 1,024. -/
def State.measureExchange (s : State) (p : Port) (t1 : Nat) : State :=
  let x := s.port p
  if s.portLive p && s.portState p = 5 && x.measReqs < 1024 && !x.measDone then
    (s.setPort p { x with
      meas := x.meas.filter (fun e => e.1 != x.nextSeq) ++ [(x.nextSeq, t1)]
      measReqs := x.measReqs + 1
      nextSeq := (x.nextSeq + 1) % 256 }).emit (.measureReq p x.nextSeq)
  else s

/-- A MEASURE_REQ is answered with the turnaround in picoseconds (R125). -/
def State.measureReq (s : State) (p : Port) (seq turnaround : Nat) : State :=
  if s.portLive p && 4 ≤ s.portState p && s.portState p ≤ 7 then s.emit (.measureRep p (seq % 256) turnaround) else s

/-- PATH leaves with this hub's offsets (R125, R293). -/
def State.sendPath (s : State) (p : Port) : State :=
  s.emit
    (.path p (Config.pathTx (portNum p)).toNat (Config.pathRx (portNum p)).toNat)

/-- The direction term of a port in picoseconds (R293): the path part and half of the declared fibre difference. -/
def State.directionTerm (s : State) (p : Port) : Int :=
  let etx := (Config.pathTx (portNum p)).toInt
  let erx := (Config.pathRx (portNum p)).toInt
  let (ntx, nrx) := (s.port p).path.getD (0, 0)
  (((ntx + erx) - (etx + nrx)) + toSigned 32 (s.rd (0x803001 + 0x100 * portNum p))) / 2

/-- The calibrated delay of the span into a port is made up again (R293): the mean delay less ε plus δ. -/
def State.calibrate (s : State) (p : Port) : State :=
  let o := 0x803000 + 0x100 * portNum p
  let d := s.directionTerm p
  let eps := toSigned 32 (s.rd (o + 2))
  (s.wr (o + 3) (ofSigned 32 d)).wr o (((s.rd (portObj p 0 3) : Int) - eps + d).toNat % 2 ^ 32)

/-- The port comes UP (R124, R139): a broken main-ring port asks for its unwrap; a broken spur is whole again, and the REPORTs of its
link are forgotten. -/
def State.portUp (s : State) (p : Port) : State :=
  let x := s.port p
  let s1 := (s.setPort p { x with
    inUse := true
    waiting := false
    broken := x.broken && x.wrapped }).setPortState p 6
  let own := breakLink (s.breakBlock p)
  let s2 := if p = .s0 || p = .s1 then
      { s1 with ring := { s1.ring with reports := s1.ring.reports.filter (fun r => !((r.port = .s0 || r.port = .s1) && breakLink r == own)) } }
    else s1
  (s2.calibrate p).askUnwrap p

/-- The port leaves MEASURE once the delay is measured and the neighbour's PATH has arrived (R124). -/
def State.measureDone (s : State) (p : Port) : State :=
  if (s.port p).measDone && (s.port p).path.isSome then s.portUp p else s

/-- The 1,024 exchanges are complete (R126), each with twice its delay: a spread of the delays above 1,000 ps fails; otherwise their mean is reported and
PATH is sent. -/
def State.measureEnd (s : State) (p : Port) : State :=
  let x := s.port p
  if 2000 < x.measMax - x.measMin then s.portDown p true
  else
    let s1 := (s.setPort p { x with measDone := true }).wr (portObj p 0 3) ((x.measSum / 2048).toNat % 2 ^ 32)
    (s1.sendPath p).measureDone p

/-- A MEASURE_REP arrives at `t4` picoseconds with turnaround `r` (R126): one value 2 d = t4 - t1 - r. -/
def State.measureRep (s : State) (p : Port) (seq r t4 : Nat) : State :=
  let x := s.port p
  match x.meas.find? (fun e => e.1 == seq) with
  | some (_, t1) =>
    if s.portLive p && s.portState p = 5 && x.measN < 1024 then
      let d : Int := (t4 : Int) - t1 - r
      let y := { x with
        meas := x.meas.filter (fun e => e.1 != seq)
        measN := x.measN + 1
        measSum := x.measSum + d
        measMin := if x.measN = 0 then d else min x.measMin d
        measMax := if x.measN = 0 then d else max x.measMax d }
      let s1 := s.setPort p y
      if y.measN = 1024 then s1.measureEnd p else s1
    else s
  | none => s

/-- PATH is repeated until the neighbour's PATH has arrived (R125). -/
def State.pathRepeat (s : State) (p : Port) : State :=
  let x := s.port p
  if s.portLive p && s.portState p = 5 && x.measDone && x.path.isNone then s.sendPath p else s

/-- The neighbour's PATH arrives (R125, R293): its offsets are I16 in picoseconds. -/
def State.pathIn (s : State) (p : Port) (etx erx : Nat) : State :=
  if s.portLive p && s.portState p = 5 then
    (s.setPort p { s.port p with path := some (toSigned 16 etx, toSigned 16 erx) }).measureDone p
  else s

/-- No IDLE block for 256 ns on a port in use (R129): a break of reason 2. -/
def State.idleTimeout (s : State) (p : Port) (cut : Option Cut) : State :=
  if s.portLive p && (s.port p).inUse then (s.cutItem p cut).declareBreak p 2 (s.cycle % 256) else s

/-- A WRAP NOTICE arrives on a port in use (R129, R132): a break of reason 3, whose broken cycle the NOTICE names (R135). -/
def State.noticeIn (s : State) (p : Port) (b : WrapBlock) (cut : Option Cut) : State :=
  if s.portLive p && (s.port p).inUse then (s.cutItem p cut).declareBreak p 3 b.tag else s

/-- A block arrives on a lane of a port (R92): an errored one is counted, and discarded. -/
def State.blockArrives (s : State) (p : Port) (lane sync block : Nat) : State :=
  if s.portLive p && blockErrored sync block then s.countErrored p lane else s

end Sys2Proof.Machine
end

