-- ==== Sys2Proof/Machine/Train.lean ====
section
/-!
DEFINITION. The cyclic train (R101 to R107, R134 to R136, R176): segments originated, checked, extracted from, inserted into, forwarded, ended and
removed.
-/
namespace Sys2Proof.Machine

/-- The four state blocks' worth of bits (R102): the states of up to 32 words, first word in the top bits. -/
def stateBlock (l : List RecState) : List Byte := natBE 8 ((l.zipIdx.map (fun e => stateCode e.1 * 2 ^ (62 - 2 * e.2))).sum)

/-- All state blocks of a segment (R102). -/
def stateBlocks : Nat → List RecState → List Byte
  | 0, _ => []
  | n + 1, l => stateBlock (l.take 32) ++ stateBlocks n (l.drop 32)

/-- The bytes under the check of SEG_END (R101): SEG_START with its CRC-8, H1, states and payload as sent. -/
def segBytes (g : Segment) : List Byte :=
  let head := natBE 6 (segStartBits g)
  head ++ natBE 1 (crc8 head) ++ natBE 8 (g.endNode % 1024 * 2 ^ 54 + g.expected % 256 * 2 ^ 46) ++
    stateBlocks (ceilDiv g.plen 16) g.states ++ (g.words.take (2 * g.plen)).flatMap (fun w => natBE 4 w.toNat)

/-- The check of a segment (R101). -/
def segCheck (g : Segment) : Nat := crc32c (segBytes g)

/-- The bank under whose layout a segment is handled (R107): that of the cycle its tag names, for this and the previous cycle. -/
def State.layoutOf (s : State) (tag : Nat) : Option Bank :=
  if tag = s.cycle % 256 || tag = (s.cycle + 255) % 256 then some (s.bankOf (s.pastCycle tag)) else none

/-- The key of a word of a port's insertion buffer (R105). -/
def insKey (seg w : Nat) : Nat := 2048 * seg + w

/-- A word of a port's insertion buffer for this cycle, or with `old` for the one before it (R95): zero and missing where no COPY wrote it in that
cycle (R105). -/
def State.insWord (s : State) (p : Port) (old : Bool) (seg w : Nat) : InsWord :=
  mget {} (if old then (s.port p).insOld else (s.port p).insBuf) (insKey seg w)

/-- A COPY fills words of an insertion buffer from a byte offset of the segment (R57, R105). -/
def State.fillInsert (s : State) (p : Port) (seg off : Nat) (ws : List (BitVec 32 × RecState)) : State :=
  let x := s.port p
  s.setPort p { x with insBuf := (ws.zipIdx).foldl (fun m e => mset {} m (insKey seg (off / 4 + e.2)) ⟨e.1.1, e.1.2⟩) x.insBuf }

/-- The insertion buffers are empty at the start of a cycle (R105); what the ended cycle put in them serves a region that runs past its end (R95). -/
def State.clearInserts (s : State) : State :=
  [Port.e, .w, .s0, .s1].foldl (fun s p => s.setPort p { s.port p with insOld := (s.port p).insBuf, insBuf := [] }) s

/-- A segment leaves through a transmit port of a ring (R98, R130, R144): ended where the hub is wrapped on it, or the port is broken. -/
def State.sendSegment (s : State) (p : Port) (g : Segment) : State :=
  let x := s.port p
  if !(s.ringPort p) then s
  else if x.wrapped || (x.broken && !(s.portUsable p)) then s.endSegment p g.num g.tag
  else if s.portUsable p then
    (s.setPort p { x with sentSegs := ⟨g.num, g.tag, s.nowNs⟩ :: x.sentSegs.filter (fun e => decide (s.nowNs ≤ e.at_ + s.lossWindow p)) }).emit (.segment p g)
  else s

/-- The originator named in segments of this hub (R140): the service number of a pair, the node number otherwise. -/
def State.originName (s : State) : Nat := if s.inPair then s.rd 0x208100 else s.node

/-- Originates the segment of a layout entry at its departure beat (R105), for this cycle, or with `old` for the one before it (R95). -/
def State.originate (s : State) (old : Bool) (e : LayoutRec) : State :=
  let p := portOf e.port
  let ws := (List.range (2 * e.p)).map (s.insWord p old e.seg)
  let g : Segment := {
    num := e.seg, tag := (s.cycle + 256 - b2n old) % 256, origin := s.originName, plen := e.p, endNode := e.endNode, expected := e.expected
    states := ws.map (·.state), words := ws.map (·.word), check := 0, hops := 0, consumed := 0 }
  s.sendSegment p { g with check := segCheck g }

/-- A departure beat lies before the marker beat of its port (R95): it belongs to a region that began in the cycle before. -/
def runsPast (b : Bank) (e : LayoutRec) : Bool :=
  match bankRegions b e.port with
  | some r => decide (e.depart < r.m)
  | none => false

/-- The originate entries of a bank whose departure beat this is, from ports whose island is not isolated; `past` picks those of a region that began in
the cycle before (R95). -/
def State.departures (s : State) (b : Bank) (past : Bool) (beat : Nat) : List LayoutRec :=
  (bankLayoutList b).filter (fun e => e.kind = 2 && e.depart = beat && !(s.partIsolated (0x10 + e.port)) && runsPast b e == past)

/-- The segments whose departure beat this is leave (R95, R105, R408): while records are produced, from a hub that speaks for its service. Those of a
region that runs past the end of its cycle belong to that cycle. -/
def State.originateAt (s : State) (beat : Nat) : State :=
  if s.speaksService then
    let s1 := if s.seq.prevRun && decide (0 < s.cycle) then
        (s.departures (s.bankOf (s.cycle - 1)) true beat).foldl (fun s e => s.originate true e) s
      else s
    if s.judging then (s.departures s.activeBank false beat).foldl (fun s e => s.originate false e) s1 else s1
  else s

/-- The words of a segment an entry declares, as image bytes (R89, R104). -/
def segWordBytes (g : Segment) (off n : Nat) : List Byte := (List.range n).flatMap (fun k => natLE 4 (g.words.getD (off / 4 + k) 0).toNat)

/-- The state with which a record takes words of a segment (R36): the states of the record's own words in the entry, joined. -/
def segRecState (g : Segment) (e : LayoutRec) (r : RecDecl) : RecState :=
  joinStates (((List.range e.words).filter (fun k => decide (r.off ≤ e.imgOff + 4 * k) && decide (e.imgOff + 4 * k < r.off + 4 * r.words))).map
    (fun k => g.states.getD (e.off / 4 + k) .missing))

/-- The reason with which a ring island's extractions are withheld, if they are (R31). -/
def State.extractHeld (s : State) (p : Port) : Bool :=
  let c := 0x10 + portNum p
  s.withheldAt c || s.seq.heldMask.testBit c

/-- One extraction from a segment whose check passed (R104, R36). -/
def State.extractGood (s : State) (p : Port) (g : Segment) (e : LayoutRec) : State :=
  if s.extractHeld p then s.holdRange .input e.imgOff (4 * e.words) .late 0x04
  else
    let s1 := s.arriveBytes .input e.imgOff (segWordBytes g e.off e.words)
    (s.recordsIn .input e.imgOff (4 * e.words)).foldl (fun s i => match s.records[i]? with
      | some r => s.noteArrival i (segRecState g e r) 0
      | none => s) s1

/-- One extraction from a segment whose check failed (R103): nothing is committed, the records stay missing, and their departure is reported by
the record of the segment. -/
def State.extractBad (s : State) (e : LayoutRec) : State :=
  (s.recordsIn .input e.imgOff (4 * e.words)).foldl (fun s i => if (s.recLive i).arrived then s else s.depart i 0xFF) s

/-- One extraction from a segment of an earlier cycle under that cycle's bank (R34): discarded, and the records it declares counted late. -/
def State.extractOld (s : State) (b : Bank) (e : LayoutRec) : State :=
  s.addTo 0x408011 ((bankRecordList b).filter (fun r => r.overlaps .input e.imgOff (4 * e.words))).length

/-- The extract entries of a layout for a segment received on a port. -/
def extractEntries (b : Bank) (p : Port) (num : Nat) : List LayoutRec :=
  (bankLayoutList b).filter (fun e => e.kind = 3 && e.port = portNum p && e.seg = num)

/-- The insert entries of a layout for a segment forwarded on a port. -/
def insertEntries (b : Bank) (p : Port) (num : Nat) : List LayoutRec :=
  (bankLayoutList b).filter (fun e => e.kind = 4 && e.port = portNum p && e.seg = num)

/-- The extractions that a hub makes from a segment (R103, R104, R106, R107); a segment of an earlier cycle, however old, is a late arrival (R34). -/
def State.extractAll (s : State) (p : Port) (g : Segment) (st : CheckState) : State × Bool :=
  let b := s.bankOf (s.pastCycle g.tag)
  let es := extractEntries b p g.num
  if !(s.judging) then (s, false)
  else if g.tag = s.cycle % 256 then
    (es.foldl (fun s e => if st = .ok then s.extractGood p g e else s.extractBad e) s, es != [])
  else (es.foldl (fun s e => if st = .ok then s.extractOld b e else s) s, false)

/-- One insertion (R105), from the buffer of the cycle that the segment's tag names (R95). -/
def State.insertInto (s : State) (p : Port) (old : Bool) (e : LayoutRec) (g : Segment) : Segment :=
  (List.range e.words).foldl (fun g k =>
    let w := e.off / 4 + k
    let x := s.insWord p old e.seg w
    { g with words := listSet g.words w x.word, states := listSet g.states w x.state }) g

/-- The insertions that a hub makes into a segment it forwards on a port (R105, R107, R141). -/
def State.insertAll (s : State) (p : Port) (g : Segment) : Segment :=
  match s.layoutOf g.tag with
  | some b =>
    let old := g.tag != s.cycle % 256
    if (if old then s.seq.prevRun else s.judging) && s.speaksService then (insertEntries b p g.num).foldl (fun g e => s.insertInto p old e g) g else g
  | none => g

/-- What a failed or stomped segment check counts (R103, R92, R40); a valid segment with another cycle's tag fails condition 3 as well (R25). -/
def State.judgeSegment (s : State) (p : Port) (g : Segment) (st : CheckState) : State :=
  match st with
  | .ok => if s.monitoring && g.tag != s.cycle % 256 then ({ s with seq := { s.seq with segFail := true } }).latchFailure 5 else s
  | .stomped => s.incSat (portObj p 1 4)
  | .failed =>
    let s1 := ((s.incSat (portObj p 1 3)).countErrored p 0).countErrored p 1
    let s2 := if s1.monitoring then ({ s1 with seq := { s1.seq with segFail := true } }).latchFailure 5 else s1
    s2.raise (.ring p) 0x01 0x06 (segTag g.num g.tag)

/-- SEG_SHORT to the originator of a segment whose consumed count falls short at its end hub (R106, R176). -/
def State.sendSegShort (s : State) (g : Segment) : State :=
  s.sendControl g.origin (controlHead 0x0630 s.node (s.pastCycle g.tag) ++ natBE 2 (g.num % 4096) ++ natBE 1 (g.expected % 256) ++ natBE 1 (g.consumed % 256))

/-- The largest cyclic residence of an egress port, in ns (R128). -/
def State.noteResidence (s : State) (p : Port) (ns : Nat) : State :=
  if s.rd (portObj p 1 0xA) < ns then s.wr (portObj p 1 0xA) (min ns 65535) else s

/-- The segment that a hub sends on (R101, R103): one more hop, and the check made again, stomped unless the received one passed. -/
def forwardSegment (g : Segment) (st : CheckState) : Segment :=
  let g1 := { g with hops := (g.hops + 1) % 256 }
  { g1 with check := forwardCheck st (segCheck g1) }

/-- How far the originator of a segment is, for the judging of its records while a break is known (R136, R153). -/
def State.noteOrigin (s : State) (p : Port) (g : Segment) : State :=
  if p = .e || p = .w then { s with ring := { s.ring with origins := minsert s.ring.origins (4096 * portNum p + g.num) g.hops } } else s

/-- A cyclic segment passes (R103 to R107): received on port `p`, with a residence of `res` ns where it goes on. A pair link carries none (R144). -/
def State.segmentReceived (s : State) (p : Port) (g : Segment) (res : Nat) : State :=
  if s.ringUsable p then
    let st := judgeCheck g.check (segCheck g)
    let s1 := (s.noteOrigin p g).judgeSegment p g st
    let (s2, took) := s1.extractAll p g st
    let g1 := if took then { g with consumed := (g.consumed + 1) % 256 } else g
    if s2.isOwn g.origin then s2.incSat 0x207002
    else if s2.isOwn g.endNode then (if g1.consumed < g1.expected then s2.sendSegShort g1 else s2)
    else match s2.onward p with
      | some q => (s2.noteResidence q res).sendSegment q (forwardSegment (s2.insertAll q g1) st)
      | none => s2
  else s

end Sys2Proof.Machine
end

