-- ==== Sys2Proof/Machine/Time.lean ====
section
/-!
DEFINITION. Fabric time (R97 to R100, R287 to R305): the marker and its judging, the servo, the choice of master, loss and jumps, and closure
calibration. Times are in units of 2^-16 ns unless a name says otherwise.
-/
namespace Sys2Proof.Machine

/-- Picoseconds as units of 2^-16 ns. -/
def psUnits (ps : Int) : Int := ps * 65536 / 1000

/-- One nanosecond in units of 2^-16 ns. -/
def nsUnits : Int := 65536

/-- The bytes 1 to 7 of MARK and body bytes 0 to 31 (R97): what the marker's check covers. -/
def markerBytes (m : Marker) : List Byte :=
  let head := natBE 6 (markBits m)
  head ++ natBE 1 (crc8 head) ++ natBE 8 m.cycle ++ natBE 12 (time96Nat m.btime) ++ natBE 4 m.origin ++ natBE 8 (ofSigned 64 m.corr)

/-- The check of a marker (R97). -/
def markerCheck (m : Marker) : Nat := crc32c (markerBytes m)

/-- A candidate's rank: the place of a node in objects 8.001.00 to 8.001.03 (R299). -/
def State.rankOf (s : State) (n : Nat) : Option Nat := if n = 0 then none else (List.range 4).find? (fun r => s.rd (0x800100 + r) == n)

/-- The servo state of 8.010.00 (R292). -/
def State.servo (s : State) : Nat := s.rd 0x801000

/-- Moves the servo to a state (R292). -/
def State.setServo (s : State) (v : Nat) : State := s.wr 0x801000 v

/-- The consecutive cycles without an accepted marker (8.010.07). -/
def State.missing (s : State) : Nat := s.rd 0x801007

/-- The master-loss count L (8.011.03). -/
def State.lossCount (s : State) : Nat := s.cell 0x801103

/-- The spans a marker crosses from the master to a receive port (8.03p.04). -/
def State.spansTo (s : State) (p : Nat) : Nat := s.rd (0x803004 + 0x100 * p)

/-- The alignment bound A(h) of the time port in picoseconds (R297, R295): every span of the path is calibrated once the hub has completed a valid
closure window. -/
def State.boundPs (s : State) : Nat :=
  let p := s.rd 0x801003
  if 4 ≤ p then 0
  else 1475 + s.spansTo p * (if s.time.calib && decide (p < 2) then 50 else 145)

/-- The holdover error e(τ) = A(h) + u × τ (R301), exactly: in units of 2^-16 ns × 10^-9, since u is in parts per 10^9 of τ. -/
def State.holdoverExact (s : State) : Nat := s.boundPs * 65536 * 1000000 + s.cell 0x801102 * (s.time.now - s.time.lastMark)

/-- One picosecond in the unit of `holdoverExact`. -/
def exactPs : Nat := 65536 * 1000000

/-- The alignment bound that locking must meet, in picoseconds (R292, R43): the contract record's, 8 ns while no bank is active. -/
def State.boundLimitPs (s : State) : Nat := if s.hasBank then 1000 * leField s.activeBank.contract 0x02C 2 else 8000

/-- Writes the rate adjustment of 8.010.02, parts per 10^12. -/
def State.setRate (s : State) (r : Int) : State := s.wr 0x801002 (ofSigned 32 r)

/-- The rate adjustment after the servo acts: the spec gives its limits and not its value. It lies within ±200 ppm (R289), and while the hub is not locked
within 100 ppm of its last locked rate (R292). The rate of a locked hub is its locked rate. -/
def State.servoRate (s : State) : State :=
  if s.servo = 2 then
    let r : Int := (s.freeNat 32 % 400000001 : Nat) - 200000000
    ({ s with time := { s.time with lockRate := r } }).setRate r |>.tookFree
  else
    let low := max (-200000000) (s.time.lockRate - 100000000)
    let high := min 200000000 (s.time.lockRate + 100000000)
    (s.setRate (low + (s.freeNat 32 % ((high - low).toNat + 1) : Nat))).tookFree

/-- The hub runs on at its last locked rate (R301, R303). -/
def State.keepRate (s : State) : State := s.setRate s.time.lockRate

/-- The hub locks where its alignment bound allows, at the rate it has; otherwise it stays acquiring, with the markers it has counted (R292). -/
def State.lock (s : State) : State :=
  if s.boundPs ≤ s.boundLimitPs then
    ({ s with time := { s.time with good := 0, bad := 0, stepped := false, lockRate := toSigned 32 (s.rd 0x801002) } }).setServo 2
  else s.setServo 1

/-- The servo begins to acquire (R292). -/
def State.acquire (s : State) : State := ({ s with time := { s.time with good := 0, bad := 0 } }).setServo 1

/-- The hub is locked only while its alignment bound does not exceed the one in force (R292): judged at each boundary, after the bank switch. -/
def State.boundAtBoundary (s : State) : State := if s.servo = 2 && decide (s.boundLimitPs < s.boundPs) then s.acquire else s

/-- A jump is refused (R303) at a fabric time; the tag of its record is that of R457, which names no record of a segment. -/
def State.refuseJump (s : State) (at_ : Nat) : State := (((s.inc 0x801009).raiseAt at_ .seq 0x01 0x0E (256 + s.cycle % 256)).keepRate).setServo 4

/-- The jump threshold J (8.011.01), in units. -/
def State.jumpLimit (s : State) : Int := s.cell 0x801101 * nsUnits

/-- The servo acts on an accepted marker (R291, R292, R302, R303), at a fabric time. -/
def State.servoAct (s : State) (at_ : Nat) (k : MarkerSeen) : State :=
  let a := k.off.natAbs
  let s0 := { s with time := { s.time with acted := true } }
  let jump := s.jumpLimit ≤ (a : Int)
  if s.servo = 5 then s0
  else if s.servo = 0 then { s0 with time := { s0.time with step := some k } }
  else if jump then
    if bit (s.cell 0x801100) 1 && s.hasBank && !s.time.takeJump then s0.refuseJump at_
    else { s0 with time := { s0.time with step := some k, takeJump := false } }
  else
    let s1 := s0.servoRate
    if s.servo = 3 || s.servo = 4 then (if (a : Int) ≤ 2 * nsUnits then s1.lock else s1.acquire)
    else if s.servo = 1 then
      if s.time.stepped && (a : Int) ≤ 2 * nsUnits then s1.lock
      else if (a : Int) ≤ nsUnits then
        if 8 ≤ s.time.good + 1 then s1.lock else { s1 with time := { s1.time with good := s.time.good + 1 } }
      else { s1 with time := { s1.time with good := 0 } }
    else
      if 2 * nsUnits < (a : Int) then
        if 2 ≤ s.time.bad + 1 then s1.acquire else { s1 with time := { s1.time with bad := s.time.bad + 1 } }
      else { s1 with time := { s1.time with bad := 0 } }

/-- The best of the markers accepted in a cycle (R291): smallest h_p, W where two are equal; a port without a value, and a marker of this hub's own, drives
nothing. -/
def State.bestSeen (s : State) : Option MarkerSeen :=
  (s.time.seen.filter (fun k => s.spansTo k.port != 0 && k.master != s.node)).foldl (fun acc k => match acc with
    | none => some k
    | some b => if s.spansTo k.port < s.spansTo b.port || (s.spansTo k.port = s.spansTo b.port && k.port = 1) then some k else some b) none

/-- A marker leaves on a transmit port of a ring (R98, R130, R144): ended where the hub is wrapped on it. -/
def State.sendMarker (s : State) (p : Port) (m : Marker) : State :=
  if (s.port p).wrapped || !(s.ringUsable p) then s else s.emit (.marker p m)

/-- The marker as a hub sends it on (R98, R99, R290): residence and span delay added, the check made again or stomped. -/
def forwardMarker (m : Marker) (ok : Bool) (add : Int) : Marker :=
  let m1 := { m with corr := m.corr + add }
  { m1 with check := if ok then markerCheck m1 else 0xFFFFFFFF - markerCheck m1 }

/-- The calibrated delay of the span into a port (R293, object 8.03p.00), in units. -/
def State.spanUnits (s : State) (p : Port) : Int := psUnits (s.rd (0x803000 + 0x100 * portNum p))

/-- The offset of a marker (R290): local time at the ingress ball, `arr` after the start of this beat, less the estimate t̂. -/
def State.markerOffset (s : State) (p : Port) (m : Marker) (arr : Nat) : Int :=
  ((s.time.now + arr : Nat) : Int) - ((ofTime96 m.btime : Nat) + psUnits m.origin + m.corr + s.spanUnits p)

/-- The marker arrives in the window of the port that forwards it (R99), which takes in the whole of beat m; there is none while no bank is active, nor for a
port without a regions entry. -/
def State.inWindow (s : State) (p : Port) : Bool :=
  match s.onward p with
  | some q => match bankRegions s.activeBank (portNum q) with
    | some r => decide ((s.beat + 2 * s.cycleLen - (r.m + s.cycleLen - r.w) % s.cycleLen) % s.cycleLen ≤ r.w)
    | none => true
  | none => false

/-- The marker check of a port is open (R63): the MARK of the active bank has named it. While no bank is active there is no MARK. -/
def State.checkOpen (s : State) (p : Port) : Bool := !s.hasBank || s.time.opened.testBit (portNum p)

/-- A marker names a master that this hub takes (R99, R300). -/
def State.masterOk (s : State) (n : Nat) : Bool :=
  match s.rankOf n with
  | none => false
  | some r =>
    if s.servo = 5 then (match s.rankOf s.node with | some own => decide (r < own) | none => true)
    else if !s.time.hadMark || s.lossCount ≤ s.missing then
      s.time.seen.all (fun k => match s.rankOf k.master with | some q => decide (r ≤ q) | none => true)
    else n = s.rd 0x801004 || (match s.rankOf (s.rd 0x801004) with | some q => decide (r < q) | none => true)

/-- The cycle tag that a marker of a master must carry (R99, R300): that of its marker accepted on another port in this cycle, else the number this hub
counts. DEDUCED from R300: another master than the current one, and the first one after a reset, numbers its cycles by itself, and has no expected tag. -/
def State.expectedTag (s : State) (n : Nat) : Option Nat :=
  match s.time.seen.find? (fun k => k.master == n) with
  | some k => some (k.cycle % 256)
  | none => if s.time.hadMark && n = s.rd 0x801004 then some (s.cycle % 256) else none

/-- A marker meets R99: an open check, window, check, time, master, and tag. -/
def State.markerGood (s : State) (p : Port) (m : Marker) : Bool :=
  s.checkOpen p && s.inWindow p && m.check = markerCheck m && decide (m.btime.nano ≤ 999999999) && s.masterOk m.master &&
    (match s.expectedTag m.master with | some t => m.tag = t | none => true)

/-- A marker that another master emitted reaches a master of better rank (R300): it is ended and counted. -/
def State.endsForeign (s : State) (m : Marker) : Bool :=
  s.servo = 5 && m.check = markerCheck m &&
    (match s.rankOf m.master, s.rankOf s.node with | some r, some own => decide (own < r) | _, _ => false)

/-- The transmit port of the ring that returns on a receive port (R87). -/
def ringTx : Port → Port
  | .e => .w
  | .w => .e
  | p => p

/-- The master's own marker returns (R98, R100): it is ended; back before the guard start of its ring it makes a loop measurement, else it is a
closure failure. DESIGN CHOICE: it is judged under R100 and not accepted, so it is no first accepted marker of R124, and a port that sees no other marker stays UP. -/
def State.markerReturned (s : State) (p : Port) (m : Marker) (arr : Nat) : State :=
  let inTime := match bankRegions s.activeBank (portNum (ringTx p)) with
    | some r => decide (s.beat < r.g)
    | none => true
  if m.check != markerCheck m then s.incSat (portObj p 1 5)
  else if inTime && m.tag = s.cycle % 256 then
    let k : MarkerSeen := ⟨portNum p, s.markerOffset p m arr, s.node, m.cycle, ofTime96 m.btime⟩
    { s with time := { s.time with seen := s.time.seen ++ [k] } }
  else s.incSat 0x207001

/-- A marker is accepted (R99, R290, R300): offset reported, master noted, and the servo acts where the port is the time port (R291). Of several candidates
the markers of the best-ranked count. -/
def State.markerAccepted (s : State) (p : Port) (m : Marker) (arr : Nat) : State :=
  let off := s.markerOffset p m arr
  let k : MarkerSeen := ⟨portNum p, off, m.master, m.cycle, ofTime96 m.btime⟩
  let changed := s.rd 0x801004 != m.master
  let s1 := if s.time.hadMark && changed then s.raiseAt (s.time.now + arr) .seq 0x01 0x0C (m.master % 1024) else s
  let s2 := (s1.wr 0x801001 (ofSigned 64 off)).wr 0x801004 m.master
  let s3 := { s2 with time := { s2.time with
    hadMark := true
    lost := false
    seen := s2.time.seen.filter (fun e => e.master == m.master) ++ [k]
    lastMark := s2.time.now + arr
    yield_ := s2.time.yield_ || s2.servo = 5
    barred := s2.time.barred || ((s2.rankOf s2.node).isSome && s2.rd 0x800104 = 0) } }
  let s4 := if s3.hasBank && s3.portState p = 6 then s3.setPortState p 7 else s3
  if s4.rd 0x801003 = portNum p && !s4.time.acted && s4.spansTo (portNum p) != 0 then s4.servoAct (s4.time.now + arr) k else s4

/-- The spurs to which a root copies the ring A marker (R98, R341): while a bank is active, those its layout gives regions. -/
def State.copySpurs (s : State) : List Port :=
  [Port.s0, .s1].filter (fun q => s.ringPort q && !(s.chainNode) &&
    (!s.hasBank || (bankRegions s.activeBank (portNum q)).isSome))

/-- A marker goes on from the hub (R98): cut-through on the port opposite, and for ring A copied onto the spurs at their marker beats. -/
def State.relayMarker (s : State) (p : Port) (m : Marker) (arr res : Nat) (ok : Bool) : State :=
  let d := s.spanUnits p
  let s1 := match s.onward p with
    | some q => (s.sendMarker q (forwardMarker m ok (res + d))).noteResidence q (ceilDiv res 65536)
    | none => s
  if p = .w then
    if s1.hasBank then
      { s1 with time := { s1.time with copy := some ⟨forwardMarker m ok d, s1.time.now + arr, s1.copySpurs⟩ } }
    else s1.copySpurs.foldl (fun s q => s.sendMarker q (forwardMarker m ok (res + d))) s1
  else s1

/-- A kept marker as it leaves at this beat, its residence added. -/
def State.copyOf (s : State) (c : MarkerCopy) : Marker := forwardMarker c.marker (c.marker.check = markerCheck c.marker) ((s.time.now : Int) - c.at_)

/-- The marker beat of a spur's port in a cycle, where the bank of that cycle gives one (R95). -/
def State.markerBeat (s : State) (cycle : Nat) (q : Port) : Option Nat := (bankRegions (s.bankOf cycle) (portNum q)).map (·.m)

/-- The copies of the ring A marker leave at the marker beats of the spurs (R98), each once; a beat that lies in the next cycle is waited for (R95). -/
def State.copyMarkers (s : State) (beat : Nat) : State :=
  match s.time.copy with
  | some c =>
    let now := c.left.filter (fun q => s.markerBeat c.marker.cycle q == some beat)
    let s1 := now.foldl (fun t q => t.sendMarker q (t.copyOf c)) s
    { s1 with time := { s1.time with copy := some { c with left := c.left.filter (fun q => !(now.contains q)) } } }
  | none => s

/-- A timestamp at a ball, in steps of 1 ps (R290, R304), in units of 2^-16 ns. -/
def ballStamp (u : Nat) : Nat := (psUnits (u * 1000 / 65536 : Nat)).toNat

/-- A cycle marker is received on a port, `at_` units into this beat, with residence `stay` units (R98 to R100, R290, R300): both as the balls stamp them. -/
def State.markerReceived (s : State) (p : Port) (m : Marker) (at_ stay : Nat) : State :=
  let arr := ballStamp at_
  let res := ballStamp stay
  if s.ticking && s.ringUsable p then
    let s1 := match judgeCheck m.check (markerCheck m) with
      | .failed => (s.countErrored p 0).countErrored p 1
      | _ => s
    if m.master = s.node then s1.markerReturned p m arr
    else if s1.endsForeign m then s1.inc 0x80100B
    else if (s1.onward p).isNone then s1
    else if s1.markerGood p m then (s1.markerAccepted p m arr).relayMarker p m arr res true
    else (s1.incSat (portObj p 1 5)).relayMarker p m arr res false
  else s

/-- The time state that a master's marker carries (R97, R299). -/
def State.timeState (s : State) : Nat := if s.time.timeSet then 0 else if s.time.fromHold then 1 else 2

/-- The marker that this hub emits for the cycle just begun (R97): the origin offset is the picoseconds to the MARK block leaving the ball, which
the spec leaves to the measurement. -/
def State.ownMarker (s : State) : Marker :=
  let m : Marker := ⟨s.node, s.cycle % 256, s.timeState, s.cycleLen, s.cycle, toTime96 s.time.bnd, s.freeNat 32, 0, 0⟩
  { m with check := markerCheck m }

/-- The hub emits the marker on ports (R63, R299). -/
def State.emitMarker (s : State) (ps : List Port) : State :=
  let m := s.ownMarker
  (ps.foldl (fun s p => if (s.port p).wrapped || s.isolated (.ring p) then s else s.emit (.marker p m)) s).tookFree

/-- The ports in SIGNAL state or beyond (R299). -/
def State.litPorts (s : State) : List Port := [Port.e, .w, .s0, .s1].filter (fun p => s.portState p != 0 && s.portState p != 8)

/-- A MARK move (R63): on the time master it emits the marker on the ports of its mask; on another node it opens the marker check on those ports. -/
def State.markMove (s : State) (m : MoveRec) : State :=
  if s.servo = 5 then s.emitMarker ((maskPorts m.a).filter s.ringUsable)
  else { s with time := { s.time with opened := m.a % 16 } }

/-- A beat is the one within the guard band at which a port sends ALIGN (R94): its guard start, or the last but three of the cycle where no bank gives one. A guard
band that lies past the end of its cycle belongs to the cycle before, and to its bank (R95). -/
def State.alignBeat (s : State) (p : Port) (beat : Nat) : Bool :=
  let before := s.cycle != 0 && (match bankRegions (s.bankOf (s.cycle - 1)) (portNum p) with
    | some r => decide (r.g < r.m) && r.g == beat
    | none => false)
  before || (match bankRegions s.activeBank (portNum p) with
    | some r => decide (r.m ≤ r.g) && r.g == beat
    | none => s.cycleLen - 4 == beat)

/-- ALIGN leaves once a cycle on every port in training or in use (R94), after the last block of a frame that runs into the guard band (R179). -/
def State.alignsAt (s : State) (beat : Nat) : State :=
  (s.litPorts.filter (fun p => s.alignBeat p beat && !(s.isolated (.ring p)))).foldl (fun t p =>
    if t.sending (portNum p) (t.at10ps 0) then t.holdAlign p else t.emit (.align p)) s

/-- At a cycle boundary the servo acts, where it has not, on the best marker of the cycle, and the time port is chosen (R291), for a master that yields too. -/
def State.servoAtBoundary (s : State) : State :=
  match s.bestSeen with
  | some k =>
    let s1 := if s.time.acted || s.servo = 5 then s else s.servoAct (s.time.now + beatTicks) k
    if s1.servo = 5 && !s1.time.yield_ then s1 else s1.wr 0x801003 k.port
  | none => s

/-- At a cycle boundary the cycles without an accepted marker are counted (R292, R301): locked and acquiring go to holdover. -/
def State.countMissing (s : State) : State :=
  if s.servo = 5 then (s.wr 0x801007 0)
  else if s.time.seen = [] then
    let s1 := { (s.incSat 0x801007) with time := { s.time with lockRun := 0, good := 0, bad := 0 } }
    if s1.servo = 1 || s1.servo = 2 then s1.keepRate.setServo 3 else s1
  else
    let s1 := s.wr 0x801007 0
    { s1 with time := { s1.time with lockRun := if s1.servo = 2 then s1.time.lockRun + 1 else 0 } }

/-- A master that accepted a better-ranked marker stops emitting and acquires (R292, R300). -/
def State.yieldAtBoundary (s : State) : State :=
  if s.time.yield_ then ({ s with time := { s.time with yield_ := false, timeSet := false, fromHold := false } }).acquire else s

/-- The hub is entitled to emit the marker (R299, R300). -/
def State.entitled (s : State) : Bool :=
  match s.rankOf s.node with
  | none => false
  | some 0 => !s.time.barred && (!s.time.hadMark || decide (16 ≤ s.time.lockRun) || decide (s.lossCount ≤ s.missing))
  | some r => !s.time.barred && decide (s.lossCount + 2 * r - 1 ≤ s.missing)

/-- An entitled candidate becomes the master at a cycle boundary (R299). -/
def State.becomeMaster (s : State) : State :=
  if s.servo != 5 && s.entitled then
    let from3 := s.servo = 3
    let s1 := { s with time := { s.time with
      fromHold := from3
      timeSet := if from3 then false else s.servo = 1 || s.servo = 2 || s.servo = 4 || s.time.timeSet
      step := none } }
    ((s1.setServo 5).wr 0x801004 s.node).wr 0x801007 0
  else s

/-- The closure window counts one cycle (R294): differences of the two rings' offsets, or the two loop errors on the master. It begins with the first
cycle in which both ports deliver an accepted marker. -/
def State.closureCycle (s : State) : State :=
  let a := s.time.seen.find? (fun k => k.port = 1)
  let b := s.time.seen.find? (fun k => k.port = 0)
  let t := s.time
  if t.winN < 1024 then
    match a, b with
    | some x, some y =>
      { s with time := { t with
          winN := t.winN + 1
          winGood := t.winGood + 1
          winA := t.winA + (if s.servo = 5 then x.off else y.off - x.off)
          winB := t.winB + (if s.servo = 5 then y.off else 0) } }
    | _, _ => if t.winN = 0 then s else { s with time := { t with winN := t.winN + 1 } }
  else s

/-- TIME_CAL as sent on a port (R294): D in bytes 12 to 19, the valid bit in byte 20. -/
def State.timeCalFrame (s : State) (d : Int) (valid : Bool) : Frame :=
  s.controlFrame 0 (controlHead 0x0830 s.node s.cycle ++ natBE 8 (ofSigned 64 d) ++ natBE 1 (b2n valid) ++ zeros 3)

/-- Sends TIME_CAL on a port, through its queue (R96), and keeps the value for the span's correction (R294). -/
def State.sendTimeCal (s : State) (p : Port) (d : Int) (valid : Bool) : State :=
  let s1 := if s.portUsable p then s.sendLinkLocal p (s.timeCalFrame d valid) else s
  if valid then { s1 with time := { s1.time with ownD := minsert s1.time.ownD (portNum p) (d, s.cycle) } } else s1

/-- The closure correction of a span from the two hubs' values of one window (R294), due at the next boundary, in units. -/
def State.closeSpan (s : State) (p : Port) : State :=
  match mfind s.time.ownD (portNum p), mfind s.time.nbrD (portNum p) with
  | some (own, c), some (nbr, c') =>
    if c = c' then
      let eps := if p = .e then (nbr - own) / 2 else (own - nbr) / 2
      { s with time := { s.time with epsDue := minsert s.time.epsDue (portNum p) eps } }
    else s
  | _, _ => s

/-- A 1,024-cycle closure window ends (R294, R295): TIME_CAL on E and W, and a new window. -/
def State.windowEnd (s : State) : State :=
  let t := s.time
  if t.winN < 1024 then s
  else
    let valid := t.winGood = 1024
    let a := t.winA / 1024
    let b := t.winB / 1024
    let (dE, dW) := if s.servo = 5 then (-b, a) else (a, a)
    let s1 := { s with time := { t with winN := 0, winGood := 0, winA := 0, winB := 0, calib := t.calib || valid } }
    (((s1.sendTimeCal .e dE valid).sendTimeCal .w dW valid).closeSpan .e).closeSpan .w

/-- A neighbour's TIME_CAL arrives on a main-ring port (R294). -/
def State.timeCalIn (s : State) (p : Port) (d : Int) (valid : Bool) (cycle : Nat) : State :=
  if valid && (p = .e || p = .w) then
    ({ s with time := { s.time with nbrD := minsert s.time.nbrD (portNum p) (d, cycle) } }).closeSpan p
  else s

/-- Closure corrections take effect at a cycle boundary (R294): ε in picoseconds in 8.03p.02. -/
def State.closeAtBoundary (s : State) : State :=
  let s1 := s.time.epsDue.foldl (fun s e =>
    (s.wr (0x803002 + 0x100 * e.1) (ofSigned 32 (e.2 * 1000 / 65536))).calibrate (portOf e.1)) s
  { s1 with time := { s1.time with epsDue := [] } }

/-- Condition 4 of R24 holds (R298). -/
def State.timeHolds (s : State) : Bool := s.servo = 2 || s.servo = 5 || (s.servo = 3 && decide (s.holdoverExact ≤ 8000 * exactPs))

/-- Condition 4 is judged at a cycle boundary (R40, R298, R496). DESIGN CHOICE: the cycle tag of its event is the number of the cycle that begins at this boundary, as its
hold is; the marker that it is judged by came in the cycle before. -/
def State.timeAtBoundary (s : State) : State :=
  if s.monitoring && !(s.timeHolds) then
    let said := s.seq.timeSaid
    let s1 := ({ s with seq := { s.seq with timeBad := true, timeGood := false, timeHold := true, timeSaid := true } }).latchFailure 6
    if said then s1 else s1.raise .seq 0x00 0x05 (s1.eventTag 4 0x19 s1.servo)
  else
    let q := s.seq
    if s.timeHolds then
      { s with seq := { q with
          timeBad := false
          timeHold := false
          timeGood := q.timeSaid && !q.timeGood
          timeSaid := q.timeSaid && !q.timeGood } }
    else { s with seq := { q with timeBad := true, timeHold := false, timeGood := false } }

/-- The boundary time of the cycle that begins (R289, R299): from the marker accepted in the ended cycle, else from this hub's own count; while a jump is
refused the hub runs on by itself (R303). -/
def State.nextBoundary (s : State) : Nat :=
  let own := s.time.bnd + s.cycleLen * beatTicks
  if (s.servo = 5 && !s.time.yield_) || s.servoAtBoundary.servo = 4 then own
  else match s.bestSeen with
    | some k => k.btime + s.cycleLen * beatTicks
    | none => own

/-- The number of the cycle that begins (R50, R99): a master that yields takes over that of the better-ranked one (R300). -/
def State.nextCycleNo (s : State) : Nat :=
  if s.servo = 5 && !s.time.yield_ then s.cycle + 1
  else match (s.time.seen.filter (fun k => k.master != s.node)).getLast? with
    | some k => k.cycle + 1
    | none => s.cycle + 1

/-- At the Lth cycle without an accepted marker the master is lost (R301). -/
def State.masterLoss (s : State) : State :=
  if s.servo != 5 && !s.time.lost && decide (s.lossCount ≤ s.missing) then
    let s1 := { s with time := { s.time with lost := true } }
    if s1.servo = 3 && !(bit (s1.cell 0x801100) 0) then s1.setServo 0 else s1
  else s

/-- A write to 8.000.01 (R312): accepted on the master while no table bank is active; a step at the next cycle boundary. -/
def State.setFabricTime (s : State) (v : Nat) : OdRes :=
  if 999999999 < (natTime96 v).nano then errRes s 0x04
  else if s.servo = 5 && !s.hasBank then stagedRes { s with time := { s.time with setTo := some (ofTime96 (natTime96 v)) } }
  else errRes s 0x02

/-- The master's time is set at a cycle boundary (R302, R312): journalled and counted as a step. -/
def State.setTimeAtBoundary (s : State) : State :=
  match s.time.setTo with
  | some t =>
    if s.servo = 5 then
      let s1 := { s with time := { s.time with now := t, bnd := t, setTo := none, timeSet := true, fromHold := false } }
      (s1.inc 0x801008).raise .seq 0x01 0x0D (s1.cycle % 2 ^ 32)
    else { s with time := { s.time with setTo := none } }
  | none => s

/-- A write of 1 to 8.010.0A (R303). -/
def State.acceptNextJump (s : State) : State := { s with time := { s.time with takeJump := true } }

/-- A write to 8.001.04 (R300): 1 lets a candidate emit again. -/
def State.candidateReturn (s : State) (v : Nat) : State :=
  let s1 := s.wr 0x800104 v
  if v = 1 then { s1 with time := { s1.time with barred := false } } else s1

/-- The PTP port's state (R305): DISABLED where time is not exported. The best master algorithm of IEEE 1588-2019 chooses among the other three by Announce messages, which
are no commands of this block, so the choice is a free value; only a MASTER sends the event message of the delay request-response profile, Sync. -/
def State.ptpState (s : State) (sent : Bool) : PtpState :=
  if !(s.feature 35 && s.rd 0x804000 = 1) then .disabled
  else if sent && s.rd 0x804001 = 0 then .master
  else match s.freeNat 32 % 3 with
    | 0 => .master
    | 1 => .passive
    | _ => .listening

/-- The PTP clockClass of the exported time (R305). -/
def State.clockClass (s : State) : Nat :=
  if s.servo = 2 then 13
  else if s.servo = 5 then (match s.timeState with | 0 => 13 | 1 => 14 | _ => 248)
  else if s.servo = 3 then 14 else 248

/-- The PTP Instance as a message of it shows it (R305): profile, domain, priority1 and transport of 8.040.01 to 8.040.04, currentUtcOffset, clockClass, the port's state,
and whether Sync is sent in two steps, which is the implementation's choice. -/
def State.ptpPort (s : State) (sent : Bool) : PtpPort :=
  ⟨s.rd 0x804001, s.rd 0x804002, s.rd 0x804003, s.rd 0x804004, toSigned 16 (s.rd 0x800002), s.clockClass, s.ptpState sent, Config.ptpTwoStep⟩

/-- A PTP event message passes the RGMII balls `off` units into this beat (R304, R305): stamped in steps of 2 ns, less the declared PHY delay, by the
one PTP Instance as its objects set it up. -/
def State.ptpEvent (s : State) (sent : Bool) (off : Nat) : State :=
  if s.feature 35 && s.rd 0x804000 = 1 && s.ticking then
    let t := (s.time.now + off) / 131072 * 131072
    let phy := if sent then bits (s.rd 0x804005) 31 16 else bits (s.rd 0x804005) 15 0
    (s.emit (.ptpStamp sent (t - (psUnits phy).toNat) (s.ptpPort sent))).tookFree
  else s

end Sys2Proof.Machine
end

