-- ==== Sys2Proof/Machine/Snapshot.lean ====
section
/-!
DEFINITION. Snapshot slots (R466 to R470, R309): what a seal latches in each island, the header, collection, readout and release.
-/
namespace Sys2Proof.Machine

/-- Puts bytes into a block at an offset. -/
def place (l : List Byte) (o : Nat) (v : List Byte) : List Byte := l.take o ++ v ++ l.drop (o + v.length)

/-- A block of `n` bytes with fields placed into zeros (R467). -/
def blockOf (n : Nat) (fs : List (Nat × List Byte)) : List Byte := fs.foldl (fun b (f : Nat × List Byte) => place b f.1 f.2) (zeros n)

/-- A snapshot slot. -/
def State.snap (s : State) (k : Nat) : SnapSlot := mget {} s.snaps k

/-- Writes a snapshot slot. -/
def State.setSnap (s : State) (k : Nat) (x : SnapSlot) : State := { s with snaps := mset {} s.snaps k x }

/-- A measured value: the free value `k` places on, `w` bits wide. -/
def State.measured (s : State) (k w : Nat) : Nat := (Config.freeValue (s.free + k)).toNat % 2 ^ w

/-- The number of free values that the blocks of a snapshot take: VHS, nine currents, nine temperatures, eight bus idle bits. -/
def snapFrees : Nat := 27

/-- The seating state of A.001.04 (R376, R389): both pins are low once seating is qualified; before that their levels are the balls' own. -/
def State.seatState (s : State) (free : Nat) : Nat := if s.power.seated then 7 else free % 4

/-- AON block (R467). -/
def State.aonBlock (s : State) : List Byte :=
  blockOf 128 [(0x00, natLE 8 s.power.warn), (0x08, natLE 1 s.braceState), (0x10, natLE 2 (s.measured 0 16)),
    (0x12, natLE 1 (s.seatState (s.measured 0 18 / 2 ^ 16))), (0x14, natLE 4 s.modes.aonCount)]

/-- PWR block (R467). -/
def State.pwrBlock (s : State) : List Byte :=
  let nine (n : Nat) (f : Nat → Nat) : List Byte := (List.range 9).flatMap (fun c => natLE n (f c))
  blockOf 128 [(0x00, nine 1 s.chanState), (0x09, nine 1 (fun c => s.rd (chanObj c 1 1))), (0x12, natLE 2 s.pgState),
    (0x14, nine 4 (fun c => s.measured (1 + c) 32)), (0x38, nine 4 (fun c => s.measured (10 + c) 32))]

/-- A 32-byte pin mask of the pins that satisfy a test. -/
def pinMask (f : Nat → Bool) : List Byte := natLE 32 ((List.range 256).foldl (fun m p => if f p then m + 2 ^ p else m) 0)

/-- PIN block (R467): the driven levels are those at the balls that the hub drives. -/
def State.pinBlock (s : State) : List Byte :=
  blockOf 2560 [(0x000, pinMask (fun p => s.pins.filt.testBit p)), (0x020, pinMask (fun p => s.drivenLevel p = some true)),
    (0x040, pinMask (fun p => (mfind s.pins.forced p).isSome)), (0x060, pinMask (fun p => (mfind s.pins.frozen p).isSome)),
    (0x080, (List.range 16).flatMap (fun b => natLE 1 (s.bankStatus b))),
    (0x100, (List.range 256).flatMap (fun p => natLE 8 (s.rd (lastEdgeObj p))))]

/-- RING block of a port (R467). -/
def State.ringBlock (s : State) (n : Nat) : List Byte :=
  let p := portOf n
  blockOf 256 [(0x00, natLE 1 (s.portState p)), (0x01, natLE 1 s.wrapState), (0x04, natLE 4 (s.laneErrors p 0)),
    (0x08, natLE 4 (s.laneErrors p 1)), (0x0C, natLE 4 (s.rd (portObj p 1 5))), (0x10, natLE 8 (s.rd (portObj p 1 3))),
    (0x18, natLE 8 (s.rd (portObj p 1 6))), (0x20, natLE 8 (s.rd (portObj p 1 8))), (0x28, natLE 2 (s.rd (portObj p 1 0xA)))]

/-- SWX block (R467). -/
def State.swxBlock (s : State) : List Byte :=
  blockOf 512 [(0x000, natLE 2 s.freeCells), (0x002, natLE 1 s.epoch), (0x008, natLE 8 s.drainWord),
    (0x010, (List.range 72).flatMap (fun q => natLE 2 (s.queueDepth q))), (0x0A0, natLE 1 s.switch.fences.length)]

/-- SEQ block (R467). -/
def State.seqBlock (s : State) : List Byte :=
  blockOf 512 [(0x000, natLE 8 s.cycle), (0x008, natLE 4 s.beat), (0x00C, natLE 1 s.activeNum), (0x00D, natLE 1 (s.rd 0x400001)),
    (0x010, natLE 8 (s.rd 0x401002)), (0x018, natLE 8 (s.rd 0x408010)), (0x020, natLE 8 (s.rd 0x408011)),
    (0x028, natLE 8 (s.rd 0x408012)), (0x030, natLE 8 (s.rd 0x408013)), (0x038, natLE 8 (s.rd 0x801001)),
    (0x040, natLE 8 (s.rd 0x408002))]

/-- PWN block of a cluster (R467). -/
def State.pwnBlock (s : State) (c : Nat) : List Byte :=
  (List.range 16).flatMap (fun i =>
    let q := 16 * c + i
    let p := s.pawn q
    natLE 4 p.status ++ natLE 4 p.sh.toNat ++ natLE 2 p.ca.toNat ++ natLE 2 p.cb.toNat ++ natLE 4 p.cmp.toNat ++ natLE 4 p.divv ++
      natLE 2 (s.rd (pawnObj q 0x27)) ++ natLE 2 (s.rd (pawnObj q 0x10)) ++ zeros 8)

/-- MBUS block (R467); the bus idle bit of the status is measured. -/
def State.mbusBlock (s : State) : List Byte :=
  (List.range 8).flatMap (fun n =>
    let mask (f : MsgObj → Bool) : List Byte := natLE 16 ((List.range 128).foldl (fun m k => if f (s.msg n k) then m + 2 ^ k else m) 0)
    natLE 4 (s.ctlStatus n (s.measured (19 + n) 1)) ++ natLE 2 (s.rd (busObj n 1 1)) ++ zeros 2 ++ mask (·.isNew) ++ mask (·.pending) ++
      natLE 4 (s.msg n highPriority).status ++ zeros 20)

/-- HBR block (R467). -/
def State.hbrBlock (s : State) : List Byte :=
  blockOf 256 [(0, natLE 1 (s.rd 0x900000)), (2, natLE 2 s.bridge.held.length),
    (4, natLE 2 (s.bridge.reqs.filter (fun r => !r.answered)).length), (8, natLE 4 s.postedBytes), (12, natLE 4 s.copyBytes), (16, natLE 2 s.bridge.fetch.length)]

/-- The version that a firmware slot reports (R453): 0 where it is empty. -/
def slotVersion (x : FwSlot) : Nat := if x.full then x.version.getD Config.keeperFirmware.toNat else 0

/-- The version of the firmware that runs (R342: 0.000.04). -/
def State.keeperVersion (s : State) : Nat := slotVersion (if s.update.runB then s.update.fwB else s.update.fwA)

/-- MGT block (R467). -/
def State.mgtBlock (s : State) : List Byte :=
  blockOf 256 [(0, natLE 1 s.odHeld), (1, natLE 1 (modeCode s.mode)), (2, natLE 2 (s.rd 0xD00000)), (4, natLE 2 (s.rd 0xD00001)),
    (8, natLE 4 s.keeperVersion)]

/-- The islands of the hub by code (R10). -/
def allIslands : List Nat :=
  [0x00, 0x01, 0x02, 0x10, 0x11, 0x12, 0x13, 0x18, 0x19, 0x20, 0x21, 0x22, 0x23, 0x24, 0x25, 0x26, 0x27, 0x28, 0x29, 0x2A]

/-- The slot offset and the contents of an island's block (R467). -/
def State.islandBlock (s : State) (code : Nat) : Nat × List Byte :=
  match code with
  | 0x00 => (0x0100, s.aonBlock)
  | 0x01 => (0x0200, s.pinBlock)
  | 0x02 => (0x0180, s.pwrBlock)
  | 0x18 => (0x1000, s.swxBlock)
  | 0x19 => (0x1200, s.seqBlock)
  | 0x28 => (0x2400, s.mbusBlock)
  | 0x29 => (0x2600, s.hbrBlock)
  | 0x2A => (0x2700, s.mgtBlock)
  | _ => if code < 0x18 then (0x0C00 + 0x100 * (code - 0x10), s.ringBlock (code - 0x10))
         else (0x1400 + 0x200 * (code - 0x20), s.pwnBlock (code - 0x20))

/-- The islands that latch at a seal (R309): those of the mask that are not isolated. -/
def State.latching (s : State) (mask : Nat) : List Nat := allIslands.filter (fun c => mask.testBit c && !(s.partIsolated c))

/-- A mask of islands. -/
def islandMask (l : List Nat) : Nat := (l.map (fun c => 2 ^ c)).sum

/-- The slot header (R468), with no island delivered yet. -/
def State.snapHeader (s : State) (id trigger mask : Nat) : List Byte :=
  blockOf 256 [(0x00, natLE 2 id), (0x02, natLE 1 trigger), (0x03, natLE 1 s.servo), (0x04, natLE 2 s.node), (0x08, natLE 8 s.cycle),
    (0x10, natLE 4 s.beat), (0x14, natLE 4 (f32Ratio s.boundPs 1000)), (0x18, natLE 12 (time96Nat (toTime96 s.time.now))),
    (0x30, natLE 8 (islandMask (allIslands.filter (fun c => mask.testBit c && s.partIsolated c)))), (0x38, natLE 1 s.activeNum),
    (0x39, natLE 1 s.contractState), (0x3C, natLE 4 (s.rd 0x408001)), (0x40, bankRecordHash s.activeBank)]

/-- The state map of the working bank of an image, by word (R38, R71). -/
def State.workingMap (s : State) (sel : ImageSel) : NMap Nat :=
  (List.range s.records.length).foldl (fun m i => match s.records[i]? with
    | some r => if r.img = sel then
        (List.range r.words).foldl (fun m k => mset 0 m (r.off / 4 + k) (stateCode (s.recLive i).state)) m
      else m
    | none => m) []

/-- The working banks as they are now. -/
def State.imagesNow (s : State) : SealImages := ⟨s.seq.input.working, s.seq.output.working, s.workingMap .input, s.workingMap .output⟩

/-- The images that a seal of this beat latches (R467): those of the first SEQ clock of the beat. -/
def State.sealImages (s : State) : SealImages := s.seq.sealed.getD s.imagesNow

/-- A seal takes a slot (R309, R466, R467): every island of the mask latches. -/
def State.latchSnap (s : State) (k id trigger mask : Nat) : State :=
  let l := s.latching mask
  let images := l.contains 0x19
  let x : SnapSlot := {
    state := 1, id := id, cycle := s.cycle, beat := s.beat, at_ := s.nowNs, latched := islandMask l
    header := s.snapHeader id trigger mask
    blocks := l.foldl (fun m c => let b := s.islandBlock c; minsert m b.1 b.2) []
    inImg := if images then s.sealImages.inImg else [], outImg := if images then s.sealImages.outImg else []
    inMap := if images then s.sealImages.inMap else [], outMap := if images then s.sealImages.outMap else [], relAt := false }
  { s.setSnap k x with free := s.free + snapFrees }

/-- The slot still holds an unreleased snapshot (R466). -/
def State.slotBusy (s : State) (k : Nat) : Bool := (s.snap k).state != 0

/-- The item tag of a record about a slot (R307, R466). -/
def snapTag (id k : Nat) : Nat := id % 65536 * 65536 + k % 4

/-- A record about a seal whose item tag no rule lays out (R62, R308, R309): the tag is free. -/
def State.raiseSeal (s : State) (reason : Nat) : State := (s.tookFree).raise .mgt 0x00 reason (s.freeNat 32)

/-- A SEAL move (R62, R65): refused where the slot is unreleased, or where an armed seal names the same slot in the same beat. -/
def State.sealMove (s : State) (m : MoveRec) : State :=
  let k := bits m.a 1 0
  let armed := match mfind s.time.seals k with
    | some x => x.beat == some s.beat
    | none => false
  if s.slotBusy k || armed then (s.inc 0x401005).raiseSeal 0x7A else s.latchSnap k 0 0 m.b

/-- The header with the delivered islands filled in (R468). -/
def withDelivered (h : List Byte) (mask : Nat) : List Byte := place h 0x28 (natLE 8 mask)

/-- Collection completes (R466): the slot is held. -/
def State.collected (s : State) (k : Nat) : State :=
  let x := s.snap k
  if x.state = 1 then s.setSnap k { x with state := 2, header := withDelivered x.header x.latched } else s

/-- Blocks of islands that did not deliver read as zero (R468). -/
def keepBlocks (bs : NMap (List Byte)) (blockAt : Nat → Nat) (delivered : Nat) : NMap (List Byte) :=
  bs.filter (fun e => allIslands.any (fun c => blockAt c == e.1 && delivered.testBit c))

/-- The slot offset of an island's block (R467). -/
def blockAt (code : Nat) : Nat :=
  match code with
  | 0x00 => 0x0100 | 0x01 => 0x0200 | 0x02 => 0x0180 | 0x18 => 0x1000 | 0x19 => 0x1200 | 0x28 => 0x2400 | 0x29 => 0x2600 | 0x2A => 0x2700
  | _ => if code < 0x18 then 0x0C00 + 0x100 * (code - 0x10) else 0x1400 + 0x200 * (code - 0x20)

/-- Collection ends incomplete (R466, R468), with the islands that delivered: journalled. -/
def State.uncollected (s : State) (k delivered : Nat) : State :=
  let x := s.snap k
  let d := delivered &&& x.latched
  if x.state = 1 then
    let img := d.testBit 0x19
    (s.setSnap k { x with
      state := 3, header := withDelivered x.header d, blocks := keepBlocks x.blocks blockAt d
      inImg := if img then x.inImg else [], outImg := if img then x.outImg else []
      inMap := if img then x.inMap else [], outMap := if img then x.outMap else [] }).raise .mgt 0x00 0x7B (snapTag x.id k)
  else s

/-- A write of 1 to E.0s0.01 (R469). -/
def State.releaseSlot (s : State) (k : Nat) : OdRes :=
  let x := s.snap k
  match x.state with
  | 0 => okRes s
  | 1 => errRes s 0x02
  | _ => if s.hasBank then stagedRes (s.setSnap k { x with relAt := true }) else okRes (s.setSnap k {})

/-- Releases take effect at a beat start (R469). -/
def State.releaseSlots (s : State) : State := { s with snaps := s.snaps.filter (fun e => !e.2.relAt) }

/-- One byte of a slot at an offset (R467). -/
def SnapSlot.byteAt (x : SnapSlot) (o : Nat) : Byte :=
  let map (m : NMap Nat) (k : Nat) : Byte := BitVec.ofNat 8 ((List.range 4).map (fun j => mget 0 m (4 * k + j) * 4 ^ j)).sum
  if o < 0x100 then x.header.getD o 0
  else if o < 0x10000 then
    match x.blocks.find? (fun e => decide (e.1 ≤ o) && decide (o < e.1 + e.2.length)) with
    | some e => e.2.getD (o - e.1) 0
    | none => 0
  else if o < 0x20000 then mget 0 x.inImg (o - 0x10000)
  else if o < 0x30000 then mget 0 x.outImg (o - 0x20000)
  else if o < 0x31000 then map x.inMap (o - 0x30000)
  else if o < 0x32000 then map x.outMap (o - 0x31000)
  else 0

/-- A read in space 0x07 (R467): none where it is refused. -/
def State.snapRead (s : State) (o n : Nat) : Option (List Byte) :=
  let touched := ((List.range n).map (fun k => (o + k) / 0x40000)).eraseDups
  if touched.any (fun k => (s.snap k).state = 1) then none
  else some ((List.range n).map (fun k => (s.snap ((o + k) / 0x40000)).byteAt ((o + k) % 0x40000)))

/-- The slots not free (R472: E.100.00). -/
def State.slotsTaken (s : State) : Nat := ((List.range 4).map (fun k => b2n (s.slotBusy k) * 2 ^ k)).sum

end Sys2Proof.Machine
end

