-- ==== Sys2Proof/Machine/Seal.lean ====
section
/-!
DEFINITION. Armed seals (R306 to R311): arming, disarming, their conversion to beats, SEAL_IN, and the latch.
-/
namespace Sys2Proof.Machine

/-- Writes the pending seals, and the mask of object 8.020.05. -/
def State.setSeals (s : State) (l : NMap SealSt) : State :=
  ({ s with time := { s.time with seals := l } }).wr 0x802005 (l.map (fun (e : Nat × SealSt) => 2 ^ e.1)).sum

/-- The time at which the seal beat of a seal time begins (R308): the first beat start at or after it. -/
def State.sealStart (s : State) (t : Nat) : Nat := s.time.bnd + ceilDiv (t - s.time.bnd) beatTicks * beatTicks

/-- A seal converted to a beat of the current cycle (R308). -/
def State.convertSeal (s : State) (x : SealSt) : SealSt :=
  if x.next0 then { x with beat := some 0, next0 := false }
  else
    let l := s.cycleLen
    if s.time.bnd ≤ x.time && x.time < s.time.bnd + l * beatTicks then
      let b := ceilDiv (x.time - s.time.bnd) beatTicks
      if b = l then { x with next0 := true } else { x with beat := some b }
    else x

/-- An arm or disarm is refused (R307): journalled with the seal id and slot, and counted. -/
def State.refuseArm (s : State) (slot id : Nat) : State := (s.inc 0x802007).raise .seq 0x02 0x25 (snapTag id slot)

/-- The 64-beat rule of R307. -/
def State.tooLate (s : State) (t : Nat) : Bool := decide (s.sealStart t < s.time.now + 64 * beatTicks) || decide (t < s.time.bnd)

/-- Arms a seal (R307). -/
def State.armSeal (s : State) (t : Time96) (slot id trigger : Nat) : State :=
  let v := ofTime96 t
  if (mfind s.time.seals slot).isSome || decide (999999999 < t.nano) || decide (s.time.now + 10000000000 * 65536 < v) || s.tooLate v then
    s.refuseArm slot id
  else s.setSeals (minsert s.time.seals slot (s.convertSeal { time := v, id := id, trigger := trigger }))

/-- Disarms a seal (R307): one that matches no pending seal is ignored. -/
def State.disarmSeal (s : State) (slot id : Nat) : State :=
  match mfind s.time.seals slot with
  | some x => if x.id != id then s else if s.tooLate x.time then s.refuseArm slot id else s.setSeals (merase s.time.seals slot)
  | none => s

/-- The payload of SEAL_ARM and SEAL_DISARM (R306). -/
def State.sealMessage (s : State) (code slot id : Nat) (t : Time96) : List Byte :=
  controlHead code s.node s.cycle ++ natBE 1 (slot % 4) ++ natBE 1 0 ++ natBE 2 id ++ natBE 12 (time96Nat t)

/-- The seal time of object 8.020.01. -/
def State.sealTime (s : State) : Time96 := natTime96 (s.rd 0x802001)

/-- A seal command (R306): 1 and 2 arm, 3 and 4 disarm, 2 and 4 also tell the fork group. -/
def State.sealCommand (s : State) (v : Nat) : State :=
  let slot := s.rd 0x802002
  let id := s.rd 0x802004
  let g := s.rd 0x802003
  match v with
  | 1 => s.armSeal s.sealTime slot id 1
  | 2 => (s.armSeal s.sealTime slot id 1).sendFork g (s.sealMessage 0x0820 slot id s.sealTime)
  | 3 => s.disarmSeal slot id
  | _ => (s.disarmSeal slot id).sendFork g (s.sealMessage 0x0821 slot id ⟨0, 0, 0⟩)

/-- At a cycle boundary every pending seal is converted (R308). -/
def State.sealsAtBoundary (s : State) : State :=
  { s with time := { s.time with seals := s.time.seals.map (fun e => (e.1, s.convertSeal { e.2 with beat := none })) } }

/-- After a step (R308): the seals whose beat lay in the interval that the step ended are not taken. `old` is the boundary before the step. -/
def State.missSeals (s : State) (old : Nat) : State :=
  let gone := s.time.seals.filter (fun e => e.2.next0 || (decide (old ≤ e.2.time) && decide (e.2.time < s.time.bnd)))
  gone.foldl (fun s e => (s.setSeals (merase s.time.seals e.1)).raiseSeal 0x79) s

/-- The time of a SEAL_IN edge (R310), `off` ns into this beat: the filter's 19 ns and the input's 0.7 ns before it is seen. -/
def State.sealEdge (s : State) (off : Nat) : Time96 :=
  toTime96 ((10 * (s.time.now + off * 65536) - 10 * (19 * 65536) - 7 * 65536) / 10)

/-- The word of 8.020.0A that such an edge writes (R310). -/
def State.sealStamp (s : State) (off : Nat) : Nat := ((s.sealEdge off).sec % 2 ^ 32) * 2 ^ 32 + 2 ^ 31 + 2 ^ 30 + (s.sealEdge off).nano

/-- The start of the beat in which the edge falls (R310): this one, or the one before where the filter spans a beat start. -/
def State.sealEdgeBeat (s : State) (off : Nat) : Nat := if ofTime96 (s.sealEdge off) < s.time.now then s.time.now - beatTicks else s.time.now

/-- A rising edge on SEAL_IN, filtered (R310), `off` ns into this beat: it is stamped, and arms a seal n cycles later here and in the fork group. -/
def State.sealIn (s : State) (off : Nat) : State :=
  if s.feature 32 && s.ticking && bit (s.cell 0x802008) 7 then
    let slot := s.cell 0x802008 % 4
    let s1 := s.wr 0x80200A (s.sealStamp off)
    if (mfind s.time.seals slot).isSome then s1.inc 0x802007
    else
      let at_ := toTime96 (s.sealEdgeBeat off + s.cell 0x802009 * s.cycleLen * beatTicks)
      let id := s.time.sealCtr % 65536
      let s2 := { s1 with time := { s1.time with sealCtr := (id + 1) % 65536 } }
      (s2.armSeal at_ slot id 2).sendFork (s.rd 0x802003) (s.sealMessage 0x0820 slot id at_)
  else s

/-- An armed seal is due in this beat. -/
def State.sealDue (s : State) : Bool := s.time.seals.any (fun e => e.2.beat == some s.beat)

/-- The seal beat of an armed seal (R309): the slot is taken, or the seal is lost where the slot is unreleased. -/
def State.sealLatch (s : State) (slot : Nat) : State :=
  match mfind s.time.seals slot with
  | some x =>
    if x.beat = some s.beat && s.ticking then
      let s1 := s.setSeals (merase s.time.seals slot)
      if s.slotBusy slot then (s1.inc 0x802007).raiseSeal 0x7A
      else (s1.latchSnap slot x.id x.trigger (islandMask allIslands)).inc 0x802006
    else s
  | none => s

end Sys2Proof.Machine
end

