-- ==== Sys2Proof/Machine/Resets.lean ====
section
/-!
DEFINITION. Resets (R368, R415 to R419, R424): the reset cause history, what each object keeps, and the reset of the core die as one operation.
-/
namespace Sys2Proof.Machine

/-- The kinds of R424. -/
inductive ResetKind where
  | por | cpr | hrst | wrst | irst | wdr | dozeEntry | dozeExit
  deriving DecidableEq, Repr

/-- The code of a kind (R415, R424). -/
def ResetKind.code : ResetKind → Nat
  | .por => 1 | .cpr => 2 | .hrst => 3 | .wrst => 4 | .irst => 5 | .wdr => 6 | .dozeEntry => 7 | .dozeExit => 8

/-- The kind keeps class-W and class-D cells (R419): WRST, and a WDR of source 0x01. -/
def ResetKind.warm (k : ResetKind) (source : Nat) : Bool := k = .wrst || (k = .wdr && source = 1)

/-- Writes one entry of the reset cause history (R424) and counts the event of its kind. -/
def State.resetCause (s : State) (k : ResetKind) (source mode flags frames ods : Nat) : State :=
  let h := s.rd 0x101008 % 8
  let e := natLE 1 k.code ++ natLE 1 source ++ natLE 1 mode ++ natLE 1 flags ++ natLE 4 s.modes.aonCount ++
    natLE 4 s.modes.postedSec ++ natLE 2 frames ++ natLE 2 ods
  ((s.wrB (0x101000 + h) e).wr 0x101008 ((h + 1) % 8)).inc (0x101100 + k.code)

/-- A pin configuration cell of the PIN island (R244, R415): reset only by POR; its object is loaded again in stage 0x5 of bring-up. -/
def pinCell (o : Nat) : Bool := o &&& 0xFF0F00 = 0x600000 && o % 256 < 16

/-- An object keeps its value through a reset of the core die (R415, R419). -/
def keptBy (keepW keepD : Bool) (o : Nat) : Bool :=
  pinCell o ||
    (match objPersist o with
     | .v => false
     | .w => keepW
     | .d => keepD
     | .n => false
     | .a => true)

/-- The objects after a reset (R419): those kept, and class N as stored in flash. -/
def persistObjs {α : Type} (kept : Nat → Bool) (objs flash : NMap α) : NMap α :=
  (flash.filter (fun e => !(kept e.1))).foldl (fun m e => minsert m e.1 e.2) (objs.filter (fun e => kept e.1))

/-- Every object takes the value that R419 gives it; class-N values not yet stored are lost (R319). -/
def State.persist (s : State) (kept : Nat → Bool) : State :=
  { s with
    objs := persistObjs kept s.objs s.flash
    blobs := persistObjs kept s.blobs s.flashBlobs
    stores := [] }

/-- The message buses after a reset of the core die: controllers at reset, the transceivers of the port die as they are (R280, R415). -/
def BusSt.afterReset (b : BusSt) : BusSt := { xcvr := b.xcvr }

/-- Snapshots at a reset (R466): a warm one ends collections incomplete and keeps the slots, any other frees them. -/
def State.resetSnaps (s : State) (warm : Bool) : State :=
  if warm then (List.range 4).foldl (fun s k => s.uncollected k 0) s else { s with snaps := [] }

/-- What a reset of the core die leaves (R73, R212, R311, R410, R415, R417, R419, R460): its islands at reset, the port die at core loss, objects by
their class, the journal where class W is kept. -/
def State.clearCore (s : State) (warm keepD : Bool) : State :=
  let s1 := (s.resetSnaps warm).keeperStops
  let s2 := (s1.coreLost.resetPins).persist (keptBy warm keepD)
  let copy := s.copyKept
  { s2 with
    seq := {}, ports := [], ring := {}, time := {}, pawns := {}, od := {}, bridge := {}, switch := {}, repair := {}
    bus := s2.bus.afterReset
    sleep := { unread := if keepD then s2.sleep.unread else 0 }
    power := { s2.power with copy }
    pair := { sel := s2.pair.sel }
    journal := { s2.journal with recs := if warm then s2.journal.recs else [] }
    modes := { s2.modes with wrst := false } }

/-- The update unit keeps what lies in flash: the slots and the boot record (R430, R431). Staging, a promotion and a handover that run are cut off
(R434, R440). -/
def UpdateSt.afterReset (u : UpdateSt) : UpdateSt := { u with staging := [], total := 0, bootDefer := none, autoSwitch := false, promoting := 0, copying := {}, handover := .idle, setStores := [] }

/-- A reset of the core die (R407 rows 16 and 17, R417): the reset cause is stored first, with the frames and OD accesses of a warm reset; the hub is in
Standby until the reset ends. -/
def State.coreReset (s : State) (k : ResetKind) (source : Nat) : State :=
  let warm := k.warm source
  let frames := if warm then min s.switch.stored.length 0xFFFF else 0xFFFF
  let ods := if warm then min s.odHeld 0xFFFF else 0xFFFF
  let s1 := s.resetCause k source (modeCode s.mode) (b2n s.inBrace) frames ods
  let s2 := if k = .wdr then (s1.inc 0x102002).wr 0x102003 (min 3 (s1.rd 0x102003 + 1)) else s1
  let s3 := s2.clearCore warm warm
  let sizes : BridgeSt := { aperP := s.bridge.aperP, aperN := s.bridge.aperN, aperSet := s.bridge.aperSet }
  { s3 with mode := .standby, update := s3.update.afterReset, bridge := if k = .wrst || k = .wdr then sizes else s3.bridge }

end Sys2Proof.Machine
end

