-- ==== Sys2Proof/Machine/Power.lean ====
section
/-!
DEFINITION. Supplies, power channels and seating at work (R367 to R388), and brace (R420, R421).
-/
namespace Sys2Proof.Machine

/-- The AON and PWR islands are powered. -/
def State.powered (s : State) : Bool := s.mode != .noPower

/-- A rail index of R367. -/
def railOk (r : Nat) : Bool := (0x10 ≤ r && r ≤ 0x15) || (0x20 ≤ r && r < 0x30)

/-- The core rails of R367: VDDC, VDDS and VDDH. -/
def coreRail (r : Nat) : Bool := 0x10 ≤ r && r ≤ 0x12

/-- A record about a rail (R387): codes 1 warning, 2 warning ended, 3 reset level. -/
def State.railJournal (s : State) (reason rail code : Nat) : State :=
  if coreRail rail && s.coreRailsQuiet then s else s.raise .aon 0x00 reason (powerTag rail code 0 0)

/-- The rail starts brace now (R367, R397). -/
def State.startsBrace (s : State) (rail : Nat) : Bool := braceRails.testBit rail && !(coreRail rail && s.coreRailsQuiet)

/-- The hub is in brace, and recovering: every rail that holds it there has left its warning level (R421). -/
def State.recovering (s : State) : Bool := s.inBrace && s.braceWarn = 0

/-- A warning brings or keeps the hub in brace (R420, R421): its first rail and the number of warnings are kept. -/
def State.noteBrace (s : State) (rail : Nat) : State :=
  match s.power.brace with
  | some (first, n) => { s with power := { s.power with brace := some (first, n + 1) } }
  | none => if s.startsBrace rail then ({ s with power := { s.power with brace := some (rail, 1) } }).inc 0x103002 else s

/-- A rail falls below its warning level (R367, R368, R387). -/
def State.supplyWarning (s : State) (rail : Nat) : State :=
  if s.powered && railOk rail && !(s.power.warn.testBit rail) then
    let s1 := { s with power := { s.power with
      warn := setBit s.power.warn rail true
      again := if s.recovering then setBit s.power.again rail true else s.power.again } }
    let s2 := if s.startsBrace rail then s1.inc 0xA00005 else s1
    (s2.noteBrace rail).railJournal 0x71 rail 1
  else s

/-- A rail rises above its warning level plus hysteresis (R367, R387). -/
def State.warningLeft (s : State) (rail : Nat) : State :=
  if s.powered && railOk rail && s.power.warn.testBit rail then
    ({ s with power := { s.power with warn := setBit s.power.warn rail false } }).railJournal 0x71 rail 2
  else s

/-- Brace ends after its recovery time, having lasted `ms` (R421). -/
def State.braceEnd (s : State) (ms : Nat) : State :=
  match s.power.brace with
  | some (first, n) =>
    if s.powered && s.braceWarn = 0 then
      ({ s with power := { s.power with brace := none, again := 0 } }).raise (if s.modes.keeperUp then .mgt else .aon) 0x00 0x74
        (first * 2 ^ 24 + min n 255 * 2 ^ 16 + min ms 65535)
    else s
  | none => s

/-- A CPR starts (R407 row 16): in any powered mode but Doze, unless the core rails were already absent. -/
def State.startCpr (s : State) (source : Nat) : State :=
  if s.powered && s.mode != .doze && !(s.mode = .standby && s.power.under &&& (7 * 2 ^ 0x10) != 0) then s.coreReset .cpr source else s

/-- A channel turns off (R381); with the inlet go the e-fuses and the core supplies (R386, R407 row 16). -/
def State.powerOff (s : State) (c code : Nat) : State :=
  if s.gateOn c then
    let s1 := s.chanOff c code
    if c = 8 then s1.fusesOff.startCpr 0x08 else s1
  else s

/-- A POR begins (R368, R407 row 18): everything but the AON retention store and the flash is lost; below 1.80 V the retention store too. INH is
released (R476). -/
def State.porStart (s : State) (below : Bool) : State :=
  let from_ := modeCode s.mode
  let s1 := (s.clearCore false false).persist (fun o => !below && objPersist o = .a)
  let runs := (List.range 9).foldl (fun t c => if t.gateOn c then t.wr (chanObj c 1 0) 0 else t) s1
  let p := runs.power
  let vcan : State := if p.under.testBit 0x14 then [0, 1].foldl (fun t k => t.wr (xcvrObj k 5) 2) runs else runs
  { vcan.wr 0x712000 0 with
    mode := .noPower
    pins := { owner := if below then 0 else runs.pins.owner, raw := runs.pins.raw, filt := runs.pins.raw }
    bus := {}
    power := { warn := p.warn, under := p.under, copyLost := p.copyLost || below, copy := if below then [] else p.copy,
               cmd := if below then [] else p.cmd, retry := if below then 0 else p.retry, retryMs := if below then [] else p.retryMs }
    doze := {}
    pair := {}
    snaps := []
    journal := if below then {} else { plog := runs.journal.plog, plogCnt := runs.journal.plogCnt, plogLost := runs.journal.plogLost }
    update := runs.update.afterReset
    modes := { aonLost := below, porMode := from_, porSource := 0x13, porBrace := s.inBrace } }

/-- VAON falls below its retention level of 1.80 V while the hub is in POR (R368): class A and the AON copy are lost too. -/
def State.retentionLost (s : State) : State :=
  let s1 := s.persist (fun o => objPersist o != .a)
  { s1 with
    pins := { s1.pins with owner := 0 }
    power := { s1.power with cmd := [], retry := 0, retryMs := [], copyLost := true, copy := [] }
    journal := {}
    modes := { s1.modes with aonLost := true } }

/-- VAON falls below its reset level (R367, R368, R387): journalled, and the POR follows; a further fall below 1.80 V loses the retention store. -/
def State.vaonLoss (s : State) (below : Bool) : State :=
  if s.powered then ((({ s with power := { s.power with under := setBit s.power.under 0x13 true } }).railJournal 0x72 0x13 3)).porStart below
  else if below then s.retentionLost else s

/-- A rail crosses its reset level (R367): its action follows, journalled (R387). In POR a core rail is only known to be absent. -/
def State.resetLevel (s : State) (rail : Nat) : State :=
  if !s.powered && coreRail rail then { s with power := { s.power with under := setBit s.power.under rail true } }
  else if s.powered && railOk rail && !(s.power.under.testBit rail) then
    if rail = 0x13 then s.vaonLoss false
    else
      let t := s.railJournal 0x72 rail 3
      let low (u : State) : State := { u with power := { u.power with under := setBit u.power.under rail true } }
      if coreRail rail then
        if s.mode = .doze then low { t with doze := { t.doze with fell := setBit t.doze.fell (rail - 0x10) true } }
        else low (t.startCpr rail)
      else if rail = 0x14 then (low t).vcanLow
      else if rail = 0x15 then (low t).powerOff 8 0x07
      else (low t).bankLost (rail - 0x20)
  else s

/-- A rail rises above its reset level by the hysteresis (R367): VCAN returns the transceivers (R280), a bank is present again (R241). -/
def State.resetLevelLeft (s : State) (rail : Nat) : State :=
  if (s.powered && railOk rail) || coreRail rail then
    let t := { s with power := { s.power with under := setBit s.power.under rail false } }
    if rail = 0x14 then t.vcanBack else if 0x20 ≤ rail then t.bankPresent (rail - 0x20) else t
  else s

/-- VHS above the overvoltage level (R369). -/
def State.overvoltage (s : State) : State := if s.powered then s.powerOff 8 0x08 else s

/-- A binary32 value in units of 2^-149 (R315). -/
def f32Int (v : Nat) : Int :=
  let m := bits v 22 0
  let e := bits v 30 23
  let a : Nat := if e = 0 then m else (2 ^ 23 + m) * 2 ^ (e - 1)
  if bit v 31 then -(a : Int) else a

/-- VHS in mV lies between the undervoltage and the overvoltage level (R372 condition 3); after fault 0x07 or 0x08 clear of the hysteresis of R367,
2 % of the level (R369). -/
def State.vhsStarts (s : State) (vhs : Nat) : Bool :=
  let uv := s.pwrParam 0xA00002
  let ov := s.pwrParam 0xA00003
  let last := s.rd (chanObj 8 1 1)
  decide (uv < vhs) && decide (vhs < ov) &&
    ((last != 0x07 && last != 0x08) || (decide (102 * uv ≤ 100 * vhs) && decide (100 * vhs ≤ 98 * ov)))

/-- The run state lets a channel start (R372 condition 4, R381): it is off, or its MOSFET short has ended with its cause. -/
def State.restState (s : State) (c : Nat) (conducting : Bool) : Bool := s.chanRun c = 0 || (s.chanRun c = 7 && !conducting)

/-- The start conditions of R372, for a temperature (binary32) and a VHS measured in mV. -/
def State.mayStart (s : State) (c temp vhs : Nat) (conducting : Bool) : Bool :=
  s.startWanted c && s.power.seated &&
    (if c = 8 then !(s.power.under.testBit 0x15) && s.vhsStarts vhs
     else s.power.pg.testBit 8 && (s.mode != .doze || s.pwrParam (chanObj c 0 9) = 1)) &&
    s.restState c conducting && !(s.power.retry.testBit c) &&
    decide (f32Int temp + f32Int (s.pwrParam (chanObj c 0 0x15)) ≤ f32Int (s.pwrParam (chanObj c 0 0x14)))

/-- A channel starts at the inrush limit (R372, R373). -/
def State.channelStart (s : State) (c temp vhs : Nat) (conducting : Bool) : State :=
  if s.powered && c < 9 && s.mayStart c temp vhs conducting then s.wr (chanObj c 1 0) 2 else s

/-- A start completes (R373, R379): the power-good delay begins. -/
def State.startComplete (s : State) (c : Nat) : State := if s.powered && c < 9 && s.chanRun c = 2 then s.wr (chanObj c 1 0) 3 else s

/-- A start takes longer than its timeout (R373). -/
def State.startTimeout (s : State) (c : Nat) : State := if s.powered && c < 9 && s.chanRun c = 2 then s.powerOff c 0x04 else s

/-- The fault timer of a channel that is on first counts (R371, R380). -/
def State.timerStart (s : State) (c : Nat) : State := if s.powered && c < 9 && s.chanRun c = 3 then s.wr (chanObj c 1 0) 4 else s

/-- The fault timer count returns to zero (R380): a stopped power-good delay starts again. -/
def State.timerZero (s : State) (c : Nat) : State := if s.powered && c < 9 && s.chanRun c = 4 then s.wr (chanObj c 1 0) 3 else s

/-- The fault timer trips (R371). -/
def State.timerTrip (s : State) (c : Nat) : State := if s.powered && c < 9 && s.chanRun c = 4 then s.powerOff c 0x01 else s

/-- A fast trip (R371): the channel returns to regulation, and the trip is counted. -/
def State.fastTrip (s : State) (c : Nat) : State := if s.powered && c < 9 && s.gateOn c then s.inc (chanObj c 1 9) else s

/-- The model temperature reaches the trip temperature (R375). -/
def State.modelTrip (s : State) (c temp : Nat) : State :=
  if s.powered && c < 9 && s.pwrParam (chanObj c 0 0xE) != 1 && f32Int (s.pwrParam (chanObj c 0 0x14)) ≤ f32Int temp then s.powerOff c 0x02 else s

/-- The diode temperature reaches the diode trip (R375). -/
def State.diodeTrip (s : State) (c temp : Nat) : State :=
  if s.powered && c < 8 && s.pwrParam (chanObj c 0 0xE) != 0 && f32Int (s.pwrParam (chanObj c 0 0x16)) ≤ f32Int temp then s.powerOff c 0x03 else s

/-- The gate stays below 6.0 V above the source while the channel is on (R381). -/
def State.gateFault (s : State) (c : Nat) : State :=
  if s.powered && c < 9 && (s.chanRun c = 3 || s.chanRun c = 4) then s.powerOff c 0x05 else s

/-- A MOSFET conducts while its gate is off (R385): state 7, power-good withdrawn, journalled. -/
def State.mosfetShort (s : State) (c : Nat) : State :=
  if s.powered && c < 9 && !(s.gateOn c) && s.chanRun c != 7 then
    let s1 := { s with power := { s.power with pg := setBit s.power.pg c false } }
    ((s1.wr (chanObj c 1 1) 0x06).wr (chanObj c 1 0) 7).chanJournal c 0x06
  else s

/-- SEAT_A or SEAT_B is high (R376, R387): every gate turns off, and the loss is journalled once. -/
def State.seatingLost (s : State) : State :=
  if s.powered && s.power.seated then
    let inlet := s.gateOn 8
    let s1 := s.unseat.raise .pwr 0x00 0x73 (powerTag 0x09 0x09 0 0)
    if inlet then s1.startCpr 0x08 else s1
  else s

/-- Both seating pins have been low for the qualification time (R376). -/
def State.seatingQualified (s : State) : State := if s.powered then { s with power := { s.power with seated := true } } else s

/-- A power-good delay ends (R379, R380): a fault timer that counts overrules it. -/
def State.powerGood (s : State) (c : Nat) : State :=
  if s.powered && c < 9 && s.chanRun c = 3 then { s with power := { s.power with pg := setBit s.power.pg c true } } else s

/-- A retry timer expires (R382). -/
def State.retryExpired (s : State) (c : Nat) : State :=
  if s.powered && c < 9 && s.power.retry.testBit c then
    let s1 := { s with power := { s.power with retry := setBit s.power.retry c false } }
    if s.chanRun c = 5 then s1.wr (chanObj c 1 0) 0 else s1
  else s

/-- A channel has been on with power-good for the good time (R382). -/
def State.goodTime (s : State) (c : Nat) : State :=
  if s.powered && c < 9 && s.gateOn c && s.power.pg.testBit c then s.wr (chanObj c 1 2) 0 else s

/-- A write of 1 to A.1c1.0A (R385); refused while the MOSFET conducts with its gate off. -/
def State.clearFault (s : State) (c : Nat) (conducting : Bool) : OdRes :=
  if s.chanRun c = 7 && conducting then errRes s 0x02
  else
    let s1 := { s with power := { s.power with retry := setBit s.power.retry c false } }
    let s2 := (s1.wr (chanObj c 1 2) 0).wr (chanObj c 1 1) 0
    okRes (if 5 ≤ s.chanRun c then s2.wr (chanObj c 1 0) 0 else s2)

/-- A channel command is accepted (R386): for the inlet in Hold and Configure only. -/
def State.channelCmdOk (s : State) (c : Nat) : Bool := c != 8 || s.mode = .hold || s.mode = .configure

/-- A write of 1 to A.1c1.0B (R386). -/
def State.channelOn (s : State) (c : Nat) : OdRes :=
  if s.channelCmdOk c then okRes { s with power := { s.power with cmd := minsert s.power.cmd c true } } else errRes s 0x02

/-- A write of 0 to A.1c1.0B (R386). -/
def State.channelOff (s : State) (c : Nat) : OdRes :=
  if s.channelCmdOk c then okRes (({ s with power := { s.power with cmd := minsert s.power.cmd c false } }).powerOff c 0x0B) else errRes s 0x02

end Sys2Proof.Machine
end

