-- ==== Sys2Proof/Machine/Sleep.lean ====
section
/-!
DEFINITION. Changing mode (R407, R408, R410, R423), and fabric sleep and wake (R390 to R405).
-/
namespace Sys2Proof.Machine

/-- A part of the hub is isolated (R41, R446): an island or a bus controller. -/
def State.anyIsolated (s : State) : Bool := s.rd 0xC05100 != 0 || s.rd 0xC05101 != 0

/-- The mode in which a part is isolated or not (R407 row 6). -/
def State.runMode (s : State) : Mode := if s.anyIsolated then .repair else .run

/-- The hub enters a mode (R407, R408): the contract leaves force outside Run and Repair, the gates close on leaving Configure for service (R177), and
Configure clears the count of consecutive WDRs (R423). -/
def State.enterMode (s : State) (m : Mode) : State :=
  let serves := m = .run || m = .repair
  let s1 := { s with mode := m, seq := { s.seq with inForce := s.seq.inForce && serves } }
  let s2 := if s.mode = .configure && (serves || m = .hold) then s1.closeGates else s1
  if m = .configure then s2.wr 0x102003 0 else s2

/-- Raises a record whose item tag no rule lays out: the tag is free. -/
def State.raiseOpen (s : State) (i : Island) (cls reason : Nat) : State := (s.tookFree).raise i cls reason (s.freeNat 32)

/-- The sleep state of B.000.07 (R406). -/
def State.sleepState (s : State) : Nat := s.rd 0xB00007

/-- Sends a sleep message to the sleep fork group (R391): code and bytes 12 onward. -/
def State.sendSleep (s : State) (code : Nat) (body : List Byte) : State :=
  s.sendFork (s.rd 0xB00002) (controlHead code s.node s.cycle ++ body)

/-- WAKE_ALL (R391). -/
def State.sendWakeAll (s : State) (source : Nat) : State :=
  s.sendSleep 0x0B14 (natBE 4 ((s.sleep.prop.map (·.num)).getD 0) ++ natBE 1 source ++ zeros 3)

/-- SLEEP_CANCEL (R391). -/
def State.sendCancel (s : State) (num cause : Nat) : State := s.sendSleep 0x0B13 (natBE 4 num ++ natBE 1 cause ++ zeros 3)

/-- The current master, as this hub accepts it (R390: 8.010.04). -/
def State.fromMaster (s : State) (sender : Nat) : Bool := sender = s.rd 0x801004 && sender != 0

/-- A source is enabled to wake (R400): the ring watch once it is armed, which it is in Doze alone. -/
def State.wakeEnabled (s : State) (code : Nat) : Bool :=
  match code with
  | 1 => bit (s.rd 0xB01000) 0
  | 2 => s.rd (xcvrObj 0 2) = 1
  | 3 => s.rd (xcvrObj 1 2) = 1
  | 8 => s.rd 0xB01003 != 0
  | _ => 4 ≤ code && code ≤ 7 && s.doze.armed

/-- The list of flagged nodes, oldest first (R405). -/
def State.flagged (s : State) : List Nat := ((List.range 16).map (fun k => leField (s.rdB 0xB03200) (2 * k) 2)).filter (fun n => n != 0)

/-- Writes the list of flagged nodes. -/
def State.setFlagged (s : State) (l : List Nat) : State := s.wrB 0xB03200 (padTo 32 (l.flatMap (natLE 2)))

/-- A node is flagged (R405): listed, and journalled by the master. -/
def State.flagNode (s : State) (n reason : Nat) : State :=
  let l := s.flagged
  if l.contains n then s
  else
    let l1 := (if l.length < 16 then l else l.drop 1) ++ [n]
    (s.setFlagged l1).raise .mgt 0x00 0x76 (reason * 2 ^ 24 + n)

/-- One entry of the insomniac log (R404, R405). -/
def State.logVeto (s : State) (num node reason consec : Nat) : State :=
  let h := s.rd 0xB03100 % 32
  let s1 := if s.sleep.unread.testBit h then s.inc 0xB03101 else s
  let e := natLE 4 num ++ natLE 2 node ++ natLE 1 reason ++ zeros 1 ++ natLE 2 (consec % 65536) ++ zeros 2
  let s2 := (s1.wrB (0xB03000 + h) e).wr 0xB03100 ((h + 1) % 32)
  let s3 := { s2 with sleep := { s2.sleep with unread := setBit s2.sleep.unread h true, consec := minsert s2.sleep.consec node consec } }
  if s.rd 0xB00004 ≤ consec then s3.flagNode node reason else s3

/-- The master's proposal ends without a commit, with a cause (R391 to R401). -/
def State.endProposal (s : State) (cause : Nat) : State :=
  match s.sleep.mine with
  | some m =>
    if s.sleep.done then s
    else
      let s1 := s.sendCancel m.num cause
      ({ s1 with sleep := { s1.sleep with mine := none, prop := none, votes := [] } }).wr 0xB00007 0
  | none => s

/-- The vetoes that the master holds are logged (R404). -/
def State.logVetoes (s : State) : State :=
  match s.sleep.mine with
  | some m => (s.sleep.votes.filter (fun e => e.2.1 != 0)).foldl (fun s e => s.logVeto m.num e.1 e.2.2.1 e.2.2.2) s
  | none => s

/-- The master's proposal is cancelled before its vote deadline (R392, R395, R401): the vetoes that have come are logged (R404). -/
def State.cancelMine (s : State) (cause : Nat) : State := if s.sleep.done then s else s.logVetoes.endProposal cause

/-- A write of 1 to B.000.01 (R392): on the master, with no proposal outstanding. Its number is above every one before, those cancelled included. -/
def State.proposeSleep (s : State) : OdRes :=
  if s.servo != 5 || s.sleep.mine.isSome then errRes s 0x02
  else
    let n := (s.rd 0xB00008 + 1) % 2 ^ 32
    okRes (({ s with sleep := { s.sleep with mine := some ⟨n, 0, 0, s.node⟩, toSend := true, done := false, votes := [] } }).wr 0xB00007 1 |>.wr 0xB00008 n)

/-- A write of 2 to B.000.01 (R392): accepted only before the commit. -/
def State.cancelSleep (s : State) : OdRes :=
  if s.servo != 5 || s.sleep.mine.isNone || s.sleep.done then errRes s 0x02 else okRes (s.cancelMine 3)

/-- A source that a hub awake watches is enabled (R400): WAKE_IN or a message bus. -/
def State.wakeWatched (s : State) : Bool := [1, 2, 3].any s.wakeEnabled

/-- The veto reason of this hub, the lowest that applies (R393); `window` is the vote window in cycles, `active` says that a wake source is active. -/
def State.vetoReason (s : State) (window : Nat) (active : Bool) : Nat :=
  if s.rd 0xB00000 = 0 then 1
  else if s.rd 0xB00100 = 1 then 2
  else if (active && s.wakeWatched) || s.sleep.seen.any (fun e => decide (s.cycle ≤ e.2 + window)) then 3
  else if !(s.mode = .run || s.mode = .hold || s.mode = .configure) then 4
  else if s.stores != [] || s.rd 0xC02004 = 1 || s.rd 0xC02004 = 2 || s.rd 0x400001 = 1 || s.update.promoting != 0 then 5
  else if s.inBrace then 6
  else if s.bridge.linkUp && s.bridge.bme then 7
  else if s.anyIsolated then 8
  else 0

/-- The hub makes up its vote (R393): consecutive vetoes are counted in B.001.01 and restart on an accept. -/
def State.castVote (s : State) (p : Proposal) (window : Nat) (active : Bool) : State × Nat :=
  let r := s.vetoReason window active
  if r = 0 then (({ s with sleep := { s.sleep with prop := some p, back := none, swept := false, woke := none } }).wr 0xB00101 0, 0)
  else (s.inc 0xB00101, r)

/-- A control message has a code and a length of R391. -/
def isMessage (payload : List Byte) (code len : Nat) : Bool := beField payload 0 2 = code && payload.length = len

/-- A member that has accepted a commit goes on with it (R395): it takes no other proposal until it has entered or aborted. -/
def State.committed (s : State) : Bool := s.sleep.back.isSome

/-- A member receives SLEEP_PROPOSE (R391, R393): from the current master; it answers each proposal with one vote. -/
def State.proposeIn (s : State) (payload : List Byte) (active : Bool) : State :=
  let sender := beField payload 2 2 % 1024
  let p : Proposal := ⟨beField payload 12 4, beField payload 16 8, beField payload 24 8, sender⟩
  if s.ticking && isMessage payload 0x0B10 32 && s.fromMaster sender && sender != s.node && s.sleep.answered != some p && !s.committed then
    let (s1, r) := ({ s with sleep := { s.sleep with answered := some p } }).castVote p (p.v - beField payload 4 8) active
    let s2 := s1.wr 0xB00008 p.num
    let s3 := if r = 0 then s2.wr 0xB00007 2 else s2
    s3.sendControl sender (controlHead 0x0B11 s.node s.cycle ++ natBE 4 p.num ++ natBE 1 (b2n (r != 0)) ++ natBE 1 r ++ natBE 2 (s3.rd 0xB00101))
  else s

/-- The master holds a node's vote (R393, R405): result, reason and consecutive vetoes; an accept takes the node off the flag list. -/
def State.holdVote (s : State) (n r reason consec : Nat) : State :=
  let s1 := { s with sleep := { s.sleep with votes := minsert s.sleep.votes n (r, reason, consec) } }
  if r = 0 then
    let s2 := { s1 with sleep := { s1.sleep with consec := merase s1.sleep.consec n } }
    s2.setFlagged (s2.flagged.filter (fun k => k != n))
  else s1

/-- The master receives a vote (R393, R394). -/
def State.voteIn (s : State) (payload : List Byte) : State :=
  match s.sleep.mine with
  | some m =>
    if s.ticking && isMessage payload 0x0B11 20 && m.num = beField payload 12 4 && !s.sleep.done then
      s.holdVote (beField payload 2 2 % 1024) (beField payload 16 1) (beField payload 17 1) (beField payload 18 2)
    else s
  | none => s

/-- The sleep members (R390: B.000.03, bit n for node n). -/
def State.members (s : State) : List Nat :=
  let m := leNat (s.rdB 0xB00003)
  (List.range 1023).filter (fun n => n != 0 && m.testBit n)

/-- SLEEP_COMMIT (R391). -/
def State.sendCommit (s : State) (m : Proposal) : State := s.sendSleep 0x0B12 (natBE 4 m.num ++ natBE 8 m.p)

/-- A member is committed (R395, R410): a pending mode request is withdrawn. -/
def State.commitTo (s : State) (p : Nat) : State :=
  match s.sleep.prop with
  | some x =>
    (({ s with sleep := { s.sleep with prop := some { x with p := p }, back := some s.mode } }).wr 0xB00007 3).wr 0x100101 0xFF
  | none => s

/-- At the boundary of cycle V the master commits or cancels, and logs vetoes and missing votes (R394). -/
def State.judgeVotes (s : State) (m : Proposal) : State :=
  let bad := s.members.filterMap (fun n => match mfind s.sleep.votes n with
    | some (0, _, _) => none
    | some (_, reason, c) => some (n, reason, c)
    | none => some (n, 0xFE, mget 0 s.sleep.consec n + 1))
  if bad = [] then ({ s with sleep := { s.sleep with done := true } }).commitTo m.p
  else
    let s1 := bad.foldl (fun s e => s.logVeto m.num e.1 e.2.1 e.2.2) s
    s1.endProposal (if bad.any (fun e => e.2.1 != 0xFE) then 0 else 1)

/-- The master's part of a cycle boundary (R392, R394, R395). Whether a wake source is active as it votes is free. -/
def State.masterSleep (s : State) : State :=
  match s.sleep.mine with
  | none => s
  | some m =>
    if s.servo != 5 then s.cancelMine 4
    else if s.sleep.toSend then
      let v := s.cycle + s.rd 0xB00005
      let p : Proposal := ⟨m.num, v, v + s.rd 0xB00006, s.node⟩
      let s1 := ({ s with sleep := { s.sleep with mine := some p, toSend := false } }).wr 0xB00008 p.num
      let (s2, r) := s1.tookFree.castVote p (s.rd 0xB00005) (s1.freeNat 1 = 1)
      let s3 := s2.holdVote s.node (b2n (r != 0)) r (s2.rd 0xB00101)
      s3.sendSleep 0x0B10 (natBE 4 p.num ++ natBE 8 p.v ++ natBE 8 p.p)
    else
      let s1 := if s.cycle = m.v && !s.sleep.done then s.judgeVotes m else s
      if s1.sleep.done && s1.sleepState = 3 && m.v ≤ s.cycle && s.cycle + 2 ≤ m.p then s1.sendCommit m else s1

/-- A member aborts its entry (R401): counted and journalled once; it returns to the mode of its commit at the next boundary. -/
def State.abortSleep (s : State) : State :=
  (((s.wr 0xB00007 5).inc 0xB02004).raiseOpen .mgt 0x00 0x75)

/-- Committed or entering: a WAKE_ALL or a wake of its own before the point of no return aborts (R401). -/
def State.sleepBound (s : State) : Bool := s.sleepState = 3 || s.sleepState = 4

/-- A proposal is dropped by a member (R391, R395). -/
def State.dropProposal (s : State) : State := ({ s with sleep := { s.sleep with prop := none } }).wr 0xB00007 0

/-- R407 row 12 takes a committed member to Hold from this mode. -/
def State.rowTwelve (s : State) : Bool := s.mode = .run || s.mode = .hold || s.mode = .configure

/-- The member's part of a cycle boundary (R395, R396, R401): after an abort it returns; at P − 1 it enters Hold, or sends WAKE_ALL where it has no commit;
a change of master cancels what is not committed. DESIGN CHOICE (log 141): a committed member that is in Test or Repair at P − 1 has no row of R407 into Hold;
R407 governs, and the member aborts and sends WAKE_ALL, as one that cannot enter. -/
def State.memberSleep (s : State) : State :=
  if s.sleepState = 5 then
    match s.sleep.back with
    | some m =>
      let s1 := if s.mode = .hold && m != .hold then s.enterMode (if m = .run then s.runMode else m) else s
      { s1 with sleep := { s1.sleep with back := none, prop := none, mine := none, done := false } }
    | none => s
  else match s.sleep.prop with
    | none => s
    | some p =>
      if s.sleepState = 3 then
        if s.cycle + 1 = p.p then (if s.rowTwelve then (s.enterMode .hold).wr 0xB00007 4 else s.abortSleep.sendWakeAll 0x0E) else s
      else if s.sleepState = 4 then s
      else if p.master != s.rd 0x801004 then s.dropProposal
      else if p.p ≤ s.cycle + 1 then (s.sendWakeAll 0x0E).dropProposal
      else s

/-- The ports of this hub that are up (R403). -/
def State.anyPortUp (s : State) : Bool := [Port.e, .w, .s0, .s1].any s.portUsable

/-- A waking hub sends WAKE_ALL once its ports are up (R403). -/
def State.wakeSleep (s : State) : State :=
  if s.doze.owes && s.anyPortUp then ({ s with doze := { s.doze with owes := false } }).sendWakeAll (s.rd 0xB02000 % 128) else s

/-- What a cycle boundary does for sleep. -/
def State.sleepAtBoundary (s : State) : State := s.masterSleep.memberSleep.wakeSleep

/-- A member receives SLEEP_COMMIT (R395): from the current master, for the proposal it accepted. Where a wake of its own came in between, its entry is
aborted (R401). -/
def State.commitIn (s : State) (payload : List Byte) : State :=
  match s.sleep.prop with
  | some p =>
    if s.ticking && isMessage payload 0x0B12 24 && s.fromMaster (beField payload 2 2 % 1024) && p.num = beField payload 12 4 && s.sleepState = 2 then
      let t := s.commitTo (beField payload 16 8)
      if s.sleep.woke.isSome then t.abortSleep else t
    else s
  | none => s

/-- A member receives SLEEP_CANCEL (R391, R395): it ends a proposal that is not committed. -/
def State.cancelIn (s : State) (payload : List Byte) : State :=
  match s.sleep.prop with
  | some p =>
    if s.ticking && isMessage payload 0x0B13 20 && s.fromMaster (beField payload 2 2 % 1024) && p.num = beField payload 12 4 && s.sleepState = 2 then s.dropProposal
    else s
  | none => s

/-- A wake is seen by a hub that is awake (R393, R400): noted with its cycle. -/
def State.sawWake (s : State) (code : Nat) : State := { s with sleep := { s.sleep with seen := minsert s.sleep.seen code s.cycle } }

/-- WAKE_ALL is received (R401): a committed member aborts before its point of no return, and one that has aborted ignores it; for any other it is a
wake seen, on which a member that has yet to vote vetoes, the master too; a member that has accepted aborts should a commit cross it, and the master cancels
before its commit. -/
def State.wakeAllIn (s : State) : State :=
  if s.ticking then
    if s.sleepBound then s.abortSleep
    else if s.committed then s
    else if s.sleep.toSend then s.sawWake 0x0E
    else if s.sleep.mine.isNone && s.sleepState = 2 then { s.sawWake 0x0E with sleep := { (s.sawWake 0x0E).sleep with woke := some 0x0E } }
    else (s.sawWake 0x0E).cancelMine 2
  else s

/-- At beat L − 64 of cycle P − 1 (R396): frames are discarded and bus requests abandoned, once. -/
def State.sleepSweep (s : State) : State :=
  if s.sleepState = 4 && !s.sleep.swept && s.cycleLen = s.beat + 64 then
    let s1 := { s with sleep := { s.sleep with swept := true } }
    (List.range 8).foldl (fun s n => s.abandonAll n) s1.discardAll
  else s

/-- The point of no return (R396, R397, R399, R419, R424): the first AON tick of cycle P. The Doze entry is recorded, the core die is lost, both
transceivers sleep, INH is released, and e-fuses turn off by their Doze action. -/
def State.pointOfNoReturn (s : State) : State :=
  match s.sleep.prop with
  | some p =>
    if s.ticking && s.sleepState = 4 && s.mode = .hold && p.p ≤ s.cycle then
      let s1 := s.resetCause .dozeEntry 0x00 (modeCode s.mode) (b2n s.inBrace) 0xFFFF 0xFFFF
      let s2 := s1.clearCore false true
      let s3 := [0, 1].foldl (fun s t => (s.setWant t 3).setXcvr t 3) s2
      ({ s3 with mode := .doze, doze := {}, update := s3.update.afterReset }.dozeOff).inc 0xB02002
    else s
  | none => s

/-- 100 µs after the point of no return (R396). -/
def State.armRingWatch (s : State) : State := if s.mode = .doze then { s with doze := { s.doze with armed := true } } else s

/-- The AON island claims INH again (R402, R403). -/
def State.claimInh (s : State) : State := { s.wakeXcvrs with doze := { s.doze with inh := true } }

/-- A wake in Doze (R400, R402, R403): the first source is recorded; one that comes before INH can be reclaimed is a late wake, counted. -/
def State.dozeWake (s : State) (code : Nat) (late : Bool) : State :=
  if s.wakeEnabled code then
    let s1 := if s.doze.woken then s else
      ({ s with doze := { s.doze with woken := true } }.wr 0xB02000 code).wr 0xB02001 (s.modes.aonCount % 2 ^ 32)
    if s.doze.inh then s1
    else if late || s.doze.fell != 7 then s1.inc 0xB02005
    else s1.claimInh
  else s

/-- A wake source is registered (R400, R401): in Doze it wakes the hub; before the point of no return it aborts an entry or makes a member that accepted
send WAKE_ALL, whose entry a commit that crosses it then aborts; the master cancels once it has voted; outside these the wake counts as seen. -/
def State.wakeSource (s : State) (code : Nat) (late : Bool) : State :=
  if s.mode = .doze then s.dozeWake code late
  else if s.ticking && code ≤ 7 && s.wakeEnabled code then
    let s1 := s.sawWake code
    if s1.sleepBound then s1.abortSleep.sendWakeAll code
    else if s1.sleep.mine.isSome then (if s1.sleep.toSend then s1 else s1.cancelMine 2)
    else if s1.sleepState = 2 then ({ s1 with sleep := { s1.sleep with woke := some code } }).sendWakeAll code
    else s1
  else s

/-- The wake timer expires (R400): it counts from the point of no return. -/
def State.wakeTimer (s : State) (late : Bool) : State := if s.mode = .doze then s.dozeWake 8 late else s

/-- INH is claimed again after a late wake (R402): once the core rails have fallen, or at 100 ms where they have not, which B.020.00 [7] says. -/
def State.inhReclaim (s : State) (slow : Bool) : State :=
  if s.mode = .doze && s.doze.woken && !s.doze.inh && (s.doze.fell = 7 || slow) then
    let s1 := if s.doze.fell = 7 then s else s.wr 0xB02000 (s.rd 0xB02000 % 128 + 128)
    s1.claimInh
  else s

/-- A bus wakes an integrated transceiver (R282): its wake flag is set, a sleeping one moves to Standby, and in Doze the hub wakes. -/
def State.busWake (s : State) (t : Nat) (late : Bool) : State :=
  if t < 2 && s.powered && s.rd (xcvrObj t 2) = 1 && 2 ≤ s.rd (xcvrObj t 0) then
    let s0 := { s with bus := { s.bus with xcvr := mset {} s.bus.xcvr t { s.xcvr t with woke := some s.aonTick } } }
    let s1 := s0.wr (xcvrObj t 3) 1
    let s2 := if s1.rd (xcvrObj t 0) = 3 && s1.mode != .doze then (s1.setWant t 2).setXcvr t 2 else s1
    s2.wakeSource (2 + t) late
  else s

/-- A write of 1 to B.032.01 (R405): it acts on the master only (R406). -/
def State.clearFlags (s : State) : State := if s.servo = 5 then s.setFlagged [] else s

end Sys2Proof.Machine
end

