-- ==== Sys2Proof/Machine/Fabric.lean ====
section
/-!
DEFINITION. Fabric requests at their target (R111, R114 to R116): the spaces of a hub, and the responses, acknowledgements and reports that answer them.
-/
namespace Sys2Proof.Machine

/-- The space of a fabric address (R116). -/
def fabSpace (a : Nat) : Nat := bits a 53 48

/-- The offset of a fabric address (R116). -/
def fabOff (a : Nat) : Nat := bits a 47 0

/-- What a space answers to an access (R114): the state after it, the outcome, and the data of a read. -/
structure FabAnswer where
  st      : State
  outcome : Nat := 0
  data    : List Byte := []
  deriving DecidableEq, Repr

/-- A refused access changes nothing else. -/
def refusal (s : State) (oc : Nat) : FabAnswer := { st := s, outcome := oc }

/-- One byte of a state map (R38): four words to a byte, the lowest word in the lowest bits. -/
def mapByte (m : NMap Nat) (k : Nat) : Byte := BitVec.ofNat 8 ((List.range 4).map (fun j => mget 0 m (4 * k + j) * 4 ^ j)).sum

/-- A read of an image space (R38, R73, R74): the completed bank, and the map of its states (R341: feature 1.2). -/
def State.imageRead (s : State) (sel : ImageSel) (o n : Nat) : FabAnswer :=
  let im := s.image sel
  if o + n ≤ 0x10000 then { st := s, data := memRead im.completed o n }
  else if 0x10000 ≤ o && o + n ≤ 0x11000 && s.feature 34 then
    { st := s, data := (List.range n).map (fun k => mapByte im.stMap (o - 0x10000 + k)) }
  else refusal s 0x3

/-- A write to an image space (R38, R73, R74): refused whole where it covers a declared record word; otherwise both banks take it. -/
def State.imageWrite (s : State) (sel : ImageSel) (o : Nat) (v : List Byte) : FabAnswer :=
  let im := s.image sel
  if o + v.length ≤ 0x10000 then
    if s.recordsIn sel o v.length = [] then
      { st := s.setImage sel { im with working := memWrite im.working o v, completed := memWrite im.completed o v } }
    else refusal s 0x4
  else if 0x10000 ≤ o && o + v.length ≤ 0x11000 && s.feature 34 then refusal s 0x5
  else refusal s 0x3

/-- A read of space 0x3F (R116): refused outside Test; in Test answered with an outcome and data that the spec does not document. -/
def State.testRead (s : State) (n : Nat) : FabAnswer :=
  if s.mode = .test then { st := s.tookFree.tookFreeBytes n, outcome := s.freeNat 4, data := s.tookFree.freeBytes n } else refusal s 0x5

/-- A write to space 0x3F (R116): refused outside Test; in Test answered with an outcome that the spec does not document. -/
def State.testWrite (s : State) : FabAnswer := if s.mode = .test then { st := s.tookFree, outcome := s.freeNat 4 } else refusal s 0x5

/-- A read of `n` bytes at an offset of a space (R116, R219, R220, R268, R461, R467). DEDUCED: a cluster or a controller that is isolated is reached by no fabric
access (R447), which is answered as R114 names it, target isolated. -/
def State.spaceRead (s : State) (space o n : Nat) : FabAnswer :=
  match space with
  | 0x00 => refusal s 0x8
  | 0x01 => s.imageRead .input o n
  | 0x02 => s.imageRead .output o n
  | 0x03 =>
    if 0x8000 < o + n then refusal s 0x3
    else if s.partIsolated (0x20 + o / 0x1000) then refusal s 0x6
    else
      let a := s.fifoRead (o / 0x100) (o % 0x100) n
      { st := a.st, outcome := a.outcome, data := natLE n a.value }
  | 0x04 =>
    if 0x40000 < o + n then refusal s 0x3
    else if s.partIsolated (0x80 + o / 0x8000) then refusal s 0x6
    else
      let (t, oc, d) := s.busRead o n
      { st := t, outcome := oc, data := d }
  | 0x05 =>
    if 0x10000 < o + n then refusal s 0x3
    else if s.partIsolated (0x20 + o / 0x2000) then refusal s 0x6
    else match s.imemRead o n with
      | some d => { st := s, data := d }
      | none => refusal s 0x8
  | 0x06 => if 0x4000 < o + n then refusal s 0x3 else { st := s, data := s.journalRead o n }
  | 0x07 =>
    if 0x100000 < o + n then refusal s 0x3
    else match s.snapRead o n with
      | some d => { st := s, data := d }
      | none => refusal s 0x5
  | 0x3F => s.testRead n
  | _ => refusal s 0x2

/-- A write at an offset of a space (R116, R219, R220, R268, R461, R467), an isolated cluster or controller as in a read. -/
def State.spaceWrite (s : State) (space o : Nat) (v : List Byte) : FabAnswer :=
  let n := v.length
  match space with
  | 0x00 => refusal s 0x8
  | 0x01 => s.imageWrite .input o v
  | 0x02 => s.imageWrite .output o v
  | 0x03 =>
    if 0x8000 < o + n then refusal s 0x3
    else if s.partIsolated (0x20 + o / 0x1000) then refusal s 0x6
    else
      let a := s.fifoWrite (o / 0x100) (o % 0x100) n (leNat v)
      { st := a.st, outcome := a.outcome }
  | 0x04 =>
    if 0x40000 < o + n then refusal s 0x3
    else if s.partIsolated (0x80 + o / 0x8000) then refusal s 0x6
    else
      let (t, oc) := s.busWrite o v
      { st := t, outcome := oc }
  | 0x05 =>
    if 0x10000 < o + n then refusal s 0x3
    else if s.partIsolated (0x20 + o / 0x2000) then refusal s 0x6
    else match s.imemWrite o v with
      | some t => { st := t }
      | none => refusal s 0x8
  | 0x06 => if 0x4000 < o + n then refusal s 0x3 else refusal s 0x5
  | 0x07 => if 0x100000 < o + n then refusal s 0x3 else refusal s 0x5
  | 0x3F => s.testWrite
  | _ => refusal s 0x2

/-- A request carries 1 to 2,048 bytes in every space (R116). -/
def lengthOk (n : Nat) : Bool := decide (0 < n) && decide (n ≤ 2048)

/-- A read of a fabric address of this hub. -/
def State.fabRead (s : State) (addr n : Nat) : FabAnswer :=
  if lengthOk n then s.spaceRead (fabSpace addr) (fabOff addr) n else refusal s 0x8

/-- A write to a fabric address of this hub. -/
def State.fabWrite (s : State) (addr : Nat) (v : List Byte) : FabAnswer :=
  if lengthOk v.length then s.spaceWrite (fabSpace addr) (fabOff addr) v else refusal s 0x8

/-- A response to a frame (R111, R114, R140): to its source, with its tag, class, flow label and address, in the name to which it was addressed. -/
def State.response (s : State) (f : Frame) (type outcome : Nat) (data : List Byte) : Frame :=
  inName (s.ownName f.dst) (s.newFrame f.src f.cls f.flow type f.addr f.tag outcome 0 data)

/-- A posted write that its target refuses (R115): journalled, and reported to its source. -/
def State.refusePosted (s : State) (f : Frame) (oc : Nat) : State := s.discardFrame f 0 oc (0x10 + oc)

/-- A posted write is served (R111, R115). -/
def State.servePosted (s : State) (f : Frame) : State :=
  let a := s.fabWrite f.addr f.payload
  if a.outcome = 0 then a.st else a.st.refusePosted f a.outcome

/-- A read request is served (R111, R114). -/
def State.serveRead (s : State) (f : Frame) : State :=
  let a := s.fabRead f.addr f.len
  a.st.sendFrame 4 (a.st.response f 0x2 a.outcome (if a.outcome = 0 then a.data else []))

/-- An acknowledged write is served (R111, R114). -/
def State.serveAcked (s : State) (f : Frame) : State :=
  let a := s.fabWrite f.addr f.payload
  a.st.sendFrame 4 (a.st.response f 0x4 a.outcome [])

/-- A frame's checks hold at its destination (R113). -/
def frameWhole (f : Frame) : Bool := headerCheck f = f.hcheck && frameCheck f = f.fcheck

/-- A request frame of a type reaches this hub's own spaces: the hub runs, and the frame is for a space that it serves itself (R164). -/
def State.forHub (s : State) (f : Frame) (type : Nat) : Bool := s.ticking && f.type = type && fabSpace f.addr != 0x08 && f.len = f.payload.length

end Sys2Proof.Machine
end

