-- ==== Sys2Proof/Machine/Bridge.lean ====
section
/-!
DEFINITION. The host bridge (R343 to R365): host reads and writes into the fabric, prefetch, fabric requests and scheduled COPYs toward the host, windows,
and resets.
-/
namespace Sys2Proof.Machine

/-- The item tag of R365. -/
def bridgeTag (tag window outcome slot : Nat) : Nat := tag % 65536 * 2 ^ 16 + window % 8 * 2 ^ 13 + outcome % 16 * 2 ^ 4 + slot % 8

/-- A bridge transaction is journalled (R360 vector 2, R365). -/
def State.bridgeJournal (s : State) (reason tag window outcome slot : Nat) : State :=
  (s.raise .hbr 0x03 reason (bridgeTag tag window outcome slot)).notice 2

/-- The Configuration Space class code of the function (R343). -/
def classCode : Nat := 0x118000

/-- Its Interrupt Pin (R343): INTx is not supported. -/
def interruptPin : Nat := 0

/-- The function notes an uncorrectable error (R343, AER); PRESUMED, the bits of the PCI Express Base Specification: 12 poisoned TLP received, 14 completion timeout,
15 completer abort, 20 unsupported request. -/
def State.aerNote (s : State) (k : Nat) : State := { s with bridge := { s.bridge with aer := setBit s.bridge.aer k true } }

/-- A Completion Timeout Value of the function (R343): disabled, or in ranges A and B, 50 µs to 250 ms; in ns. -/
def cplTimeOk (v : Nat) : Bool := v = 0 || (decide (50000 ≤ v) && decide (v ≤ 250000000))

/-- The bridge works: its island is released, not isolated, and its link is up. -/
def State.bridgeUp (s : State) : Bool := s.ticking && s.bridge.linkUp

/-- A range cut into pieces (R349, R353): `limit a` bytes at most from address `a`; `fuel` bounds their number. -/
def chunks (limit : Nat → Nat) : Nat → Nat → Nat → List (Nat × Nat)
  | 0, _, _ => []
  | fuel + 1, a, n => if n = 0 then [] else
      let m := min n (max 1 (limit a))
      (a, m) :: chunks limit fuel (a + m) (n - m)

/-- Pieces of at most 2,048 bytes, none across a 2,048-byte boundary (R349). -/
def fabPieces (a n : Nat) : List (Nat × Nat) := chunks (fun a => 2048 - a % 2048) (n / 2048 + 2) a n

/-- MWrs of at most Max Payload Size, none across 4 KiB (R353, R362). -/
def mwrPieces (mps a n : Nat) : List (Nat × Nat) := chunks (fun a => min mps (4096 - a % 4096)) (n + 1) a n

/-- MRds split at Max Read Request Size (R353). -/
def mrdPieces (mrrs a n : Nat) : List (Nat × Nat) := chunks (fun a => mrrs - a % max 1 mrrs) (n + 1) a n

/-- Completions of at most Max Payload Size, split at the Read Completion Boundary of 64 bytes (R343, R349). -/
def cplPieces (mps a n : Nat) : List (Nat × Nat) := chunks (fun a => mps - a % 64) (n + 1) a n

/-- A fabric transaction tag of the bridge cannot be issued now (R350): outstanding, or in quarantine. -/
def State.tagBusy (s : State) (t : Nat) : Bool :=
  s.bridge.held.any (fun h => h.pieces.any (fun p => p.answer.isNone && p.tag == t)) || s.bridge.pieces.any (fun p => p.acked && p.tag == t) ||
    s.bridge.quarant.any (fun q => q.1 == t && decide (s.nowNs < q.2))

/-- The tags that cannot be issued now: no two of these are one tag. -/
def State.busyTags (s : State) : Nat :=
  (s.bridge.held.map (fun h => (h.pieces.filter (fun (p : ReadPiece) => p.answer.isNone)).length)).sum + (s.bridge.pieces.filter (·.acked)).length +
    (s.bridge.quarant.filter (fun q => decide (s.nowNs < q.2))).length

/-- The next transaction tag of port 6 (R165, R350): the bridge asks for one only where one of its 4,096 is free. -/
def State.takeTag (s : State) : State × Nat :=
  let k := ((List.range 4096).find? (fun k => !(s.tagBusy (0x6000 + (s.bridge.nextTag + k) % 4096)))).getD 0
  let t := (s.bridge.nextTag + k) % 4096
  ({ s with bridge := { s.bridge with nextTag := (t + 1) % 4096 } }, 0x6000 + t)

/-- Tags are not issued again for 2 s (R350). -/
def State.quarantine (s : State) (ts : List Nat) : State :=
  { s with bridge := { s.bridge with
      quarant := ts.map (fun t => (t, s.nowNs + 2000000000)) ++ s.bridge.quarant.filter (fun q => decide (s.nowNs < q.2)) } }

/-- The enabled window in force that covers a byte of an aperture (R344, R346). -/
def State.windowAt (s : State) (aperN : Bool) (a : Nat) : Option (Nat × Window) :=
  s.bridge.wins.find? (fun e => e.2.aperN == aperN && decide (e.2.off ≤ a) && decide (a < e.2.off + 2 ^ e.2.size))

/-- A host access as fabric pieces with their windows (R346, R349): none where a byte lies in no window. -/
def State.hostPieces (s : State) (aperN : Bool) (a n : Nat) : Option (List (Nat × Window × Nat × Nat)) :=
  (fabPieces a n).foldr (fun p acc => match acc, s.windowAt aperN p.1, s.windowAt aperN (p.1 + p.2 - 1) with
    | some l, some (k, w), some (k', _) => if k = k' then some ((k, w, w.base + (p.1 - w.off), p.2) :: l) else none
    | _, _, _ => none) (some [])

/-- The time fields of a bridge log entry (R352, R359): seconds [31:0] and nanoseconds. -/
def State.logTime (s : State) : List Byte :=
  let t := toTime96 s.time.now
  natLE 4 (t.sec % 2 ^ 32) ++ natLE 4 t.nano

/-- An entry leaves the prefetch buffer (R358, R359): over space 0x08, bytes that the host never read are logged, journalled and notified. -/
def State.dropPrefetch (s : State) (e : Prefetch) : State :=
  let open_ := (List.range e.read.length).filter (fun k => e.read.getD k true == false)
  match open_.head?, open_.getLast? with
  | some a, some b =>
    if fabSpace e.addr = 0x08 then
      let h := s.rd 0x904001 % 16
      let n := b - a + 1
      let seq := s.bridge.pfSeq
      let s1 := { s with bridge := { s.bridge with pfSeq := (seq + 1) % 2 ^ 32 } }
      let s2 := (s1.wrB (0x905000 + 0x100 * h) (natLE 8 (e.addr + a) ++ natLE 2 n ++ natLE 1 e.window ++ zeros 1 ++ natLE 4 seq ++ s.logTime)).wr 0x904001 ((h + 1) % 16)
      (s2.raise .hbr 0x08 0x38 (e.window % 8 * 2 ^ 29 + (n - 1) % 512 * 2 ^ 20 + h * 2 ^ 16 + seq % 65536)).notice 3
    else s
  | _, _ => s

/-- The entries that satisfy a test leave the prefetch buffer, oldest first (R358). -/
def State.dropFetched (s : State) (f : Prefetch → Bool) : State :=
  (s.bridge.fetch.filter f).foldl (fun s e => s.dropPrefetch e)
    { s with bridge := { s.bridge with fetch := s.bridge.fetch.filter (fun e => !(f e)) } }

/-- An entry enters the prefetch buffer of 16 entries (R358): it replaces the oldest. -/
def State.keepPrefetch (s : State) (e : Prefetch) : State :=
  let s1 := if s.bridge.fetch.length < 16 then s
    else match s.bridge.fetch with
      | o :: rest => ({ s with bridge := { s.bridge with fetch := rest } }).dropPrefetch o
      | [] => s
  { s1 with bridge := { s1.bridge with fetch := s1.bridge.fetch ++ [e] } }

/-- A held byte of a window (R358). -/
def State.fetchedByte (s : State) (k a : Nat) : Option Byte :=
  (s.bridge.fetch.find? (fun e => e.window == k && decide (e.addr ≤ a) && decide (a < e.addr + e.data.length))).map (fun e => e.data.getD (a - e.addr) 0)

/-- Bytes that the prefetch buffer answers whole (R358). -/
def State.fetched (s : State) (k a n : Nat) : Option (List Byte) :=
  (List.range n).foldr (fun i acc => match acc, s.fetchedByte k (a + i) with
    | some l, some b => some (b :: l)
    | _, _ => none) (some [])

/-- The host reads bytes of held entries (R359). -/
def State.markFetched (s : State) (k a n : Nat) : State :=
  { s with bridge := { s.bridge with fetch := s.bridge.fetch.map (fun e =>
      if e.window = k then
        { e with read := (List.range e.read.length).map (fun i => e.read.getD i true || (decide (a ≤ e.addr + i) && decide (e.addr + i < a + n))) }
      else e) } }

/-- PCIe completion statuses: SC, UR and CA. -/
def statusSC : Nat := 0
/-- Unsupported Request. -/
def statusUR : Nat := 1
/-- Completer Abort. -/
def statusCA : Nat := 4

/-- The completion status of a fabric outcome (R349). -/
def outcomeStatus (oc : Nat) : Nat :=
  if oc = 0 || oc = 7 then statusSC else if oc = 1 || oc = 2 || oc = 3 || oc = 8 || oc = 9 then statusUR else statusCA

/-- Completions with data leave in address order (R349). -/
def State.completeData (s : State) (hostTag at_ : Nat) (d : List Byte) : State :=
  s.emitAll ((cplPieces s.bridge.mps at_ d.length).map (fun p => .hostCompletion hostTag statusSC false (slice d (p.1 - at_) p.2)))

/-- The read of a host tag is gone from the bridge; tags still unanswered are quarantined (R350). -/
def State.endRead (s : State) (h : HeldRead) : State :=
  ({ s with bridge := { s.bridge with held := s.bridge.held.filter (fun x => x.hostTag != h.hostTag) } }).quarantine
    ((h.pieces.filter (fun (p : ReadPiece) => p.answer.isNone)).map ReadPiece.tag)

/-- The AER bit of a completion status that the bridge sends (R343). -/
def statusError (status : Nat) : Nat := if status = statusUR then 20 else 15

/-- A read answered with an error outcome ends (R349): one completion, with the status of the outcome; poisoned data is open. -/
def State.failRead (s : State) (h : HeldRead) (p : ReadPiece) (oc : Nat) : State :=
  let s1 := (s.endRead h).inc 0x907001
  if oc = 7 then
    let n := match cplPieces s.bridge.mps h.at_ p.want with | (_, m) :: _ => m | [] => 0
    (s1.tookFreeBytes n).emit (.hostCompletion h.hostTag statusSC true (s1.freeBytes n))
  else (s1.aerNote (statusError (outcomeStatus oc))).emit (.hostCompletion h.hostTag (outcomeStatus oc) false [])

/-- A piece that was fetched for prefetch fills its blocks (R358). -/
def State.fillPrefetch (s : State) (p : ReadPiece) (d : List Byte) : State :=
  if p.block = 0 then s
  else (chunks (fun _ => p.block) (p.len + 1) p.addr p.len).foldl (fun s b =>
    s.keepPrefetch ⟨p.window, b.1, slice d (b.1 - p.addr) b.2,
      (List.range b.2).map (fun i => decide (p.addr + p.skip ≤ b.1 + i) && decide (b.1 + i < p.addr + p.skip + p.want))⟩) s

/-- Answered pieces of a held read are returned in address order (R349). -/
def State.returnRead (s : State) (h : HeldRead) : Nat → State
  | 0 => s
  | fuel + 1 =>
    match h.pieces with
    | [] => (s.endRead h).inc 0x907000
    | p :: rest =>
      match p.answer with
      | none => { s with bridge := { s.bridge with held := s.bridge.held.map (fun x => if x.hostTag = h.hostTag then h else x) } }
      | some (oc, d) =>
        if oc = 0 then
          ((s.fillPrefetch p d).completeData h.hostTag h.at_ (slice d p.skip p.want)).returnRead { h with at_ := h.at_ + p.want, pieces := rest } fuel
        else s.failRead h p oc

/-- One piece of a host read: answered from the prefetch buffer where that holds it whole, or widened where the window prefetches and the read is short (R358), and requested on
the fabric (R349). -/
def State.issuePiece (s : State) (total : Nat) (q : Nat × Window × Nat × Nat) : State × ReadPiece :=
  let (k, w, a, n) := q
  let size := s.cell 0x902001
  let wide := !w.aperN && decide (total ≤ size)
  match (if w.aperN then none else s.fetched k a n) with
  | some d => (s.markFetched k a n, ⟨0, k, a, n, 0, n, 0, some (0, d)⟩)
  | none =>
    let lo := if wide then a / size * size else a
    let hi := if wide then ceilDiv (a + n) size * size else a + n
    let (s1, t) := s.takeTag
    (s1.sendFrame 6 (s1.newFrame (bits a 63 54) w.cls w.flow 0x1 lo t 0 0 (zeros (hi - lo))), ⟨t, k, lo, hi - lo, a - lo, n, if wide then size else 0, none⟩)

/-- The bytes of response space that held reads reserve (R355). -/
def State.heldBytes (s : State) : Nat := (s.bridge.held.map (·.len)).sum

/-- A host read is answered with an error status and counted (R344, R349). -/
def State.readRefused (s : State) (hostTag status : Nat) : State := ((s.inc 0x907001).aerNote (statusError status)).emit (.hostCompletion hostTag status false [])

/-- One piece of a host write leaves (R352): posted, or acknowledged where the window says so. -/
def State.sendPiece (s : State) (p : HostPiece) : State :=
  let (s1, t) := s.takeTag
  let s2 := { s1 with bridge := { s1.bridge with pieces := ⟨t, p.window, p.addr, p.win.ack⟩ :: s1.bridge.pieces.filter (fun x => x.tag != t) } }
  s2.sendFrame 6 (s2.newFrame (bits p.addr 63 54) p.win.cls p.win.flow (if p.win.ack then 0x3 else 0x0) p.addr t 0 0 p.data)

/-- The host write pieces leave in order (R357), while tags are free. When port 6 takes the next of them the spec does not say: it does now, or waits, by a free value, unless a
read behind them `now` calls for them. -/
def State.sendPieces (s : State) (now : Bool) : Nat → State
  | 0 => s
  | fuel + 1 =>
    match s.bridge.posted with
    | [] => s
    | p :: rest =>
      if 4096 ≤ s.busyTags then s
      else if !now && s.freeNat 1 = 1 then s.tookFree
      else (({ (if now then s else s.tookFree) with bridge := { s.bridge with posted := rest } }).sendPiece p).sendPieces now fuel

/-- A host memory read arrives in an aperture (R344, R349, R355, R357, R358, R447): it waits at the link, without effect, while the bridge has no place or tag for it, or cannot
send an earlier write of its window. An isolated bridge answers CA, which accounts for the read. -/
def State.hostRead (s : State) (aperN : Bool) (a n hostTag : Nat) : State :=
  if !s.bridgeUp || n = 0 || 4096 < n then s
  else if s.isolated .hbr then s.readRefused hostTag statusCA
  else if 64 ≤ s.bridge.held.length || 65536 < s.heldBytes + n || s.bridge.held.any (fun h => h.hostTag == hostTag) then s
  else match s.hostPieces aperN a n with
    | none => s.readRefused hostTag statusUR
    | some qs =>
      let behind (t : State) : Bool := t.bridge.posted.any (fun p => qs.any (fun q => q.1 == p.window))
      let s0 := if behind s then s.sendPieces true s.bridge.posted.length else s
      if behind s0 || 4096 < s0.busyTags + qs.length then s0
      else
        let (s1, ps) := qs.foldl (fun (acc : State × List ReadPiece) q => let (t, p) := acc.1.issuePiece n q; (t, acc.2 ++ [p])) (s0, [])
        let h : HeldRead := ⟨hostTag, a, n, ps⟩
        ({ s1 with bridge := { s1.bridge with held := s1.bridge.held ++ [h] } }).returnRead h (ps.length + 1)

/-- A fabric answer to a piece of a held read (R349, R350): one that no read waits for is discarded and counted. -/
def State.readAnswer (s : State) (tag outcome : Nat) (d : List Byte) : State :=
  match s.bridge.held.find? (fun h => h.pieces.any (fun p => p.answer.isNone && p.tag == tag && (outcome != 0 || p.len == d.length))) with
  | some h =>
    let h1 := { h with pieces := h.pieces.map (fun p => if p.answer.isNone && p.tag = tag then { p with answer := some (outcome, d) } else p) }
    s.returnRead h1 (h1.pieces.length + 1)
  | none => s.inc 0x907002

/-- A read response reaches port 6 (R349). -/
def State.readResponse (s : State) (f : Frame) : State :=
  if s.ticking && f.type = 0x2 && frameWhole f && f.tag / 4096 = 6 then s.readAnswer f.tag f.outcome f.payload else s

/-- The read hold limit of a held read expires (R350). -/
def State.readTimeout (s : State) (hostTag : Nat) : State :=
  match s.bridge.held.find? (fun h => h.hostTag == hostTag) with
  | some h =>
    match h.pieces.find? (fun p => p.answer.isNone) with
    | some p => (((s.endRead h).inc 0x907001).bridgeJournal 0x30 p.tag p.window 0 0).aerNote 15 |>.emit (.hostCompletion hostTag statusCA false [])
    | none => s
  | none => s

/-- A write of the bridge has failed (R352, R360): the posted-write error log, the journal, and vector 1. -/
def State.writeFailed (s : State) (tag window addr outcome : Nat) : State :=
  let h := s.rd 0x904000 % 16
  let e := natLE 8 addr ++ natLE 1 outcome ++ natLE 1 window ++ natLE 2 tag ++ s.logTime ++ zeros 4
  (((s.wrB (0x903000 + 0x100 * h) e).wr 0x904000 ((h + 1) % 16)).bridgeJournal (0x10 + outcome) tag window outcome 0).notice 1

/-- One piece of a host write joins those that wait for port 6 (R352, R355); prefetch entries that it overlaps go (R358). -/
def State.writePiece (s : State) (q : Nat × Window × Nat × Nat) (v : List Byte) : State :=
  let (k, w, a, n) := q
  let s0 := s.dropFetched (fun e => decide (e.addr < a + n) && decide (a < e.addr + e.data.length))
  { s0 with bridge := { s0.bridge with posted := s0.bridge.posted ++ [⟨k, w, a, v⟩] } }

/-- A host memory write arrives in an aperture (R344, R352, R355, R447): it waits at the link, without effect, while the 32 KiB buffer has no room for it. To an isolated bridge it is
journalled with the window of its first byte. -/
def State.hostWrite (s : State) (aperN : Bool) (a : Nat) (v : List Byte) : State :=
  if !s.bridgeUp || v.length = 0 || 4096 < v.length then s
  else match s.hostPieces aperN a v.length with
    | none => s
    | some qs =>
      if s.isolated .hbr then s.bridgeJournal 0x07 0 ((s.windowAt aperN a).map Prod.fst |>.getD 0) 0 0
      else if 32768 < s.postedBytes + v.length then s
      else
        let t := (qs.foldl (fun (acc : State × List Byte) q => (acc.1.writePiece q (acc.2.take q.2.2.2), acc.2.drop q.2.2.2)) (s, v)).1
        t.sendPieces false t.bridge.posted.length

/-- A write acknowledgement reaches the bridge (R352). -/
def State.writeAnswer (s : State) (tag outcome : Nat) : State :=
  match s.bridge.pieces.find? (fun p => p.tag == tag && p.acked) with
  | some p =>
    let s1 := { s with bridge := { s.bridge with pieces := s.bridge.pieces.filter (fun x => x.tag != tag) } }
    if outcome = 0 then s1 else s1.writeFailed tag p.window p.addr outcome
  | none => s

/-- A piece is not acknowledged within the read hold limit (R352). -/
def State.ackTimeout (s : State) (tag : Nat) : State := s.writeAnswer tag 0xA

/-- A failure report for a request of the bridge (R349, R352): a read piece ends with the outcome; a write piece is logged with the address that the report
carries. -/
def State.bridgeReport (s : State) (f : Frame) : State :=
  if s.bridge.held.any (fun h => h.pieces.any (fun p => p.answer.isNone && p.tag == f.tag)) then s.readAnswer f.tag f.outcome []
  else match s.bridge.pieces.find? (fun p => p.tag == f.tag) with
    | some p =>
      ({ s with bridge := { s.bridge with pieces := s.bridge.pieces.filter (fun x => x.tag != f.tag) } }).writeFailed f.tag p.window (beField f.payload 8 8) f.outcome
    | none => if s.tagBusy f.tag then s.inc 0x907002 else s

/-- A host target slot object (R366): 9.06s.ss. -/
def slotObj (k sub : Nat) : Nat := 0x906000 + 0x100 * k + sub

/-- A flag of a host target slot (R348). -/
def State.slotFlag (s : State) (k b : Nat) : Bool := bit (s.rd (slotObj k 2)) b

/-- The bridge can master requests to the host (R353, R363): no Function Level Reset is in progress. -/
def State.mastering (s : State) : Bool := s.bridge.bme && s.bridge.linkUp && !s.bridge.flr

/-- Writes toward host memory (R353, R362). -/
def State.masterWrite (s : State) (a : Nat) (v : List Byte) : State :=
  s.emitAll ((mwrPieces s.bridge.mps a v.length).map (fun p => .hostWrite p.1 (slice v (p.1 - a) p.2)))

/-- MRds outstanding toward the host (R343: at most 64). -/
def State.outstanding (s : State) : Nat := (s.bridge.reqs.map (fun r => (r.parts.filter (fun p => p.tag.isSome && !p.done)).length)).sum

/-- A free 8-bit tag for an MRd. -/
def State.freeHostTag (s : State) : Nat :=
  ((List.range 256).find? (fun t => !(s.bridge.reqs.any (fun r => r.parts.any (fun p => p.tag == some t && !p.done))))).getD 0

/-- The bytes of the completion buffer that MRds reserve (R355): from their issue until the fabric is answered. -/
def State.cplReserved (s : State) : Nat :=
  ((s.bridge.reqs.filter (fun r => !r.answered)).map (fun r => ((r.parts.filter (fun p => p.tag.isSome)).map (·.len)).sum)).sum

/-- The bytes of posted fabric writes that wait for the link (R355). -/
def State.fabricPosted (s : State) : Nat := ((s.bridge.reqs.filter (fun r => r.frame.type == 0x0)).map (fun r => r.frame.payload.length)).sum

/-- The request toward the host that is next to send a write or an MRd (R357), in the order of arrival. -/
def State.nextReq (s : State) : Option HostReq := s.bridge.reqs.find? (fun r => !r.answered && (r.write.isSome || r.parts.any (fun p => p.tag.isNone)))

/-- Issues the MWrs and MRds that wait, in the order in which their frames came (R343, R356, R357): an MWr where the link grants posted credit, which is a free value; an MRd while fewer
than 64 are out and the 128 KiB completion buffer has room for it. `fuel` bounds the number. -/
def State.issueReads (s : State) : Nat → State
  | 0 => s
  | fuel + 1 =>
    match s.nextReq with
    | none => s
    | some r =>
      match r.write with
      | some a =>
        if s.freeNat 1 = 1 then s.tookFree
        else
          let left (x : HostReq) : List HostReq := if x = r then (if r.frame.type = 0x0 then [] else [{ r with write := none }]) else [x]
          ((({ s.tookFree with bridge := { s.bridge with reqs := s.bridge.reqs.flatMap left } }).masterWrite a r.frame.payload)).issueReads fuel
      | none =>
        match r.parts.find? (fun p => p.tag.isNone) with
        | none => s
        | some p =>
          if 64 ≤ s.outstanding || 131072 < s.cplReserved + p.len then s else
          let t := s.freeHostTag
          let r1 := { r with parts := r.parts.map (fun x => if x.addr = p.addr && x.tag.isNone then { x with tag := some t } else x) }
          (({ s with bridge := { s.bridge with reqs := s.bridge.reqs.map (fun x => if x = r then r1 else x) } }).emit (.hostRead p.addr p.len t)).issueReads fuel

/-- A fabric request toward the host is refused (R353): counted, journalled, and reported under R115. -/
def State.refuseHost (s : State) (f : Frame) (outcome reason : Nat) : State :=
  let s1 := (s.inc 0x907003).bridgeJournal reason f.tag 7 outcome (bits f.addr 47 45)
  s1.sendFrame 6 (s1.failureReport f outcome)

/-- Why a fabric request toward the host is refused (R353, R447): outcome and journal reason, by the first condition of the table that holds. -/
def State.hostRefusal (s : State) (f : Frame) : Option (Nat × Nat) :=
  let k := bits f.addr 47 45
  let o := bits f.addr 44 0
  if s.isolated .hbr then some (0x6, 0x16)
  else if !(s.slotFlag k 0) || 2 ^ s.rd (slotObj k 1) < o + f.len then some (0x3, 0x13)
  else if (f.type = 0x1 && !(s.slotFlag k 1)) || (f.type != 0x1 && !(s.slotFlag k 2)) then some (0x5, 0x15)
  else if !s.mastering then some (0x5, 0x33)
  else if f.type = 0x0 && 16384 < s.fabricPosted + f.len then some (0xA, 0x34)
  else if f.type != 0x0 && 64 ≤ (s.bridge.reqs.filter (fun r => !r.answered && r.frame.type != 0x0)).length then some (0xA, 0x34)
  else none

/-- A request without a length that R116 serves, in space 0x08. -/
def State.badHostLength (s : State) (f : Frame) : State :=
  if f.type = 0x0 then s.refusePosted f 0x8
  else s.sendFrame 6 (s.response f (if f.type = 0x1 then 0x2 else 0x4) 0x8 [])

/-- A frame for space 0x08 is served at the bridge (R353). -/
def State.hostRequest (s : State) (f : Frame) : State :=
  if !s.ticking || !(f.type = 0x0 || f.type = 0x1 || f.type = 0x3) || fabSpace f.addr != 0x08 || !(frameWhole f) || f.len != f.payload.length then s
  else if !(lengthOk f.len) then s.badHostLength f
  else match s.hostRefusal f with
    | some (oc, reason) => s.refuseHost f oc reason
    | none =>
      let k := bits f.addr 47 45
      let a := s.rd (slotObj k 0) + bits f.addr 44 0
      let ranges := if f.type = 0x1 then mrdPieces s.bridge.mrrs a f.len else if f.type = 0x3 then [(a + f.len - 1, 0)] else []
      let parts := ranges.map (fun (p : Nat × Nat) => ({ tag := none, addr := p.1, len := p.2, got := [], done := false } : HostPart))
      let r : HostReq := { frame := f, slot := k, parts := parts, answered := false, write := if f.type = 0x1 then none else some a }
      ({ s with bridge := { s.bridge with reqs := s.bridge.reqs ++ [r] } }).issueReads 256

/-- A request toward the host has been served: it leaves once all of its MRds that are out are complete, and the next MRds go. -/
def State.settleReqs (s : State) : State :=
  ({ s with bridge := { s.bridge with reqs := s.bridge.reqs.filter (fun r => !(r.answered && r.parts.all (fun p => p.tag.isNone || p.done))) } }).issueReads 256

/-- Answers the fabric for a request toward the host (R353, R354): data with outcome 0x0 of a read, nothing otherwise; an error is journalled once. -/
def State.answerHost (s : State) (r : HostReq) (outcome : Nat) (d : List Byte) : State :=
  let s1 := if outcome = 0 then s else s.bridgeJournal 0x35 r.frame.tag 7 outcome r.slot
  s1.sendFrame 6 (s1.response r.frame (if r.frame.type = 0x1 then 0x2 else 0x4) outcome (if outcome = 0 then d else []))

/-- The outcome of a host completion (R354): by its status, and 0x7 for poisoned data. -/
def cplOutcome (status : Nat) (poisoned : Bool) : Nat :=
  if status = statusUR then 0x8 else if status = statusCA then 0x7 else if status != statusSC || poisoned then 0x7 else 0x0

/-- The MRd of a tag is over for a request (R353, R354), with an outcome and bytes. -/
def State.partAnswer (s : State) (r : HostReq) (t outcome : Nat) (d : List Byte) : State :=
  let upd (p : HostPart) : HostPart :=
    if p.tag = some t && !p.done then
      let g := p.got ++ d
      { p with got := g, done := outcome != 0 || decide (p.len ≤ g.length) }
    else p
  let r1 := { r with parts := r.parts.map upd }
  let all := r1.parts.all (·.done)
  let ends := !r.answered && (outcome != 0 || all)
  let r2 := { r1 with answered := r.answered || ends }
  let s1 := { s with bridge := { s.bridge with reqs := s.bridge.reqs.map (fun x => if x = r then r2 else x) } }
  (if ends then s1.answerHost r outcome (r1.parts.flatMap (fun p => p.got.take p.len)) else s1).settleReqs

/-- The request toward the host to which an MRd tag belongs. -/
def State.reqOf (s : State) (t : Nat) : Option HostReq := s.bridge.reqs.find? (fun r => r.parts.any (fun p => p.tag == some t && !p.done))

/-- A completion arrives from the host (R354). -/
def State.hostCompletion (s : State) (t status : Nat) (poisoned : Bool) (d : List Byte) : State :=
  match s.reqOf t with
  | some r => (if poisoned then s.aerNote 12 else s).partAnswer r t (cplOutcome status poisoned) d
  | none => s

/-- The Completion Timeout Value of an MRd passes (R354), unless the function has it disabled. -/
def State.completionTimeout (s : State) (t : Nat) : State :=
  match s.reqOf t with
  | some r => if s.bridge.cplTime = 0 then s else (s.aerNote 14).partAnswer r t 0x7 []
  | none => s

/-- The scheduled COPYs leave in order (R357, R362), each whole with its stamp, where the link grants posted credit, which is a free value. -/
def State.sendCopies (s : State) : Nat → State
  | 0 => s
  | fuel + 1 =>
    match s.bridge.copies with
    | [] => s
    | c :: rest =>
      if s.freeNat 1 = 1 then s.tookFree
      else (({ s.tookFree with bridge := { s.bridge with copies := rest } }).emitAll (c.writes.map (fun (w : Nat × List Byte) => Out.hostWrite w.1 w.2))).sendCopies fuel

/-- The writes of a scheduled COPY (R362): its values in pieces, then its stamp where the slot asks for one. -/
def State.copyWrites (s : State) (k o : Nat) (ws : List (BitVec 32 × RecState)) : List (Nat × List Byte) :=
  let a := s.rd (slotObj k 0) + o
  let v := ws.flatMap (fun w => natLE 4 w.1.toNat)
  let worst := (ws.map (fun w => stateCode w.2)).foldl max 0
  (mwrPieces s.bridge.mps a v.length).map (fun p => (p.1, slice v (p.1 - a) p.2)) ++
    (if s.slotFlag k 4 then
      [(s.rd (slotObj k 3), natLE 8 s.cycle ++ natLE 4 s.beat ++ natLE 1 worst ++ zeros 1 ++ natLE 2 (ws.length - 1))]
    else [])

/-- A scheduled COPY of words with their states into a host target slot (R362, R363): dropped whole, or queued with its stamp. -/
def State.hostCopy (s : State) (k o : Nat) (ws : List (BitVec 32 × RecState)) : State :=
  let n := 4 * ws.length
  if 32768 < s.copyBytes + n + (if s.slotFlag k 4 then 16 else 0) || !(s.slotFlag k 0) || 2 ^ s.rd (slotObj k 1) < o + n || !s.mastering then
    (s.inc 0x907005).bridgeJournal 0x32 (s.cycle % 65536) 7 0 k
  else
    let c : CopyOut := ⟨s.cycle, k, s.copyWrites k o ws⟩
    let s1 := s.inc 0x907004
    ({ s1 with bridge := { s1.bridge with copies := s1.bridge.copies ++ [c] } }).sendCopies (s.bridge.copies.length + 1)

/-- At the start of a beat what waits in the bridge's posted buffers may leave (R355 to R357). -/
def State.bridgeAtBeat (s : State) : State :=
  if s.bridge.posted.isEmpty && s.bridge.reqs.isEmpty && s.bridge.copies.isEmpty then s
  else ((s.sendPieces false s.bridge.posted.length).issueReads 256).sendCopies s.bridge.copies.length

/-- At a cycle boundary the entries over spaces 0x01 and 0x02 leave the prefetch buffer (R358). -/
def State.prefetchAtBoundary (s : State) : State := s.dropFetched (fun e => fabSpace e.addr = 0x01 || fabSpace e.addr = 0x02)

/-- The life of the prefetch entry at an index, oldest 0, expires (R358). -/
def State.prefetchExpiry (s : State) (i : Nat) : State :=
  match s.bridge.fetch[i]? with
  | some e => ({ s with bridge := { s.bridge with fetch := s.bridge.fetch.eraseIdx i } }).dropPrefetch e
  | none => s

/-- Every transaction in progress ends (R364): reads discarded, host pieces not yet sent discarded with one record for each window, fabric requests answered 0x5, COPYs queued discarded, prefetch
entries discarded, tags quarantined; each is journalled with the reason given, a COPY with the second. -/
def State.endTransactions (s : State) (reason copyReason : Nat) : State :=
  let b := s.bridge
  let tags := b.held.flatMap (fun h => (h.pieces.filter (fun p => p.answer.isNone)).map (·.tag)) ++ (b.pieces.filter (·.acked)).map (·.tag)
  let s1 := ({ s with bridge := { b with held := [], posted := [], pieces := [], reqs := [], copies := [] } }).quarantine tags
  let s2 := b.held.foldl (fun s h => match h.pieces.find? (fun p => p.answer.isNone) with
    | some p => s.bridgeJournal reason p.tag p.window 0 0
    | none => s) s1
  let s2 := ((b.posted.map (·.window)).eraseDups).foldl (fun s k => s.bridgeJournal reason 0 k 0 0) s2
  let s3 := (b.reqs.filter (fun r => !r.answered)).foldl (fun s r =>
    let t := s.bridgeJournal reason r.frame.tag 7 0x5 r.slot
    t.sendFrame 6 (if r.frame.type = 0x0 then t.failureReport r.frame 0x5 else t.response r.frame (if r.frame.type = 0x1 then 0x2 else 0x4) 0x5 [])) s2
  let s4 := b.copies.foldl (fun s c => s.bridgeJournal copyReason (c.cycle % 65536) 7 0 c.slot) s3
  s4.dropFetched (fun _ => true)

/-- FLR, a loss of the data link, or PERST (R364): the function takes its reset state; with the link down, 9.000.00 reads 0. -/
def State.bridgeReset (s : State) (k : BridgeResetKind) : State :=
  if s.ticking then
    let s1 := s.endTransactions 0x31 0x32
    let s2 := { s1 with bridge := { s1.bridge with
      bme := false, msixOn := false, fmask := false, ecrcGen := false, ecrcChk := false, flr := k = .flr, mps := 128, mrrs := 512, cplTime := 50000000, vecOn := 0, vecMem := [], pba := 0
      linkUp := s1.bridge.linkUp && k = .flr } }
    if k = .flr then s2 else s2.wr 0x900000 0
  else s

/-- The link is up, and the host has configured the function (R343), which ends a Function Level Reset: rate, width, Bus Master Enable, MSI-X Enable and Function Mask, ECRC
generation and check, payload and read request sizes, and the Completion Timeout Value in ns. -/
def State.linkUp (s : State) (rate width : Nat) (c : PcieCommand) (msix : MsixControl) (mps mrrs cpl : Nat) : State :=
  if s.ticking && 1 ≤ rate && rate ≤ 4 && (width = 1 || width = 2 || width = 4) && [128, 256, 512].contains mps && [128, 256, 512].contains mrrs &&
      cplTimeOk cpl then
    (({ s with bridge := { s.bridge with
      linkUp := true, flr := false, bme := c.bme, ecrcGen := c.ecrcGen, ecrcChk := c.ecrcChk, msixOn := msix.enable, fmask := msix.mask
      mps := mps, mrrs := mrrs, cplTime := cpl } }).wr 0x900000 (rate * 16 + width)).flushNotices
  else s

/-- A window object (R366): 9.01k.ss. -/
def winObj (k sub : Nat) : Nat := 0x901000 + 0x100 * k + sub

/-- The window as its objects describe it, with its effective aperture (R346, R347): a prefetchable claim over space 0x03 or 0x04 is downgraded. -/
def State.windowOf (s : State) (k : Nat) : Window × Bool :=
  let base := s.rd (winObj k 4)
  let claim := s.rd (winObj k 1) = 1
  let down := claim && (fabSpace base = 0x03 || fabSpace base = 0x04)
  (⟨!(claim && !down), s.rd (winObj k 2), s.rd (winObj k 3), base, s.rd (winObj k 5), s.rd (winObj k 6), s.rd (winObj k 8) = 1⟩, down)

/-- Two windows overlap in one aperture (R347). -/
def Window.overlaps (a b : Window) : Bool := a.aperN == b.aperN && decide (a.off < b.off + 2 ^ b.size) && decide (b.off < a.off + 2 ^ a.size)

/-- The failure of one window against the earlier ones (R347), or 0. -/
def State.windowFailure (s : State) (w : Window) (earlier : List Window) : Nat :=
  let sp := fabSpace w.base
  let nd := bits w.base 63 54
  if 2 ^ (if w.aperN then s.bridge.aperN else s.bridge.aperP) < w.off + 2 ^ w.size then 1
  else if earlier.any (fun e => e.overlaps w) then 2
  else if w.off % 2 ^ w.size != 0 || w.base % 2 ^ w.size != 0 then 3
  else if sp = 0 || 8 < sp || (sp = 8 && nd = s.node) then 4
  else if nd = 0 || nd = 0x3FF then 5
  else 0

/-- The enabled windows, in ascending order. -/
def State.enabledWindows (s : State) : List Nat := (List.range 6).filter (fun k => s.rd (winObj k 0) = 1)

/-- The check of a window commit (R347): the code of the first failure, or 0. -/
def State.windowCheck (s : State) : Nat :=
  let ws := s.enabledWindows.map (fun k => (s.windowOf k).1)
  ((List.range ws.length).map (fun i => match ws[i]? with
    | some w => s.windowFailure w (ws.take i)
    | none => 0)).foldl (fun acc c => if acc = 0 then c else acc) 0

/-- The windows are checked and, where all pass, put in force (R347). -/
def State.commitWindows (s : State) : State :=
  let c := s.windowCheck
  let s1 := s.wr 0x901801 c
  if c ≠ 0 then s1
  else
    let s2 := s1.dropFetched (fun _ => true)
    let on := s.enabledWindows
    let s3 := { s2 with bridge := { s2.bridge with wins := on.map (fun k => (k, (s.windowOf k).1)) } }
    let s4 := (List.range 6).foldl (fun t k =>
      let (w, d) := s.windowOf k
      t.wr (winObj k 7) (if on.contains k then b2n (!w.aperN) + 2 * b2n d else 0)) s3
    s4.wr 0x901802 ((on.map (fun k => b2n (s.windowOf k).2 * 2 ^ k)).sum)

/-- A write of 1 to 9.018.00 (R347): in Configure. -/
def State.windowCommit (s : State) : OdRes :=
  if s.mode != .configure then errRes s 0x03
  else
    let t := s.commitWindows
    if t.rd 0x901801 = 0 then okRes t else refusedRes t (t.rd 0x901801)

/-- A write of 1 to 9.070.06 (R366). -/
def State.clearBridge (s : State) : State := [0, 1, 2, 3, 4, 5].foldl (fun s k => s.wr (0x907000 + k) 0) s

end Sys2Proof.Machine
end

