-- ==== Sys2Proof/Machine/Objects.lean ====
section
/-!
DEFINITION. The objects as the OD serves them (R313 to R321): ranges, the values that are made up from the state, and the writes of objects that
no command of the table has to itself.
-/
namespace Sys2Proof.Machine

/-- The pawn of an object number of area 5 (R221). -/
def pawnOf (o : Nat) : Nat := bits o 15 8

/-- The digit b, n, t, c or s of an object number `a.0x?.ss` (R262, R286, R389, R472). -/
def unitOf (o : Nat) : Nat := bits o 15 12

/-- The channel, policer or queue of an object number whose two middle digits name it (R186). -/
def midOf (o : Nat) : Nat := bits o 15 8

/-- Burst and overhead of R181 and R182 fit together: the burst holds a charged frame of the largest size. -/
def burstOk (burst overhead : Nat) : Bool := 2072 + toSigned 16 overhead ≤ (burst : Int) && burst ≤ 16777215

/-- A nominal bit timing word (R266). -/
def nominalOk (v : Nat) : Bool :=
  let t1 := bits v 31 24 + 1
  let t2 := bits v 23 17 + 1
  let p := bits v 4 0 + 1
  bits v 9 5 = 0 && 2 ≤ t1 && bits v 16 10 + 1 ≤ t2 && 80 ≤ p * (1 + t1 + t2) && p * (1 + t1 + t2) ≤ 8000

/-- The quanta of a nominal bit times its prescaler: the bit time in units of 12.5 ns (R266). -/
def nominalBit (v : Nat) : Nat := (bits v 4 0 + 1) * (bits v 31 24 + bits v 23 17 + 3)

/-- A data bit timing word beside the nominal one (R266). -/
def dataOk (nom v : Nat) : Bool :=
  let t1 := bits v 28 24 + 1
  let t2 := bits v 19 16 + 1
  let p := bits v 4 0 + 1
  bits v 31 29 = 0 && bits v 23 20 = 0 && bits v 15 12 = 0 && bits v 7 5 = 0 && p = bits nom 4 0 + 1 && bits v 11 8 + 1 ≤ t2 &&
    10 ≤ p * (1 + t1 + t2) && p * (1 + t1 + t2) ≤ nominalBit nom

/-- A TIME96 value is valid (R288): less than a second of nanoseconds. -/
def timeOk (v : Nat) : Bool := bits v 47 16 ≤ 999999999

/-- A container of this length fits the staging area (R430): 3,520 KiB on a 64 Mbit flash, and what a larger flash has beyond. -/
def fitsStaging (v : Nat) : Bool := decide (v ≤ 3520 * 1024) || decide (v - 3520 * 1024 ≤ Config.flashExtra)

/-- The sum of all reserves as they stand written, those of this beat among them (R159, R186). -/
def State.reservesWritten (s : State) : Nat := ((List.range 72).map (fun q => s.rd (queueObj q 0))).sum

/-- The ranges that depend on other objects or on fields of the value (R318). -/
def State.customRange (s : State) (o v : Nat) : Bool :=
  if o = 0x003101 then
    bits v 31 30 = 0 && (if bit v 29 then bits v 28 0 ≤ 0x1FFFFFFE else bits v 17 0 = 0 && bits v 28 18 ≤ 0x7FE)
  else if o = 0x100100 then v ≤ 7
  else if o = 0x208105 then v = 0 || (1 ≤ v && v + 512 ≤ s.cycleLen)
  else if o &&& 0xFF00FF = 0x310000 then v ≤ 8192 && s.reservesWritten - s.rd o + v ≤ 8192
  else if o &&& 0xFF00FF = 0x310001 then s.rd (o - 1) ≤ v && v ≤ 16384
  else if o &&& 0xFF00FF = 0x310004 then burstOk v (s.rd (o + 1))
  else if o &&& 0xFF00FF = 0x310005 then -24 ≤ toSigned 16 v && toSigned 16 v ≤ 255 && burstOk (s.rd (o - 1)) v
  else if o &&& 0xFF00FF = 0x350001 then 64 ≤ v && v ≤ 50000000 && v ≤ s.rd (o + 2)
  else if o &&& 0xFF00FF = 0x350002 then burstOk v (s.rd (o + 3))
  else if o &&& 0xFF00FF = 0x350003 then s.rd (o - 2) ≤ v && v ≤ 50000000
  else if o &&& 0xFF00FF = 0x350004 then burstOk v (s.rd (o + 1))
  else if o &&& 0xFF00FF = 0x350005 then
    -24 ≤ toSigned 16 v && toSigned 16 v ≤ 255 && burstOk (s.rd (o - 3)) v && burstOk (s.rd (o - 1)) v
  else if o = 0x400102 then v = 0 || s.feature 33
  else if o &&& 0xFF00FF = 0x500009 then dividerOk v
  else if o &&& 0xFF00FF = 0x500021 then bits v 14 6 = 0 && (!(bit v 15) || s.feature 67)
  else if o / 2 ^ 16 = 0x50 then timeoutOk v
  else if o &&& 0xFF0FFF = 0x510002 then bits v 15 9 = 0 && bits v 7 6 = 0
  else if o / 2 ^ 20 = 6 then pinWordOk v
  else if o &&& 0xFF0FFF = 0x700001 then nominalOk v
  else if o &&& 0xFF0FFF = 0x700002 then dataOk (s.rd (o - 1)) v
  else if o &&& 0xFF0FFF = 0x700003 then !(bit v 14) && bits v 7 0 = 0
  else if o &&& 0xFF0FFF = 0x700004 then v ≤ 3 && (!(bit v 0) || s.feature 64)
  else if o = 0x800001 || o = 0x802001 then timeOk v
  else if o &&& 0xFFF0FF = 0x901003 then v % 2 ^ (s.rd (o - 1)) = 0
  else if o &&& 0xFFF0FF = 0x901004 then v % 2 ^ (s.rd (o - 2)) = 0
  else if o &&& 0xFFF0FF = 0x906002 then v ≤ 0x1F
  else if o = 0xA00001 then 8000 ≤ v && v ≤ 58000 && s.rd 0xA00002 < v && v < s.rd 0xA00003
  else if o = 0xA00002 then 8000 ≤ v && v ≤ 58000 && v < s.rd 0xA00001
  else if o = 0xA00003 then 10000 ≤ v && v ≤ 60000 && s.rd 0xA00001 < v
  else if o &&& 0xFF0FFF = 0xA10004 then 1000 ≤ v && v ≤ s.rd (o - 3)
  else if o &&& 0xFF0FFF = 0xA1000E then v ≤ 2 && (unitOf o != 8 || v = 0)
  else if o = 0xC02000 then 128 ≤ v && fitsStaging v
  else if o = 0xD00001 then v ≤ 2047
  else true

/-- A binary32 value is finite (R315). -/
def f32Finite (v : Nat) : Bool := bits v 30 23 != 255

/-- A number lies in an object's range (R318, R315). -/
def State.numberOk (s : State) (r : ObjRow) (o v : Nat) : Bool :=
  (match r.type with
   | .bool => v ≤ 1
   | .f32 => f32Finite v
   | _ => true) &&
  (match r.range with
   | .any => true
   | .between lo hi => lo ≤ v && v ≤ hi
   | .signed lo hi => lo ≤ toSigned (8 * r.type.size) v && toSigned (8 * r.type.size) v ≤ hi
   | .f32 lo hi => f32Int lo ≤ f32Int v && f32Int v ≤ f32Int hi
   | .zeroOr lo hi => v = 0 || (lo ≤ v && v ≤ hi)
   | .orElse x lo hi => v = x || (lo ≤ v && v ≤ hi)
   | .oneOf vs => vs.contains v
   | .bits mask => v &&& mask = v
   | .multiple m => v % m = 0
   | .blob _ _ => true
   | .custom => s.customRange o v)

/-- A byte string lies in an object's range (R342): a MAC address is unicast. -/
def bytesOk (o : Nat) (v : List Byte) : Bool := o != 0x003005 || !((v.getD 0 0).getLsbD 0)

/-- The value lies in the object's range (R335, check 9). -/
def State.valueOk (s : State) (r : ObjRow) (o : Nat) (v : List Byte) : Bool :=
  if r.type.isBytes then bytesOk o v else s.numberOk r o (beNat v)

/-- The value length suits the object (R335, check 8): its size, or in its range for STR and BLOB. A mirror object list holds whole object numbers
(R155). -/
def lengthFits (r : ObjRow) (o n : Nat) : Bool :=
  match r.type.isBytes, r.range with
  | true, .blob lo hi => lo ≤ n && n ≤ hi && (o != 0x208300 || n % 3 = 0)
  | true, _ => n ≤ r.maxLen
  | false, _ => n = r.type.size

/-- The hub holds the arbiter role (R148, R155). DESIGN CHOICE: the spec names no register that gives it; it is the role of the hub that its own arbiter node object
2.081.02 names, and of one whose pair table is not empty. -/
def State.arbiterRole (s : State) : Bool :=
  (s.node != 0 && s.rd 0x208102 == s.node) || (List.range 8).any (fun k => (s.rdB (0x208400 + k)).any (fun b => b != 0))

/-- The object is not present on this hub (R155): those of the arbiter, on a hub without its role. -/
def State.absentObj (s : State) (o : Nat) : Bool := o / 0x100 = 0x2084 && !s.arbiterRole

/-- The roles of 0.000.06 (R342). -/
def State.roles (s : State) : Nat :=
  b2n (s.servo = 5) + 2 * b2n s.arbiterRole + 4 * b2n s.bridge.linkUp

/-- Byte 8 of the boot record (R431). -/
def bootByte8 (b : BootRec) : Nat := b2n b.fwB + 2 * b2n b.trial + 4 * b2n b.started + 8 * b2n b.revert

/-- Byte 9 of the boot record (R431). -/
def bootByte9 (b : BootRec) : Nat := b2n b.schedB + 2 * b2n b.schedOk

/-- The bytes of a boot record (R431). -/
def BootRec.bytes (b : BootRec) : List Byte :=
  let l := natLE 4 0x424F4F54 ++ natLE 4 b.seq ++ natLE 1 (bootByte8 b) ++ natLE 1 (bootByte9 b) ++ natLE 1 (b2n b.storeB) ++ zeros 17
  l ++ natLE 4 (crc32c l)

/-- The boot record of a copy, none where its magic or its CRC-32C is wrong (R431). -/
def bootOf (l : List Byte) : Option BootRec :=
  if l.length = 32 && leField l 0 4 = 0x424F4F54 && leField l 28 4 = crc32c (l.take 28) then
    let f := leField l 8 1
    let g := leField l 9 1
    some { seq := leField l 4 4, fwB := f.testBit 0, trial := f.testBit 1, started := f.testBit 2, revert := f.testBit 3, schedB := g.testBit 0,
           schedOk := g.testBit 1, storeB := (leField l 10 1).testBit 0 }
  else none

/-- The copy that governs, the second one or not, with its record (R431): the valid copy with the higher sequence. A hub with no valid copy runs as one with a record
of zeros. -/
def UpdateSt.governing (u : UpdateSt) : Bool × BootRec :=
  match bootOf u.bootA, bootOf u.bootB with
  | some a, some b => if a.seq < b.seq then (true, b) else (false, a)
  | none, some b => (true, b)
  | some a, none => (false, a)
  | none, none => (true, {})

/-- Writes a boot record into the copy that does not govern, with the sequence plus one (R431). -/
def UpdateSt.writeBoot (u : UpdateSt) (b : BootRec) : UpdateSt :=
  let g := u.governing
  let l := BootRec.bytes { b with seq := (g.2.seq + 1) % 2 ^ 32 }
  if g.1 then { u with bootA := l } else { u with bootB := l }

/-- The boot record that governs, a change deferred by brace counted in (R431, R436). -/
def State.bootNow (s : State) : BootRec := s.update.bootDefer.getD s.update.governing.2

/-- A firmware slot. -/
def State.fwSlot (s : State) (slotB : Bool) : FwSlot := if slotB then s.update.fwB else s.update.fwA

/-- The OD version of the firmware that runs (R441). -/
def State.odVersion (s : State) : Nat := (s.fwSlot s.update.runB).od

/-- The fused security floor as raised (R435). -/
def State.securityFloor (s : State) : Nat := max (min 64 Config.securityFloor.toNat) s.update.secRaised

/-- Numeric objects of the areas 0 to 4 whose value is made up from the state. -/
def State.viewLow (s : State) (o : Nat) : Option Nat :=
  if o = 0x000004 then some s.keeperVersion
  else if o = 0x000007 then some s.odVersion
  else if o = 0x000006 then some s.roles
  else if o = 0x002200 then some s.stores.length
  else if o = 0x100000 then some (modeCode s.mode)
  else if o = 0x103000 then some s.braceState
  else if o &&& 0xFF0FFE = 0x200100 then some (s.laneErrors (portOf (unitOf o)) (o % 2))
  else if o = 0x208000 then some s.wrapState
  else if o = 0x300000 then some s.freeCells
  else if o = 0x300003 then some s.drainWord
  else if o &&& 0xFF00FF = 0x310006 then some (s.queueDepth (midOf o))
  else if o = 0x400004 then some (bankCycleLen s.stagedBank)
  else if o = 0x400005 then some (if s.hasBank then bankContractId s.activeBank else 0)
  else if o / 0x1000 = 0x320 && o % 0x1000 = s.node && o % 0x1000 != 0 then some 6
  else if o = 0x408000 then some s.contractState
  else none

/-- Numeric objects of a pawn (R221). -/
def State.viewPawn (s : State) (o : Nat) : Option Nat :=
  let p := s.pawn (pawnOf o)
  match o % 256 with
  | 0x00 => some p.status
  | 0x01 => some p.sh.toNat
  | 0x02 => some p.ca.toNat
  | 0x03 => some p.cb.toNat
  | 0x04 => some p.cmp.toNat
  | 0x09 => some p.divv
  | 0x0A => some (mget 0xFFFF p.tos 0)
  | 0x0B => some (mget 0xFFFF p.tos 1)
  | 0x0C => some (mget 0xFFFF p.tos 2)
  | 0x0D => some (mget 0xFFFF p.tos 3)
  | _ => none

/-- Numeric objects of the areas 5 to E whose value is made up from the state. -/
def State.viewHigh (s : State) (o : Nat) : Option Nat :=
  if o / 2 ^ 16 = 0x50 then s.viewPawn o
  else if o &&& 0xFF0FFF = 0x600100 then some (s.bankStatus (unitOf o))
  else if o &&& 0xFF0FFF = 0x700004 then some (if s.feature 64 then s.rd o else setBit (s.rd o) 0 false)
  else if o = 0x800000 then some (time96Nat (toTime96 s.time.now))
  else if o = 0x801005 then some (f32Ratio s.boundPs 1000)
  else if o = 0x801006 then some (f32Ratio s.holdoverExact (1000 * exactPs))
  else if o = 0xA00000 then some s.power.warn
  else if o = 0xA00102 then some s.pgState
  else if o &&& 0xFF0FFF = 0xA10100 then some (s.chanState (unitOf o))
  else if o = 0xB00007 then some s.sleepState
  else if o = 0xC00001 then some s.securityFloor
  else if o = 0xC03003 then some (bootByte8 s.bootNow)
  else if o = 0xC03100 then some (slotVersion s.update.fwA)
  else if o = 0xC03101 then some (slotVersion s.update.fwB)
  else if o = 0xC04000 then some (bootByte9 s.bootNow)
  else if o = 0xC04100 then some s.update.storeVer
  else if o = 0xC04003 then some (b2n (s.hasBank && s.activeBank.migrated))
  else if o = 0xD00002 then some s.unread
  else if o &&& 0xFF0FFF = 0xE00000 then some (s.snap (unitOf o)).state
  else if o &&& 0xFF0FFF = 0xE00003 then some (s.snap (unitOf o)).id
  else if o &&& 0xFF0FFF = 0xE00004 then some (s.snap (unitOf o)).cycle
  else if o &&& 0xFF0FFF = 0xE00005 then some (s.snap (unitOf o)).beat
  else if o = 0xE10000 then some s.slotsTaken
  else none

/-- An object shows a measurement that the spec gives no value for: VHS, the seating pins before seating is qualified, the time a retry timer has
left, currents, voltages and temperatures (R389), and whether a bus is idle (R286). -/
def State.measuredObj (s : State) (o : Nat) : Bool :=
  o = 0xA00004 || (o = 0xA00104 && !s.power.seated) || (o &&& 0xFF0FFF = 0xA10103 && s.power.retry.testBit (unitOf o)) ||
    (o &&& 0xFF0FF0 = 0xA10100 && 4 ≤ o % 16 && o % 16 ≤ 7) || o &&& 0xFF0FFF = 0x700100

/-- The current of a channel in mA, two's complement (R370, R389): a free sense voltage in µV between two balls over the declared shunt in µΩ. -/
def State.measuredCurrent (s : State) (c : Nat) : Nat :=
  ((((s.freeNat 28 : Int) - 2 ^ 27) * 1000).tdiv (s.pwrParam (chanObj c 0 0)) % 2 ^ 32).toNat

/-- V_DS in mV (R370): V(SENSE_N) less V(OUT), both free. -/
def State.measuredVds (s : State) : Nat := s.freeNat 17 - s.freeNat 34 / 2 ^ 17

/-- A number in units of 2^-149 as an F32 (R315). -/
def f32OfInt (z : Int) : Nat := b2n (decide (z < 0)) * 2 ^ 31 + f32Ratio z.natAbs (2 ^ 149)

/-- The model temperature (R375): T_base, the model ambient in mode 0, and a rise of the MOSFET that is free and not below zero. In mode 2 the base, the
diode temperature, is free too. -/
def State.modelTemp (s : State) (c : Nat) : Nat :=
  if s.pwrParam (chanObj c 0 0xE) = 2 then s.freeNat 32
  else f32OfInt (f32Int (s.pwrParam (chanObj c 0 0x13)) + f32Int (s.freeNat 31 % 0x7F000000))

/-- The value of a measured object, with the next free value as the measurement: the time that a retry timer has left is at most its delay (R382). -/
def State.measuredValue (s : State) (o : Nat) : Nat :=
  if o = 0xA00104 then s.seatState (s.freeNat 2)
  else if o &&& 0xFF0FFF = 0x700100 then s.ctlStatus (unitOf o) (s.freeNat 1)
  else if o &&& 0xFF0FFF = 0xA10103 then s.freeNat 32 % (mget 0 s.power.retryMs (unitOf o) + 1)
  else if o &&& 0xFF0FFF = 0xA10104 then s.measuredCurrent (unitOf o)
  else if o &&& 0xFF0FFF = 0xA10105 then s.measuredVds
  else if o &&& 0xFF0FFF = 0xA10106 then s.modelTemp (unitOf o)
  else s.freeNat (objBits o)

/-- The value of a numeric object. -/
def State.viewNat (s : State) (o : Nat) : Nat := ((s.viewLow o).orElse (fun _ => s.viewHigh o)).getD (s.rd o)

/-- The bytes of a BLOB or STR object. -/
def State.viewBytes (s : State) (o : Nat) : List Byte :=
  if o = 0x400003 then (if s.hasBank then bankRecordHash s.activeBank else zeros 32)
  else if o &&& 0xFF00FF = 0x500008 then (s.pawn (pawnOf o)).slotBlob
  else if o = 0x610001 then holdMask s.pins.forced
  else if o = 0x610002 then holdMask s.pins.frozen
  else if o &&& 0xFFFFF0 = 0xA00200 then
    match s.journal.plog[o % 16]? with
    | some r => natLE 16 r.nat
    | none => zeros 16
  else if o &&& 0xFF0FFF = 0xE00002 then padTo 256 (s.snap (unitOf o)).header
  else s.rdB o

/-- What reading an object does beside answering (R404, R406): an insomniac log entry that is read is unread no more. -/
def State.readEffect (s : State) (o : Nat) : State :=
  if o &&& 0xFFFF00 = 0xB03000 then { s with sleep := { s.sleep with unread := setBit s.sleep.unread (o % 256) false } } else s

/-- Reads an object (R321): its value as it travels in a message (R315). -/
def State.readObj (s : State) (o : Nat) : State × List Byte :=
  match objRow o with
  | none => (s, [])
  | some r =>
    if r.type.isBytes then (s.readEffect o, s.viewBytes o)
    else if s.measuredObj o then (s.tookFree, natBE r.type.size (s.measuredValue o))
    else (s, natBE r.type.size (s.viewNat o))

/-- An accepted write to a class-N object waits to be stored in flash (R319): the last value of each object is kept. -/
def State.noteStore (s : State) (o : Nat) (v : List Byte) : State :=
  let s1 := s.copyWritten o (beNat v)
  if objPersist o = .n then { s1 with stores := minsert s1.stores o v } else s1

/-- The epoch-governed objects (R169). -/
def epochObj (o : Nat) : Bool :=
  match objRow o with
  | some r => r.epoch
  | none => false

/-- Writes a numeric object that has no command of its own: a plain setting, or one that acts on the port or the hub. -/
def State.writeNumber (s : State) (o v : Nat) : OdRes :=
  if o &&& 0xFF0FFF = 0x200005 then
    let s1 := (s.wr o v).setTransmitter (portOf (unitOf o)) (v != 0)
    okRes (if v = 0 && s.rd o != 0 then s1.portDisable (portOf (unitOf o)) else s1)
  else if o &&& 0xFFF0FF = 0x803001 then okRes ((s.wr o v).calibrate (portOf (bits o 11 8)))
  else if dataCell o then okRes (s.writeCell o v)
  else if o = 0x610000 then s.writeLineEnable v
  else if o = 0x208100 then okRes (s.wr o v).listenFollow
  else if o / 2 ^ 12 = 0xA18 && (o % 2 ^ 12 = 7 || o % 2 ^ 12 = 8 || o % 2 ^ 12 = 9 || o % 2 ^ 12 = 0x16) then errRes s 0x02
  else okRes (s.wr o v)

/-- Writes a byte-string object that has no command of its own: a key takes its counter back to zero (R333). -/
def State.writeBlob (s : State) (o : Nat) (v : List Byte) : OdRes :=
  let s1 := s.wrB o v
  okRes (if o &&& 0xFFFFF0 = 0x002100 then s1.wr (0x002110 + o % 16) 0 else s1)

/-- Writes an object that has no command of its own (R321). -/
def State.writeObj (s : State) (r : ObjRow) (o : Nat) (v : List Byte) : OdRes :=
  if r.type.isBytes then s.writeBlob o v else s.writeNumber o (beNat v)

end Sys2Proof.Machine
end

