-- ==== Sys2Proof/Machine/Od.lean ====
section
/-!
DEFINITION. The OD service of the Keeper (R322 to R337): messages, authentication, the checks, the queue, the responses on the four routes, and the
frame in which every OD access is executed.
-/
namespace Sys2Proof.Machine

/-- The operation codes of R327. -/
def opCode : OdOp → Nat
  | .read => 1 | .write => 2 | .describe => 3 | .next => 4

/-- An OD message as read from its bytes (R325): operation code, object, authentication and value. -/
structure OdMessage where
  op   : Nat
  obj  : Nat
  ctr  : Nat
  auth : Option OdAuth
  val  : List Byte
  deriving DecidableEq, Repr

/-- The header of an OD message (R325, R326): operation, flags, object, key or error, length and counter. -/
def odHeader (op flags obj key n ctr : Nat) : List Byte :=
  natBE 1 op ++ natBE 1 flags ++ natBE 3 obj ++ natBE 1 key ++ natBE 2 n ++ natBE 4 ctr ++ zeros 4

/-- The length of a message by its own header (R325). -/
def odLength (l : List Byte) : Nat := 16 + beField l 6 2 + (if bit (beField l 1 1) 0 then 8 else 0)

/-- The form of a message is right (R335, check 1): length, reserved bytes and flags. -/
def odFormOk (l : List Byte) : Bool :=
  let auth := bit (beField l 1 1) 0
  16 ≤ l.length && l.length = odLength l && beField l 6 2 ≤ 2024 && beField l 1 1 ≤ 1 && beField l 12 4 = 0 &&
    (if auth then beField l 5 1 ≤ 3 else beField l 5 1 = 0 && beField l 8 4 = 0)

/-- Reads a message whose form is right. -/
def odParse (l : List Byte) : OdMessage :=
  let n := beField l 6 2
  { op := beField l 0 1
    obj := beField l 2 3
    ctr := beField l 8 4
    auth := if bit (beField l 1 1) 0 then some ⟨Fin.ofNat 4 (beField l 5 1), beField l 8 4, beField l (16 + n) 8⟩ else none
    val := slice l 16 n }

/-- The operation of a code, if there is one (R327). -/
def opOf : Nat → Option OdOp
  | 1 => some .read | 2 => some .write | 3 => some .describe | 4 => some .next | _ => none

/-- The number of a route in the order of R322 and R334. -/
def routeNum : OdRoute → Nat
  | .ring => 0 | .window => 1 | .udp => 2 | .mb0 => 3

/-- The CMAC of a message under a key (R332): over the context and the message without its CMAC. `dir` is 0 for a request, 1 for a response; a response carries
the node number that the hub reported when it checked the request. -/
def State.odMac (s : State) (k dir : Nat) (m : List Byte) : Nat :=
  cmac64 (s.rdB (0x002100 + k)) (natBE 2 (if dir = 1 then s.od.checked else s.node) ++ natBE 1 dir ++ zeros 1 ++ m)

/-- An access must be authenticated (R334): by the policy of its route, and for the policy and the keys themselves. -/
def State.authNeeded (s : State) (r : OdRoute) (op obj : Nat) : Bool :=
  let p := s.rd 0x002000
  let reads := op = 1 || op = 3 || op = 4
  if (op = 1 || op = 3) && obj ≤ 0x000007 then false
  else p.testBit (routeNum r + (if reads then 4 else 0)) ||
    (op = 2 && bits p 3 0 != 0 && (obj = 0x002000 || obj &&& 0xFFFFFC = 0x002100))

/-- Check 2 of R335 (R332 to R334): the error code, 0 where it passes. -/
def State.authError (s : State) (r : OdRoute) (op obj : Nat) (a : Option OdAuth) (val : List Byte) : Nat :=
  match a with
  | none => if s.authNeeded r op obj then 0x07 else 0
  | some x =>
    if (s.rdB (0x002100 + x.key.val)).all (fun b => b = 0) then 0x08
    else if s.odMac x.key.val 0 (odHeader op 1 obj x.key.val val.length x.ctr ++ val) != x.cmac then 0x08
    else if x.ctr ≤ s.rd (0x002110 + x.key.val) then 0x09
    else 0

/-- The journal records of R337, raised in the MGT island. -/
def State.odJournal (s : State) (reason err obj : Nat) : State := s.raise .mgt 0x06 reason (err * 2 ^ 24 + obj)

/-- The counter of an accepted authenticated access is stored before the access executes (R333). -/
def State.storeCounter (s : State) (a : Option OdAuth) : State :=
  match a with
  | some x => s.wr (0x002110 + x.key.val) x.ctr
  | none => s

/-- The object answers with access refused whatever the operation: parameters that the inlet channel does not have (R389). -/
def refusedObj (o : Nat) : Bool := o / 2 ^ 12 = 0xA18 && (o % 2 ^ 12 = 7 || o % 2 ^ 12 = 8 || o % 2 ^ 12 = 9 || o % 2 ^ 12 = 0x16)

/-- The mode lets a command through (R335 check 7): the feature commit (R338), the window commit (R347) and the promotion of a configuration (R437) are commands of Configure;
staging and its check (R75), the promotion of a schedule (R436) and the commands of parts (R447) those of the modes in which a bank can be staged. -/
def State.commandMode (s : State) (o : Nat) (v : List Byte) : Bool :=
  if o = 0x001200 || o = 0x901800 || (o = 0xC02100 && beNat v = 3) then s.mode = .configure
  else if o = 0x400100 || o = 0x400101 || o = 0xC05001 || o = 0xC05002 || o = 0xC05003 || (o = 0xC02100 && beNat v = 2) then s.stagingMode
  else true

/-- The mode lets a write through (R316, R335 check 7). Loopback mode is accepted in Test (R264). -/
def State.modeAllows (s : State) (r : ObjRow) (o : Nat) (v : List Byte) : Bool :=
  match r.access with
  | .cmd => s.commandMode o v
  | .rwc => s.mode = .configure
  | .rwh => s.mode = .configure || s.mode = .hold || (o &&& 0xFF0FFF = 0x700000 && s.mode = .test && beNat v = 4)
  | _ => true

/-- Checks 5 to 9 of R335 on an existing object: the error code, 0 where all pass. -/
def State.rowError (s : State) (op : OdOp) (o : Nat) (r : ObjRow) (v : List Byte) : Nat :=
  match op with
  | .read =>
    if r.feature.any (fun f => !(s.feature f)) then 0x0D
    else if r.access = .wo || r.access = .cmd || refusedObj o then 0x02
    else if v != [] then 0x05
    else 0
  | .write =>
    if r.feature.any (fun f => !(s.feature f)) then 0x0D
    else if r.access = .ro || refusedObj o then 0x02
    else if !(s.modeAllows r o v) then 0x03
    else if !(lengthFits r o v.length) then 0x05
    else if !(s.valueOk r o v) then 0x04
    else 0
  | _ => if v != [] then 0x05 else 0

/-- Checks 4 to 9 of R335, with area F (R314): the error code, 0 where all pass. -/
def State.accessError (s : State) (op : OdOp) (o : Nat) (v : List Byte) : Nat :=
  if o / 2 ^ 20 = 0xF then 0x02
  else if op != .next && s.absentObj o then 0x01
  else match objRow o with
    | none => 0x01
    | some r => s.rowError op o r v

/-- What an executed access answers: the state, error code, response value, and the flags of R326. -/
structure OdAnswer where
  st     : State
  err    : Nat := 0
  val    : List Byte := []
  late   : Bool := false
  staged : Bool := false
  deriving DecidableEq, Repr

/-- The prefix of R329 before a message: the transaction tag. -/
def odPrefix (tag : Nat) (m : List Byte) : List Byte := natBE 2 tag ++ zeros 2 ++ m

/-- The identifier that the service channel answers with (R331). -/
def State.answerId (s : State) : Bool × Nat :=
  let w := s.rd 0x003101
  if bit w 29 then (true, bits w 28 0 + 1) else (false, bits w 28 0 + 2 ^ 18)

/-- The data bytes of the frames that carry a message on the service channel (R331). -/
def serviceFrames (l : List Byte) : List (List Byte) :=
  let n := ceilDiv l.length 63
  (List.range n).map (fun i =>
    natBE 1 (b2n (i + 1 = n) * 128 + b2n (i = 0) * 64 + i % 64) ++ padTo 63 (slice l (63 * i) 63))

/-- A frame is the last of its message (R331): bit [7] of byte 0. -/
def lastFrame (f : CanFrame) : Bool := bit (beField f.data 0 1) 7

/-- A response of the service channel that waits is put to object 127 of MB0, one at a time, with the unlimited policy (R331); on a bus that is off it is
lost (R337). -/
def State.feedService (s : State) : State :=
  match s.od.mbOut with
  | [] => s
  | (_, f) :: rest =>
    if 2 ≤ (s.ctl 0).conf then
      (s.od.mbOut.filter (fun x => lastFrame x.2)).foldl (fun s x => s.raise .mgt 0x06 0x62 x.1) { s with od := { s.od with mbOut := [] } }
    else if (s.msg 0 127).req.isSome then s
    else ({ s with od := { s.od with mbOut := rest } }).queueRequest 0 127 { frame := f, policy := 0, limit := 0 }

/-- A transmission attempt of a controller is over (R275); on MB0 the service channel may then send on (R331). -/
def State.attemptOver (s : State) (n : Nat) (e : AttemptEnd) : State :=
  let t := s.attemptEnd n e
  if n = 0 then t.feedService else t

/-- A response that could not be sent is journalled (R337), with the error and the object that it names. -/
def State.responseLost (s : State) (m : List Byte) : State := s.odJournal 0x62 (beField m 5 1) (beField m 2 3)

/-- Sends a response (R328 to R331) on the route of its request. It is lost on an Ethernet link that is down, which is no state of this block but a free value, and where the
mailbox's response ring is full (R337). -/
def State.sendResponse (s : State) (h : OdHdr) (m : List Byte) : State :=
  match h.route with
  | .ring => s.sendFrame 7 (inName (if h.svc then s.rd 0x208100 else s.node) (s.newFrame h.peer h.cls h.flow 0x6 0 h.tag 0 0 m))
  | .window =>
    if 8 ≤ (s.od.rspWp + 16 - s.od.rspRp) % 16 then s.responseLost m else
    let k := s.od.rspWp % 8
    let s1 := { s with od := { s.od with
      rspMem := memWrite s.od.rspMem (0x1000 * k) (odPrefix h.tag m), rspWp := (s.od.rspWp + 1) % 16 } }
    if bit s.od.ctrl 0 then s1.notice 0 else s1
  | .udp => if s.freeNat 1 = 1 then s.tookFree.responseLost m else s.tookFree.emit (.odResponse h (odPrefix h.tag m))
  | .mb0 =>
    let id := s.answerId
    let brs := s.freeNat 1 = 1
    let item := beField m 5 1 * 2 ^ 24 + beField m 2 3
    let fs := (serviceFrames (odPrefix h.tag m)).map (fun (d : List Byte) => (item, (⟨id.1, id.2, true, brs, false, false, d, 0⟩ : CanFrame)))
    ({ s.tookFree with od := { s.od with mbOut := s.od.mbOut ++ fs } }).feedService

/-- Answers an access (R326): `passed` says that it was authenticated and its check passed. -/
def State.answer (s : State) (h : OdHdr) (op obj : Nat) (passed : Bool) (err : Nat) (val : List Byte) (late staged : Bool) : State :=
  let ctr := (h.auth.map OdAuth.ctr).getD 0
  let m := odHeader op (b2n passed + 2 * b2n late + 4 * b2n staged) obj err val.length ctr ++ val
  match passed, h.auth with
  | true, some a => s.sendResponse h (m ++ natBE 8 (s.odMac a.key.val 1 m))
  | _, _ => s.sendResponse h m

/-- Check 2 of R335 with its journal record (R337) and the counter stored (R333): the state, the error, and whether the message passed a CMAC check. -/
def State.authenticate (s : State) (h : OdHdr) (op obj : Nat) (val : List Byte) : State × Nat × Bool :=
  let e := s.authError h.route op obj h.auth val
  if e = 0 then (s.storeCounter h.auth, 0, h.auth.isSome)
  else if e = 0x07 then (s, e, false)
  else (s.odJournal 0x24 e obj, e, e = 0x09)

/-- The window requests that wait in the queue (R329). -/
def State.windowQueued (s : State) : Nat :=
  (s.od.queue.filter (fun q => q.hdr.route == .window)).length + (s.od.odd.filter (fun e => e.2.1.route == .window)).length

/-- A message of wrong form or of an unknown operation (R335 checks 1 and 3). -/
def oddMessage (l : List Byte) : Bool := !(odFormOk l) || (opOf (odParse l).op).isNone

/-- Such a message is answered (R335 checks 1 to 3). -/
def State.answerOdd (s0 : State) (h : OdHdr) (l : List Byte) : State :=
  let s := { s0 with od := { s0.od with checked := s0.node } }
  let m := odParse l
  if odFormOk l then
    let h1 := { h with auth := m.auth }
    let a := s.authenticate h1 m.op m.obj m.val
    a.1.answer h1 m.op m.obj a.2.2 (if a.2.1 = 0 then 0x0B else a.2.1) [] false false
  else s.sendResponse h (odHeader m.op 0 m.obj 0x0C 0 m.ctr)

/-- The messages of that kind that are now first in the order of arrival are answered (R322). -/
def State.answerFirst (s : State) : State :=
  (s.od.odd.takeWhile (fun e => e.1 = 0)).foldl (fun t e => t.answerOdd e.2.1 e.2.2)
    { s with od := { s.od with odd := s.od.odd.dropWhile (fun e => e.1 = 0) } }

/-- A message arrives on a route (R322, R335 checks 1 to 3): it is queued. One that finds the queue full is answered at once; so is one of wrong form or of an unknown operation
where the queue is empty, and it waits for the accesses before it otherwise. A message with no readable header is journalled and has no answer. -/
def State.arrive (s : State) (h : OdHdr) (l : List Byte) : State :=
  if l.length < 16 then s.odJournal 0x61 0x0C 0
  else
    let m := odParse l
    let h1 := { h with auth := m.auth }
    if 64 ≤ s.odHeld then s.sendResponse h (odHeader m.op 0 m.obj 0x0E 0 m.ctr)
    else match (if odFormOk l then opOf m.op else none) with
      | none => if s.od.queue = [] then s.answerOdd h l else { s with od := { s.od with odd := s.od.odd ++ [(s.od.queue.length, h, l)] } }
      | some op => { s with od := { s.od with queue := s.od.queue ++ [⟨h1, op, m.obj, m.val⟩] } }

/-- A message would be answered at once, not queued. -/
def State.answeredNow (s : State) (l : List Byte) : Bool := (s.od.queue == [] && oddMessage l) || 64 ≤ s.odHeld

/-- The message in a request slot of the mailbox (R329), cut to the length that its header gives. -/
def State.slotMessage (s : State) (k : Nat) : List Byte :=
  let l := memRead s.od.reqMem (0x1000 * k + 4) 2056
  l.take (odLength l)

/-- The hub takes the requests of the mailbox in order (R329): while response slots are free for those taken, and each so that its response keeps the
order of the requests. -/
def State.takeSlots (s : State) : Nat → State
  | 0 => s
  | n + 1 =>
    let l := s.slotMessage (s.od.reqRp % 8)
    if s.od.reqRp = s.od.reqWp || 8 ≤ (s.od.rspWp + 16 - s.od.rspRp) % 16 + s.windowQueued || (s.answeredNow l && s.windowQueued != 0) then s
    else
      let tag := beField (memRead s.od.reqMem (0x1000 * (s.od.reqRp % 8)) 2) 0 2
      let s1 := { s with od := { s.od with reqRp := (s.od.reqRp + 1) % 16 } }
      (s1.arrive ⟨.window, 0, tag, 0, 0, false, none⟩ l).takeSlots n

/-- The queue goes on after an access: messages that no operation reads are answered in their turn (R322), and the mailbox is looked at. -/
def State.takeMail (s : State) (n : Nat) : State := s.answerFirst.takeSlots n

/-- The Keeper is ready to execute this access (R322, R324): the OD is served, no handover pause holds the queue (R438), and the access is the first of the queue, or
arrives now at an empty queue. -/
def State.odReady (s : State) (q : OdAccessReq) : Bool := s.odServed && !s.keeperPaused && (s.od.queue == [] || s.od.queue.head? == some q)

/-- An access is taken from the head of the queue, and checked under the node number of this moment (R332). -/
def State.odTaken (s : State) : State :=
  { s with od := { s.od with queue := s.od.queue.drop 1, odd := s.od.odd.map (fun e => (e.1 - 1, e.2)), checked := s.node } }

/-- The access is to area F in Test (R314). -/
def State.undocumentedOd (s : State) (q : OdAccessReq) : Bool := s.mode = .test && q.obj / 2 ^ 20 = 0xF

/-- An access to area F in Test is answered once, with an error code and a value that the spec does not document (R314). -/
def State.runUndocumented (s : State) : OdAnswer :=
  let t := s.tookFree.tookFree
  let n := min 2024 (s.tookFree.freeNat 11)
  { st := t.tookFreeBytes n, err := s.freeNat 8, val := t.freeBytes n }

/-- Executes an access (R322 to R337): checks, execution by `run` where every check passes, and the response. -/
def State.odExecute (s : State) (q : OdAccessReq) (run : State → OdAnswer) : State :=
  if s.odReady q then
    let a := s.odTaken.authenticate q.hdr (opCode q.op) q.obj q.val
    let e := if a.2.1 != 0 then a.2.1 else if s.undocumentedOd q then 0 else a.1.accessError q.op q.obj q.val
    let r : OdAnswer := if e != 0 then { st := a.1, err := e } else if s.undocumentedOd q then a.1.runUndocumented else run a.1
    (r.st.answer q.hdr (opCode q.op) q.obj a.2.2 r.err r.val r.late r.staged).takeMail 8
  else s

/-- A committed sleep member takes no write to a class-N object (R395, R396). -/
def State.storeBarred (s : State) (o : Nat) : Bool := objPersist o = .n && s.sleep.back.isSome

/-- A write waits in an open batch (R170), and is noted for flash when the batch is committed. -/
def State.inBatch (s : State) (o : Nat) : Bool := epochObj o && s.switch.batch.isSome

/-- Executes a write whose effect is `eff` (R319, R323, R335 checks 10 and 11). -/
def State.runWrite (s : State) (o : Nat) (v : List Byte) (eff : State → OdRes) : OdAnswer :=
  if s.storeBarred o then { st := s, err := 0x06 }
  else
    let r := eff s
    if r.err = 0 then
      { st := if s.inBatch o then r.st else r.st.noteStore o v, late := objPersist o = .n && s.inBrace, staged := r.staged }
    else { st := r.st, err := r.err, val := if r.err = 0x0A then natBE 1 r.detail else [] }

/-- A write of value `v` to object `o` that a command of the table has to itself: its effect is `eff`. -/
def State.odWrite (s : State) (h : OdHdr) (o : Nat) (v : List Byte) (eff : State → OdRes) : State :=
  s.odExecute ⟨h, .write, o, v⟩ (fun t => t.runWrite o v eff)

/-- The same for a numeric object. -/
def State.odSet (s : State) (h : OdHdr) (o v : Nat) (eff : State → OdRes) : State := s.odWrite h o (natBE (objBits o / 8) v) eff

/-- The describe value of R327. -/
def describeBytes (r : ObjRow) : List Byte :=
  natBE 1 r.type.code ++ natBE 1 r.access.code ++ natBE 1 r.persist.code ++ natBE 1 (b2n r.feature.isSome + 2 * b2n r.epoch) ++
    natBE 2 r.maxLen ++ natBE 2 (r.feature.getD 0xFFFF) ++ zeros 8

/-- The numbers that a row lists, one for each value of its placeholders (R3). -/
def ObjRow.numbers (r : ObjRow) : List Nat :=
  r.dims.foldl (fun l d => l.flatMap (fun n => (List.range d.count).map (fun i => n + (d.lo + i) * 2 ^ d.shift))) [r.pat]

/-- The lowest of two numbers, one of which may be absent. -/
def lower (a : Option Nat) (n : Nat) : Option Nat :=
  match a with
  | none => some n
  | some m => some (min m n)

/-- The lowest existing object number above one, in an area (R327). -/
def nextInArea (area n : Nat) : Option Nat :=
  (areaRows area).foldl (fun a r => (r.numbers.filter (fun m => decide (n < m) && (objRow m).isSome)).foldl lower a) none

/-- The lowest existing object number above the one named, or 0xFF_FFFF (R327). -/
def nextObj (n : Nat) : Nat :=
  (((List.range 15).drop (n / 2 ^ 20)).findSome? (fun a => nextInArea a n)).getD 0xFFFFFF

/-- A write to this object is a command: it has an effect of its own beside the value, or in its place. -/
def ownRow (o : Nat) : Bool :=
  [0x001200, 0x100100, 0x100200, 0x208004, 0x208205, 0x208410, 0x300006, 0x300007, 0x300008, 0x400100, 0x400101, 0x400102, 0x400103, 0x408003,
    0x610003, 0x800001, 0x800104, 0x80100A, 0x802000, 0x901800, 0x907006, 0xB00001, 0xB03201, 0xC02000, 0xC02001, 0xC02003, 0xC02100, 0xC03000,
    0xC03001, 0xC05001, 0xC05002, 0xC05003, 0xD00001].contains o ||
  [0x200006, 0x20010C, 0x510002, 0x600102, 0x600103, 0x700000, 0x700006, 0x700109, 0x710000, 0x710004, 0xA1010A, 0xA1010B, 0xE00001].contains
    (o &&& 0xFF0FFF) ||
  epochObj o || (o / 2 ^ 16 = 0x50 && [0x08, 0x09, 0x0A, 0x0B, 0x0C, 0x0D, 0x20, 0x22, 0x25].contains (o % 256)) || o &&& 0xFF0F00 = 0x600000

/-- A read executed (R321, R327). -/
def State.runRead (s : State) (o : Nat) : OdAnswer :=
  let r := s.readObj o
  { st := r.1, val := r.2 }

/-- A describe executed (R327). -/
def State.runDescribe (s : State) (o : Nat) : OdAnswer := { st := s, val := ((objRow o).map describeBytes).getD [] }

/-- The same on this hub, which may lack the arbiter's objects (R155). -/
def State.nextObj (s : State) (n : Nat) : Nat :=
  let m := Machine.nextObj n
  if s.absentObj m then Machine.nextObj 0x2084FF else m

/-- A next executed (R327). -/
def State.runNext (s : State) (o : Nat) : OdAnswer := { st := s, val := natBE 3 (s.nextObj o) }

/-- A request frame reaches the Keeper over the ring (R328, R112). -/
def State.odFrame (s : State) (f : Frame) : State :=
  if s.odServed && s.ticking && f.type = 0x5 && frameWhole f && f.len = f.payload.length then
    s.arrive ⟨.ring, f.src, f.tag, f.cls, f.flow, s.ownName f.dst != s.node, none⟩ f.payload
  else s

/-- The host moves REQ_WP (R329, R213, R214): a move past the slots in use is ignored and flagged. -/
def State.mailRequest (s : State) (v : Nat) : State :=
  if s.odServed then
    let w := v % 16
    if 8 < (w + 16 - s.od.reqRp) % 16 then { s with od := { s.od with ptrErr := true } }
    else ({ s with od := { s.od with reqWp := w } }).takeMail 8
  else s

/-- The host moves RSP_RP (R329): a move past RSP_WP is ignored and flagged. -/
def State.mailRelease (s : State) (v : Nat) : State :=
  if s.odServed then
    let w := v % 16
    if (s.od.rspWp + 16 - s.od.rspRp) % 16 < (w + 16 - s.od.rspRp) % 16 then { s with od := { s.od with ptrErr := true } }
    else ({ s with od := { s.od with rspRp := w } }).takeMail 8
  else s

/-- A write of 1 to MB_CTRL [1] (R329). -/
def State.mailClear (s : State) : State := if s.odServed then { s with od := { s.od with ptrErr := false } } else s

/-- The version of IP that a requester speaks is on (R342): one below 2^48 is an IPv4 address and port, one above an IPv6 address and port. -/
def State.ipOn (s : State) (peer : Nat) : Bool :=
  if peer < 2 ^ 48 then s.rd 0x003001 != 0 else (s.rdB 0x003004).any (fun b => b != 0)

/-- A UDP datagram to a port (R330): to the OD port, of the exact length, or discarded and counted; one over a version of IP that is off does not arrive. -/
def State.odDatagram (s : State) (port peer : Nat) (l : List Byte) : State :=
  if s.odServed && s.ipOn peer && port == s.rd 0x003000 then
    let m := l.drop 4
    if l.length < 20 || m.length != odLength m then s.inc 0x003006 else s.arrive ⟨.udp, peer, beField l 0 2, 0, 0, false, none⟩ m
  else s

/-- A reassembly is abandoned (R331, R337). -/
def State.dropAssembly (s : State) : State :=
  if s.od.asm.isSome then ({ s with od := { s.od with asm := none } }).odJournal 0x61 0 0 else s

/-- A frame carries the identifier of service requests (R331). -/
def State.serviceRequest (s : State) (f : CanFrame) : Bool :=
  let w := s.rd 0x003101
  s.serviceOn && f.fdf && f.ide == bit w 29 && f.id = bits w 28 0 && f.data.length = 64

/-- A reassembled request arrives (R331): bytes after the end of the message are ignored. -/
def State.assembled (s : State) (l : List Byte) : State :=
  let m := l.drop 4
  s.arrive ⟨.mb0, 0, beField l 0 2, 0, 0, false, none⟩ (if m.length < 16 then m else m.take (odLength m))

/-- A service-channel frame is received (R331): a first frame begins a reassembly, one out of order abandons it, the last one ends it. -/
def State.serviceFrame (s : State) (f : CanFrame) : State :=
  if s.odServed && s.storesFrames 0 && s.serviceRequest f then
    let s1 := (s.validReceived 0).inc (busObj 0 1 4)
    let b := beField f.data 0 1
    let d := f.data.drop 1
    let next (t : State) (l : List Byte) : State :=
      if bit b 7 then ({ t with od := { t.od with asm := none } }).assembled l
      else { t with od := { t.od with asm := some ((b + 1) % 64, l) } }
    if bit b 6 then next s1.dropAssembly d
    else match s1.od.asm with
      | some (k, l) => if b % 64 = k then next s1 (l ++ d) else s1.dropAssembly
      | none => s1
  else s

/-- A gap of more than 10 ms abandons the reassembly (R331). -/
def State.serviceTimeout (s : State) : State := if s.odServed then s.dropAssembly else s

/-- A pending value goes into the active copy of the class-N store (R319, R430); an empty copy takes the OD version of the firmware that runs (R441). -/
def State.storeOne (s : State) (o : Nat) : State :=
  match mfind s.stores o, objRow o with
  | some v, some r =>
    let s1 := { s with stores := merase s.stores o, update := { s.update with storeVer := if s.update.storeVer = 0 then s.odVersion else s.update.storeVer } }
    if r.type.isBytes then { s1 with flashBlobs := minsert s1.flashBlobs o v } else { s1 with flash := minsert s1.flash o (beNat v) }
  | _, _ => s

/-- The Keeper stores an accepted value in flash (R319), and with one object of a configuration set all that wait with it (R437); in brace it stores
nothing (R420). -/
def State.flashStore (s : State) (o : Nat) : State :=
  if s.odServed && !s.inBrace then
    if s.update.setStores.contains o then
      s.update.setStores.foldl State.storeOne { s with update := { s.update with setStores := [] } }
    else s.storeOne o
  else s

/-- A write of 1 to 0.012.00 (R338, R339): the accepted words become active, or all are zero where one was not offered. A hub whose pair role comes or goes with its
feature begins or ceases to listen (R265). -/
def State.featureCommit (s : State) : OdRes :=
  let extra (w : Nat) : Nat := s.rd (0x001100 + w) - (s.rd (0x001100 + w) &&& s.rd (0x001000 + w))
  let bad := (List.range 4).any (fun w => extra w != 0)
  let s1 := (List.range 4).foldl (fun s w => (s.wr (0x001300 + w) (if bad then 0 else s.rd (0x001100 + w))).wr (0x001500 + w)
    (if bad then extra w else s.rd (0x001500 + w))) s
  if s.mode != .configure then errRes s 0x03 else if bad then errRes (s1.wr 0x001400 2).listenFollow 0x04 else okRes (s1.wr 0x001400 1).listenFollow

end Sys2Proof.Machine
end

