-- ==== Sys2Proof/Machine/Banks.lean ====
section
/-!
DEFINITION. The table banks (R75 to R83) and the schedule image that fills one (R443, R495): staging, the load check, and bank switches.
-/
namespace Sys2Proof.Machine

/-- The state of the staged bank (R82): 4.000.01. -/
def State.bankState (s : State) : Nat := s.rd 0x400001

/-- The first cycle whose boundary is at least one full cycle away from a moment of the current cycle (R78, R323, R447). -/
def State.nearest (s : State) : Nat := s.cycle + 2

/-- The Keeper loads the pawn programs of a staged bank into the shadows (R222). -/
def State.loadShadows (s : State) (b : Bank) : State :=
  let s1 := (bankProgramList b).foldl (fun s r => s.loadProgram r) s
  { s1 with seq := { s1.seq with shadowed := true } }

/-- Contents are loaded into the staged bank (R75): state 1, and the pawn programs go to the shadows (R222); a switch at bring-up that waited for what was there is
off (R436). The node number comes with the first image (R342): that of its container section, else that of its contract record. DESIGN CHOICE (log 142): no rule
has the hub check that number against 0x001 to 0x3FE, so its low 10 bits are taken as they are. -/
def State.loadStaged (s : State) (b : Bank) : State :=
  let s1 := ((s.setStaged b).loadShadows b).wr 0x400001 1
  let s2 := { s1 with seq := { s1.seq with checking := false }, update := { s1.update with autoSwitch := false } }
  if s.node = 0 then s2.wr 0x000005 (b.node.getD (bankNode b) % 1024) else s2

/-- A write of 1 to 4.001.00 (R75, R83): the staged bank is cleared and loaded with what follows. -/
def State.beginStaging (s : State) (img : Bank) : OdRes :=
  if !s.stagingMode then errRes s 0x03
  else if s.bankState = 4 then refusedRes s 0x32
  else okRes (s.loadStaged { img with migrated := false, slot := none })

/-- A write of 1 to 4.001.01 (R75, R76). -/
def State.startCheck (s : State) : OdRes :=
  if !s.stagingMode then errRes s 0x03
  else if s.bankState = 4 then refusedRes s 0x32
  else if s.bankState = 0 then refusedRes s 0x33
  else okRes { s with seq := { s.seq with checking := true } }

/-- A write to 4.001.02 (R78): a request made in a mode without service waits for Run (R79). DESIGN CHOICE: while a load check of a checked bank runs again,
the bank is not checked and the request is refused with 0x31. The swaps of its pawns are armed for its boundary (R223); DESIGN CHOICE: the programs of a bank that was
active before, which are in no shadow, are loaded into the shadows here. -/
def State.switchAtCycle (s : State) (v : Nat) : OdRes :=
  let no (d : Nat) : OdRes := refusedRes (s.inc 0x401004) d
  if s.bankState = 4 then no 0x32
  else if s.bankState != 2 || s.seq.checking then no 0x31
  else if v != 0 && v < s.nearest then no 0x30
  else
    let named := if s.mode = .run || s.mode = .repair || s.mode = .hold then some (if v = 0 then s.nearest else v) else none
    let s1 := if s.seq.shadowed then s else s.loadShadows s.stagedBank
    let s2 := (s1.armPrograms s.stagedBank).wr 0x400001 4
    stagedRes { s2 with seq := { s2.seq with switchAt := named } }

/-- The load check ends (R76, R81, R40 condition 1); a bank loaded at bring-up is then switched to (R436). DESIGN CHOICE: R43 has the contract
id reported in the journal records of a load check, and the tag of R76 has no field for it; the record goes without it, as 4.000.05 and the image have the id. -/
def State.checkComplete (s : State) : State :=
  if s.odServed && s.seq.checking then
    let s1 := { s with seq := { s.seq with checking := false }, update := { s.update with autoSwitch := false } }
    match loadCheck s1 s1.stagedBank with
    | none =>
      let s2 := (((s1.wr 0x400001 2).wr 0x400200 0).wr 0x400201 0).wr 0x207000 0
      if s.update.autoSwitch then (s2.switchAtCycle 0).st else s2
    | some e =>
      let s2 := (((s1.wr 0x400001 3).wr 0x400200 e.code).wr 0x400201 e.move).wr 0x207000 e.entry
      let s3 := if s.hasBank then s2 else s2.latchFailure 0
      s3.raise .mgt 0x06 0x60 (e.code * 2 ^ 24 + e.move % 2 ^ 16)
  else s

/-- The boundary of the pending switch is less than one cycle away (R83). -/
def State.switchNear (s : State) : Bool :=
  match s.seq.switchAt with
  | some n => n < s.nearest
  | none => s.rd 0x100101 = 4

/-- The pending switch is withdrawn: the bank is checked again (R83). -/
def State.dropSwitch (s : State) : State :=
  let s1 := s.disarmPrograms.wr 0x400001 2
  { s1 with seq := { s1.seq with switchAt := none } }

/-- A write of 1 to 4.001.03 (R83). -/
def State.withdrawSwitch (s : State) : OdRes :=
  if s.bankState != 4 then okRes s else if s.switchNear then refusedRes s 0x32 else okRes s.dropSwitch

/-- A pending switch takes effect at the boundary that begins cycle `n`, in the mode that holds from there (R78, R79, R408). -/
def State.switchDue (s : State) (n : Nat) : Bool :=
  s.bankState = 4 &&
    (match s.seq.switchAt with
     | some k => k ≤ n && (s.mode = .run || s.mode = .repair || s.mode = .hold)
     | none => s.mode = .run || s.mode = .repair)

/-- The boot record now says this (R431): at once, or at the end of brace. -/
def State.setBoot (s : State) (b : BootRec) : State :=
  if s.inBrace then { s with update := { s.update with bootDefer := some b } }
  else { s with update := { s.update.writeBoot b with bootDefer := none } }

/-- The counts of R262 that restart at zero when a table bank becomes active. -/
def State.restartPinCounts (s : State) : State :=
  ((List.range 64).map (fun l => 0x610100 + l) ++ (List.range 5).map (fun k => 0x610200 + k)).foldl (fun s o => s.wr o 0) s

/-- The staged bank becomes active (R79, R45, R47, R177, R223, R262, R436). -/
def State.switchBanks (s : State) : State :=
  let b := s.stagedBank
  let was := s.hasBank
  let s1 := (((s.wr 0x400000 s.stagedNum).wr 0x400001 (if was then 2 else 0)).wr 0x400002 (bankCycleLen b)).inc 0x401003
  let s2 := ([0x408010, 0x408011, 0x408012, 0x408013].foldl (fun s o => s.wr o 0) s1).restartPinCounts
  let s3 := s2.wr 0x000005 (b.node.getD (bankNode b) % 1024)
  let s4 := ({ s3 with seq := { s3.seq with
    switchAt := none
    since := s.cycle
    oldBank := s.activeBank
    shadowed := false
    recs := List.replicate (bankRecordList b).length {} } }).closeGates
  let s5 := s4.swapPrograms
  match b.slot with
  | some k => s5.setBoot { s5.bootNow with schedB := k, schedOk := true }
  | none => s5

/-- One directory entry of a schedule image (R495): kind, offset, length, and whether its reserved bytes are zero. -/
structure DirEntry where
  kind : Nat
  off  : Nat
  len  : Nat
  ok   : Bool
  deriving DecidableEq, Repr

/-- The directory of a schedule image (R495). -/
def dirEntries (l : List Byte) : List DirEntry :=
  (List.range (min 8 (leField l 4 2))).map (fun k =>
    let o := 32 + 16 * k
    { kind := leField l o 2, off := leField l (o + 4) 4, len := leField l (o + 8) 4, ok := leField l (o + 2) 2 = 0 && leField l (o + 12) 4 = 0 })

/-- Two sub-sections overlap. -/
def DirEntry.meets (a b : DirEntry) : Bool := decide (a.off < b.off + b.len) && decide (b.off < a.off + a.len)

/-- Each entry of a list stands to all later ones as `f` says. -/
def pairsOk {α : Type} (f : α → α → Bool) : List α → Bool
  | [] => true
  | x :: t => t.all (fun y => f x y) && pairsOk f t

/-- The load-check code of the directory (R495, R81), 0 where it keeps the rules. -/
def dirCode (l : List Byte) : Nat :=
  let n := leField l 4 2
  let es := dirEntries l
  if leField l 0 4 != 0x53434844 || n < 1 || 8 < n || leNat (slice l 6 26) != 0 || l.length < 32 + 16 * n then 0x07
  else if es.any (fun e => e.kind < 1 || 8 < e.kind) then 0x05
  else if es.all (fun e => e.ok && e.off % 16 = 0 && 32 + 16 * n ≤ e.off && e.off + e.len ≤ l.length) &&
      pairsOk (fun a b => a.kind != b.kind && !(a.meets b)) es then 0
  else 0x07

/-- A sub-section of a schedule image (R495); empty where the image has none of the kind. -/
def subSection (l : List Byte) (kind : Nat) : List Byte :=
  match (dirEntries l).find? (fun e => e.kind = kind) with
  | some e => slice l e.off e.len
  | none => []

/-- A contract record of major version 0 migrated to version 1.0 (R443, R43). -/
def migrateContract (l : List Byte) : List Byte :=
  let body := l.take 4 ++ [0x00, 0x01] ++ slice l 0x006 0x1E ++ natLE 1 6 ++ natLE 1 3 ++ natLE 1 64 ++ natLE 1 25 ++ natLE 2 720 ++ natLE 2 880 ++
    natLE 2 8 ++ natLE 2 1100 ++ slice l 0x030 2 ++ natLE 2 1000 ++ slice l 0x034 0x1AC
  body ++ sha256 body

/-- The bank that a schedule image for a node fills (R436, R443, R495), loaded from a schedule slot. -/
def bankOfImage (l : List Byte) (slotB : Bool) (node : Nat) : Bank :=
  let c := subSection l 0x07
  let old := c.length = 512 && leField c 5 1 = 0
  { moves := subSection l 0x01
    layout := subSection l 0x02
    programs := subSection l 0x03
    gates := subSection l 0x04
    crossbar := subSection l 0x05
    inputs := subSection l 0x06
    contract := if old then migrateContract c else c
    records := subSection l 0x08
    dirError := dirCode l
    migrated := old
    slot := some slotB
    node := some node }

end Sys2Proof.Machine
end

