-- ==== Sys2Proof/Machine/Update.lean ====
section
/-!
DEFINITION. Update (R426 to R443): the Reostian container, its verification, promotion, firmware trials and the Keeper handover.
-/
namespace Sys2Proof.Machine

/-- One entry of a container's section table (R427). -/
structure SectionRec where
  kind : Nat
  node : Nat
  off  : Nat
  len  : Nat
  ver  : Nat
  sec  : Nat
  deriving DecidableEq, Repr

/-- The section table of a container (R426, R427). -/
def sectionList (l : List Byte) : List SectionRec :=
  (List.range (min 64 (leField l 0x006 2))).map (fun k =>
    let o := 0x080 + 32 * k
    { kind := leField l o 2, node := leField l (o + 2) 2, off := leField l (o + 4) 4, len := leField l (o + 8) 4, ver := leField l (o + 12) 4,
      sec := leField l (o + 16) 4 })

/-- Two sections overlap (R427). -/
def SectionRec.meets (a b : SectionRec) : Bool := decide (a.off < b.off + b.len) && decide (b.off < a.off + a.len)

/-- The slot size limit of a section kind (R427). -/
def slotLimit (kind : Nat) : Nat := if kind = 3 then 64 * 1024 else 1024 * 1024

/-- The public key of a key id, where it is valid and set (R428, R453). -/
def State.containerKey (s : State) (id : Nat) : Option (List Byte) :=
  if id = 0 || id = 1 then (if Config.noraskineKeysValid.getLsbD id then some (natBE 64 (Config.noraskineKey id).toNat) else none)
  else if id = 0x10 || id = 0x11 then
    let k := s.rdB (0xC01000 + id % 16)
    if k.any (fun b => b != 0) then some k else none
  else none

/-- The schedule image of a container that is promoted on this hub (R436). -/
def State.scheduleSection (s : State) (l : List Byte) : Option SectionRec :=
  let imgs := (sectionList l).filter (fun x => x.kind = 2)
  if s.node != 0 then imgs.find? (fun x => x.node = s.node)
  else if s.rd 0xC04002 != 0 then imgs.find? (fun x => x.node = s.rd 0xC04002)
  else if imgs.length = 1 then imgs.head? else none

/-- The configuration sets of a container for this hub (R437): those for every node first, then those for this node. -/
def State.configSections (s : State) (l : List Byte) : List SectionRec :=
  let sets := (sectionList l).filter (fun x => x.kind = 3)
  sets.filter (fun x => x.node = 0x3FF) ++ sets.filter (fun x => x.node = s.node && s.node != 0)

/-- The firmware section of a container. -/
def firmwareSection (l : List Byte) : Option SectionRec := (sectionList l).find? (fun x => x.kind = 1)

/-- The section table is valid (R429, code 0x07). -/
def tableOk (l : List Byte) : Bool :=
  let n := leField l 0x006 2
  1 ≤ n && n ≤ 64 && (sectionList l).all (fun x => 1 ≤ x.kind && x.kind ≤ 3 && x.off + x.len ≤ leField l 0x008 4) &&
    pairsOk (fun a b => !(a.meets b)) (sectionList l)

/-- The kinds of key and section go together (R428). -/
def kindsMatch (l : List Byte) : Bool := (sectionList l).all (fun x => if leField l 0x00E 2 < 0x10 then x.kind = 1 else x.kind != 1)

/-- The verify code of a staged container (R429): the first check that fails, in order. -/
def State.verifyCode (s : State) (l : List Byte) : Nat :=
  if leField l 0 4 != 0x52454F53 || leField l 5 1 != 1 then 0x01
  else if l.length != leField l 0x008 4 then 0x02
  else if leField l 0x00C 2 != 0x9640 then 0x03
  else match s.containerKey (leField l 0x00E 2) with
    | none => 0x04
    | some key =>
      if !(ecdsaVerify key (sha256 (l.take 0x40)) (slice l 0x040 64)) then 0x05
      else if sha256 (l.drop 0x080) != slice l 0x020 32 then 0x06
      else if !(tableOk l) then 0x07
      else if !(kindsMatch l) then 0x08
      else if (sectionList l).any (fun x => x.kind = 1 && x.sec < s.securityFloor) then 0x09
      else if (sectionList l).any (fun x => slotLimit x.kind < x.len) then 0x0A
      else if (firmwareSection l).isNone && s.configSections l == [] && (s.scheduleSection l).isNone then 0x0B
      else 0x00

/-- A write to C.020.00 (R432, R433): staging begins. -/
def State.beginContainer (s : State) (v : Nat) : OdRes :=
  if s.inBrace then errRes s 0x06
  else if s.update.promoting != 0 then refusedRes s 0x0A
  else okRes ((({ s with update := { s.update with staging := [], total := v } }).wr 0xC02002 0).wr 0xC02004 1)

/-- A write to C.020.01 (R432, R433): one chunk. -/
def State.stagingChunk (s : State) (v : List Byte) : OdRes :=
  if s.inBrace then errRes s 0x06
  else
    let d := v.drop 4
    let n := s.update.staging.length
    if beField v 0 4 != n || s.update.total < n + d.length then refusedRes s 0x05
    else okRes (({ s with update := { s.update with staging := s.update.staging ++ d } }).wr 0xC02002 (n + d.length))

/-- A write of 1 to C.020.03 (R429): verification begins. -/
def State.verify (s : State) : OdRes := okRes (s.wr 0xC02004 2)

/-- Verification ends (R429). -/
def State.verifyComplete (s : State) : State :=
  if s.odServed && s.rd 0xC02004 = 2 then
    let c := s.verifyCode s.update.staging
    let s1 := s.wr 0xC02005 c
    if c = 0 then s1.wr 0xC02004 3 else (s1.wr 0xC02004 4).raise .mgt 0x06 0x60 (c * 2 ^ 24)
  else s

/-- A verified container is staged (R432). -/
def State.verified (s : State) : Bool := s.rd 0xC02004 = 3

/-- A promotion starts to copy a section (R434). -/
def State.startCopy (s : State) (kind : Nat) (x : SectionRec) : State :=
  ({ s with update := { s.update with
    promoting := kind
    copying := { full := true, data := slice s.update.staging x.off x.len, version := some x.ver, sec := x.sec, node := x.node,
                 od := (Config.firmwareOd (slice s.update.staging x.off x.len)).toNat } } }).wr 0xC02101 1

/-- A write of 1 to C.021.00 (R434, R435). -/
def State.promoteFirmware (s : State) : OdRes :=
  if s.update.promoting != 0 then refusedRes s 0x0A
  else match (if s.verified then firmwareSection s.update.staging else none) with
    | some x => okRes (s.startCopy 1 x)
    | none => refusedRes s 0x06

/-- A write of 2 to C.021.00 (R434, R436). -/
def State.promoteSchedule (s : State) : OdRes :=
  if !s.stagingMode then errRes s 0x03
  else if s.update.promoting != 0 then refusedRes s 0x0A
  else match (if s.verified then s.scheduleSection s.update.staging else none) with
    | some x => if s.bankState = 4 then refusedRes s 0x32 else okRes (s.startCopy 2 x)
    | none => refusedRes s 0x06

/-- The promotion is over (R434): C.021.01. -/
def State.endPromotion (s : State) (result : Nat) : State :=
  ({ s with update := { s.update with promoting := 0, copying := {} } }).wr 0xC02101 result

/-- Writes a firmware slot: B or A. -/
def State.setFwSlot (s : State) (slotB : Bool) (x : FwSlot) : State :=
  { s with update := if slotB then { s.update with fwB := x } else { s.update with fwA := x } }

/-- The firmware slot that a promotion writes (R434): the one that is not in use. -/
def State.spareSlot (s : State) : Bool := !s.update.runB

/-- The copy of a promotion ends, its read-back right or wrong (R434 to R436); what a failed copy leaves in the inactive slot is open. -/
def State.promotionComplete (s : State) (ok : Bool) : State :=
  let b := s.bootNow
  let x := s.update.copying
  if !s.odServed || s.inBrace then s
  else if s.update.promoting = 1 then
    if ok then ((s.setFwSlot s.spareSlot { x with data := [] }).setBoot { b with fwB := s.spareSlot, trial := true, started := false }).endPromotion 2
    else ((s.setFwSlot s.spareSlot { full := true, data := [], version := some (s.freeNat 32), sec := 0, od := s.freeNat 48 / 2 ^ 32 }).tookFree).endPromotion 3
  else if s.update.promoting = 2 then
    let slotB := b.schedOk && !b.schedB
    if ok then
      let s1 := { s with update := if slotB then { s.update with schedB := x.data, nodeB := x.node } else { s.update with schedA := x.data, nodeA := x.node } }
      if s.bankState = 4 then s1.endPromotion 3
      else
        let s2 := s1.loadStaged (bankOfImage x.data slotB x.node)
        ({ s2 with seq := { s2.seq with checking := true } }).endPromotion 2
    else s.endPromotion 3
  else s

/-- The active copy of the class-N store (R430). -/
def State.activeStore (s : State) : StoreCopy := ⟨s.flash, s.flashBlobs, s.update.storeVer⟩

/-- The other copy of the class-N store becomes the active one, with this content, and the boot record says so (R431, R442). -/
def State.switchStore (s : State) (c : StoreCopy) : State :=
  let t := { s with flash := c.objs, flashBlobs := c.blobs, update := { s.update with storeVer := c.ver, idleStore := s.activeStore } }
  t.setBoot { s.bootNow with storeB := !s.bootNow.storeB }

/-- A reverted trial returns to the store from before its migration, and what was written meanwhile is lost (R442). -/
def State.storeBack (s : State) : State :=
  if s.update.oldStore then
    let t := s.switchStore s.update.idleStore
    { t with stores := [], update := { t.update with oldStore := false, setStores := [] } }
  else s

/-- A stored value is in the range of its class-N object. -/
def State.storedOk (s : State) (o : Nat) (v : List Byte) : Bool :=
  match objRow o with
  | some r => lengthFits r o v.length && s.valueOk r o v
  | none => false

/-- A map rebuilt with its keys rising, from the class-N objects of a list. -/
def storeMap {α : Type} (l : List (Nat × α)) : NMap α := (l.filter (fun e => objPersist e.1 = .n)).foldl (fun m e => minsert m e.1 e.2) []

/-- The store of an older major version is migrated into the other copy (R442): a value outside its new range takes its default and is journalled. -/
def State.migrateStore (s : State) (od : Nat) : State :=
  let nums := storeMap (Config.migrateNumbers s.flash)
  let strs := storeMap (Config.migrateBytes s.flashBlobs)
  let okN (e : Nat × Nat) : Bool := s.storedOk e.1 (natBE (objBits e.1 / 8) e.2)
  let okB (e : Nat × List Byte) : Bool := s.storedOk e.1 e.2
  let bad := (nums.filter (fun e => !(okN e))).map Prod.fst ++ (strs.filter (fun e => !(okB e))).map Prod.fst
  let t := s.switchStore ⟨nums.filter okN, strs.filter okB, od⟩
  bad.foldl (fun s o => s.raise .mgt 0x06 0x63 (0x04 * 2 ^ 24 + o)) { t with update := { t.update with oldStore := s.bootNow.trial } }

/-- A firmware of an OD version starts on the class-N store (R441, R442): a store of an older major version is migrated; of one of a higher minor version the objects
that it does not know are skipped and counted; one of a higher major version is not used, which gives the defaults (R414). -/
def State.startStore (s : State) (od : Nat) : State :=
  let v := s.update.storeVer
  if v = 0 then s
  else if bits v 15 8 < bits od 15 8 then s.migrateStore od
  else if bits od 15 8 < bits v 15 8 then (s.switchStore {}).wr 0x104003 1
  else if bits od 7 0 < bits v 7 0 then
    s.addTo 0xC04101 (((s.flash.map Prod.fst ++ s.flashBlobs.map Prod.fst).filter (fun o => (objRow o).isNone)).length)
  else s

/-- The class-N objects take the values of the active copy of the store (R411), but for those whose store is pending. -/
def State.loadStore (s : State) : State :=
  let kept (o : Nat) : Bool := objPersist o != .n || (mfind s.stores o).isSome
  { s with
    objs := persistObjs kept s.objs (s.flash.filter (fun e => objPersist e.1 = .n))
    blobs := persistObjs kept s.blobs (s.flashBlobs.filter (fun e => objPersist e.1 = .n)) }

/-- The firmware that runs is the one on trial (R435). -/
def State.onTrial (s : State) : Bool := s.bootNow.trial && s.bootNow.started && s.update.runB = s.bootNow.fwB

/-- The firmware on trial is confirmed (R435, R440, R442): the fused floor rises with it, the outgoing core is released, and the store from before a migration is
given up. A firmware that a handover has still to start is not confirmed. -/
def State.confirm (s : State) : State :=
  let b := s.bootNow
  if s.onTrial then
    let s1 := s.setBoot { b with trial := false }
    { s1 with update := { s1.update with
      handover := if s.update.handover = .trial then .idle else s.update.handover
      secRaised := max s1.update.secRaised (min 64 (s.fwSlot b.fwB).sec)
      idleStore := if s.update.oldStore then {} else s1.update.idleStore
      oldStore := false } }
  else s

/-- A trial is reverted in the boot record (R435, R440), and the store with it (R442): the other slot is active. -/
def State.revertTrial (s : State) : State :=
  let b := s.bootNow
  (s.setBoot { b with fwB := !b.fwB, trial := false, revert := true }).storeBack

/-- A write of 1 to C.030.00 (R438): with live handover active. -/
def State.startHandover (s : State) : OdRes :=
  let b := s.bootNow
  if !(s.feature 96) then errRes s 0x02
  else if s.update.handover != .idle then refusedRes s 0x07
  else if !(b.trial && !b.started) then refusedRes s 0x06
  else if s.sleep.back.isSome then refusedRes s 0x08
  else
    let s1 := s.setBoot { b with started := true }
    okRes { s1 with update := { s1.update with handover := .starting } }

/-- What R439 does not list ends with the core that held it: a promotion that runs, a load check, an open batch, and a reassembly of the service channel. -/
def State.passState (s : State) : State :=
  let t := if s.update.promoting = 0 then s else s.endPromotion 3
  { t with seq := { t.seq with checking := false }, switch := { t.switch with batch := none }, od := { t.od with asm := none } }

/-- Step 4 of a handover, or of a handback (R438, R440): the other core goes on. -/
def State.endPause (s : State) (back : Bool) : State :=
  let t := s.passState
  let u := { t with update := { t.update with handover := if back then .idle else .trial, runB := if back then !t.update.runB else t.bootNow.fwB } }
  (if back then u else u.inc 0xC03004).loadStore

/-- Step 3 of a handover, or of a handback (R438, R440): the pause in µs begins, at most 2 ms; where no beats exist it is over at once. -/
def State.beginPause (s : State) (us : Nat) (back : Bool) : State :=
  let n := min 2000 us
  let t := { s.wr 0xC03005 n with update := { s.update with handover := .paused (s.nowNs + 1000 * n) back } }
  if s.ticking then t else t.endPause back

/-- A pause that is over by this beat ends (R438). -/
def State.pauseAtBeat (s : State) : State :=
  match s.update.handover with
  | .paused u back => if u ≤ s.nowNs then s.endPause back else s
  | _ => s

/-- The incoming core is ready, or steps 1 and 2 have failed (R438 to R440, R442): the pause begins, of the length given in µs, or the handover is abandoned. -/
def State.coreReady (s : State) (ok : Bool) (pause : Nat) : State :=
  if s.odServed && s.update.handover = .starting then
    if ok then (s.startStore (s.fwSlot s.bootNow.fwB).od).beginPause pause false
    else ({ s with update := { s.update with handover := .idle } }).revertTrial
  else s

/-- A trial heartbeat is missed (R440): the Keeper goes back to the outgoing core, after a pause of at most 2 ms whose length the event does not give. -/
def State.heartbeatMissed (s : State) : State :=
  if s.odServed && s.update.handover = .trial then
    let s1 := s.revertTrial
    ((s1.tookFree).raiseOpen .mgt 0x00 0x77).beginPause (s1.freeNat 11 % 2001) true
  else s

/-- The trial time passes (R435). -/
def State.trialExpiry (s : State) : State :=
  if s.odServed && s.stagingMode then s.confirm else s

/-- The boot record deferred by brace is written once brace is over (R421, R436). -/
def State.bootAfterBrace (s : State) : State :=
  match s.update.bootDefer with
  | some b => if s.inBrace then s else s.setBoot b
  | none => s

end Sys2Proof.Machine
end

