-- ==== Sys2Proof/Machine/Repair.lean ====
section
/-!
DEFINITION. Isolation, test and return of a part in service (R41, R418, R446 to R450).
-/
namespace Sys2Proof.Machine

/-- The part code names a part that can be isolated (R446). -/
def partCode (p : Nat) : Bool := (0x10 ≤ p && p ≤ 0x13) || (0x20 ≤ p && p ≤ 0x29) || (0x80 ≤ p && p ≤ 0x87)

/-- The object and bit in which a part shows as isolated (R453); while one is, bit [8] of 4.080.01 is set (R41). -/
def State.setIsolated (s : State) (p : Nat) (b : Bool) : State :=
  let s1 := if b then s.wr 0x408001 (setBit (s.rd 0x408001) 8 true) else s
  if p < 0x80 then s1.wr 0xC05100 (setBit (s1.rd 0xC05100) p b) else s1.wr 0xC05101 (setBit (s1.rd 0xC05101) (p - 0x80) b)

/-- The part named in C.050.00. -/
def State.partNamed (s : State) : Nat := s.rd 0xC05000

/-- A boundary named for a part (R447, R450): 0 names the nearest one; a nearer one is refused, and so is the replacement of a near one. -/
def State.boundaryNamed (s : State) (v : Nat) (prev : Option Nat) : Option Nat :=
  let n := if v = 0 then s.nearest else v
  if n < s.nearest || prev.any (fun k => decide (k < s.nearest)) then none else some n

/-- The conditions common to isolation, test and return (R446, R447, R450): 0 where they hold, else the error, with a detail in the tens of 256. -/
def State.partRefused (s : State) (wantIsolated sleepMatters : Bool) : Option OdRes :=
  let p := s.partNamed
  if !s.stagingMode then some (errRes s 0x03)
  else if !(partCode p) then some (refusedRes s 0x01)
  else if sleepMatters && s.sleep.back.isSome then some (refusedRes s 0x08)
  else if s.partIsolated p != wantIsolated then some (refusedRes s 0x03)
  else none

/-- A write to C.050.01 (R447, R450). -/
def State.isolateAt (s : State) (v : Nat) : OdRes :=
  let p := s.partNamed
  (s.partRefused false true).getD
    (match s.boundaryNamed v (mfind s.repair.isolating p) with
     | some n => stagedRes { s with repair := { s.repair with isolating := minsert s.repair.isolating p n } }
     | none => refusedRes s 0x02)

/-- The pawns of a cluster. -/
def clusterPawns (c : Nat) : List Nat := (List.range 16).map (fun i => 16 * c + i)

/-- The active program and configuration of a pawn (R449): what it executes, with the entry of the active bank where that is the program it came with. -/
def State.activeProg (s : State) (q : Nat) : ReturnProg :=
  let p := s.pawn q
  let entry := match (bankProgramList s.activeBank).find? (fun r => r.pawn == q) with
    | some r => if s.programChanges r then s.rd (pawnObj q 0x21) else r.swap
    | none => s.rd (pawnObj q 0x21)
  ⟨p.imem, p.slots, p.divv, p.tos, entry⟩

/-- An IRST takes the programs of a cluster from its cells (R418): the Keeper has them, to write them back (R449). -/
def State.savePrograms (s : State) (c : Nat) : State :=
  (clusterPawns c).foldl (fun s q =>
    if (s.pawn q).imem = [] && (mfind s.repair.saved q).isSome then s
    else { s with repair := { s.repair with saved := minsert s.repair.saved q (s.activeProg q) } }) s

/-- Before a cluster returns, the active programs and configuration of its pawns go into the shadows, and each pawn's swap is armed for the boundary (R449, R223). What a
pending switch has staged there is kept aside. -/
def State.armReturn (s : State) (c : Nat) : State :=
  (clusterPawns c).foldl (fun s q =>
    (s.setPawn q { s.pawn q with ret := some ((mfind s.repair.saved q).getD (s.activeProg q)) }).wr (pawnObj q 0x23) (max 1 (s.rd (pawnObj q 0x23) % 3))) s

/-- The swap state of a pawn without a return: armed where a boundary or a switch is named for it, else as given. -/
def PawnSt.swapState (p : PawnSt) (v : Nat) : Nat := if p.swapAt.isSome || p.swapBank then 1 else v

/-- A return that is withdrawn takes the swaps armed for it with it. -/
def State.disarmReturn (s : State) (c : Nat) : State :=
  (clusterPawns c).foldl (fun s q =>
    let p := s.pawn q
    let v := s.rd (pawnObj q 0x23)
    (s.setPawn q { p with ret := none }).wr (pawnObj q 0x23) (if v = 1 then p.swapState 0 else v)) s

/-- The swap of a returning pawn (R449, R223): made at once where it is halted or faulted, and what was staged in its shadow stays staged; pending where a test left it
running. -/
def State.swapReturn (s : State) (q : Nat) : State :=
  let p := s.pawn q
  match p.ret with
  | none => s
  | some r =>
    let entry := s.rd (pawnObj q 0x21)
    let s1 := (s.setPawn q { p with ret := none, shadow := r.imem, stSlots := some r.slots, stDiv := some r.divv, stTos := r.tos }).wr (pawnObj q 0x21) r.entry
    let s2 := s1.swapBecomesPending q
    if p.goes then s2
    else
      let t := s2.setPawn q { s2.pawn q with
        shadow := p.shadow, stSlots := p.stSlots, stDiv := p.stDiv, stTos := p.stTos, swapAt := p.swapAt, swapBank := p.swapBank }
      (t.wr (pawnObj q 0x21) entry).wr (pawnObj q 0x23) (p.swapState (s2.rd (pawnObj q 0x23)))

/-- The swaps of a cluster's return are made at its boundary (R449). -/
def State.swapReturns (s : State) (c : Nat) : State :=
  let s1 := (clusterPawns c).foldl (fun s q => s.swapReturn q) s
  { s1 with repair := { s1.repair with saved := s1.repair.saved.filter (fun e => e.1 / 16 != c) } }

/-- A return that is pending is withdrawn (R449). -/
def State.dropReturn (s : State) (p : Nat) : State :=
  match mfind s.repair.returning p with
  | some _ =>
    let t := { s with repair := { s.repair with returning := merase s.repair.returning p } }
    if 0x20 ≤ p && p ≤ 0x27 then t.disarmReturn (p - 0x20) else t
  | none => s

/-- A return of a part is set for the boundary of a cycle, in place of one set before (R449, R450). -/
def State.setReturn (s : State) (p n : Nat) : State :=
  let t := s.dropReturn p
  let u := { t with repair := { t.repair with returning := minsert t.repair.returning p n } }
  if 0x20 ≤ p && p ≤ 0x27 then u.armReturn (p - 0x20) else u

/-- A write to C.050.02 (R449, R450). -/
def State.returnAt (s : State) (v : Nat) : OdRes :=
  let p := s.partNamed
  (s.partRefused true true).getD
    (if s.repair.owesBist.contains p then refusedRes s 0x04
     else match s.boundaryNamed v (mfind s.repair.returning p) with
       | some n => stagedRes (s.setReturn p n)
       | none => refusedRes s 0x02)

/-- The class-V objects that the cells of an island hold (R418). -/
def islandObj (p o : Nat) : Bool :=
  objPersist o = .v &&
    (if 0x10 ≤ p && p ≤ 0x13 then
      (o &&& 0xFFFF00 = 0x200000 + (p - 0x10) * 0x1000 && [0, 1, 2, 4].contains (o % 256)) ||
        (o &&& 0xFFFF00 = 0x200100 + (p - 0x10) * 0x1000 && o % 256 ≤ 0x0B)
     else if 0x20 ≤ p && p ≤ 0x27 then
      (o / 2 ^ 16 = 0x50 && pawnOf o / 16 = p - 0x20) || o &&& 0xFFFFF0 = 0x510010 + (p - 0x20) * 0x1000
     else if p = 0x28 then o &&& 0xFF0F00 = 0x700100 && o % 256 ≤ 0x08
     else p = 0x29 && (o = 0x900000 || o &&& 0xFFF0FF = 0x903000 || o = 0x904000 || o = 0x904001 || o &&& 0xFFF0FF = 0x905000 ||
      (0x907000 ≤ o && o ≤ 0x907005)))

/-- The objects of a reset island take their defaults (R418, R419). -/
def State.resetObjs (s : State) (p : Nat) : State :=
  { s with objs := s.objs.filter (fun e => !(islandObj p e.1)), blobs := s.blobs.filter (fun e => !(islandObj p e.1)) }

/-- The cells of an isolated island take their reset values (R418). What the Keeper holds for the part, such as a wrap, is kept. -/
def State.resetPart (s : State) (p : Nat) : State :=
  let s1 := s.resetObjs p
  if 0x10 ≤ p && p ≤ 0x13 then
    let x := s1.port (portOf (p - 0x10))
    s1.setPort (portOf (p - 0x10)) { broken := x.broken, brkReason := x.brkReason, wrapped := x.wrapped, unwrapAt := x.unwrapAt, unwrapTag := x.unwrapTag, waiting := true }
  else if 0x20 ≤ p && p ≤ 0x27 then (s1.savePrograms (p - 0x20)).resetCluster (p - 0x20)
  else if p = 0x28 then { s1 with bus := { s1.bus with ctl := [] } }
  else if p = 0x29 then { s1 with bridge := { aperP := s1.bridge.aperP, aperN := s1.bridge.aperN, aperSet := s1.bridge.aperSet, wins := s1.bridge.wins, quarant := s1.bridge.quarant, nextTag := s1.bridge.nextTag } }
  else s1

/-- A write to C.050.03 (R448, R449): BIST, or IRST and then BIST. -/
def State.testPart (s : State) (irst : Bool) : OdRes :=
  let p := s.partNamed
  (s.partRefused true false).getD
    (if irst && 0x80 ≤ p then refusedRes s 0x01
     else if s.repair.testing.contains p then refusedRes s 0x0B
     else
      let s1 := (s.dropReturn p).wr 0xC05004 1
      let s2 := { s1 with repair := { s1.repair with testing := s1.repair.testing ++ [p] } }
      if irst then
        let s3 := s2.resetCause .irst p (modeCode s2.mode) (b2n s2.inBrace) 0xFFFF 0xFFFF
        let s4 := s3.resetPart p
        okRes { s4 with repair := { s4.repair with owesBist := if s4.repair.owesBist.contains p then s4.repair.owesBist else p :: s4.repair.owesBist } }
      else okRes s2)

/-- A BIST ends (R448, R449): that of the part tested longest. DESIGN CHOICE: C.050.04 reads 1 while another test runs. -/
def State.bistComplete (s : State) (ok : Bool) : State :=
  match s.repair.testing with
  | p :: more =>
    if s.odServed then
      let rest := s.repair.owesBist.filter (fun x => x != p)
      let s1 := { s with repair := { s.repair with testing := more, owesBist := if ok then rest else p :: rest } }
      let s2 := if ok then s1 else s1.dropReturn p
      s2.wr 0xC05004 (if more != [] then 1 else if ok then 2 else 3)
    else s
  | [] => s

/-- The frames queued for the egress of an isolated part are discarded (R447). -/
def State.discardFor (s : State) (p : Nat) : State :=
  if 0x10 ≤ p && p ≤ 0x13 then s.discardPort (p - 0x10) else if p = 0x28 then s.discardPort 5 else if p = 0x29 then s.discardPort 6 else s

/-- A bus controller is isolated (R447): its requests end as abandoned, and it is disabled. -/
def State.stopCtl (s : State) (n : Nat) : State := (s.abandonAll n).modeChange n

/-- A part is isolated at its boundary (R447, R41, R407 row 7). -/
def State.isolatePart (s : State) (p : Nat) : State :=
  let s0 := (if p = 0x29 then s.endTransactions 0x07 0x07 else s).setIsolated p true
  let s1 := { s0 with repair := { s0.repair with isolating := merase s0.repair.isolating p } }
  let s2 := if 0x10 ≤ p && p ≤ 0x13 then (s1.discardFor p).setTransmitter (portOf (p - 0x10)) false else s1.discardFor p
  let s3 : State :=
    if 0x10 ≤ p && p ≤ 0x13 then
      let q := portOf (p - 0x10)
      if (s2.port q).inUse then s2.declareBreak q 4 (s2.cycle % 256) else s2.portDown q true
    else if 0x20 ≤ p && p ≤ 0x27 then s2.haltCluster (p - 0x20)
    else if p = 0x28 then (List.range 8).foldl (fun s n => s.stopCtl n) s2
    else if 0x80 ≤ p then s2.stopCtl (p - 0x80)
    else s2
  if s3.mode = .run then s3.enterMode .repair else s3

/-- A part is returned at its boundary (R449, R407 row 8); the swaps armed for a cluster become pending there, before those of a bank switch, and a controller goes to its configured mode as
R264 has it. -/
def State.returnPart (s : State) (p : Nat) : State :=
  let s1 := ({ s with repair := { s.repair with returning := merase s.repair.returning p } }).setIsolated p false
  let s2 := if p < 0x80 then s1.wr 0x104002 (setBit (s1.rd 0x104002) p false) else s1
  let s3 : State :=
    if 0x10 ≤ p && p ≤ 0x13 then 
      let q := portOf (p - 0x10)
      (s2.setPort q { s2.port q with waiting := false }).setTransmitter q (s2.rd (portObj q 0 5) != 0)
    else if 0x20 ≤ p && p ≤ 0x27 then s2.swapReturns (p - 0x20)
    else s2
  if s3.mode = .repair && !s3.anyIsolated then s3.enterMode .run else s3

/-- Isolations and returns at the boundary that begins cycle `n` (R447, R449), and the report of R41, which clears at the first boundary after the last
return. -/
def State.partsAtBoundary (s : State) (n : Nat) : State :=
  let s0 := if s.anyIsolated then s else s.wr 0x408001 (setBit (s.rd 0x408001) 8 false)
  let s1 := (s0.repair.isolating.filter (fun e => decide (e.2 ≤ n))).foldl (fun s e => s.isolatePart e.1) s0
  (s1.repair.returning.filter (fun e => decide (e.2 ≤ n))).foldl (fun s e => s.returnPart e.1) s1

end Sys2Proof.Machine
end

