-- ==== Sys2Proof/Machine/Pair.lean ====
section
/-!
DEFINITION. Redundant pairs: the pair link, mirroring, the roles, and the arbiter (R140 to R155).
-/
namespace Sys2Proof.Machine

/-- The contract record hash of the active bank, bytes 0 to 7 (R147). -/
def State.hash8 (s : State) : Nat := beNat ((s.viewBytes 0x400003).take 8)

/-- The item tag of a record about a control message (R456): its transaction tag. -/
def messageTag (m : List Byte) : Nat := (0x7000 + beField m 0 2 % 4096) * 2 ^ 16

/-- A message carries its CMAC after its first `n` bytes, under a key (R148). -/
def cmacOk (key m : List Byte) (n : Nat) : Bool := m.length = n + 8 && cmac64 key (m.take n) = beField m n 8

/-- A message with its CMAC (R148). -/
def withCmac (key m : List Byte) : List Byte := m ++ natBE 8 (cmac64 key m)

/-- A message whose CMAC fails is discarded and journalled (R148). -/
def State.cmacFailed (s : State) (m : List Byte) : State := s.raise .mgt 0x02 0x24 (messageTag m)

/-- The pair key (R148). -/
def State.pairKey (s : State) : List Byte := s.rdB 0x208104

/-- The pair role (R147). -/
def State.role (s : State) : Nat := s.rd 0x208200

/-- The heartbeat beat (R144, R155). -/
def State.heartBeat (s : State) : Nat := if s.rd 0x208105 = 0 then s.cycleLen / 2 else s.rd 0x208105

/-- The pair link can carry frames (R144). -/
def State.pairLinkUp (s : State) : Bool :=
  match s.pairLink with
  | some p => s.portUsable p
  | none => false

/-- A message leaves on the pair link (R144): a link-local frame. -/
def State.sendPair (s : State) (m : List Byte) : State :=
  match s.pairLink with
  | some p => if s.portUsable p && !(s.quiet (s.controlFrame 0 m)) then s.transmit (portNum p) (s.controlFrame 0 m) else s
  | none => s

/-- HEARTBEAT (R147). -/
def State.heartbeatMessage (s : State) : List Byte :=
  controlHead 0x0510 s.node s.cycle ++
    natBE 1 s.role ++ natBE 1 (b2n s.seq.inForce + 2 * s.rd 0x208206 + 4 * b2n (s.mode = .hold)) ++ zeros 2 ++
    natBE 8 s.hash8 ++ natBE 4 s.pair.mirSeq ++ natBE 4 (s.rd 0x208203)

/-- At the heartbeat beat a pair hub sends HEARTBEAT (R144). -/
def State.sendHeartbeat (s : State) : State := if s.inPair && s.beat = s.heartBeat then s.sendPair s.heartbeatMessage else s

/-- Pieces of at most 64 words of a record: byte offset and words. -/
def recordPieces (off words : Nat) : List (Nat × Nat) :=
  (List.range (ceilDiv words 64)).map (fun k => (off + 256 * k, min 64 (words - 64 * k)))

/-- The entry descriptor of R147. -/
def mirrorDesc (kind words at_ : Nat) : Nat := kind * 2 ^ 30 + (words - 1) * 2 ^ 24 + at_ % 2 ^ 24

/-- The records of a list that fit a number of bytes, in order. -/
def withinSize : Nat → List RecDecl → List RecDecl
  | _, [] => []
  | n, r :: l => if 4 * r.words ≤ n then r :: withinSize (n - 4 * r.words) l else []

/-- The marked records of the active bank, at most 16 KiB in all, as entries: image kind, byte offset and words (R145). -/
def State.mirrorPieces (s : State) : List (Nat × Nat × Nat) :=
  (withinSize 16384 (s.records.filter (fun r => r.flags.testBit 0))).flatMap (fun r => (recordPieces r.off r.words).map (fun e => (b2n (r.img = .output), e.1, e.2)))

/-- The mirrored objects (R145). -/
def State.mirrorObjs (s : State) : List Nat := (entries 3 (s.rdB 0x208300)).map beNat

/-- The value of a mirrored object as MIRROR carries it (R147): whole words, filled with zeros; none where it cannot be read or is longer than 64 words. -/
def State.mirrorValue (s : State) (o : Nat) : Option (List Byte) :=
  match objRow o with
  | some r =>
    if r.access = .wo || r.access = .cmd then none
    else
      let v := (s.readObj o).2
      if v.length = 0 || 256 < v.length then none else some (padTo (4 * ceilDiv v.length 4) v)
  | none => none

/-- Words of an image with their bytes most significant first (R3, R89). -/
def wireWords (l : List Byte) : List Byte := (entries 4 l).flatMap List.reverse

/-- Entries packed into messages of at most 2,048 bytes (R147), each with its number of entries. -/
def packEntries : List (List Byte) → Nat → List Byte → List (Nat × List Byte)
  | [], n, acc => if n = 0 then [] else [(n, acc)]
  | e :: l, n, acc =>
    if n != 0 && 2028 < acc.length + e.length then (n, acc) :: packEntries l 1 e else packEntries l (n + 1) (acc ++ e)

/-- One MIRROR message leaves, under the next mirror sequence (R146, R147). -/
def State.sendMirror (s : State) (x : Nat × List Byte) : State :=
  let q := (s.pair.mirSeq + 1) % 2 ^ 32
  let s1 := { s with pair := { s.pair with mirSeq := q } }
  s1.sendPair (controlHead 0x0511 s1.node s1.cycle ++ natBE 4 q ++ natBE 2 x.1 ++ zeros 2 ++ x.2)

/-- As many of a list of items as fit a number of bytes. -/
def withinBytes : Nat → List (Nat × List Byte) → List (Nat × List Byte)
  | _, [] => []
  | n, x :: l => if x.2.length + 4 ≤ n then x :: withinBytes (n - (x.2.length + 4)) l else []

/-- The active hub mirrors the cycle that has ended (R145, R146): the marked records of its completed bank, and the objects that changed; every listed
object where the standby is not synchronized, spread over cycles of at most 64 KiB. -/
def State.mirrorOut (s : State) : State :=
  if s.inPair && s.role = 1 && s.pairLinkUp then
    let recs := s.mirrorPieces.map (fun e =>
      natBE 4 (mirrorDesc e.1 e.2.2 e.2.1) ++ wireWords (memRead (s.image (if e.1 = 1 then .output else .input)).completed e.2.1 (4 * e.2.2)))
    let vals := s.mirrorObjs.filterMap (fun o => (s.mirrorValue o).map (fun v => (o, v)))
    let rest := vals.any (fun e => (mfind s.pair.lastObj e.1).isNone)
    let last := if s.pair.peerSync || rest then s.pair.lastObj else []
    let due := withinBytes (65536 - recs.flatten.length) (vals.filter (fun e => mfind last e.1 != some e.2))
    let objs := due.map (fun e => natBE 4 (mirrorDesc 2 (e.2.length / 4) e.1) ++ e.2)
    let s1 := { s with pair := { s.pair with lastObj := due.foldl (fun (m : NMap (List Byte)) (e : Nat × List Byte) => minsert m e.1 e.2) last } }
    (packEntries (recs ++ objs) 0 []).foldl (fun s x => s.sendMirror x) s1
  else s

/-- The key under which a received entry is kept: its descriptor, but for the length of an object. -/
def mirrorKey (d : Nat) : Nat := if bits d 31 30 = 2 then 2 * 2 ^ 30 + d % 2 ^ 24 else d

/-- What a full transfer of the mirror list covers (R146). -/
def State.mirrorList (s : State) : List Nat :=
  s.mirrorPieces.map (fun e => mirrorDesc e.1 e.2.2 e.2.1) ++
    (s.mirrorObjs.filter (fun o => (s.mirrorValue o).isSome)).map (fun o => 2 * 2 ^ 30 + o)

/-- The synchronized state is made up again (R146). -/
def State.judgeSync (s : State) : State :=
  s.wr 0x208206 (b2n (s.inPair && s.role = 0 && decide (s.pair.hash = some s.hash8) && s.mirrorList.all (fun d => s.pair.got.contains d)))

/-- A mirror was missed (R146): only a full transfer counts from here. -/
def State.mirrorGap (s : State) (q : Nat) : State :=
  if q = s.pair.mirSeq then s else { s with pair := { s.pair with mirSeq := q, got := [] } }

/-- One entry of a MIRROR message is taken (R145): into the mirror store, or by `put` into the OD. -/
def State.mirrorEntry (put : State → Nat → List Byte → State) (s : State) (d : Nat) (v : List Byte) : State :=
  let at_ := d % 2 ^ 24
  let s1 :=
    if bits d 31 30 = 0 then { s with pair := { s.pair with storeIn := memWrite s.pair.storeIn at_ (wireWords v) } }
    else if bits d 31 30 = 1 then { s with pair := { s.pair with storeOut := memWrite s.pair.storeOut at_ (wireWords v) } }
    else put s at_ v
  let got := s1.pair.got
  { s1 with pair := { s1.pair with got := if got.contains (mirrorKey d) then got else mirrorKey d :: got } }

/-- The entries of a MIRROR message, in order. -/
def State.mirrorEntries (put : State → Nat → List Byte → State) : Nat → State → List Byte → State
  | 0, s, _ => s
  | n + 1, s, l =>
    let d := beField l 0 4
    let len := 4 * (bits d 29 24 + 1)
    if l.length < 4 + len then s else (s.mirrorEntry put d (slice l 4 len)).mirrorEntries put n (l.drop (4 + len))

/-- A message comes from the partner on the pair link (R144, R147). -/
def State.fromPartner (s : State) (p : Port) (m : List Byte) (code : Nat) : Bool :=
  s.inPair && s.ticking && decide (s.pairLink = some p) && s.portUsable p && beField m 0 2 = code && beField m 2 2 % 1024 = s.rd 0x208101

/-- MIRROR is received (R145, R146): by a standby, in sequence or after a gap. -/
def State.mirrorIn (put : State → Nat → List Byte → State) (s : State) (p : Port) (m : List Byte) : State :=
  if s.fromPartner p m 0x0511 && s.role = 0 && 20 ≤ m.length then
    let q := beField m 12 4
    let s1 := if q = (s.pair.mirSeq + 1) % 2 ^ 32 then s else { s with pair := { s.pair with got := [] } }
    let s2 := { s1 with pair := { s1.pair with mirSeq := q } }
    (s2.mirrorEntries put (beField m 16 2) (m.drop 20)).judgeSync
  else s

/-- A role is to be taken at the next boundary (R151, R154). -/
def State.nextRole (s : State) (r : Nat) : State := { s with pair := { s.pair with roleNext := some r } }

/-- HEARTBEAT of this cycle is received (R144, R146, R151): two active hubs settle which of them holds. -/
def State.heartbeatIn (s : State) (p : Port) (m : List Byte) : State :=
  if s.fromPartner p m 0x0510 && m.length = 32 && beField m 4 8 = s.cycle then
    let s1 := { s with pair := { s.pair with heard := true, hash := some (beField m 16 8), peerSync := bit (beField m 13 1) 1 } }
    let theirs := beField m 12 1
    let s2 := if theirs = 1 && s1.role = 0 then s1.mirrorGap (beField m 24 4) else s1
    let own := s2.rd 0x208203
    let seq := beField m 28 4
    let s3 := if theirs = 1 && s2.role = 1 && (own < seq || (own = seq && s2.rd 0x208101 < s2.node)) then s2.nextRole 2 else s2
    s3.judgeSync
  else s

/-- PAIR_STATUS (R147). -/
def State.statusMessage (s : State) : List Byte :=
  withCmac s.pairKey (controlHead 0x0512 s.node s.cycle ++
    natBE 1 s.role ++ natBE 1 (s.rd 0x208201) ++ natBE 1 (s.rd 0x208202) ++
    natBE 1 (b2n s.seq.inForce + 2 * s.rd 0x208206 + 4 * b2n s.pairLinkUp + 8 * b2n s.pair.heard + 16 * b2n (s.pair.askCastle && s.role = 1)) ++
    natBE 4 (s.rd 0x208203))

/-- The pair link has failed while the hub hears its arbiter (R151): journalled once. -/
def State.pairFault (s : State) : State :=
  let up := s.pairLinkUp
  let s1 := if s.pair.linkWas && !up && s.rd 0x208202 = 0 then s.raiseOpen .mgt 0x00 0x78 else s
  { s1 with pair := { s1.pair with linkWas := up } }

/-- At beat h + 256 a missing partner heartbeat is counted, and PAIR_STATUS leaves (R144, R147). -/
def State.heartbeatDeadline (s : State) : State :=
  if s.inPair && s.ticking && s.beat = s.heartBeat + 256 && !s.pair.judged then
    let s1 := if s.pair.heard then s.wr 0x208201 0 else s.incSat 0x208201
    let s2 := s1.pairFault
    let s3 := { s2 with pair := { s2.pair with judged := true } }
    s3.sendControl (s3.rd 0x208102) s3.statusMessage
  else s

/-- A message of an arbiter reaches a pair hub (R147). -/
def State.fromArbiter (s : State) (m : List Byte) (code : Nat) : Bool := s.inPair && s.ticking && beField m 0 2 = code

/-- A message of an arbiter is for another pair (R147). -/
def State.otherPair (s : State) (m : List Byte) : Bool := beField m 12 2 != s.rd 0x208100

/-- All ports that the layout uses are up (R154). -/
def State.portsUp (s : State) : Bool :=
  [Port.e, .w, .s0, .s1].all (fun p => !(portInUse s.activeBank (portNum p)) || s.portUsable p)

/-- ARBITER_BEACON is received (R148, R151, R154). -/
def State.beaconIn (s : State) (m : List Byte) : State :=
  if s.fromArbiter m 0x0513 then
    if !cmacOk s.pairKey m 20 then s.cmacFailed m
    else if s.otherPair m || decide (beField m 16 4 < s.rd 0x208203) then s
    else
      let s1 := { s with pair := { s.pair with beacon := true } }
      let named := beField m 14 2
      if named = s1.node then (if s1.role = 2 then s1.nextRole 1 else s1)
      else if named = s1.rd 0x208101 then
        (if s1.role = 1 then s1.nextRole 2
         else if s1.role = 2 && s1.seq.inForce && s1.portsUp then s1.nextRole 0 else s1)
      else s1
  else s

/-- The beats from the start of this beat to the boundary that begins a cycle. -/
def State.beatsTo (s : State) (cycle : Nat) : Nat := if cycle ≤ s.cycle then 0 else (cycle - s.cycle) * s.cycleLen - s.beat

/-- The result of a GRANT at the hub it names (R147, R150): 3 stale, 2 not synchronized, 1 too late, 0 accepted. -/
def State.grantResult (s : State) (seq take : Nat) : Nat :=
  if seq ≤ s.rd 0x208203 then 3 else if s.role = 0 && s.rd 0x208206 = 0 then 2 else if s.beatsTo take < 64 then 1 else 0

/-- GRANT is received (R150, R151): judged and answered by the hub it names; noted by the hub it releases. The higher sequence governs. -/
def State.grantIn (s : State) (m : List Byte) : State :=
  if s.fromArbiter m 0x0514 then
    if !cmacOk s.pairKey m 32 then s.cmacFailed m
    else if s.otherPair m then s
    else
      let take := beField m 20 8
      let seq := beField m 28 4
      if beField m 14 2 = s.node then
        let r := s.grantResult seq take
        let s1 := if r = 0 then { (s.wr 0x208203 seq) with pair := { s.pair with takeAt := some (take, seq), releaseAt := none } } else s
        s1.sendControl (s1.rd 0x208102) (withCmac s1.pairKey (controlHead 0x0515 s1.node s1.cycle ++
          natBE 2 (s1.rd 0x208100) ++ natBE 1 r ++ zeros 1 ++ natBE 8 take ++ natBE 4 seq))
      else if beField m 16 2 = s.node && s.rd 0x208203 < seq then { (s.wr 0x208203 seq) with pair := { s.pair with releaseAt := some take, takeAt := none } }
      else s
  else s

/-- The role changes (R142, R265): PAIR_SEL follows, and the transceivers and controllers with it. -/
def State.setRole (s : State) (r : Nat) : State :=
  if r = s.role then s
  else
    let s1 := s.wr 0x208200 r
    let sel := if r = 1 then true else if r = 0 then false else s1.pair.sel
    ({ s1 with pair := { s1.pair with sel := sel, askCastle := false, got := [], peerSync := false, lastObj := [] } }).xcvrFollow.busFollow

/-- The mirror store becomes the completed bank of the marked records (R145, R151), and their last fresh value. -/
def State.takeMirror (s : State) : State :=
  let one (s : State) (e : Nat × Nat × Nat) : State :=
    let sel : ImageSel := if e.1 = 1 then .output else .input
    let store := if e.1 = 1 then s.pair.storeOut else s.pair.storeIn
    s.setImage sel { s.image sel with completed := memWrite (s.image sel).completed e.2.1 (memRead store e.2.1 (4 * e.2.2)) }
  let s1 := s.mirrorPieces.foldl one s
  (List.range s1.records.length).foldl (fun s i =>
    match s.records[i]? with
    | some r => if r.flags.testBit 0 then
        s.setRecLive i { s.recLive i with hadFresh := true, last := memRead (if r.img = .output then s.pair.storeOut else s.pair.storeIn) r.off (4 * r.words) } else s
    | none => s) s1

/-- The takeover of R150 and R153 at its boundary. -/
def State.takeOver (s : State) : State :=
  let s1 := if s.role = 0 then s.takeMirror else s
  let s2 := { s1.setRole 1 with pair := { (s1.setRole 1).pair with takeAt := none, releaseAt := none, roleNext := none } }
  (s2.inc 0x208204).raise .mgt 0x01 0x0A (s2.cycle % 2 ^ 32)

/-- A pair hub at the start of a cycle (R144, R147, R150, R151): beacons counted, takeover, release, a role change that waits, and the role holding where both
partner and arbiter are lost. -/
def State.hubAtBoundary (s : State) : State :=
  if s.inPair then
    let s1 := if s.pair.beacon then s.wr 0x208202 0 else s.incSat 0x208202
    let s2 := { s1 with pair := { s1.pair with heard := false, beacon := false, judged := false } }
    let n := s2.cycle
    let s3 :=
      if (match s2.pair.takeAt with | some (k, _) => decide (k ≤ n) | none => false) then s2.takeOver
      else if (match s2.pair.releaseAt with | some k => decide (k ≤ n) | none => false) then
        { (if s2.role = 1 then s2.setRole 2 else s2) with pair := { (if s2.role = 1 then s2.setRole 2 else s2).pair with releaseAt := none, roleNext := none } }
      else match s2.pair.roleNext with
        | some r => { s2.setRole r with pair := { (s2.setRole r).pair with roleNext := none } }
        | none => s2
    let s4 := if s3.role = 1 && 3 ≤ s3.rd 0x208201 && 3 ≤ s3.rd 0x208202 then s3.setRole 2 else s3
    s4.mirrorOut.judgeSync
  else s

/-- A write of 1 to 2.082.05 (R155): flag [4] on the active hub. -/
def State.requestCastling (s : State) : OdRes :=
  okRes (if s.inPair && s.role = 1 then { s with pair := { s.pair with askCastle := true } } else s)

/-- An entry of the arbiter's pair table (R155): hub numbers, service number and key. -/
structure PairEntry where
  hubA    : Nat
  hubB    : Nat
  service : Nat
  key     : List Byte
  deriving DecidableEq, Repr

/-- Entry `k` of the pair table (R155). -/
def State.pairEntry (s : State) (k : Nat) : PairEntry :=
  let b := s.rdB (0x208400 + k)
  ⟨beField b 0 2, beField b 2 2, beField b 4 2, slice b 6 16⟩

/-- The entry of a pair table that names a hub, or a service. -/
def State.findEntry (s : State) (f : PairEntry → Bool) : Option Nat :=
  (List.range 8).find? (fun k => (s.pairEntry k).service != 0 && f (s.pairEntry k))

/-- The entry's other hub. -/
def PairEntry.other (e : PairEntry) (n : Nat) : Nat := if n = e.hubA then e.hubB else e.hubA

/-- PAIR_STATUS reaches the arbiter (R147, R149): kept for the judgements of three cycles; a hub that says it is active is named where none is. -/
def State.statusIn (s : State) (m : List Byte) : State :=
  let hub := beField m 2 2 % 1024
  if s.ticking && beField m 0 2 = 0x0512 then
    match s.findEntry (fun e => e.hubA = hub || e.hubB = hub) with
    | some k =>
      if !cmacOk (s.pairEntry k).key m 20 then s.cmacFailed m
      else
        let r : PairReport := ⟨beField m 4 8, beField m 12 1, beField m 15 1, beField m 16 4⟩
        let l := (r :: (mget [] s.pair.reports hub).filter (fun x => x.cycle != r.cycle)).take 4
        let q := max r.grant (mget 0 s.pair.grantSeq k)
        let s1 := { s with pair := { s.pair with reports := mset [] s.pair.reports hub l, grantSeq := mset 0 s.pair.grantSeq k q } }
        if r.role = 1 && mget 0 s1.pair.named k = 0 then { s1 with pair := { s1.pair with named := mset 0 s1.pair.named k hub } } else s1
    | none => s.cmacFailed m
  else s

/-- GRANT_ACK reaches the arbiter (R147, R150): an accepted grant names the hub active from its takeover cycle. -/
def State.ackIn (s : State) (m : List Byte) : State :=
  if s.ticking && beField m 0 2 = 0x0515 then
    match s.findEntry (fun e => e.service = beField m 12 2) with
    | some k =>
      if !cmacOk (s.pairEntry k).key m 28 then s.cmacFailed m
      else if beField m 14 1 = 0 && beField m 24 4 = mget 0 s.pair.grantSeq k then
        let cmds := s.pair.commanded.filter (fun x => x != k)
        { s with pair := { s.pair with granted := minsert s.pair.granted k (beField m 2 2 % 1024, beField m 16 8), commanded := cmds } }
      else s
    | none => s.cmacFailed m
  else s

/-- A write to 2.084.10 (R149, R155): castling of the pair with a service number. -/
def State.commandCastling (s : State) (v : Nat) : OdRes :=
  match s.findEntry (fun e => e.service = v) with
  | some k => okRes { s with pair := { s.pair with commanded := if s.pair.commanded.contains k then s.pair.commanded else k :: s.pair.commanded } }
  | none => errRes s 0x04

/-- The report of a hub for a cycle. -/
def State.reportOf (s : State) (hub cycle : Nat) : Option PairReport := (mget [] s.pair.reports hub).find? (fun r => r.cycle = cycle)

/-- A GRANT leaves for both hubs (R147, R149), with a new sequence. -/
def State.sendGrant (s : State) (k standby : Nat) : State :=
  let e := s.pairEntry k
  let q := (mget 0 s.pair.grantSeq k + 1) % 2 ^ 32
  let s1 := { s with pair := { s.pair with grantSeq := mset 0 s.pair.grantSeq k q } }
  let m := withCmac e.key (controlHead 0x0514 s1.node s1.cycle ++ natBE 2 e.service ++ natBE 2 standby ++ natBE 2 (e.other standby) ++ zeros 2 ++
    natBE 8 (s1.cycle + 1) ++ natBE 4 q)
  (s1.sendControl standby m).sendControl (e.other standby) m

/-- The arbiter judges one pair at the start of a cycle, over the three cycles before it (R149, R151). Where no hub is yet named active, hub A stands for the
standby. -/
def State.judgePair (s : State) (k : Nat) : State :=
  let act := mget 0 s.pair.named k
  let sb := (s.pairEntry k).other act
  let last := s.cycle - 1
  let cycles := [last - 2, last - 1, last]
  let flag (r : Option PairReport) (b : Nat) : Bool := match r with | some x => x.flags.testBit b | none => false
  let mute (h : Nat) : Bool := cycles.all (fun c => (s.reportOf h c).isNone)
  let lost := cycles.all (fun c => (s.reportOf sb c).isSome && !(flag (s.reportOf sb c) 3)) && mute act
  let asked := flag (s.reportOf act last) 4 || s.pair.commanded.contains k
  let ready := flag (s.reportOf sb last) 0 && flag (s.reportOf sb last) 1
  if s.cycle < 3 then s
  else if lost || asked then (if ready then s.sendGrant k sb else s.raiseOpen .mgt 0x00 0x78)
  else if mute (s.pairEntry k).hubA && mute (s.pairEntry k).hubB then s.raiseOpen .mgt 0x00 0x78
  else s

/-- The beacon for a pair (R147). -/
def State.sendBeacon (s : State) (k : Nat) : State :=
  let e := s.pairEntry k
  let m := withCmac e.key (controlHead 0x0513 s.node s.cycle ++ natBE 2 e.service ++ natBE 2 (mget 0 s.pair.named k) ++ natBE 4 (mget 0 s.pair.grantSeq k))
  (s.sendControl e.hubA m).sendControl e.hubB m

/-- The arbiter at the start of a cycle (R147, R149): a takeover whose cycle this is names its hub; then each pair is judged, and its beacon leaves. -/
def State.arbiterAtBoundary (s : State) : State :=
  (List.range 8).foldl (fun s k =>
    if (s.pairEntry k).service = 0 then s
    else
      let s1 := match mfind s.pair.granted k with
        | some (hub, c) =>
          if c ≤ s.cycle then { s with pair := { s.pair with named := mset 0 s.pair.named k hub, granted := merase s.pair.granted k } } else s
        | none => s
      (if (mfind s1.pair.granted k).isSome then s1 else s1.judgePair k).sendBeacon k) s

end Sys2Proof.Machine
end

