-- ==== Sys2Proof/Machine/Modes.lean ====
section
/-!
DEFINITION. Power-up, bring-up, mode requests and warm resets (R407 to R416, R422, R423, R435, R436).
-/
namespace Sys2Proof.Machine

/-- POR ends (R407 row 1): Standby, with the reset cause written as the AON island starts to run (R424), both transceivers in Standby (R280), and brace begun
again from the warnings then present (R421). A CPR of source 0x00 is in force where the core rails are then absent (R415, R424). -/
def State.porEnd (s : State) : State :=
  if s.mode = .noPower then
    let s1 := { s with mode := .standby, power := { s.power with under := setBit s.power.under 0x13 false } }
    let s2 := s1.resetCause .por s1.modes.porSource s1.modes.porMode (b2n s1.modes.porBrace + 2 * b2n s1.modes.aonLost) 0xFFFF 0xFFFF
    let s3 := [0, 1].foldl (fun s t => (s.setWant t 2).setXcvr t 2) s2
    let s4 := ((List.range 0x30).filter (fun r => s3.startsBrace r && s3.power.warn.testBit r)).foldl State.noteBrace s3
    if s4.power.under &&& 7 * 2 ^ 0x10 = 0 then s4 else s4.resetCause .cpr 0x00 (modeCode s4.mode) (b2n s4.inBrace) 0xFFFF 0xFFFF
  else s

/-- The core rails are above their reset levels. -/
def State.coreRailsUp (s : State) : State :=
  { s with power := { s.power with under := [0x10, 0x11, 0x12].foldl (fun u r => setBit u r false) s.power.under } }

/-- CPR ends with RST_N high (R407 rows 2, 15 and 17): stage 0x1 of bring-up begins; out of Doze, a CPR that follows a wake is recorded as the Doze exit
(R424). -/
def State.cprEnd (s : State) : State :=
  if s.mode = .standby then { s.coreRailsUp with mode := .bringUp }
  else if s.mode = .doze && s.doze.woken && s.doze.inh then
    let s1 := s.coreRailsUp.resetCause .dozeExit (s.rd 0xB02000 % 128) (modeCode s.mode) (b2n s.inBrace) 0xFFFF 0xFFFF
    { s1 with mode := .bringUp, doze := { owes := true } }
  else s

/-- Bring-up stops in a stage with an error (R412). -/
def State.stopStage (s : State) (stage err : Nat) : State := (s.wr 0x104000 stage).wr 0x104001 err

/-- Bring-up is under way, stopped by no error. -/
def State.bringingUp (s : State) : Bool := s.mode = .bringUp && s.rd 0x104001 = 0

/-- The boot ROM's choice by the boot record alone (R435), with the record as it then reads: true names slot B. -/
def bootChoice (b : BootRec) : Bool × BootRec :=
  if !b.trial then (b.fwB, b)
  else if !b.started then (b.fwB, { b with started := true })
  else (!b.fwB, { b with fwB := !b.fwB, trial := false, revert := true })

/-- The last reset was a WDR, and brought the count of consecutive ones to 3 (R423). -/
def State.thirdWdr (s : State) : Bool :=
  s.rd 0x102003 = 3 && ((s.rdB (0x101000 + (s.rd 0x101008 + 7) % 8)).head? == some 6)

/-- Stage 0x3 (R411, R412, R423, R435): the error, or the state in which the Keeper runs the slot chosen. -/
def State.bootStage (s : State) (x : BringUpFindings) : Sum Nat State :=
  let good (slotB : Bool) : Bool := if slotB then x.sigB && s.update.fwB.full else x.sigA && s.update.fwA.full
  let c := bootChoice s.bootNow
  let back (t : State) : State := if s.bootNow.trial && s.bootNow.started then t.storeBack else t
  if s.thirdWdr then .inl 5
  else if !x.flashOk then .inl 1
  else if good c.1 then
    let s1 := back (if c.2 = s.bootNow then s else s.setBoot c.2)
    .inr { s1 with update := { s1.update with runB := c.1 } }
  else if good (!c.1) then
    let s1 := back (s.setBoot { c.2 with fwB := !c.1 })
    .inr { s1 with update := { s1.update with runB := !c.1 } }
  else .inl 2

/-- Stage 0x2 (R403, R411): the ring transmitters are enabled by the AON copy of 2.0p0.05. -/
def State.transmittersOn (s : State) : State :=
  [Port.e, .w, .s0, .s1].foldl (fun s p => s.setTransmitter p (s.pwrParam (portObj p 0 5) = 1)) s

/-- Stage 0x4 (R413): islands that fail BIST stay in reset, marked and treated as isolated. -/
def State.bistStage (s : State) (bad : List Island) : State :=
  bad.foldl (fun s i =>
    let p := islandCode i
    let s1 := (s.wr 0x104002 (setBit (s.rd 0x104002) p true)).setIsolated p true
    { s1 with repair := { s1.repair with owesBist := if s1.repair.owesBist.contains p then s1.repair.owesBist else p :: s1.repair.owesBist } }) s

/-- Stage 0x5 (R388, R411, R414, R441, R442): class N comes from the store in flash, and an object whose stored value is invalid takes its default. The pin
configuration cells are loaded with the rest (R244, R419): a value that was not stored does not outlive a reset of the core die. -/
def State.loadStage (s : State) (bad : List Nat) : State :=
  let s1 := bad.foldl (fun s o =>
    if objPersist o = .n then
      { s with objs := merase s.objs o, blobs := merase s.blobs o, flash := merase s.flash o, flashBlobs := merase s.flashBlobs o }
    else s) s
  let s3 := ((s1.wr 0x104003 (b2n (!bad.isEmpty))).startStore s1.odVersion).loadStore
  { s3 with power := { s3.power with copyLost := false, copy := [] } }

/-- Stage 0x6 (R142, R344, R411): the islands are released, the SEQ island counts beats, the bridge reads its aperture sizes where a
POR, CPR or HRST came before, and the pins are driven again, by a PIN island that passed its BIST (R413). A wake out of Doze has been seen (R393). -/
def State.releaseStage (s : State) : State :=
  { s with
    seq := { s.seq with released := true }
    bridge := if s.bridge.aperSet then s.bridge else { s.bridge with aperP := s.rd 0x900100, aperN := s.rd 0x900101, aperSet := true }
    pins := { s.pins with coreLoss := s.isolated .pin }
    sleep := if s.doze.owes then { s.sleep with seen := minsert s.sleep.seen (s.rd 0xB02000 % 128) s.cycle } else s.sleep
    pair := { s.pair with sel := false } }

/-- Once bring-up is complete with C.040.01 set, the active schedule slot is loaded into bank 0 and checked; a switch is then requested (R436). -/
def State.loadAtBringUp (s : State) : State :=
  let b := s.bootNow
  if s.rd 0xC04001 = 1 && b.schedOk then
    let s1 := s.loadStaged (if b.schedB then bankOfImage s.update.schedB true s.update.nodeB else bankOfImage s.update.schedA false s.update.nodeA)
    { s1.startCheck.st with update := { s1.startCheck.st.update with autoSwitch := true } }
  else s

/-- One stage of bring-up (R411 to R414), met by the given findings: 1.040.00 goes on to the next stage, or the stage stops with its error. Links train by
events of their own. -/
def State.bringUpStage (s : State) (x : BringUpFindings) : State :=
  match s.rd 0x104000 with
  | 1 => s.wr 0x104000 2
  | 2 => s.transmittersOn.wr 0x104000 3
  | 3 =>
    match s.bootStage x with
    | .inl e => s.stopStage 3 e
    | .inr s1 => (({ s1 with modes := { s1.modes with keeperUp := true } }).postPowerLog).wr 0x104000 4
  | 4 => if x.bistBad.any (fun i => i = .seq || i = .swx || i = .mgt) then s.stopStage 4 3 else (s.bistStage x.bistBad).wr 0x104000 5
  | 5 => (s.loadStage x.storeBad).wr 0x104000 6
  | 6 => s.releaseStage.wr 0x104000 7
  | 7 => s.wr 0x104000 8
  | 8 => ((s.wr 0x104000 9).enterMode .configure).featureCommit.st.commitWindows.loadAtBringUp
  | _ => s

/-- The bring-up stages from the one in 1.040.00 to the last that this run completes (R411). -/
def State.bringUp (s : State) (x : BringUpFindings) : State :=
  (List.range x.upTo).foldl (fun s k => if s.bringingUp && s.rd 0x104000 = k + 1 then s.bringUpStage x else s) s

/-- A stage exceeds its limit (R411, R412). -/
def State.stageOverrun (s : State) : State := if s.bringingUp then s.stopStage (s.rd 0x104000) 4 else s

/-- A sleep commit has been accepted, or Doze entry has begun (R409). -/
def State.sleepCommitted (s : State) : Bool := s.sleep.back.isSome

/-- The conditions of row 6 of R407: an active bank, or a checked bank with a switch request. -/
def State.mayRun (s : State) : Bool := s.hasBank || s.bankState = 4

/-- What a mode request names in the current mode (R407): nothing, a change at once, a WRST, or a change at the next boundary under a condition. -/
inductive ModeRow where
  | none_ | now (m : Mode) | warm | boundary (m : Mode) (holds : Bool)
  deriving DecidableEq, Repr

/-- The row of R407 that a request names. -/
def State.modeRow (s : State) (code : Nat) : ModeRow :=
  match code with
  | 1 => if s.mode = .test then .warm else .none_
  | 2 => if s.mode = .bringUp then .now .test else if s.mode = .configure then .boundary .test true else .none_
  | 3 => if s.mode = .test then .warm else if s.mode = .run || s.mode = .repair || s.mode = .hold then .boundary .configure true else .none_
  | 4 => if s.mode = .configure || s.mode = .hold then .boundary s.runMode s.mayRun else .none_
  | 6 => if s.mode = .run || s.mode = .repair then .boundary .hold true else if s.mode = .configure then .boundary .hold s.hasBank else .none_
  | _ => .none_

/-- A WRST is asked for (R416). -/
def State.askWarm (s : State) : OdRes :=
  if s.mode = .run || s.mode = .repair then refusedRes s 0x05
  else if s.inBrace then refusedRes s 0x04
  else stagedRes { s with modes := { s.modes with wrst := true } }

/-- A write to 1.001.00 (R407, R409). -/
def State.modeRequest (s : State) (code : Nat) : OdRes :=
  match s.modeRow code with
  | .none_ => if s.mode = .bringUp && code = 3 && s.rd 0x104001 != 0 then refusedRes s 0x02 else errRes s 0x02
  | .now m => okRes (s.enterMode m)
  | .warm => if s.inBrace then refusedRes s 0x04 else stagedRes (s.wr 0x100101 code)
  | .boundary _ holds =>
    if s.sleepCommitted then refusedRes s 0x03
    else if !holds then refusedRes s 0x01
    else stagedRes (s.wr 0x100101 code)

/-- A mode is entered at a boundary; a bank switch that named a cycle waits for Run from Configure on (R79). -/
def State.enterAtBoundary (s : State) (m : Mode) : State :=
  let s1 := s.enterMode m
  if m = .configure then { s1 with seq := { s1.seq with switchAt := none } } else s1

/-- A pending mode request takes effect, or is dropped, at a cycle boundary (R407, R409). -/
def State.modeAtBoundary (s : State) : State :=
  let code := s.rd 0x100101
  if code = 0xFF then s
  else
    let s1 := s.wr 0x100101 0xFF
    match s1.modeRow code with
    | .boundary m true => s1.enterAtBoundary m
    | .warm => if s.inBrace then s1.inc 0x100102 else s
    | _ => s1.inc 0x100102

/-- The end of a cycle is reached: its last beat, with every move and seal of it done. -/
def State.atCycleEnd (s : State) : Bool := s.ticking && s.beat + 1 = s.cycleLen && s.seq.due.isEmpty && !s.sealDue

/-- A WRST has been accepted (R416), or is what a pending mode request out of Test asks for (R407 row 5, R409). -/
def State.warmAsked (s : State) : Bool := s.modes.wrst || (s.modeRow (s.rd 0x100101) = .warm && !s.inBrace)

/-- A WRST takes effect at this moment or boundary: no class-N store is pending (R416). -/
def State.warmDue (s : State) : Bool := s.warmAsked && s.stores.isEmpty

/-- The WRST takes effect (R416): in place of a cycle boundary, its last beat having run to its end, or as soon as no store is pending while there are no
boundaries. -/
def State.warmReset (s : State) : State :=
  if s.warmDue && s.coreUp && (!s.ticking || s.atCycleEnd) then (if s.ticking then s.pinsToBeat else s).coreReset .wrst 0 else s

/-- RST_N resets the core die (R407 row 17, R415). -/
def State.hardReset (s : State) : State := if s.coreUp then s.coreReset .hrst 0 else s

/-- A watchdog expires (R422, R423). -/
def State.watchdog (s : State) (source : Nat) : State := if s.coreUp then s.coreReset .wdr source else s

end Sys2Proof.Machine
end

