-- ==== Sys2Proof/Machine/Moves.lean ====
section
/-!
DEFINITION. The ten move actions (R54 to R65): what each does when it is executed as normal and when it is executed in hold.
-/
namespace Sys2Proof.Machine

/-- A move is executed: it must be due with this action (R67, R68). -/
def State.runMove (s : State) (i act : Nat) (f : MoveRec → State → State) : State :=
  match s.moveDue i act with
  | some m => (f m s).moveDone i
  | none => s

/-- The records that a move produces in `n` bytes of an image are produced in hold, and the move counts in 4.010.02 (R65, R82). -/
def State.heldMove (s : State) (st : RecState) (reason : Nat) (sel : ImageSel) (o n : Nat) : State :=
  (s.holdRange sel o n st reason).countHold (.inHold st reason)

/-- SAMPLE (R55, R65): withheld where the PIN island has left the envelope (R31). -/
def effSample (m : MoveRec) (s : State) : State :=
  match s.moveDisp m with
  | .inHold st reason => s.heldMove st reason .input (bits m.a 15 0) 8
  | .normal => if s.withheldAt 0x01 then s.holdRange .input (bits m.a 15 0) 8 .late 0x04 else s.takeSample m

/-- The bytes of an image that the working bank delivers, with the substitutes in place of every record where the move runs in hold (R35, R39, R65). -/
def State.deliver (s : State) (sel : ImageSel) (o n : Nat) (hold : Bool) : List Byte :=
  let im := (s.image sel).working
  if hold then
    memRead ((s.recordsIn sel o n).foldl (fun w i => match s.records[i]? with | some r => memWrite w r.off (s.substitute i) | none => w) im) o n
  else memRead im o n

/-- APPLY (R39, R56, R65): the pins of the mask are driven, and their hold latches follow. DESIGN CHOICE: in hold, pins whose bits lie in no record have no
substitute and are driven from the single-buffered word itself. -/
def effApply (m : MoveRec) (s : State) : State :=
  let d := s.moveDisp m
  let quad := bits m.a 19 16
  let v := leNat (s.deliver .output (bits m.a 15 0) 8 (d != .normal))
  let s1 := (quadPins quad m.b).foldl (fun s p => s.ownerSet p (v.testBit (p - 64 * quad))) s
  s1.countHold d

/-- The states of the words at an image offset, as the working bank has them. -/
def State.wordsAt (s : State) (sel : ImageSel) (o n : Nat) : List (BitVec 32 × RecState) :=
  (List.range n).map (fun k => (BitVec.ofNat 32 (leNat (memRead (s.image sel).working (o + 4 * k) 4)), s.wordState sel (o + 4 * k)))

/-- Words reach an image as the destination of a COPY (R36, R57): every record touched takes the joined state of its own words. -/
def State.putWords (s : State) (sel : ImageSel) (o : Nat) (ws : List (BitVec 32 × RecState)) : State :=
  let s1 := s.arriveBytes sel o (ws.flatMap (fun w => natLE 4 w.1.toNat))
  (s.recordsIn sel o (4 * ws.length)).foldl (fun t i =>
    match s.records[i]? with
    | some r => t.noteArrival i (joinStates ((ws.zipIdx.filter (fun w => r.covers sel (o + 4 * w.2))).map (fun w => w.1.2))) 0
    | none => t) s1

/-- The beat, counted from the release of the SEQ island, at which the words of a COPY to an OUT FIFO become visible (R70, R215). -/
def State.visibleBeat (s : State) (i c : Nat) : Nat :=
  let clk := match movesWithEnds s.moves with
    | some l => (l.getD i (⟨0, 0, 0, 0, 0⟩, 0)).2
    | none => 16 * (s.beat + 1)
  let done := 2 * clk * unitsPerNs + 6 * s.clusterPeriod c + 6 * unitsPerNs
  s.time.beats + (ceilDiv done unitsPerBeat - s.beat)

/-- A COPY finds too little space in an OUT FIFO (R57): nothing is written, and every record it carries counts late at the pawn. One that was fresh departs
from fresh here, which is journalled once (R37). DESIGN CHOICE: a COPY of words that no record declares is counted late too, once, as a COPY that wrote nothing. -/
def State.copyNoRoom (s : State) (sel : ImageSel) (o n : Nat) : State :=
  let is := s.recordsIn sel o n
  if is.isEmpty then s.inc 0x408011
  else is.foldl (fun s i => let s1 := s.inc 0x408011
                            if (s1.recLive i).state = .fresh then s1.depart i 0x01 else s1) s

/-- COPY from an image (R57): to an image, an insertion buffer, an OUT FIFO or host memory. -/
def State.copyFrom (s : State) (i : Nat) (m : MoveRec) (sel : ImageSel) : State :=
  let n := bits m.a 27 16 + 1
  let o := bits m.a 15 0
  let raw := s.wordsAt sel o n
  let ws := raw.map (fun w => (w.1, carriedState w.2))
  match bits m.a 29 28 with
  | 0 => s.putWords .input (bits m.b 15 0) ws
  | 1 => s.putWords .output (bits m.b 15 0) ws
  | 2 => s.fillInsert (portOf (m.grp - 2)) (bits m.b 27 16) (bits m.b 15 0) raw
  | _ =>
    if m.grp = 7 then
      let q := bits m.b 62 56
      let p := s.pawn q
      if fifoCount p.outF.wp p.outF.rp + n ≤ 16 then s.setPawn q (p.copyIn ws (s.visibleBeat i (q / 16))) else s.copyNoRoom sel o (4 * n)
    else s.hostCopy (bits m.b 50 48) (bits m.b 47 0) raw

/-- COPY from a pawn's IN FIFO (R57, R216): all of its words, or none and the destination record missing. -/
def State.copyPop (s : State) (m : MoveRec) (sel : ImageSel) : State :=
  let n := bits m.a 27 16 + 1
  let q := bits m.b 62 56
  let p := s.pawn q
  if n ≤ s.copyable q (unitsPerBeat * s.time.beats) then
    let ws := (List.range n).map (fun k => let e := mget {} p.inF.mem ((p.inF.rp.toNat + k) % 16); (e.word, carriedState e.state))
    (s.setPawn q { p with inF := { p.inF with rp := p.inF.rp + BitVec.ofNat 5 n } }).putWords sel (bits m.b 15 0) ws
  else s

/-- How a COPY is executed (R52, R65): a COPY of group PWN addresses the cluster of its pawn. -/
def State.copyDisp (s : State) (m : MoveRec) : Disp := if m.grp = 7 then s.clusterDisp m (bits m.b 62 56 / 16) else s.moveDisp m

/-- What a COPY produces is withheld (R31): its island or SEQ, where the images lie, left the envelope in this cycle. -/
def State.copyWithheld (s : State) (m : MoveRec) : Bool :=
  s.withheldAt 0x19 || s.withheldAt (if m.grp = 7 then 0x20 + bits m.b 62 56 / 16 else groupIsland m.grp)

/-- COPY (R57, R65). DEDUCED: while what it produces is withheld (R31), records of an image are late and nothing goes to a FIFO, a segment or the host. -/
def effCopy (i : Nat) (m : MoveRec) (s : State) : State :=
  let dst := moveWrites m
  match s.copyDisp m with
  | .inHold st reason => match dst with
    | some (sel, o, n) => s.heldMove st reason sel o n
    | none => s.countHold (.inHold st reason)
  | .normal =>
    if s.copyWithheld m then
      match dst with
      | some (sel, o, n) => s.holdRange sel o n .late 0x04
      | none => s
    else match bits m.a 31 30 with
      | 0 => s.copyFrom i m .input
      | 1 => s.copyFrom i m .output
      | _ => match dst with
        | some (sel, _, _) => s.copyPop m sel
        | none => s

/-- GO (R58, R65): each addressed cluster in its own disposition; a move held at any of them counts once. -/
def effGo (m : MoveRec) (s : State) : State :=
  let cs := (List.range 8).filter (fun c => m.a.testBit (16 + c))
  let on := cs.filter (fun c => s.clusterDisp m c = .normal)
  let s1 := on.foldl (fun s c => s.goCluster c (bits m.a 15 0) (bit m.b 8) (bits m.b 5 0)) s
  if on.length = cs.length then s1 else s1.inc 0x401002

/-- GATE (R59, R65): the same in hold, where it counts (R82). -/
def effGate (m : MoveRec) (s : State) : State := (s.gateMove m).countHold (s.moveDisp m)

/-- TXOBJ (R60, R65, R141): the bytes go into the object with the worst state among them, where it is a transmit object (R268), and a transmission is requested; a pair hub that is not active
launches nothing, and the service channel's objects are none that it can name (R331). -/
def effTxobj (m : MoveRec) (s : State) : State :=
  let n := bits m.a 2 0
  let k := bits m.a 14 8
  let o := bits m.a 31 16
  let len := bits m.b 6 0
  match s.controllerDisp m n with
  | .inHold st reason => s.countHold (.inHold st reason)
  | .normal =>
    if !s.speaksService then s
    else if s.serviceObj n k then (s.setMsg n k { s.msg n k with outcome := 7, attempts := 0 }).busJournal n k 0 0x45
    else
      let worst := ((s.wordsAt .output o (ceilDiv len 4)).map (fun w => stateCode w.2)).foldl max 0
      let x := (s.msg n k).put 0 (memRead (s.image .output).working o len)
      (if bit x.idw 30 then s.setMsg n k { x with dstate := worst } else s).request n k len

/-- RXLATCH (R61, R65): the last frame stored early enough, new since the last RXLATCH of the object, or a missing record. -/
def effRxlatch (m : MoveRec) (s : State) : State :=
  let n := bits m.a 2 0
  let k := bits m.a 14 8
  let o := bits m.a 31 16
  let len := bits m.b 6 0
  let all := len + (if bit m.b 8 then 8 else 0)
  match s.controllerDisp m n with
  | .inHold st reason => s.heldMove st reason .input o all
  | .normal =>
    if s.serviceObj n k then s.busJournal n k 0 0x45
    else if s.withheldAt 0x28 then s.holdRange .input o all .late 0x04
    else match s.latchFrame n k with
      | some f =>
        if f.num = (s.msg n k).latched then s
        else
          let s1 := s.setMsg n k { s.msg n k with latched := f.num }
          s1.imgArrive .input o (padTo len f.data ++ (if bit m.b 8 then natLE 8 f.ts else [])) .fresh 0
      | none => s

end Sys2Proof.Machine
end

