-- ==== Sys2Proof/Machine/Gateway.lean ====
section
/-!
DEFINITION. What reaches the hub from a ring port, its host or the fabric beside the switch: express events (R117 to R122), the host's fast window (R329, R345), and
the request, acknowledgement and report frames that end at a local port (R111, R115, R116).
-/
namespace Sys2Proof.Machine

/-- The events match in event number, source and time (R122). -/
def sameExpress (x : Express) (e : ExpressSeen) : Bool := e.event = x.event && e.source = x.source && e.time = x.time

/-- An express event reaches this hub's own crossbar once (R122): a second copy within 262.144 µs is not delivered. -/
def State.deliverExpress (s : State) (x : Express) : State :=
  let now := s.nowNs
  let l := s.ring.seenX.filter (fun e => decide (now ≤ e.at_ + 262144))
  if l.any (sameExpress x) then { s with ring := { s.ring with seenX := l } }
  else ({ s with ring := { s.ring with seenX := ⟨x.event, x.source, x.time, now, emissionNs (toTime96 s.time.now) x.time⟩ :: l } }).crossbarExpress x now

/-- The events that this hub emitted reach its own crossbar (R122). -/
def State.deliverOwn (s : State) : State :=
  s.pins.selfX.foldl (fun s x => s.deliverExpress x) { s with pins := { s.pins with selfX := [] } }

/-- The transmit ports of a received express event (R118, R119): the ring goes on, and the express map copies between the main ring and the spurs. -/
def State.expressTargets (s : State) (p : Port) (event : Nat) : List Port :=
  let m := bankExpressEntry s.activeBank event
  let main := p = .e || p = .w
  let on (q : Port) : Bool :=
    decide (s.onward p = some q) ||
    (if main then (q = .s0 && m.testBit 4) || (q = .s1 && m.testBit 5) else (q = .e && m.testBit 6) || (q = .w && m.testBit 7))
  ([Port.e, .w, .s0, .s1].filter on).filter s.ringPort

/-- An express event is received on a lane of a ring port with its CRC-8 (R90, R92, R118, R122): one that fails it is discarded, and counts as an errored block
of its lane. It goes on without feature 0.0 too (R341). -/
def State.expressReceived (s : State) (p : Port) (l : LaneExpress) (crc : Nat) : State :=
  let x := l.event
  if !(s.ticking && s.ringUsable p) then s
  else if blockCrc (expressBits x) != crc then ((s.countErrored p l.lane.val).incSat (portObj p 1 7)).raiseAt (s.clockTime (s.wordClock + l.slot)) (.ring p) 0x07 0x29 (expressTag x)
  else
    let s1 := s.deliverExpress x
    if x.source = s1.node || x.hops ≤ 1 then s1
    else s1.sendExpressAll (portNum p) (s1.wordClock + l.slot) { x with hops := x.hops - 1 } (s1.expressTargets p x.event)

/-- A port's express bucket gains one token, to 8 (R121). -/
def State.expressRefill (s : State) (p : Port) : State :=
  if s.ticking then s.setPort p { s.port p with tokens := min 8 ((s.port p).tokens + 1) } else s

/-- A deferred express event leaves its queue (R121): on its port, or on the one that takes over from it where the hub turns there (R130, R138). One for a port
that nothing takes over from waits. -/
def State.expressDeferred (s : State) (p : Port) : State :=
  let q := s.port p
  match q.queue, s.txPort p with
  | x :: rest, some t =>
    if t = p then
      if 0 < q.tokens && s.ticking then
        (s.setPort p { q with queue := rest, tokens := q.tokens - 1, sentX := s.beatNs :: q.sentX }).emit (.express p x)
      else s
    else if s.ticking then (s.setPort p { q with queue := rest }).sendExpressOn t x
    else s
  | _, _ => s

/-- One byte of the mailbox registers (R329). -/
def State.mailReg (s : State) (k : Nat) : Nat :=
  match k with
  | 0 => s.od.reqWp | 1 => s.od.reqRp | 2 => s.od.rspWp | 3 => s.od.rspRp
  | 4 => s.od.ctrl
  | _ => b2n s.od.ptrErr + 2 * b2n s.odServed

/-- The bytes of the MSI-X table (R345): addresses and data as written, and the mask bit of each vector. -/
def State.msixByte (s : State) (a : Nat) : Byte :=
  if a % 16 < 12 then mget 0 s.bridge.vecMem a else if a % 16 = 12 then BitVec.ofNat 8 (b2n (!s.bridge.vecOn.testBit (a / 16))) else 0

/-- One byte of BAR0 that has no side effect when it is read (R329, R345). -/
def State.fastByte (s : State) (a : Nat) : Byte :=
  if a < 0x8000 then mget 0 s.od.reqMem a
  else if a < 0x10000 then mget 0 s.od.rspMem (a - 0x8000)
  else if a < 0x10018 then BitVec.ofNat 8 (s.mailReg ((a - 0x10000) / 4) / 256 ^ (a % 4))
  else if a < 0x30A00 then s.msixByte (a - 0x30000)
  else BitVec.ofNat 8 (s.bridge.pba / 256 ^ (a - 0x31000))

/-- The region of BAR0 that holds a whole access (R345): 0 the mailbox, 1 the FIFO ports, 2 the MSI-X table, 3 its pending bits. -/
def fastRegion (a n : Nat) : Option Nat :=
  if a + n ≤ 0x10018 then some 0
  else if 0x20000 ≤ a && a + n ≤ 0x28000 then some 1
  else if 0x30000 ≤ a && a + n ≤ 0x30A00 then some 2
  else if 0x31000 ≤ a && a + n ≤ 0x31018 then some 3
  else none

/-- A host read in the fast window (R345, R349). -/
def State.fastRead (s : State) (a n tag : Nat) : State :=
  match fastRegion a n with
  | none => s.readRefused tag statusUR
  | some 1 =>
    let r := s.spaceRead 0x03 (a - 0x20000) n
    if r.outcome = 0 then (r.st.inc 0x907000).completeData tag a r.data
    else r.st.readRefused tag (outcomeStatus r.outcome)
  | some _ => (s.inc 0x907000).completeData tag a ((List.range n).map (fun k => s.fastByte (a + k)))

/-- A mailbox register is written whole (R329). -/
def State.mailWrite (s : State) (k v : Nat) : State :=
  match k with
  | 0 => s.mailRequest (v % 16)
  | 3 => s.mailRelease (v % 16)
  | 4 =>
    let s1 := { s with od := { s.od with ctrl := v % 2 } }
    if bit v 1 then s1.mailClear else s1
  | _ => s

/-- A host write to the mailbox (R329): request slots take the bytes, registers the words written, their other bytes as they are. -/
def State.mailBytes (s : State) (a : Nat) (v : List Byte) : State :=
  let slots := (v.zipIdx.filter (fun x => decide (a + x.2 < 0x8000))).foldl (fun (m : Memory) x => mset 0 m (a + x.2) x.1) s.od.reqMem
  let s1 := { s with od := { s.od with reqMem := slots } }
  (List.range 6).foldl (fun s k =>
    let r := 0x10000 + 4 * k
    if a < r + 4 && r < a + v.length then
      s.mailWrite k (leNat ((List.range 4).map (fun j => if a ≤ r + j && r + j < a + v.length then v.getD (r + j - a) 0 else s.fastByte (r + j))))
    else s) s1

/-- A host write to the MSI-X table (R345, R360): vectors unmasked with their pending bit set send their message. -/
def State.msixWrite (s : State) (o : Nat) (v : List Byte) : State :=
  let b := v.zipIdx.foldl (fun (b : BridgeSt) x =>
    let a := o + x.2
    if a % 16 < 12 then { b with vecMem := mset 0 b.vecMem a x.1 }
    else if a % 16 = 12 then { b with vecOn := setBit b.vecOn (a / 16) (!(bit x.1.toNat 0)) } else b) s.bridge
  ({ s with bridge := b }).flushNotices

/-- A host write in the fast window (R345, R352): a refused one is reported with window code 6; one that no region covers has no effect. -/
def State.fastWrite (s : State) (a : Nat) (v : List Byte) : State :=
  match fastRegion a v.length with
  | some 0 => s.mailBytes a v
  | some 1 =>
    let r := s.spaceWrite 0x03 (a - 0x20000) v
    if r.outcome = 0 then r.st else r.st.writeFailed 0 6 (s.node * 2 ^ 54 + 3 * 2 ^ 48 + (a - 0x20000)) r.outcome
  | some 2 => s.msixWrite (a - 0x30000) v
  | _ => s

/-- A host access to the fast window (R345, R447): a read of `n` bytes, or a write of the bytes given. -/
def State.fastAccess (s : State) (a n tag : Nat) (data : Option (List Byte)) : State :=
  if !s.bridgeUp then s
  else if s.isolated .hbr then
    (match data with
     | none => s.readRefused tag statusCA
     | some _ => s.bridgeJournal 0x07 0 6 0 0)
  else match data with
    | none => if n = 0 || 4096 < n then s else s.fastRead a n tag
    | some v => if v.isEmpty then s else s.fastWrite a v

/-- A frame of a type ends at a local port of this hub with its checks as they must be (R113). -/
def State.endsHere (s : State) (f : Frame) (type : Nat) : Bool := s.ticking && f.type = type && frameWhole f

/-- A write acknowledgement reaches its requester (R111): a piece of the bridge, or a requester that only takes note of it. -/
def State.ackFrame (s : State) (f : Frame) : State := if s.endsHere f 0x4 && f.tag / 4096 = 6 then s.writeAnswer f.tag f.outcome else s

/-- A failure report reaches the requester (R115): the bridge by its tags, a forwarded journal record by its message code (R464). -/
def State.reportFrame (s : State) (f : Frame) : State :=
  if !(s.endsHere f 0x9) then s
  else if f.tag / 4096 = 6 then s.bridgeReport f
  else if f.tag = 0x7D10 then s.inc 0xD01003
  else s

/-- An Ethernet tunnel frame ends at the Ethernet port, which sends what it carries (R111). -/
def State.tunnelFrame (s : State) (f : Frame) : State := if s.endsHere f 0x8 then s.emit (.ethernet f.payload) else s

end Sys2Proof.Machine
end

