-- ==== Sys2Proof/Machine/Boundary.lean ====
section
/-!
DEFINITION. Beats and cycle boundaries (R48 to R50, R67, R71 to R73, R79, R135, R302, R407): what the start of a beat does, how a cycle is closed, and how the next
one begins.
-/
namespace Sys2Proof.Machine

/-- A record of the ended cycle is judged (R32, R35, R37, R72, R135): one that nothing wrote and nothing released delivers its substitute; a missing one
is journalled once, or counts late without a record in the broken cycle, or missing without one while a break is known, whose wrapping hubs account for it (R136); the counts of R46 follow, and a fresh value is the last fresh one. -/
def State.closeRecord (s : State) (i : Nat) : State :=
  let s1 := if (s.recLive i).arrived || (s.recLive i).released then s else s.writeSubstitute i
  let r := s1.recLive i
  let from_ := match s1.records[i]? with | some d => extractsInto s1.activeBank d | none => []
  if r.state = .fresh then
    match s1.records[i]? with
    | some d => s1.setRecLive i { r with hadFresh := true, last := memRead (s1.image d.img).working d.off (4 * d.words) }
    | none => s1
  else if r.state = .held then s1.inc 0x408010
  else if r.state = .late then s1.inc 0x408011
  else if r.state = .missing then
    let gone := !from_.isEmpty && from_.all (fun e => s1.partIsolated (0x10 + e.port))
    if r.reason = 0 && !from_.isEmpty && !gone && s1.ring.brokenCyc = some s1.cycle then (s1.setRecLive i { r with state := .late, reason := 0x08 }).inc 0x408011
    else
      let cut := !from_.isEmpty && !gone && from_.all s1.routeBroken
      (if cut then s1.depart i 0xFF else s1.depart i (if gone then 0x07 else 0x02)).inc 0x408012
  else s1

/-- The image roles change over (R71): every record of the new working bank is missing. -/
def State.turnImages (s : State) : State :=
  let turn (sel : ImageSel) : Image := ⟨(s.image sel).completed, (s.image sel).working, s.workingMap sel⟩
  { s with seq := { s.seq with
      input := turn .input, output := turn .output
      recs := s.seq.recs.map (fun (r : RecLive) => { hadFresh := r.hadFresh, last := r.last }) } }

/-- The ended cycle is closed: its records are judged and delivered, where records are produced (R408), and the images of an active bank change over at
every boundary (R71). -/
def State.closeCycle (s : State) : State :=
  if s.judging then ((List.range s.records.length).foldl (fun s i => s.closeRecord i) s).turnImages
  else if s.hasBank then s.turnImages
  else s

/-- A cycle that a step ends as it begins (R302): its records are late with reason time not locked. -/
def State.lostCycle (s : State) : State :=
  if s.judging then
    ((List.range s.records.length).foldl (fun s i =>
      let s1 := (s.writeSubstitute i).setRecLive i { s.recLive i with state := .late, arrived := true }
      (s1.depart i 0x05).inc 0x408011) s).turnImages
  else if s.hasBank then s.turnImages
  else s

/-- The words that a bank switch leaves in no record hold in both banks what was last delivered for them, and their states read 0b00 (R73). -/
def State.settleWords (s : State) : State :=
  let settle (sel : ImageSel) : Image :=
    let im := s.image sel
    let free := im.completed.filter (fun e => (s.recordAt sel e.1).isNone)
    { im with
      stMap := im.stMap.filter (fun e => (s.recordAt sel (4 * e.1)).isSome)
      working := (im.working.filter (fun e => (s.recordAt sel e.1).isSome)).foldl (fun (m : Memory) (e : Nat × Byte) => mset 0 m e.1 e.2) free }
  { s with seq := { s.seq with input := settle .input, output := settle .output } }

/-- The sequencer event lines of the ended cycle are published (R207). -/
def State.publishLines (s : State) : State :=
  let s1 := (List.range 64).foldl (fun s k =>
    let x := mget {} s.pawns.lines k
    s.wrB (0x510010 + 0x1000 * (k / 8) + k % 8)
      (if x.raises = 0 then zeros 16 else natLE 12 (time96Nat (toTime96 x.first)) ++ natLE 4 x.raises)) s
  { s1 with pawns := { s1.pawns with lines := [] } }

/-- What was sent on a port long enough ago to be past R134 is forgotten. -/
def State.pruneSent (s : State) : State :=
  [Port.e, .w, .s0, .s1].foldl (fun s p =>
    let x := s.port p
    s.setPort p { x with
      sent := x.sent.filter (s.sentLately p)
      sentX := x.sentX.filter (fun t => decide (s.nowNs ≤ t + s.lossWindow p))
      sentSegs := x.sentSegs.filter (fun e => decide (s.nowNs ≤ e.at_ + s.lossWindow p)) }) s

/-- The end of a cycle: conditions, servo, mastership and closure are settled, and what lasts for one cycle ends. -/
def State.endCycle (s : State) : State :=
  let s1 := ((((((s.envAtBoundary.lanesAtBoundary).servoAtBoundary).countMissing.masterLoss).yieldAtBoundary).closureCycle).becomeMaster).closeAtBoundary
  let s2 := (s1.publishLines.pruneSent).clearInserts
  { s2 with
    seq := { s2.seq with due := [], prevRun := s.judging }
    time := { s2.time with seen := [], acted := false }
    ring := { s2.ring with ended := [], brokenCyc := match s2.ring.brokenCyc with | some c => if c ≤ s2.cycle then none else some c | none => none } }

/-- A cycle begins: its number, its boundary time, and the local time in step with it (R48, R289), `n` beats after the last beat began. -/
def State.startCycle (s : State) (no bnd n : Nat) : State :=
  let s1 := (s.wr 0x401000 no).wr 0x401001 0
  { s1 with time := { s1.time with now := bnd, bnd := bnd, beats := s1.time.beats + n } }

/-- The bank switch of the boundary that begins this cycle (R79). -/
def State.bankAtBoundary (s : State) : State := if s.switchDue s.cycle then s.switchBanks.settleWords else s

/-- The contract comes into force at the first boundary in Run or Repair at which all five conditions hold (R24, R408). -/
def State.contractAtBoundary (s : State) : State :=
  let s1 := s.timeAtBoundary.monitorAtBoundary
  if s1.monitoring && !s1.failurePresent then { s1 with seq := { s1.seq with inForce := true } } else s1

/-- The master emits the marker of a cycle while no bank is active (R299). -/
def State.freeMarker (s : State) : State := if !s.hasBank && s.servo = 5 then s.emitMarker s.litPorts else s

/-- A beat begins (R18, R33, R193, R67, R94, R98, R105, R139, R179, R231, R469): released records, moves issued, segments, marker copies and ALIGN that leave, manual
GOs, slots released, unwrap requests repeated, switch settings written in the last beat in effect, a Keeper pause that is over (R438), the images kept for a seal of the beat (R467). -/
def State.startBeat (s : State) : State :=
  let b := s.beat
  let s1 := ((((((s.pinsThrough s.nowNs).releaseSlots).releaseAt b).runManual).deliverOwn).wrapsAtBeat).alignsHeld.switchAtBeat.unwrapRetries.bridgeAtBeat.pauseAtBeat
  let s2 := ((s1.originateAt b).copyMarkers b).alignsAt b
  let seals := s2.sealDue || (s2.dueAt b).any (fun i => s2.moves[i]?.any (fun m => m.act == 0x08))
  { s2 with seq := { s2.seq with due := s2.dueAt b, sealed := if seals then some s2.imagesNow else none }, pins := { s2.pins with samples := s2.pins.samples.filter (fun t => t.open_ s2.nowNs) } }

/-- The Keeper posts the seconds of fabric time to the AON island (R424), at the first boundary of each second. -/
def State.postTime (s : State) : State :=
  if s.modes.keeperUp then { s with modes := { s.modes with postedSec := s.time.now / (1000000000 * 65536) } } else s

/-- The master's time is set at the boundary, and the seals of the interval that it skips are missed (R308, R312). -/
def State.setTimeStep (s : State) : State :=
  if s.time.setTo.isSome && s.servo = 5 then s.setTimeAtBoundary.missSeals s.time.bnd else s.setTimeAtBoundary

/-- Everything that happens at the boundary once the cycle has its number. -/
def State.boundaryActions (s : State) : State :=
  let s1 := (((s.setTimeStep.modeAtBoundary).sleepAtBoundary).partsAtBoundary s.cycle).bankAtBoundary
  let s2 := ((((s1.boundAtBoundary.contractAtBoundary.pinsAtBoundary).swapsAtBoundary).unwrapAtBoundary).sealsAtBoundary).hubAtBoundary
  ((s2.arbiterAtBoundary.prefetchAtBoundary).freeMarker.postTime).startBeat

/-- The jump that the boundary will step on, if there is one (R291, R302). -/
def State.stepDue (s : State) : Option MarkerSeen := s.servoAtBoundary.time.step

/-- Beat 0 of a new cycle begins (R48). -/
def State.cycleBoundary (s : State) : State :=
  if s.atCycleEnd && s.stepDue.isNone && !s.warmDue then
    ((s.pinsToBeat.closeCycle.endCycle).startCycle s.nextCycleNo s.nextBoundary 1).boundaryActions
  else s

/-- The next beat of the cycle begins (R48, R67): when every move and seal of this one is done. -/
def State.beatStart (s : State) : State :=
  if s.ticking && s.beat + 1 < s.cycleLen && s.seq.due.isEmpty && !s.sealDue then
    let s1 := s.pinsToBeat.wr 0x401001 (s.beat + 1)
    let s2 := { s1 with time := { s1.time with now := s1.time.now + beatTicks, beats := s1.time.beats + 1 } }
    (s2.startBeat.sleepSweep).sendHeartbeat
  else s

/-- The boundary after a jump (R302, R308): the cycle that begins there is ended at once, the local time is set to the corrected value, and beat 0 begins
at the first boundary of the corrected time, with its number from the marker. -/
def State.timeStep (s : State) : State :=
  match s.stepDue with
  | some k =>
    if s.atCycleEnd && !s.warmDue then
      let len := s.cycleLen * beatTicks
      let old := s.time.bnd + len
      let true_ := ((old : Int) - k.off).toNat
      let m := if true_ ≤ k.btime then 0 else ceilDiv (true_ - k.btime) len
      let bnd := k.btime + m * len
      let s1 := s.pinsToBeat.closeCycle.endCycle
      let s2 := (s1.wr 0x401000 (s1.cycle + 1)).lostCycle
      let s3 := s2.startCycle (k.cycle + m) bnd (1 + ceilDiv (bnd - true_) beatTicks)
      let s4 := ((s3.inc 0x801008).raise .seq 0x01 0x0D (s3.cycle % 2 ^ 32)).acquire
      let s5 := { s4 with time := { s4.time with
        step := none
        stepped := true
        lastMark := ((s4.time.lastMark : Int) - k.off).toNat } }
      (s5.missSeals old).boundaryActions
    else s
  | none => s

end Sys2Proof.Machine
end

