-- ==== Sys2Proof/Machine/Apply.lean ====
section
/-!
DEFINITION. Writes made inside the hub: the effect of a write to any object, as a configuration set (R437, R441, R442) and a mirrored object (R145) make it.
-/
namespace Sys2Proof.Machine

/-- A batch is committed (R170); each of its writes waits to be stored in flash as its object's class asks (R319). A committed sleep member refuses it where it
writes a class-N object (R395). -/
def State.commitBatch (s : State) : OdRes :=
  let r := if (s.switch.batch.getD []).any (fun e => s.storeBarred e.1) then errRes s 0x06 else s.batchCommit
  if r.err = 0 then
    { r with st := (s.switch.batch.getD []).foldl (fun t (e : Nat × Nat) => t.noteStore e.1 (natBE (objBits e.1 / 8) e.2)) r.st }
  else r

/-- The effect of a write of `n` to an object of the hub that a command of the table owns, by its object number. A configuration set that names its own promotion
finds one running (R452). -/
def State.applyFixed (s : State) (o n : Nat) (v : List Byte) : OdRes :=
  if o = 0x001200 then s.featureCommit
  else if o = 0x100100 then s.modeRequest n
  else if o = 0x100200 then s.askWarm
  else if o = 0x208004 then okRes s.retryUnwrap
  else if o = 0x208205 then s.requestCastling
  else if o = 0x208410 then s.commandCastling n
  else if o = 0x300007 then (if n = 1 then s.batchBegin else if n = 2 then s.commitBatch else s.batchAbandon)
  else if o = 0x300008 then okRes s.clearSwitch
  else if o = 0x400100 then s.beginStaging Bank.empty
  else if o = 0x400101 then s.startCheck
  else if o = 0x400102 then s.switchAtCycle n
  else if o = 0x400103 then s.withdrawSwitch
  else if o = 0x408003 then okRes s.clearFailures
  else if o = 0x610003 then s.releaseAll
  else if o = 0x800001 then s.setFabricTime n
  else if o = 0x800104 then okRes (s.candidateReturn n)
  else if o = 0x80100A then okRes s.acceptNextJump
  else if o = 0x802000 then okRes (s.sealCommand n)
  else if o = 0x901800 then s.windowCommit
  else if o = 0x907006 then okRes s.clearBridge
  else if o = 0xB00001 then (if n = 1 then s.proposeSleep else s.cancelSleep)
  else if o = 0xB03201 then okRes s.clearFlags
  else if o = 0xC02000 then s.beginContainer n
  else if o = 0xC02001 then s.stagingChunk v
  else if o = 0xC02003 then s.verify
  else if o = 0xC02100 then (if n = 1 then s.promoteFirmware else if n = 2 then s.promoteSchedule else refusedRes s 0x0A)
  else if o = 0xC03000 then s.startHandover
  else if o = 0xC03001 then okRes s.confirm
  else if o = 0xC05001 then s.isolateAt n
  else if o = 0xC05002 then s.returnAt n
  else if o = 0xC05003 then s.testPart (n = 2)
  else if o = 0xD00001 then s.writeTail n
  else errRes s 0x02

/-- The effect of a write to an object of a unit that several of the hub have. -/
def State.applyUnit (s : State) (o n : Nat) (v : List Byte) : OdRes :=
  let g := o &&& 0xFF0FFF
  let u := unitOf o
  if g = 0x200006 then okRes (s.retrain (portOf u))
  else if g = 0x20010C then okRes (s.clearPort (portOf u))
  else if g = 0x510002 then s.manualGo u n
  else if g = 0x600102 then s.reEnable u
  else if g = 0x600103 then okRes (s.writeLatches u n)
  else if g = 0x700000 then s.writeBusMode u n
  else if g = 0x700006 then s.busRecover u (n = 2)
  else if g = 0x700109 then okRes (s.clearBus u)
  else if g = 0x710000 then okRes (s.writeXcvr u n)
  else if g = 0x710004 then okRes (s.wr (xcvrObj u 3) 0)
  else if g = 0xA1010A then s.tookFree.clearFault u (s.freeNat 1 = 1)
  else if g = 0xA1010B then (if n = 1 then s.channelOn u else s.channelOff u)
  else if g = 0xE00001 then s.releaseSlot u
  else if epochObj o then s.writeTable o n
  else if o &&& 0xFF0F00 = 0x600000 then s.writePinConfig (16 * u + o % 16) n
  else if o / 2 ^ 16 = 0x50 then
    let q := pawnOf o
    let k := o % 256
    if k = 0x20 then s.armSwap q n
    else if k = 0x22 then okRes (s.withdrawSwap q)
    else if k = 0x25 then s.inject q n
    else if k = 0x08 then s.stageSlots q v
    else if k = 0x09 then s.stageDivider q n
    else s.stageTimeout q (k - 0x0A) n
  else s.applyFixed o n v

/-- The effect of a write of a value to an object, whichever it is. -/
def State.applyWrite (s : State) (o : Nat) (v : List Byte) : OdRes :=
  match objRow o with
  | some r => if ownRow o then s.applyUnit o (beNat v) v else s.writeObj r o v
  | none => errRes s 0x01

/-- A write made by the hub itself takes effect, and class N waits to be stored (R319). -/
def State.ownWrite (s : State) (o : Nat) (v : List Byte) : State :=
  let r := s.applyWrite o v
  if r.err = 0 then r.st.noteStore o v else r.st

/-- The value that a mirrored object takes from its words (R147): as many bytes as its type has. -/
def mirrorBytes (o : Nat) (v : List Byte) : List Byte :=
  match objRow o with
  | some r => v.take (if r.type.isBytes then r.maxLen else r.type.size)
  | none => v

/-- A mirrored object is written into the standby's own OD (R145), in every mode and whatever its access code; a value that its type or range does not
have is left out, and so are objects that are not mirrored and, on a committed sleep member, class-N objects (R395). -/
def State.mirrorPut (s : State) (o : Nat) (v : List Byte) : State :=
  match objRow o with
  | some r =>
    let x := mirrorBytes o v
    if r.access = .wo || r.access = .cmd || !(lengthFits r o x.length) then s
    else if r.access = .ro then (if r.type.isBytes then s.wrB o x else s.wr o (beNat x))
    else if s.storeBarred o then s
    else if s.valueOk r o x then s.ownWrite o x
    else s
  | none => s

/-- The entries of a configuration set (R437): object number and value; a rest that is no whole entry makes one of an object that does not exist. -/
def setEntries : Nat → List Byte → List (Nat × List Byte)
  | 0, _ => []
  | n + 1, l =>
    if l.isEmpty then []
    else
      let len := beField l 3 2
      if l.length < 5 + len then [(0xFFFFFF, [])] else (beField l 0 3, slice l 5 len) :: setEntries n (l.drop (5 + len))

/-- An entry of a configuration set, and whether it is skipped because it names no object (R441). -/
abbrev SetEntry := (Nat × List Byte) × Bool

/-- A section's entries with what the OD versions ask for (R441, R442): the entries in order, those that are skipped marked, and the objects whose migrated value was out
of range; none where the version is higher than the firmware knows. -/
def State.sectionEntries (s : State) (x : SectionRec) : Option (List SetEntry × List Nat) :=
  let raw := slice s.update.staging x.off x.len
  let major := bits x.ver 15 8
  let own := s.odVersion
  if bits own 15 8 < major then none
  else if major < bits own 15 8 then
    let es := setEntries (raw.length + 1) (Config.migrateSet raw)
    let bad := es.filter (fun e => let k := s.accessError .write e.1 e.2; k = 4 || k = 5)
    some (es.map (fun e => (if bad.contains e then (e.1, natBE (objBits e.1 / 8) (objDefault e.1)) else e, false)), bad.map (·.1))
  else
    let es := setEntries (raw.length + 1) raw
    some (es.map (fun e => (e, decide (bits own 7 0 < bits x.ver 7 0) && (objRow e.1).isNone && e.1 != 0xFFFFFF)), [])

/-- An entry of a configuration set fails its checks (R437). -/
def State.entryFails (s : State) (e : SetEntry) : Bool := !e.2 && s.accessError .write e.1.1 e.1.2 != 0

/-- The entries of the sets as writes, and the flash write that stores them all (R437, R319). -/
def State.applySet (s : State) (es : List SetEntry) : State :=
  let l := (es.filter (fun e => !e.2)).map (·.1)
  let t := l.foldl (fun s e => s.ownWrite e.1 e.2) s
  { t with update := { t.update with setStores := (t.stores.map Prod.fst).filter (fun o => l.any (fun e => e.1 = o)) } }

/-- A set is refused (R437): the index of the entry that failed is in C.021.02. -/
def State.refuseSet (s : State) (index : Nat) : OdRes := refusedRes (s.wr 0xC02102 index) 0x09

/-- A write of 3 to C.021.00 (R434, R437): the sets of the container for this hub are checked whole and applied. -/
def State.promoteConfiguration (s : State) : OdRes :=
  if s.mode != .configure then errRes s 0x03
  else if s.update.promoting != 0 then refusedRes s 0x0A
  else
    let secs := if s.verified then s.configSections s.update.staging else []
    let parts := secs.filterMap s.sectionEntries
    let es := parts.flatMap (·.1)
    if secs.isEmpty then refusedRes s 0x06
    else if parts.length != secs.length then s.refuseSet 0
    else if es.any (fun e => !e.2 && s.storeBarred e.1.1) then errRes s 0x06
    else match es.findIdx? s.entryFails with
      | some k => s.refuseSet k
      | none =>
        let s1 := s.addTo 0xC04101 ((es.filter (·.2)).length)
        let s2 := (parts.flatMap (·.2)).foldl (fun s o => s.raise .mgt 0x06 0x63 (0x04 * 2 ^ 24 + o)) s1
        okRes ((s2.applySet es).wr 0xC02101 2)

/-- A write executed (R316, R321), whichever object it names. -/
def State.runWriteAny (s : State) (o : Nat) (v : List Byte) : OdAnswer :=
  s.runWrite o v (fun t => if o = 0xC02100 && beNat v = 3 then t.promoteConfiguration else t.applyWrite o v)

end Sys2Proof.Machine
end

