-- ==== Sys2Proof/Machine/Operands.lean ====
section
/-!
DEFINITION. What the commands of the table have in common: the outcome type, the operand forms of the OD write commands, of the control messages
and of the fabric frames, and what a command needs before it can take place.
-/
namespace Sys2Proof.Machine

/-- On an empty queue the block idles: nothing but the 32.768 kHz count of a powered AON island goes on (R424). -/
def State.idle (s : State) : State := if s.powered then { s with modes := { s.modes with aonCount := s.modes.aonCount + 1 } } else s

/-- What a command answers. -/
abbrev Result := Host.Outcome State Fault Refusal

/-- A write command with a numeric operand: the object takes as many bits of the operand as it is wide. -/
def State.odNum (s : State) (h : OdHdr) (o v : Nat) (eff : Nat → State → OdRes) : State :=
  s.odSet h o v (eff (v % 2 ^ objBits o))

/-- The object of a pin's configuration word, 16b + p (R243): 6.0b0.pp. -/
def pinObj (pin : Nat) : Nat := 0x600000 + 0x1000 * (pin / 16) + pin % 16

/-- An object of a bank of pins (R262): 6.0b1.ss. -/
def bankObj (b sub : Nat) : Nat := 0x600100 + 0x1000 * b + sub

/-- The object of a manual GO of a cluster (R231): 5.1c0.02. -/
def manualObj (c : Nat) : Nat := 0x510002 + 0x1000 * c

/-- The object that releases a snapshot slot (R469): E.0s0.01. -/
def releaseObj (k : Nat) : Nat := 0xE00001 + 0x1000 * k

/-- The subindexes by which SLOT_MAP_WRITE stages a pawn's slot map, divider and timeouts (R192, R194, R202, R221). -/
def stagedSub (sub : Nat) : Bool := 0x08 ≤ sub && sub ≤ 0x0D

/-- The effect of a write to a pawn's staged configuration (R192, R194, R202, R221). -/
def State.stagePawn (s : State) (q sub : Nat) (v : List Byte) : OdRes :=
  if sub = 0x08 then s.stageSlots q v
  else if sub = 0x09 then s.stageDivider q (beNat v)
  else s.stageTimeout q (sub - 0x0A) (beNat v)

/-- A control message has the code of its kind in bytes 0 and 1 (R147). -/
def hasCode (m : List Byte) (code : Nat) : Bool := beField m 0 2 = code

/-- A frame comes in on an ingress port (R156): a ring port that carries frames, or a local one. -/
def State.takesFrom (s : State) (port : Nat) : Bool :=
  s.ticking && decide (port < 9) && (decide (4 ≤ port) || s.portUsable (portOf port))

/-- A host access reaches the mailbox (R345): the bridge is up and in service. -/
def State.hostReaches (s : State) : Bool := s.bridgeUp && !(s.isolated .hbr)

/-- A request frame of a type is served at a space of this hub (R111, R113). -/
def State.serves (s : State) (f : Frame) (type : Nat) : Bool := s.forHub f type && frameWhole f

/-- A write request frame reaches an offset of a space: posted or acknowledged (R111, R219, R220). -/
def State.writesTo (s : State) (f : Frame) (space : Nat) (offset : Nat → Bool) : Bool :=
  (s.serves f 0 || s.serves f 3) && fabSpace f.addr = space && offset (fabOff f.addr)

/-- A write request frame is served as its type asks (R111). -/
def State.serveWrite (s : State) (f : Frame) : State := if f.type = 0 then s.servePosted f else s.serveAcked f

/-- A fabric access reaches a bus controller (R268, R447): neither it nor its island is isolated. -/
def State.ctlReached (s : State) (n : Nat) : Bool := s.ticking && !(s.isolated .mbus) && !(s.partIsolated (0x80 + n))

/-- A command word of a message object can be written (R268): the MBUS island works, and the object exists. -/
def State.commandsBus (s : State) (m v : Nat) (n : Nat) : Bool :=
  s.ctlReached n && decide (m ≤ highPriority) && s.busWordOk n m 0x24 v

/-- A generic OD access (R327). -/
def State.odAccess (s : State) (q : OdAccessReq) (run : State → OdAnswer) : Result := .next (s.odExecute q run)

/-- A fabric request served at a space of this hub (R116). -/
def State.fabricServe (s : State) (f : Frame) (type : Nat) (serve : State → Frame → State) : Result :=
  .next (if s.serves f type then serve s f else s)

end Sys2Proof.Machine
end

