-- ==== Sys2Proof/Machine/CmdSequencer.lean ====
section
/-!
DEFINITION. Commands of the sequencer: beats, cycle boundaries, the ten moves, table banks and the monitors of the contract. One definition for each command.
-/
namespace Sys2Proof.Machine

/-- BEAT_START (R67): The beat strobe reaches each island, which begins executing that beat's moves at its effect point. -/
def execBeatStart (s : State) : Result := .next s.beatStart

/-- CYCLE_BOUNDARY (R48): Beat 0 of a new cycle begins: the beat count is corrected and every boundary action of the hub is taken. -/
def execCycleBoundary (s : State) : Result := .next s.cycleBoundary

/-- NOPM (R64): A move with no effect. -/
def execNopm (i : Nat) (s : State) : Result := .next (s.runMove i 0 (fun m t => t.countHold (t.plainDisp m)))

/-- SAMPLE (R55): Reads the masked pins as levels, edge flags or a timestamp into the input image. -/
def execSample (i : Nat) (s : State) : Result := .next (s.runMove i 1 effSample)

/-- APPLY (R56): Drives the masked pins from the output image and loads their hold latches. -/
def execApply (i : Nat) (s : State) : Result := .next (s.runMove i 2 effApply)

/-- COPY (R57): Moves words with their state between images, FIFOs, ring segments or host memory. -/
def execCopy (i : Nat) (s : State) : Result := .next (s.runMove i 3 (effCopy i))

/-- GO (R58): Starts or resumes the addressed pawns on the first SEQ clock edge of the beat. -/
def execGo (i : Nat) (s : State) : Result := .next (s.runMove i 4 effGo)

/-- GATE (R59): Opens or closes the gate of an egress port for the named traffic classes. -/
def execGate (i : Nat) (s : State) : Result := .next (s.runMove i 5 effGate)

/-- TXOBJ (R60): Copies output image bytes into a transmit object and requests its transmission. -/
def execTxobj (i : Nat) (s : State) : Result := .next (s.runMove i 6 effTxobj)

/-- RXLATCH (R61): Copies the last completed frame of a receive object into the input image. -/
def execRxlatch (i : Nat) (s : State) : Result := .next (s.runMove i 7 effRxlatch)

/-- SEAL (R62): Latches a snapshot slot in every island of its mask. -/
def execSeal (i : Nat) (s : State) : Result := .next (s.runMove i 8 (fun m t => (t.sealMove m).countHold (t.plainDisp m)))

/-- MARK (R63): Emits the cycle marker on the master, or opens the marker check on other nodes. -/
def execMark (i : Nat) (s : State) : Result := .next (s.runMove i 9 (fun m t => (t.markMove m).countHold (t.plainDisp m)))

/-- BEGIN_STAGING (R75): A write of 1 to 4.001.00 clears the staged bank and puts it in state loading. -/
def execBeginStaging (h : OdHdr) (img : Bank) (s : State) : Result := .next (s.odSet h 0x400100 1 (fun t => t.beginStaging img))

/-- START_LOAD_CHECK (R76): A write of 1 to 4.001.01 starts the load check of the staged bank. -/
def execStartLoadCheck (h : OdHdr) (s : State) : Result := .next (s.odSet h 0x400101 1 State.startCheck)

/-- LOAD_CHECK_COMPLETE (R76): The load check ends with the bank checked or rejected and the first error reported. -/
def execLoadCheckComplete (s : State) : Result := .next s.checkComplete

/-- SWITCH_AT_CYCLE (R78): A write to 4.001.02 requests a bank switch at a named or the first eligible boundary. -/
def execSwitchAtCycle (h : OdHdr) (v : Nat) (s : State) : Result := .next (s.odNum h 0x400102 v (fun w t => t.switchAtCycle w))

/-- WITHDRAW_SWITCH (R83): A write of 1 to 4.001.03 withdraws a pending bank switch. -/
def execWithdrawSwitch (h : OdHdr) (s : State) : Result := .next (s.odSet h 0x400103 1 State.withdrawSwitch)

/-- CLEAR_LATCHED_FAILURES (R47): A write of 1 to 4.080.03 clears the latched condition-failure bits whose conditions hold again. -/
def execClearLatchedFailures (h : OdHdr) (s : State) : Result := .next (s.odSet h 0x408003 1 (fun t => okRes t.clearFailures))

/-- CLOCK_MONITOR_WINDOW (R28): A 10.24 µs clock-count window ends and each island clock is judged against its window. -/
def execClockMonitorWindow (code count : Nat) (locked : Bool) (s : State) : Result := .next (if s.ticking then s.clockWindow code count locked else s)

/-- VDDC_COMPARATOR_TRIP (R28): An island's VDDC window comparator trips and the island leaves the envelope. -/
def execVddcComparatorTrip (code : Nat) (s : State) : Result := .next (s.envFail code 1)

/-- VDDC_COMPARATOR_RECOVERY (R40): An island's VDDC window comparator returns inside its window, ending the presence of the condition-2 failure that holds 4.080.00 at 2. -/
def execVddcComparatorRecovery (code : Nat) (s : State) : Result := .next (s.envRecover code 1)

/-- TEMPERATURE_READ (R28): The die temperature sensors are read every 1 ms and the gradient is judged. -/
def execTemperatureRead (portDie : Bool) (readings : List Nat) (s : State) : Result :=
  .next (if (if portDie then s.powered else s.coreUp) then s.temperatureRead portDie readings else s)

end Sys2Proof.Machine
end

