-- ==== Sys2Proof/Machine/CmdRing.lean ====
section
/-!
DEFINITION. Commands of the ring ports: training, breaks and wraps, markers, segments and express events. One definition for each command.
-/
namespace Sys2Proof.Machine

/-- SIGNAL_DETECTED (R124): Signal is detected on both lanes of an enabled port, which leaves DOWN for SIGNAL. -/
def execSignalDetected (p : Port) (s : State) : Result := .next (s.signalDetected p)

/-- CDR_LOCKED (R124): Clock data recovery locks on both lanes and the port enters LOCK. -/
def execCdrLocked (p : Port) (s : State) : Result := .next (s.cdrLocked p)

/-- BLOCK_LOCK_GAINED (R92): After 64 valid sync headers a lane gains block lock. -/
def execBlockLockGained (p : Port) (lane : Fin 2) (s : State) : Result := .next (s.lockGained p lane.val)

/-- BLOCK_LOCK_LOST (R92): A lane sees 16 invalid sync headers in 64 blocks and loses block lock, a ring break. Either lane of a port ends its lock alike. -/
def execBlockLockLost (p : Port) (_lane : Fin 2) (cut : Option Cut) (s : State) : Result := .next (s.lockLost p cut)

/-- TRAINING_TIMEOUT (R124): A training state times out and the port returns to DOWN. -/
def execTrainingTimeout (p : Port) (s : State) : Result := .next (s.trainingTimeout p)

/-- TRAINING_RESTART (R124): 100 ms after a timeout or failure the port starts training again. -/
def execTrainingRestart (p : Port) (s : State) : Result := .next (s.trainingRestart p)

/-- RETRAIN (R124): A write of 1 to 2.0p0.06 retrains a port. -/
def execRetrain (h : OdHdr) (p : Port) (s : State) : Result := .next (s.odSet h (portObj p 0 6) 1 (fun t => okRes (t.retrain p)))

/-- CLEAR_COUNTERS (R128): A write of 1 to 2.0p1.0C restarts the saturating port counters. -/
def execClearCounters (h : OdHdr) (p : Port) (s : State) : Result := .next (s.odSet h (portObj p 1 0xC) 1 (fun t => okRes (t.clearPort p)))

/-- ALIGN_RECEIVED (R94): An ALIGN pair is received and lane skew is measured or checked. -/
def execAlignReceived (p : Port) (skew : Nat) (s : State) : Result := .next (s.alignReceived p skew)

/-- HELLO_SEND (R125): In HELLO a hub sends HELLO every 10 µs. -/
def execHelloSend (p : Port) (s : State) : Result := .next (s.helloSend p)

/-- HELLO (R125): A neighbour's HELLO is received and judged compatible or refused. -/
def execHello (p : Port) (b : Hello) (s : State) : Result := .next (s.helloIn p b)

/-- HELLO_ACK (R125): A HELLO_ACK is received and the port leaves HELLO for MEASURE or REFUSED. -/
def execHelloAck (p : Port) (b : Hello) (s : State) : Result := .next (s.helloAck p b)

/-- MEASURE_EXCHANGE (R126): Every 1 µs a MEASURE_REQ is sent and timestamped. -/
def execMeasureExchange (p : Port) (sentAt : Nat) (s : State) : Result := .next (s.measureExchange p sentAt)

/-- MEASURE_REQ (R125): A MEASURE_REQ is received and answered with MEASURE_REP carrying the turnaround. -/
def execMeasureReq (p : Port) (seq turnaround : Nat) (s : State) : Result := .next (s.measureReq p seq turnaround)

/-- MEASURE_REP (R126): A MEASURE_REP is received and one cable-delay value is computed. -/
def execMeasureRep (p : Port) (seq turnaround arrivedAt : Nat) (s : State) : Result := .next (s.measureRep p seq turnaround arrivedAt)

/-- PATH_REPEAT (R125): Every 10 µs the hub repeats PATH until it has the neighbour's PATH. -/
def execPathRepeat (p : Port) (s : State) : Result := .next (s.pathRepeat p)

/-- PATH (R125): The neighbour's PATH block with its path offsets is received. -/
def execPath (p : Port) (etx erx : Nat) (s : State) : Result := .next (s.pathIn p etx erx)

/-- IDLE_TIMEOUT (R129): No IDLE block arrives on a port for 256 ns and a break is declared. -/
def execIdleTimeout (p : Port) (cut : Option Cut) (s : State) : Result := .next (s.idleTimeout p cut)

/-- NOTICE_REPEAT (R132): While a port stays broken a NOTICE is sent every 1 µs. -/
def execNoticeRepeat (p : Port) (s : State) : Result := .next (if s.ticking then s.noticeRepeat p else s)

/-- NOTICE (R132): A WRAP NOTICE is received and the hub declares a break on that port. -/
def execNotice (p : Port) (b : CutNotice) (s : State) : Result := .next (s.noticeIn p b.block b.cut)

/-- REPORT (R132): A WRAP REPORT is received, stored and forwarded once. -/
def execReport (p : Port) (b : WrapBlock) (s : State) : Result := .next (if s.ticking && s.ringUsable p then s.reportReceived p b else s)

/-- UNWRAP_REQ (R139): An UNWRAP_REQ is received and answered with UNWRAP_ACK once the port is UP. -/
def execUnwrapReq (p : Port) (b : WrapBlock) (s : State) : Result := .next (if s.ticking then s.unwrapReq p b else s)

/-- UNWRAP_ACK (R139): An UNWRAP_ACK is received and the wrap ends at the named boundary. -/
def execUnwrapAck (p : Port) (b : WrapBlock) (s : State) : Result := .next (if s.portLive p then s.unwrapAck p b else s)

/-- RETRY_UNWRAP (R139): A write of 1 to 2.080.04 retries the unwrap of a wrapped port. -/
def execRetryUnwrap (h : OdHdr) (s : State) : Result := .next (s.odSet h 0x208004 1 (fun t => okRes t.retryUnwrap))

/-- MARKER_RECEIVED (R99): A cycle marker is received, judged, forwarded with residence added, and may drive the servo. -/
def execMarkerReceived (p : Port) (m : Marker) (arr res : Nat) (s : State) : Result := .next (s.markerReceived p m arr res)

/-- SEGMENT_RECEIVED (R103): A cyclic segment passes, is checked, extracted, inserted into and forwarded or removed. -/
def execSegmentReceived (p : Port) (g : Segment) (res : Nat) (s : State) : Result := .next (if s.ticking then s.segmentReceived p g res else s)

/-- EXPRESS_RECEIVED (R118): An express event is received, delivered once to the crossbar and forwarded. -/
def execExpressReceived (p : Port) (x : LaneExpress) (crc : Nat) (s : State) : Result := .next (s.expressReceived p x crc)

/-- EXPRESS_TOKEN_REFILL (R121): Every 64 word slots a port's express bucket gains one token. -/
def execExpressTokenRefill (p : Port) (s : State) : Result := .next (s.expressRefill p)

/-- EXPRESS_DEFERRED_SEND (R121): A deferred express event leaves its queue once a token is available. -/
def execExpressDeferredSend (p : Port) (s : State) : Result := .next (if s.ticking then s.expressDeferred p else s)

/-- ERRORED_BLOCK (R92): A block with an invalid sync header, a reserved type or a failed CRC-8 arrives on a lane and is counted toward the lane error bound of condition 3. -/
def execErroredBlock (p : Port) (b : LaneBlock) (s : State) : Result := .next (s.blockArrives p b.lane.val b.sync b.block)

end Sys2Proof.Machine
end

