-- ==== Sys2Proof/Machine/CmdSwitch.lean ====
section
/-!
DEFINITION. Commands of the acyclic switch and of the fabric requests served at the spaces of the hub. One definition for each command.
-/
namespace Sys2Proof.Machine

/-- FRAME_INGRESS (R161): An acyclic frame enters the switch and is checked, looked up, policed, admitted and queued. -/
def execFrameIngress (port : Nat) (f : Frame) (s : State) : Result := .next (if s.takesFrom port then s.frameIngress port f else s)

/-- EGRESS_SELECT (R180): A free egress port sends the candidate of its highest eligible class. -/
def execEgressSelect (port off : Nat) (s : State) : Result := .next (if s.ticking && decide (port < 9) then s.egressSelect port off else s)

/-- FENCE_END (R167): A route-change fence ends once the old frames have drained and the fence time has elapsed. -/
def execFenceEnd (d : Nat) (s : State) : Result := .next (if s.ticking then s.fenceEnd d else s)

/-- EPOCH_TABLE_UPDATE (R169): A write to an epoch-governed table fills a spare slot and advances the epoch. -/
def execEpochTableUpdate (h : OdHdr) (obj v : Nat) (s : State) : Result :=
  .next (if epochObj obj then s.odNum h obj v (fun w t => t.writeTable obj w) else s)

/-- TABLE_BATCH_BEGIN (R170): A write of 1 to 3.000.07 begins a table batch. -/
def execTableBatchBegin (h : OdHdr) (s : State) : Result := .next (s.odSet h 0x300007 1 State.batchBegin)

/-- TABLE_BATCH_COMMIT (R170): A write of 2 to 3.000.07 makes every batch slot current under one epoch advance. -/
def execTableBatchCommit (h : OdHdr) (s : State) : Result := .next (s.odSet h 0x300007 2 State.commitBatch)

/-- TABLE_BATCH_ABANDON (R170): A write of 3 to 3.000.07 abandons the batch. -/
def execTableBatchAbandon (h : OdHdr) (s : State) : Result := .next (s.odSet h 0x300007 3 State.batchAbandon)

/-- CLEAR_SWITCH_COUNTERS (R186): A write of 1 to 3.000.08 restarts the switch counts. -/
def execClearSwitchCounters (h : OdHdr) (s : State) : Result := .next (s.odSet h 0x300008 1 (fun t => okRes t.clearSwitch))

/-- FAILURE_REPORT (R115): A failure report reaches the requester of a discarded frame. -/
def execFailureReport (f : Frame) (s : State) : Result := .next (s.reportFrame f)

/-- SEG_SHORT (R176): The originator receives SEG_SHORT, counts it and journals a fork shortfall. -/
def execSegShort (payload : List Byte) (s : State) : Result :=
  .next (if s.ticking && hasCode payload 0x0630 then s.segShort (beField payload 12 2 % 4096) (beField payload 4 8) else s)

/-- FABRIC_POSTED_WRITE (R116): A posted write frame is served at its target space. -/
def execFabricPostedWrite (f : Frame) (s : State) : Result := s.fabricServe f 0 State.servePosted

/-- FABRIC_READ_REQUEST (R116): A read request frame is served and answered with a read response. -/
def execFabricReadRequest (f : Frame) (s : State) : Result := s.fabricServe f 1 State.serveRead

/-- FABRIC_ACKNOWLEDGED_WRITE (R111): An acknowledged write frame is served and answered with a write acknowledgement. -/
def execFabricAcknowledgedWrite (f : Frame) (s : State) : Result := s.fabricServe f 3 State.serveAcked

/-- WRITE_ACKNOWLEDGEMENT (R111): A write acknowledgement reaches its requester. -/
def execWriteAcknowledgement (f : Frame) (s : State) : Result := .next (s.ackFrame f)

/-- ETHERNET_TUNNEL (R111): An Ethernet tunnel frame is delivered to the Ethernet MAC port. -/
def execEthernetTunnel (f : Frame) (s : State) : Result := .next (s.tunnelFrame f)

/-- FIFO_PORT_POP (R219): A fabric read of a pawn FIFO port pops one IN FIFO word. -/
def execFifoPortPop (f : Frame) (s : State) : Result :=
  .next (if s.serves f 1 && fabSpace f.addr = 0x03 && fabOff f.addr % 0x100 = 0x00 then s.serveRead f else s)

/-- FIFO_PORT_WRITE (R219): A fabric write adds one word without end flag to the OUT FIFO. -/
def execFifoPortWrite (f : Frame) (s : State) : Result := .next (if s.writesTo f 0x03 (fun o => o % 0x100 = 0x00) then s.serveWrite f else s)

/-- FIFO_PORT_WRITE_END (R219): A fabric write adds one word with end flag to the OUT FIFO. -/
def execFifoPortWriteEnd (f : Frame) (s : State) : Result := .next (if s.writesTo f 0x03 (fun o => o % 0x100 = 0x04) then s.serveWrite f else s)

/-- INSTRUCTION_SHADOW_WRITE (R220): A write to space 0x05 writes a word of the pawn's shadow program. -/
def execInstructionShadowWrite (f : Frame) (s : State) : Result := .next (if s.writesTo f 0x05 (fun _ => true) then s.serveWrite f else s)

end Sys2Proof.Machine
end

