-- ==== Sys2Proof/Machine/CmdPair.lean ====
section
/-!
DEFINITION. Commands of redundant pairs. One definition for each command.
-/
namespace Sys2Proof.Machine

/-- HEARTBEAT (R144): A partner's HEARTBEAT is received on the pair link. -/
def execHeartbeat (p : Port) (payload : List Byte) (s : State) : Result := .next (s.heartbeatIn p payload)

/-- HEARTBEAT_DEADLINE (R144): At beat h + 256 a missing partner heartbeat is counted missed and PAIR_STATUS is sent. -/
def execHeartbeatDeadline (s : State) : Result := .next s.heartbeatDeadline

/-- MIRROR (R145): A MIRROR message is received and written into the mirror store or OD. -/
def execMirror (p : Port) (payload : List Byte) (s : State) : Result := .next (s.mirrorIn State.mirrorPut p payload)

/-- PAIR_STATUS (R149): The arbiter receives a hub's PAIR_STATUS. -/
def execPairStatus (payload : List Byte) (s : State) : Result := .next (s.statusIn payload)

/-- ARBITER_BEACON (R147): A hub receives the arbiter's beacon naming the active hub. -/
def execArbiterBeacon (payload : List Byte) (s : State) : Result := .next (s.beaconIn payload)

/-- GRANT (R150): A hub receives a GRANT and accepts or refuses it with GRANT_ACK. -/
def execGrant (payload : List Byte) (s : State) : Result := .next (s.grantIn payload)

/-- GRANT_ACK (R147): The arbiter receives a GRANT_ACK. -/
def execGrantAck (payload : List Byte) (s : State) : Result := .next (s.ackIn payload)

/-- REQUEST_CASTLING (R155): A write of 1 to 2.082.05 sets the castling-requested flag on the active hub. -/
def execRequestCastling (h : OdHdr) (s : State) : Result := .next (s.odSet h 0x208205 1 State.requestCastling)

/-- COMMAND_CASTLING (R149): A write to 2.084.10 commands castling of a pair at the arbiter. -/
def execCommandCastling (h : OdHdr) (v : Nat) (s : State) : Result := .next (s.odNum h 0x208410 v (fun w t => t.commandCastling w))

end Sys2Proof.Machine
end

