-- ==== Sys2Proof/Machine/CmdPawn.lean ====
section
/-!
DEFINITION. Commands of the pawn engines: their instructions, and their service while they run. One definition for each command.
-/
namespace Sys2Proof.Machine

/-- NOP (R203): Pawn instruction that advances PC. -/
def execNop (q : Fin 128) (s : State) : Result := .next (s.pawnCycle q.val 0x00 effNop)

/-- JMP (R203): Pawn jump to a target. -/
def execJmp (q : Fin 128) (s : State) : Result := .next (s.pawnCycle q.val 0x01 effJmp)

/-- JCC (R198): Pawn conditional jump on a flag or FIFO condition. -/
def execJcc (q : Fin 128) (s : State) : Result := .next (s.pawnCycle q.val 0x02 effJcc)

/-- DJA (R203): Decrements CA and jumps while nonzero. -/
def execDja (q : Fin 128) (s : State) : Result := .next (s.pawnCycle q.val 0x03 effDja)

/-- DJB (R203): Decrements CB and jumps while nonzero. -/
def execDjb (q : Fin 128) (s : State) : Result := .next (s.pawnCycle q.val 0x04 effDjb)

/-- LDA (R204): Loads counter CA. -/
def execLda (q : Fin 128) (s : State) : Result := .next (s.pawnCycle q.val 0x05 effLda)

/-- LDB (R204): Loads counter CB. -/
def execLdb (q : Fin 128) (s : State) : Result := .next (s.pawnCycle q.val 0x06 effLdb)

/-- LDC (R204): Loads the comparand CMP. -/
def execLdc (q : Fin 128) (s : State) : Result := .next (s.pawnCycle q.val 0x07 effLdc)

/-- WAITP (R203): Waits for a slot level. -/
def execWaitp (q : Fin 128) (s : State) : Result := .next (s.pawnCycle q.val 0x08 effWaitp)

/-- WAITE (R203): Waits for a slot edge of the named kind. -/
def execWaite (q : Fin 128) (s : State) : Result := .next (s.pawnCycle q.val 0x09 effWaite)

/-- WAITB (R209): Waits for a target beat start. -/
def execWaitb (q : Fin 128) (s : State) : Result := .next (s.pawnCycle q.val 0x0A effWaitb)

/-- SHO (R203): Shifts one bit of SH out to a slot. -/
def execSho (q : Fin 128) (s : State) : Result := .next (s.pawnCycle q.val 0x0B effSho)

/-- SHI (R203): Shifts one slot bit into SH. -/
def execShi (q : Fin 128) (s : State) : Result := .next (s.pawnCycle q.val 0x0C effShi)

/-- PUSH (R203): Writes SH with state and end flag into the IN FIFO. -/
def execPush (q : Fin 128) (s : State) : Result := .next (s.pawnCycle q.val 0x0D effPush)

/-- PULL (R203): Pops a visible OUT FIFO word into SH. -/
def execPull (q : Fin 128) (s : State) : Result := .next (s.pawnCycle q.val 0x0E effPull)

/-- CMPJ (R199): Compares SH with CMP and jumps on the relation. -/
def execCmpj (q : Fin 128) (s : State) : Result := .next (s.pawnCycle q.val 0x0F effCmpj)

/-- CRCS (R205): Advances the CRC in CMP by one bit. -/
def execCrcs (q : Fin 128) (s : State) : Result := .next (s.pawnCycle q.val 0x10 effCrcs)

/-- TSTMP (R206): Pushes the fabric time of the cycle start into the IN FIFO. -/
def execTstmp (q : Fin 128) (s : State) : Result := .next (s.pawnCycle q.val 0x11 effTstmp)

/-- EVT (R207): Raises a reflex or sequencer event line. -/
def execEvt (q : Fin 128) (s : State) : Result := .next (s.pawnCycle q.val 0x12 effEvt)

/-- SYNC (R208): Waits at a barrier for the group members of its cluster. -/
def execSync (q : Fin 128) (s : State) : Result := .next (s.pawnCycle q.val 0x13 effSync)

/-- SWAP (R203): Makes a pending swap take effect and jumps to the entry address. -/
def execSwap (q : Fin 128) (s : State) : Result := .next (s.pawnCycle q.val 0x14 effSwap)

/-- HALT (R203): Halts the pawn. -/
def execHalt (q : Fin 128) (s : State) : Result := .next (s.pawnCycle q.val 0x15 effHalt)

/-- ILLEGAL_INSTRUCTION (R211): A reserved opcode, condition or operand bit faults the pawn and is journalled. -/
def execIllegalInstruction (q : Fin 128) (s : State) : Result :=
  .next (if s.fetchesIllegal q.val then effIllegal (s.nextCycle q.val false none) s else s)

/-- PAWN_TIMEOUT (R202): A stalling instruction's execution count expires and it completes with T set. -/
def execPawnTimeout (q : Fin 128) (s : State) : Result := .next (if s.timesOut q.val then effOf (s.nextCycle q.val false none) s else s)

/-- ARM_SWAP (R223): A write to 5.0pp.20 arms a swap for a named boundary. -/
def execArmSwap (h : OdHdr) (q : Fin 128) (v : Nat) (s : State) : Result := .next (s.odNum h (pawnObj q.val 0x20) v (fun w t => t.armSwap q.val w))

/-- FORCED_SWAP (R225): A forced swap takes effect at the first pawn cycle start at or after the boundary. -/
def execForcedSwap (q : Fin 128) (s : State) : Result := .next (s.forcedSwapDue q.val)

/-- WITHDRAW_SWAP (R227): A write of 1 to 5.0pp.22 withdraws an armed or pending swap. -/
def execWithdrawSwap (h : OdHdr) (q : Fin 128) (s : State) : Result :=
  .next (s.odSet h (pawnObj q.val 0x22) 1 (fun t => okRes (t.withdrawSwap q.val)))

/-- INJECT (R232): A write to 5.0pp.25 queues an instruction for injection. -/
def execInject (h : OdHdr) (q : Fin 128) (v : Nat) (s : State) : Result := .next (s.odNum h (pawnObj q.val 0x25) v (fun w t => t.inject q.val w))

/-- INJECTED_INSTRUCTION (R233): The pawn executes the queued injected instruction in place of the word at PC. -/
def execInjectedInstruction (q : Fin 128) (s : State) : Result := .next (s.injectedCycle q.val)

/-- MANUAL_GO (R231): A write to 5.1c0.02 issues a GO to a cluster at the next beat start. -/
def execManualGo (h : OdHdr) (c : Fin 8) (v : Nat) (s : State) : Result := .next (s.odNum h (manualObj c.val) v (fun w t => t.manualGo c.val w))

/-- SLOT_MAP_WRITE (R192): A write to a slot map, divider or timeout register goes to the staged configuration. -/
def execSlotMapWrite (h : OdHdr) (q : Fin 128) (sub : Nat) (val : List Byte) (s : State) : Result :=
  .next (if stagedSub sub then s.odWrite h (pawnObj q.val sub) val (fun t => t.stagePawn q.val sub val) else s)

/-- FIFO_WORDS_VISIBLE (R215): At the visibility beat the OUT FIFO visible pointer advances by the COPY's words. -/
def execFifoWordsVisible (q : Fin 128) (s : State) : Result := .next (s.revealWords q.val)

end Sys2Proof.Machine
end

