-- ==== Sys2Proof/Machine/CmdPins.lean ====
section
/-!
DEFINITION. Commands of the pin banks and the reflex crossbar. One definition for each command.
-/
namespace Sys2Proof.Machine

/-- PIN_EDGE (R246): The filtered view of a pin changes, is timestamped and may raise a reflex line. -/
def execPinEdge (pin : Fin 256) (off : Nat) (level : Bool) (s : State) : Result := .next (s.pinEdge pin.val off level)

/-- PIN_CONFIG_WRITE (R244): A write to a pin configuration word takes effect at the next cycle boundary. -/
def execPinConfigWrite (h : OdHdr) (pin : Fin 256) (v : Nat) (s : State) : Result :=
  .next (s.odNum h (pinObj pin.val) v (fun w t => t.writePinConfig pin.val w))

/-- HOLD_LATCHES_WRITE (R250): A write to 6.0b1.03 sets the owner levels and hold latches of a bank. -/
def execHoldLatchesWrite (h : OdHdr) (bank : Fin 16) (v : Nat) (s : State) : Result :=
  .next (s.odNum h (bankObj bank.val 3) v (fun w t => okRes (t.writeLatches bank.val w)))

/-- RE_ENABLE_BANK (R242): A write of 1 to 6.0b1.02 re-enables a bank after supply loss. -/
def execReEnableBank (h : OdHdr) (bank : Fin 16) (s : State) : Result := .next (s.odSet h (bankObj bank.val 2) 1 (fun t => t.reEnable bank.val))

/-- RELEASE_ALL (R256): A write of 1 to 6.100.03 ends every force and freeze at the next cycle boundary. -/
def execReleaseAll (h : OdHdr) (s : State) : Result := .next (s.odSet h 0x610003 1 State.releaseAll)

/-- VIO_MEASURE (R241): Every 1 ms VIOb is measured and the bank window judged. -/
def execVioMeasure (bank : Fin 16) (mv : Nat) (s : State) : Result := .next (if s.powered then s.vioMeasure bank.val mv else s)

/-- BANK_SUPPLY_LOST (R242): VIOb falls below its reset level and the bank stops driving. The crossing is that of rail 0x20 + b (R367) and is journalled once (R387). -/
def execBankSupplyLost (bank : Fin 16) (s : State) : Result := .next (s.resetLevel (0x20 + bank.val))

/-- CORE_LOSS (R251): No valid control word for 16 ns: every output applies its core-loss action. -/
def execCoreLoss (s : State) : Result := .next (if s.powered then s.coreLost else s)

end Sys2Proof.Machine
end

