-- ==== Sys2Proof/Machine/CmdBus.lean ====
section
/-!
DEFINITION. Commands of the message buses. One definition for each command.
-/
namespace Sys2Proof.Machine

/-- REQUEST_TRANSMISSION (R273): A command write of 1 requests transmission of a message object. -/
def execRequestTransmission (n : Fin 8) (m : Nat) (s : State) : Result := .next (if s.commandsBus m 1 n.val then s.busPutWord n.val m 0x24 1 else s)

/-- ABORT_TRANSMISSION (R273): A command write of 2 removes the pending and waiting requests. -/
def execAbortTransmission (n : Fin 8) (m : Nat) (s : State) : Result := .next (if s.commandsBus m 2 n.val then s.busPutWord n.val m 0x24 2 else s)

/-- STATUS_READ_CLEAR (R268): A read of the read-clear status word clears new and overrun. -/
def execStatusReadClear (n : Fin 8) (m : Nat) (s : State) : Result :=
  .next (if s.ctlReached n.val && decide (m ≤ highPriority) then s.readClear n.val m else s)

/-- ARBITRATION_START (R274): At a start-of-frame opportunity the controller enters arbitration with its best frame. -/
def execArbitrationStart (n : Fin 8) (s : State) : Result := .next (s.arbitrate n.val)

/-- TRANSMISSION_ATTEMPT_END (R275): A transmission attempt ends in success, error or lost arbitration and the policy decides. -/
def execTransmissionAttemptEnd (n : Fin 8) (e : AttemptEnd) (s : State) : Result := .next (s.attemptOver n.val e)

/-- FRAME_STORED (R271): A received frame is accepted and stored in its object at the end of EOF. A frame of the OD service channel is stored by none of the objects: SERVICE_CHANNEL_FRAME takes it (R331). -/
def execFrameStored (n : Fin 8) (f : CanFrame) (sofAgo off : Nat) (s : State) : Result :=
  .next (if n.val = 0 && s.serviceRequest f then s else s.frameStored n.val f sofAgo off)

/-- BUS_OFF_RECOVER (R277): A write of 1 to 7.0n0.06 starts bus-off recovery. -/
def execBusOffRecover (h : OdHdr) (n : Fin 8) (s : State) : Result := .next (s.odSet h (busObj n.val 0 6) 1 (fun t => t.busRecover n.val false))

/-- BUS_OFF_RECOVER_ABANDON (R277): A write of 2 to 7.0n0.06 abandons every request and starts recovery. -/
def execBusOffRecoverAbandon (h : OdHdr) (n : Fin 8) (s : State) : Result := .next (s.odSet h (busObj n.val 0 6) 2 (fun t => t.busRecover n.val true))

/-- BUS_OFF_RECOVERY_DONE (R277): After 128 recessive sequences the controller is error active again. -/
def execBusOffRecoveryDone (n : Fin 8) (s : State) : Result := .next (s.busRecovered n.val)

/-- CONTROLLER_MODE_WRITE (R264): A write to 7.0n0.00 requests a controller mode. -/
def execControllerModeWrite (h : OdHdr) (n : Fin 8) (v : Nat) (s : State) : Result :=
  .next (s.odNum h (busObj n.val 0 0) v (fun w t => t.writeBusMode n.val w))

/-- CONTROLLER_MODE_CHANGE (R264): A requested mode takes effect at frame end or after bus integration. -/
def execControllerModeChange (n : Fin 8) (s : State) : Result := .next (s.modeChange n.val)

/-- CLEAR_BUS_COUNTERS (R286): A write of 1 to 7.0n1.09 restarts the controller counts. -/
def execClearBusCounters (h : OdHdr) (n : Fin 8) (s : State) : Result := .next (s.odSet h (busObj n.val 1 9) 1 (fun t => okRes (t.clearBus n.val)))

/-- TRANSCEIVER_STATE_WRITE (R280): A write to 7.1t0.00 requests a transceiver state. -/
def execTransceiverStateWrite (h : OdHdr) (t : Fin 2) (v : Nat) (s : State) : Result :=
  .next (s.odNum h (xcvrObj t.val 0) v (fun w u => okRes (u.writeXcvr t.val w)))

/-- BUS_WAKE (R282): A filtered dominant phase wakes the transceiver and signals the AON island. -/
def execBusWake (t : Fin 2) (late : Bool) (s : State) : Result := .next (s.busWake t.val late)

/-- CLEAR_WAKE_FLAG (R286): A write of 1 to 7.1t0.04 clears the wake flag. -/
def execClearWakeFlag (h : OdHdr) (t : Fin 2) (s : State) : Result :=
  .next (s.odSet h (xcvrObj t.val 4) 1 (fun u => okRes (u.wr (xcvrObj t.val 3) 0)))

/-- TXD_DOMINANT_TIMEOUT (R283): A transmitter held dominant for 2.0 ms is released. -/
def execTxdDominantTimeout (t : Fin 2) (on : Bool) (s : State) : Result := .next (s.xcvrFault t.val 0 on)

/-- TRANSCEIVER_OVER_TEMPERATURE (R283): An integrated transceiver overheats, turns its transmitter off and reports the fault in 7.1t0.05. -/
def execTransceiverOverTemperature (t : Fin 2) (on : Bool) (s : State) : Result := .next (s.xcvrFault t.val 2 on)

/-- FRAME_NOT_ACCEPTED (R270): A valid CAN frame that matches no filter is discarded and counted in 7.0n1.05, and as a valid received frame it resets the lonely count and flag. -/
def execFrameNotAccepted (n : Fin 8) (f : CanFrame) (s : State) : Result :=
  .next (if n.val = 0 && s.serviceRequest f then s else s.frameRefused n.val f)

/-- RECEIVE_ERROR (R263): A controller detects an error on a frame it is receiving, sends an error frame and raises REC under fault confinement. -/
def execReceiveError (n : Fin 8) (code : Fin 8) (heavy : Bool) (s : State) : Result := .next (s.receiveError n.val code heavy)

end Sys2Proof.Machine
end

