-- ==== Sys2Proof/Machine/CmdTime.lean ====
section
/-!
DEFINITION. Commands of fabric time, seals, snapshots and the journal. One definition for each command.
-/
namespace Sys2Proof.Machine

/-- TIME_STEP (R302): At the boundary after a jump the hub ends the cycle and steps its local time. -/
def execTimeStep (s : State) : Result := .next s.timeStep

/-- MASTER_LOSS (R301): At the Lth cycle without an accepted marker the master is lost. -/
def execMasterLoss (s : State) : Result := .next (if s.ticking then s.masterLoss else s)

/-- CLOSURE_WINDOW_END (R294): A 1,024-cycle closure window ends and TIME_CAL is sent on E and W. -/
def execClosureWindowEnd (s : State) : Result := .next (if s.ticking then s.windowEnd else s)

/-- TIME_CAL (R294): A neighbour's TIME_CAL is received and the span closure correction is computed. -/
def execTimeCal (p : Port) (d : Int) (valid : Bool) (cycle : Nat) (s : State) : Result := .next (if s.ticking then s.timeCalIn p d valid cycle else s)

/-- SET_FABRIC_TIME (R312): A write to 8.000.01 on the master steps its time at the next boundary. -/
def execSetFabricTime (h : OdHdr) (v : Nat) (s : State) : Result := .next (s.odNum h 0x800001 v (fun w t => t.setFabricTime w))

/-- CANDIDATE_RETURN (R300): A write of 1 to 8.001.04 lets a candidate emit again. -/
def execCandidateReturn (h : OdHdr) (v : Nat) (s : State) : Result := .next (s.odNum h 0x800104 v (fun w t => okRes (t.candidateReturn w)))

/-- ACCEPT_NEXT_JUMP (R303): A write of 1 to 8.010.0A makes the hub take the next jump. -/
def execAcceptNextJump (h : OdHdr) (s : State) : Result := .next (s.odSet h 0x80100A 1 (fun t => okRes t.acceptNextJump))

/-- SEAL_ARM_LOCAL (R306): A seal command of 1 arms a seal on this hub. -/
def execSealArmLocal (h : OdHdr) (s : State) : Result := .next (s.odSet h 0x802000 1 (fun t => okRes (t.sealCommand 1)))

/-- SEAL_ARM_FABRIC (R306): A seal command of 2 arms a seal and sends SEAL_ARM to the fork group. -/
def execSealArmFabric (h : OdHdr) (s : State) : Result := .next (s.odSet h 0x802000 2 (fun t => okRes (t.sealCommand 2)))

/-- SEAL_DISARM_LOCAL (R306): A seal command of 3 disarms a slot on this hub. -/
def execSealDisarmLocal (h : OdHdr) (s : State) : Result := .next (s.odSet h 0x802000 3 (fun t => okRes (t.sealCommand 3)))

/-- SEAL_DISARM_FABRIC (R306): A seal command of 4 disarms a slot and sends SEAL_DISARM. -/
def execSealDisarmFabric (h : OdHdr) (s : State) : Result := .next (s.odSet h 0x802000 4 (fun t => okRes (t.sealCommand 4)))

/-- SEAL_ARM (R307): A received SEAL_ARM arms a seal or is refused. -/
def execSealArm (payload : List Byte) (s : State) : Result :=
  .next (if s.ticking && hasCode payload 0x0820 then s.armSeal (natTime96 (beField payload 16 12)) (beField payload 12 1 % 4) (beField payload 14 2) 1 else s)

/-- SEAL_DISARM (R307): A received SEAL_DISARM disarms a pending seal. -/
def execSealDisarm (payload : List Byte) (s : State) : Result :=
  .next (if s.ticking && hasCode payload 0x0821 then s.disarmSeal (beField payload 12 1 % 4) (beField payload 14 2) else s)

/-- SEAL_IN_EDGE (R310): A rising SEAL_IN edge arms a seal n cycles later and sends SEAL_ARM. -/
def execSealInEdge (off : Nat) (s : State) : Result := .next (s.sealIn off)

/-- SEAL_LATCH (R309): At the seal beat every island latches the snapshot slot. -/
def execSealLatch (slot : Fin 4) (s : State) : Result := .next (s.sealLatch slot.val)

/-- PTP_EVENT_MESSAGE (R305): A PTP event message is sent or received on the management MAC and timestamped. -/
def execPtpEventMessage (sent : Bool) (off : Nat) (s : State) : Result := .next (s.ptpEvent sent off)

/-- JOURNAL_RECORD_POSTED (R460): A posted record reaches the Keeper and is stored or counted lost. -/
def execJournalRecordPosted (code : Nat) (s : State) : Result := .next (s.takePosted code)

/-- JOURNAL_TAIL_WRITE (R462): A write to D.000.01 releases journal records. -/
def execJournalTailWrite (h : OdHdr) (v : Nat) (s : State) : Result := .next (s.odNum h 0xD00001 v (fun w t => t.writeTail w))

/-- JOURNAL_FWD (R464): A collector receives forwarded journal records and stores them. -/
def execJournalFwd (payload : List Byte) (s : State) : Result := .next (s.journalFwd payload)

/-- SNAPSHOT_COLLECTION_COMPLETE (R466): Every latched island has delivered and the slot is held. -/
def execSnapshotCollectionComplete (slot : Fin 4) (s : State) : Result := .next (if s.coreUp then s.collected slot.val else s)

/-- SNAPSHOT_COLLECTION_TIMEOUT (R466): An island has not delivered within 1 ms and the slot is incomplete. -/
def execSnapshotCollectionTimeout (slot : Fin 4) (delivered : Nat) (s : State) : Result :=
  .next (if s.coreUp then s.uncollected slot.val delivered else s)

/-- RELEASE_SLOT (R469): A write of 1 to E.0s0.01 releases a held or incomplete slot. -/
def execReleaseSlot (h : OdHdr) (slot : Fin 4) (s : State) : Result := .next (s.odSet h (releaseObj slot.val) 1 (fun t => t.releaseSlot slot.val))

end Sys2Proof.Machine
end

