-- ==== Sys2Proof/Machine/CmdOd.lean ====
section
/-!
DEFINITION. Commands of the object dictionary: its four routes and its operations. One definition for each command.
-/
namespace Sys2Proof.Machine

/-- OD_REQUEST_FRAME (R328): An OD request frame arrives over the ring and is queued. -/
def execOdRequestFrame (f : Frame) (s : State) : Result := .next (s.odFrame f)

/-- MAILBOX_REQUEST (R329): The host advances REQ_WP and the Keeper takes the request. -/
def execMailboxRequest (pointer : Nat) (s : State) : Result := .next (if s.hostReaches then s.mailRequest pointer else s)

/-- MAILBOX_RESPONSE_RELEASE (R329): The host advances RSP_RP to free response slots. -/
def execMailboxResponseRelease (pointer : Nat) (s : State) : Result := .next (if s.hostReaches then s.mailRelease pointer else s)

/-- CLEAR_MAILBOX_ERROR (R329): A write of 1 to MB_CTRL [1] clears the pointer error. -/
def execClearMailboxError (s : State) : Result := .next (if s.hostReaches then s.mailClear else s)

/-- OD_DATAGRAM (R330): A UDP datagram to a port arrives and is queued or discarded. -/
def execOdDatagram (peer : UdpPath) (bytes : List Byte) (s : State) : Result := .next (s.odDatagram peer.port peer.peer bytes)

/-- SERVICE_CHANNEL_FRAME (R331): An MB0 service-channel frame is reassembled into an OD request. -/
def execServiceChannelFrame (f : CanFrame) (s : State) : Result := .next (s.serviceFrame f)

/-- SERVICE_REASSEMBLY_TIMEOUT (R331): A gap over 10 ms abandons the reassembly. -/
def execServiceReassemblyTimeout (s : State) : Result := .next s.serviceTimeout

/-- OD_READ (R327): The Keeper executes a read and returns the object's value. -/
def execOdRead (h : OdHdr) (obj : Nat) (val : List Byte) (s : State) : Result := s.odAccess ⟨h, .read, obj, val⟩ (fun t => t.runRead obj)

/-- OD_WRITE (R316): The Keeper executes a write to an object without a row of its own. -/
def execOdWrite (h : OdHdr) (obj : Nat) (val : List Byte) (s : State) : Result := s.odAccess ⟨h, .write, obj, val⟩ (fun t => t.runWriteAny obj val)

/-- OD_DESCRIBE (R327): The Keeper returns an object's type, access and persistence. -/
def execOdDescribe (h : OdHdr) (obj : Nat) (val : List Byte) (s : State) : Result := s.odAccess ⟨h, .describe, obj, val⟩ (fun t => t.runDescribe obj)

/-- OD_NEXT (R327): The Keeper returns the next existing object number. -/
def execOdNext (h : OdHdr) (obj : Nat) (val : List Byte) (s : State) : Result := s.odAccess ⟨h, .next, obj, val⟩ (fun t => t.runNext obj)

/-- FEATURE_COMMIT (R338): A write of 1 to 0.012.00 commits the accepted feature words. -/
def execFeatureCommit (h : OdHdr) (s : State) : Result := .next (s.odSet h 0x001200 1 State.featureCommit)

/-- FLASH_STORE (R319): The Keeper stores accepted class-N writes in flash. -/
def execFlashStore (obj : Nat) (s : State) : Result := .next (s.flashStore obj)

end Sys2Proof.Machine
end

