-- ==== Sys2Proof/Machine/CmdBridge.lean ====
section
/-!
DEFINITION. Commands of the PCIe host bridge. One definition for each command.
-/
namespace Sys2Proof.Machine

/-- HOST_READ (R349): A host read in a window is split into fabric read requests and held. -/
def execHostRead (nonPrefetch : Bool) (addr len tag : Nat) (s : State) : Result := .next (s.hostRead nonPrefetch addr len tag)

/-- READ_RESPONSE (R349): A fabric read response reaches the bridge and completions are returned. -/
def execReadResponse (f : Frame) (s : State) : Result := .next (s.readResponse f)

/-- READ_HOLD_TIMEOUT (R350): The read hold limit expires and the read is answered CA. -/
def execReadHoldTimeout (tag : Nat) (s : State) : Result := .next (s.readTimeout tag)

/-- HOST_WRITE (R352): A host write is split into posted or acknowledged fabric writes. -/
def execHostWrite (nonPrefetch : Bool) (addr : Nat) (data : List Byte) (s : State) : Result := .next (s.hostWrite nonPrefetch addr data)

/-- FAST_WINDOW_ACCESS (R345): A host access to the fast window reaches the mailbox, FIFO ports or MSI-X. -/
def execFastWindowAccess (addr len tag : Nat) (data : Option (List Byte)) (s : State) : Result := .next (s.fastAccess addr len tag data)

/-- FABRIC_HOST_REQUEST (R353): A frame for space 0x08 is served as PCIe requests to host memory. -/
def execFabricHostRequest (f : Frame) (s : State) : Result := .next (s.hostRequest f)

/-- HOST_COMPLETION (R354): A host completion arrives and is mapped to a fabric outcome. -/
def execHostCompletion (tag status : Nat) (poisoned : Bool) (data : List Byte) (s : State) : Result :=
  .next (s.hostCompletion tag status poisoned data)

/-- PREFETCH_LIFE_EXPIRY (R358): A prefetch entry's life expires and it is discarded. -/
def execPrefetchLifeExpiry (i : Nat) (s : State) : Result := .next (s.prefetchExpiry i)

/-- BRIDGE_RESET (R364): FLR, link loss or PERST ends every bridge transaction in progress. -/
def execBridgeReset (kind : BridgeResetKind) (s : State) : Result := .next (s.bridgeReset kind)

/-- WINDOW_COMMIT (R347): A write of 1 to 9.018.00 checks and commits the windows. -/
def execWindowCommit (h : OdHdr) (s : State) : Result := .next (s.odSet h 0x901800 1 State.windowCommit)

/-- CLEAR_BRIDGE_COUNTERS (R366): A write of 1 to 9.070.06 restarts the bridge counts. -/
def execClearBridgeCounters (h : OdHdr) (s : State) : Result := .next (s.odSet h 0x907006 1 (fun t => okRes t.clearBridge))

/-- ACKNOWLEDGEMENT_TIMEOUT (R352): An acknowledged-write piece not acknowledged within the read hold limit is treated as a failure with outcome 0xA, logged, journalled and raising vector 1. -/
def execAcknowledgementTimeout (tag : Nat) (s : State) : Result := .next (s.ackTimeout tag)

/-- COMPLETION_TIMEOUT (R354): A bridge request to host memory gets no completion within the function's Completion Timeout Value and the fabric request is answered with outcome 0x7 and journalled. -/
def execCompletionTimeout (tag : Nat) (s : State) : Result := .next (s.completionTimeout tag)

/-- PCIE_LINK_UP (R343): The PCIe link trains up and the bridge again reports link state and can master host requests and scheduled COPY writes. -/
def execPcieLinkUp (rate width : Nat) (bme : PcieCommand) (msix : MsixControl) (mps mrrs cpl : Nat) (s : State) : Result :=
  .next (s.linkUp rate width bme msix mps mrrs cpl)

end Sys2Proof.Machine
end

