-- ==== Sys2Proof/Machine/CmdPower.lean ====
section
/-!
DEFINITION. Commands of supplies, power channels and brace. One definition for each command.
-/
namespace Sys2Proof.Machine

/-- SUPPLY_WARNING (R368): A rail falls below its warning level and brace may begin. -/
def execSupplyWarning (rail : Nat) (s : State) : Result := .next (s.supplyWarning rail)

/-- WARNING_LEFT (R367): A rail rises above its warning level plus hysteresis. -/
def execWarningLeft (rail : Nat) (s : State) : Result := .next (s.warningLeft rail)

/-- SUPPLY_RESET_LEVEL (R367): A rail crosses its reset level and its reset or action follows. -/
def execSupplyResetLevel (rail : Nat) (s : State) : Result := .next (s.resetLevel rail)

/-- RESET_LEVEL_LEFT (R367): A rail rises above its reset level by the hysteresis for the filter time, so VCAN returns the transceivers to their requested state and a VIOb bank is present again. -/
def execResetLevelLeft (rail : Nat) (s : State) : Result := .next (s.resetLevelLeft rail)

/-- VHS_OVERVOLTAGE (R369): VHS above the overvoltage level for 1 µs turns the inlet off. -/
def execVhsOvervoltage (s : State) : Result := .next s.overvoltage

/-- CHANNEL_START (R372): A channel whose start conditions hold starts at the inrush limit. -/
def execChannelStart (c : Fin 9) (temp : Nat) (vhs : StartSense) (s : State) : Result := .next (s.channelStart c.val temp vhs.vhs vhs.conducting)

/-- START_COMPLETE (R373): The gate is fully enhanced for 8 ticks and the start completes. -/
def execStartComplete (c : Fin 9) (s : State) : Result := .next (s.startComplete c.val)

/-- START_TIMEOUT (R373): A start not complete within the timeout turns the channel off. -/
def execStartTimeout (c : Fin 9) (s : State) : Result := .next (s.startTimeout c.val)

/-- FAULT_TIMER_TRIP (R371): The fault timer reaches the fault time and trips the channel. -/
def execFaultTimerTrip (c : Fin 9) (s : State) : Result := .next (s.timerTrip c.val)

/-- FAST_TRIP (R371): A sense voltage at the fast-trip multiple pulls the gate down within 1 µs. -/
def execFastTrip (c : Fin 9) (s : State) : Result := .next (s.fastTrip c.val)

/-- THERMAL_MODEL_TRIP (R375): The model temperature reaches the trip temperature. -/
def execThermalModelTrip (c : Fin 9) (temp : Nat) (s : State) : Result := .next (s.modelTrip c.val temp)

/-- DIODE_OVER_TEMPERATURE (R375): The diode temperature reaches the diode trip. -/
def execDiodeOverTemperature (c : Fin 9) (temp : Nat) (s : State) : Result := .next (s.diodeTrip c.val temp)

/-- GATE_FAULT (R381): The gate stays under 6.0 V above the source for 8 ticks while on. -/
def execGateFault (c : Fin 9) (s : State) : Result := .next (s.gateFault c.val)

/-- MOSFET_SHORT (R385): A MOSFET conducts for 1 ms while its gate is off. -/
def execMosfetShort (c : Fin 9) (s : State) : Result := .next (s.mosfetShort c.val)

/-- SEATING_LOST (R376): SEAT_A or SEAT_B high for 1 µs turns every gate off. -/
def execSeatingLost (s : State) : Result := .next s.seatingLost

/-- SEATING_QUALIFIED (R376): Both seat pins have been low for the qualification time. -/
def execSeatingQualified (s : State) : Result := .next s.seatingQualified

/-- POWER_GOOD_DELAY_END (R379): A channel's power-good delay ends and power-good is asserted. -/
def execPowerGoodDelayEnd (c : Fin 9) (s : State) : Result := .next (s.powerGood c.val)

/-- RETRY_TIMER_EXPIRED (R382): A channel's retry timer expires. -/
def execRetryTimerExpired (c : Fin 9) (s : State) : Result := .next (s.retryExpired c.val)

/-- GOOD_TIME_ELAPSED (R382): A channel on with power-good for the good time has its retry count cleared. -/
def execGoodTimeElapsed (c : Fin 9) (s : State) : Result := .next (s.goodTime c.val)

/-- FAULT_TIMER_START (R380): A channel's sense voltage reaches 0.9 times the limit and the fault timer first counts, raising PG_WARN and stopping a running power-good delay. -/
def execFaultTimerStart (c : Fin 9) (s : State) : Result := .next (s.timerStart c.val)

/-- FAULT_TIMER_RETURNS_TO_ZERO (R380): A channel's fault timer count falls back to zero, so PG_WARN goes low and a stopped power-good delay restarts from zero. -/
def execFaultTimerReturnsToZero (c : Fin 9) (s : State) : Result := .next (s.timerZero c.val)

/-- CLEAR_FAULT (R385): A write of 1 to A.1c1.0A clears a channel's latch and retry state. -/
def execClearFault (h : OdHdr) (c : Fin 9) (conducting : Bool) (s : State) : Result :=
  .next (s.odSet h (chanObj c.val 1 0xA) 1 (fun t => t.clearFault c.val conducting))

/-- CHANNEL_ON (R386): A channel command of 1 turns a channel on. -/
def execChannelOn (h : OdHdr) (c : Fin 9) (s : State) : Result := .next (s.odSet h (chanObj c.val 1 0xB) 1 (fun t => t.channelOn c.val))

/-- CHANNEL_OFF (R386): A channel command of 0 turns a channel off with fault 0x0B. -/
def execChannelOff (h : OdHdr) (c : Fin 9) (s : State) : Result := .next (s.odSet h (chanObj c.val 1 0xB) 0 (fun t => t.channelOff c.val))

/-- BRACE_END (R421): Recovery lasts the recovery time, brace ends and is journalled. -/
def execBraceEnd (ms : Nat) (s : State) : Result := .next ((s.braceEnd ms).bootAfterBrace)

end Sys2Proof.Machine
end

