-- ==== Sys2Proof/Machine/CmdSleep.lean ====
section
/-!
DEFINITION. Commands of fabric sleep, Doze and wake. One definition for each command.
-/
namespace Sys2Proof.Machine

/-- PROPOSE_SLEEP (R392): A write of 1 to B.000.01 on the master starts a sleep proposal. -/
def execProposeSleep (h : OdHdr) (s : State) : Result := .next (s.odSet h 0xB00001 1 State.proposeSleep)

/-- CANCEL_SLEEP_PROPOSAL (R392): A write of 2 to B.000.01 cancels the proposal with cause 3. -/
def execCancelSleepProposal (h : OdHdr) (s : State) : Result := .next (s.odSet h 0xB00001 2 State.cancelSleep)

/-- SLEEP_PROPOSE (R393): A member receives a proposal and answers with one vote. -/
def execSleepPropose (payload : List Byte) (active : Bool) (s : State) : Result := .next (s.proposeIn payload active)

/-- SLEEP_VOTE (R394): The master receives a member's vote. -/
def execSleepVote (payload : List Byte) (s : State) : Result := .next (s.voteIn payload)

/-- SLEEP_COMMIT (R395): A member accepts a commit and becomes committed. -/
def execSleepCommit (payload : List Byte) (s : State) : Result := .next (s.commitIn payload)

/-- SLEEP_CANCEL (R391): A member receives a cancel of the proposal. -/
def execSleepCancel (payload : List Byte) (s : State) : Result := .next (s.cancelIn payload)

/-- WAKE_ALL (R401): A member receives WAKE_ALL and aborts its entry if before its point of no return. -/
def execWakeAll (s : State) : Result := .next s.wakeAllIn

/-- POINT_OF_NO_RETURN (R396): At the first AON tick of cycle P the hub stops its ring, releases INH and enters Doze. -/
def execPointOfNoReturn (s : State) : Result := .next s.pointOfNoReturn

/-- RING_WATCH_ARMED (R396): 100 µs after the point of no return the ring wake watch is armed. -/
def execRingWatchArmed (s : State) : Result := .next s.armRingWatch

/-- WAKE_SOURCE (R400): A filtered wake source wakes the hub, aborting, latching or ending Doze. -/
def execWakeSource (code : Nat) (late : Bool) (s : State) : Result := .next (s.wakeSource code late)

/-- WAKE_TIMER_EXPIRY (R400): The wake timer reaches its set seconds after the point of no return. -/
def execWakeTimerExpiry (late : Bool) (s : State) : Result := .next (s.wakeTimer late)

/-- INH_RECLAIM (R402): After a late wake the AON island reclaims INH once the core rails have fallen. -/
def execInhReclaim (slow : Bool) (s : State) : Result := .next (s.inhReclaim slow)

/-- CLEAR_FLAGS (R405): A write of 1 to B.032.01 clears the flagged-node list. -/
def execClearFlags (h : OdHdr) (s : State) : Result := .next (s.odSet h 0xB03201 1 (fun t => okRes t.clearFlags))

end Sys2Proof.Machine
end

