-- ==== Sys2Proof/Machine/CmdModes.lean ====
section
/-!
DEFINITION. Commands of modes, resets and bring-up. One definition for each command.
-/
namespace Sys2Proof.Machine

/-- POR_END (R407): VAON stays above 2.50 V for 250 ns and the hub enters Standby. -/
def execPorEnd (s : State) : Result := .next s.porEnd

/-- VAON_LOSS (R368): VAON falls below 2.45 V and a POR takes effect. -/
def execVaonLoss (below : Bool) (s : State) : Result := .next (s.vaonLoss below)

/-- CPR_END (R407): The core rails qualify for 1 ms with RST_N high and bring-up begins. -/
def execCprEnd (s : State) : Result := .next s.cprEnd

/-- HRST (R415): RST_N low for 1 µs resets the core die. -/
def execHrst (s : State) : Result := .next s.hardReset

/-- BRING_UP (R411): The hub runs the bring-up stages and enters Configure. -/
def execBringUp (x : BringUpFindings) (s : State) : Result := .next (s.bringUp x)

/-- BRING_UP_STAGE_TIMEOUT (R412): A bring-up stage exceeds its limit and bring-up stops. -/
def execBringUpStageTimeout (s : State) : Result := .next s.stageOverrun

/-- MODE_REQUEST_BRING_UP (R407): A mode request of 1 leaves Test through a WRST. -/
def execModeRequestBringUp (h : OdHdr) (s : State) : Result := .next (s.odSet h 0x100100 1 (fun t => t.modeRequest 1))

/-- MODE_REQUEST_TEST (R407): A mode request of 2 enters Test. -/
def execModeRequestTest (h : OdHdr) (s : State) : Result := .next (s.odSet h 0x100100 2 (fun t => t.modeRequest 2))

/-- MODE_REQUEST_CONFIGURE (R407): A mode request of 3 enters Configure. -/
def execModeRequestConfigure (h : OdHdr) (s : State) : Result := .next (s.odSet h 0x100100 3 (fun t => t.modeRequest 3))

/-- MODE_REQUEST_RUN (R407): A mode request of 4 enters Run at the next boundary. -/
def execModeRequestRun (h : OdHdr) (s : State) : Result := .next (s.odSet h 0x100100 4 (fun t => t.modeRequest 4))

/-- MODE_REQUEST_HOLD (R407): A mode request of 6 enters Hold at the next boundary. -/
def execModeRequestHold (h : OdHdr) (s : State) : Result := .next (s.odSet h 0x100100 6 (fun t => t.modeRequest 6))

/-- WARM_RESET (R416): A write of 1 to 1.002.00 requests a WRST. -/
def execWarmReset (h : OdHdr) (s : State) : Result := .next (s.odSet h 0x100200 1 State.askWarm)

/-- WRST_TAKES_EFFECT (R416): The WRST takes effect at the first boundary with no class-N store pending. -/
def execWrstTakesEffect (s : State) : Result := .next s.warmReset

/-- KEEPER_WATCHDOG_EXPIRY (R422): The Keeper watchdog expires and causes a WDR of source 0x01. -/
def execKeeperWatchdogExpiry (s : State) : Result := .next (s.watchdog 1)

/-- AON_WATCHDOG_EXPIRY (R422): The AON watchdog expires and causes a WDR of source 0x02. -/
def execAonWatchdogExpiry (s : State) : Result := .next (s.watchdog 2)

end Sys2Proof.Machine
end

