-- ==== Sys2Proof/Machine/CmdUpdate.lean ====
section
/-!
DEFINITION. Commands of update, promotion, handover, isolation and test. One definition for each command.
-/
namespace Sys2Proof.Machine

/-- BEGIN_CONTAINER_STAGING (R432): A write to C.020.00 erases the staging area for a container. -/
def execBeginContainerStaging (h : OdHdr) (v : Nat) (s : State) : Result := .next (s.odNum h 0xC02000 v (fun w t => t.beginContainer w))

/-- STAGING_CHUNK (R432): A write to C.020.01 stores one chunk of the container. -/
def execStagingChunk (h : OdHdr) (val : List Byte) (s : State) : Result := .next (s.odWrite h 0xC02001 val (fun t => t.stagingChunk val))

/-- VERIFY (R429): A write of 1 to C.020.03 starts verification of the staged container. -/
def execVerify (h : OdHdr) (s : State) : Result := .next (s.odSet h 0xC02003 1 State.verify)

/-- VERIFY_COMPLETE (R429): Verification ends with the container verified or rejected. -/
def execVerifyComplete (s : State) : Result := .next s.verifyComplete

/-- PROMOTE_FIRMWARE (R435): A promote of 1 copies firmware into the inactive slot on trial. -/
def execPromoteFirmware (h : OdHdr) (s : State) : Result := .next (s.odSet h 0xC02100 1 State.promoteFirmware)

/-- PROMOTE_SCHEDULE (R436): A promote of 2 writes the schedule slot and loads the staged bank. -/
def execPromoteSchedule (h : OdHdr) (s : State) : Result := .next (s.odSet h 0xC02100 2 State.promoteSchedule)

/-- PROMOTE_CONFIGURATION (R437): A promote of 3 checks and applies a configuration set. -/
def execPromoteConfiguration (h : OdHdr) (s : State) : Result := .next (s.odSet h 0xC02100 3 State.promoteConfiguration)

/-- PROMOTION_COMPLETE (R434): The promotion's copy and read-back end and the boot record changes. -/
def execPromotionComplete (ok : Bool) (s : State) : Result := .next (s.promotionComplete ok)

/-- KEEPER_HANDOVER (R438): A write of 1 to C.030.00 hands the Keeper to the idle core. -/
def execKeeperHandover (h : OdHdr) (s : State) : Result := .next (s.odSet h 0xC03000 1 State.startHandover)

/-- INCOMING_CORE_READY (R438): The incoming Keeper core reports ready after reading the class-N store, and the serving core pauses and passes the state of R439 to it. -/
def execIncomingCoreReady (ok : Bool) (pause : Nat) (s : State) : Result := .next (s.coreReady ok pause)

/-- HANDOVER_HEARTBEAT_MISSED (R440): A missed trial heartbeat hands the Keeper back and reverts the trial. -/
def execHandoverHeartbeatMissed (s : State) : Result := .next s.heartbeatMissed

/-- CONFIRM_FIRMWARE (R435): A write of 1 to C.030.01 confirms the firmware on trial. -/
def execConfirmFirmware (h : OdHdr) (s : State) : Result := .next (s.odSet h 0xC03001 1 (fun t => okRes t.confirm))

/-- TRIAL_TIME_EXPIRY (R435): The trial time passes without a reset and the firmware is confirmed. -/
def execTrialTimeExpiry (s : State) : Result := .next s.trialExpiry

/-- ISOLATE_AT_CYCLE (R447): A write to C.050.01 isolates a part at a named boundary. -/
def execIsolateAtCycle (h : OdHdr) (v : Nat) (s : State) : Result := .next (s.odNum h 0xC05001 v (fun w t => t.isolateAt w))

/-- RETURN_AT_CYCLE (R449): A write to C.050.02 returns an isolated part at a named boundary. -/
def execReturnAtCycle (h : OdHdr) (v : Nat) (s : State) : Result := .next (s.odNum h 0xC05002 v (fun w t => t.returnAt w))

/-- TEST_BIST (R448): A test write of 1 runs BIST on an isolated part. -/
def execTestBist (h : OdHdr) (s : State) : Result := .next (s.odSet h 0xC05003 1 (fun t => t.testPart false))

/-- TEST_IRST_BIST (R448): A test write of 2 runs IRST and then BIST on an isolated part. -/
def execTestIrstBist (h : OdHdr) (s : State) : Result := .next (s.odSet h 0xC05003 2 (fun t => t.testPart true))

/-- BIST_COMPLETE (R448): The BIST of a part ends passed or failed. -/
def execBistComplete (ok : Bool) (s : State) : Result := .next (s.bistComplete ok)

end Sys2Proof.Machine
end

