-- ==== Sys2Proof/Machine/Dispatch.lean ====
section
/-!
DEFINITION. The effect of a command on the state: one arm for each row of the table.
-/
namespace Sys2Proof.Machine

def exec (i : Instr) (s : State) : Host.Outcome State Fault Refusal :=
  match i with
  | .beatStart => Sys2Proof.Machine.execBeatStart s
  | .cycleBoundary => Sys2Proof.Machine.execCycleBoundary s
  | .nopm k => Sys2Proof.Machine.execNopm k s
  | .sample k => Sys2Proof.Machine.execSample k s
  | .apply k => Sys2Proof.Machine.execApply k s
  | .copy k => Sys2Proof.Machine.execCopy k s
  | .go k => Sys2Proof.Machine.execGo k s
  | .gate k => Sys2Proof.Machine.execGate k s
  | .txobj k => Sys2Proof.Machine.execTxobj k s
  | .rxlatch k => Sys2Proof.Machine.execRxlatch k s
  | .seal k => Sys2Proof.Machine.execSeal k s
  | .mark k => Sys2Proof.Machine.execMark k s
  | .beginStaging h img => Sys2Proof.Machine.execBeginStaging h img s
  | .startLoadCheck h => Sys2Proof.Machine.execStartLoadCheck h s
  | .loadCheckComplete => Sys2Proof.Machine.execLoadCheckComplete s
  | .switchAtCycle h v => Sys2Proof.Machine.execSwitchAtCycle h v s
  | .withdrawSwitch h => Sys2Proof.Machine.execWithdrawSwitch h s
  | .clearLatchedFailures h => Sys2Proof.Machine.execClearLatchedFailures h s
  | .clockMonitorWindow code count locked => Sys2Proof.Machine.execClockMonitorWindow code count locked s
  | .vddcComparatorTrip code => Sys2Proof.Machine.execVddcComparatorTrip code s
  | .temperatureRead portDie readings => Sys2Proof.Machine.execTemperatureRead portDie readings s
  | .signalDetected p => Sys2Proof.Machine.execSignalDetected p s
  | .cdrLocked p => Sys2Proof.Machine.execCdrLocked p s
  | .blockLockGained p lane => Sys2Proof.Machine.execBlockLockGained p lane s
  | .blockLockLost p lane cut => Sys2Proof.Machine.execBlockLockLost p lane cut s
  | .trainingTimeout p => Sys2Proof.Machine.execTrainingTimeout p s
  | .trainingRestart p => Sys2Proof.Machine.execTrainingRestart p s
  | .retrain h p => Sys2Proof.Machine.execRetrain h p s
  | .clearCounters h p => Sys2Proof.Machine.execClearCounters h p s
  | .alignReceived p skew => Sys2Proof.Machine.execAlignReceived p skew s
  | .helloSend p => Sys2Proof.Machine.execHelloSend p s
  | .hello p b => Sys2Proof.Machine.execHello p b s
  | .helloAck p b => Sys2Proof.Machine.execHelloAck p b s
  | .measureExchange p sentAt => Sys2Proof.Machine.execMeasureExchange p sentAt s
  | .measureReq p seq turnaround => Sys2Proof.Machine.execMeasureReq p seq turnaround s
  | .measureRep p seq turnaround arrivedAt => Sys2Proof.Machine.execMeasureRep p seq turnaround arrivedAt s
  | .pathRepeat p => Sys2Proof.Machine.execPathRepeat p s
  | .path p etx erx => Sys2Proof.Machine.execPath p etx erx s
  | .idleTimeout p cut => Sys2Proof.Machine.execIdleTimeout p cut s
  | .noticeRepeat p => Sys2Proof.Machine.execNoticeRepeat p s
  | .notice p b => Sys2Proof.Machine.execNotice p b s
  | .report p b => Sys2Proof.Machine.execReport p b s
  | .unwrapReq p b => Sys2Proof.Machine.execUnwrapReq p b s
  | .unwrapAck p b => Sys2Proof.Machine.execUnwrapAck p b s
  | .retryUnwrap h => Sys2Proof.Machine.execRetryUnwrap h s
  | .markerReceived p m arr res => Sys2Proof.Machine.execMarkerReceived p m arr res s
  | .segmentReceived p g res => Sys2Proof.Machine.execSegmentReceived p g res s
  | .frameIngress port f => Sys2Proof.Machine.execFrameIngress port f s
  | .egressSelect port off => Sys2Proof.Machine.execEgressSelect port off s
  | .fenceEnd d => Sys2Proof.Machine.execFenceEnd d s
  | .epochTableUpdate h obj v => Sys2Proof.Machine.execEpochTableUpdate h obj v s
  | .tableBatchBegin h => Sys2Proof.Machine.execTableBatchBegin h s
  | .tableBatchCommit h => Sys2Proof.Machine.execTableBatchCommit h s
  | .tableBatchAbandon h => Sys2Proof.Machine.execTableBatchAbandon h s
  | .clearSwitchCounters h => Sys2Proof.Machine.execClearSwitchCounters h s
  | .failureReport f => Sys2Proof.Machine.execFailureReport f s
  | .segShort payload => Sys2Proof.Machine.execSegShort payload s
  | .expressReceived p x crc => Sys2Proof.Machine.execExpressReceived p x crc s
  | .expressTokenRefill p => Sys2Proof.Machine.execExpressTokenRefill p s
  | .expressDeferredSend p => Sys2Proof.Machine.execExpressDeferredSend p s
  | .fabricPostedWrite f => Sys2Proof.Machine.execFabricPostedWrite f s
  | .fabricReadRequest f => Sys2Proof.Machine.execFabricReadRequest f s
  | .fabricAcknowledgedWrite f => Sys2Proof.Machine.execFabricAcknowledgedWrite f s
  | .writeAcknowledgement f => Sys2Proof.Machine.execWriteAcknowledgement f s
  | .ethernetTunnel f => Sys2Proof.Machine.execEthernetTunnel f s
  | .heartbeat p payload => Sys2Proof.Machine.execHeartbeat p payload s
  | .heartbeatDeadline => Sys2Proof.Machine.execHeartbeatDeadline s
  | .mirror p payload => Sys2Proof.Machine.execMirror p payload s
  | .pairStatus payload => Sys2Proof.Machine.execPairStatus payload s
  | .arbiterBeacon payload => Sys2Proof.Machine.execArbiterBeacon payload s
  | .grant payload => Sys2Proof.Machine.execGrant payload s
  | .grantAck payload => Sys2Proof.Machine.execGrantAck payload s
  | .requestCastling h => Sys2Proof.Machine.execRequestCastling h s
  | .commandCastling h v => Sys2Proof.Machine.execCommandCastling h v s
  | .nop q => Sys2Proof.Machine.execNop q s
  | .jmp q => Sys2Proof.Machine.execJmp q s
  | .jcc q => Sys2Proof.Machine.execJcc q s
  | .dja q => Sys2Proof.Machine.execDja q s
  | .djb q => Sys2Proof.Machine.execDjb q s
  | .lda q => Sys2Proof.Machine.execLda q s
  | .ldb q => Sys2Proof.Machine.execLdb q s
  | .ldc q => Sys2Proof.Machine.execLdc q s
  | .waitp q => Sys2Proof.Machine.execWaitp q s
  | .waite q => Sys2Proof.Machine.execWaite q s
  | .waitb q => Sys2Proof.Machine.execWaitb q s
  | .sho q => Sys2Proof.Machine.execSho q s
  | .shi q => Sys2Proof.Machine.execShi q s
  | .push q => Sys2Proof.Machine.execPush q s
  | .pull q => Sys2Proof.Machine.execPull q s
  | .cmpj q => Sys2Proof.Machine.execCmpj q s
  | .crcs q => Sys2Proof.Machine.execCrcs q s
  | .tstmp q => Sys2Proof.Machine.execTstmp q s
  | .evt q => Sys2Proof.Machine.execEvt q s
  | .sync q => Sys2Proof.Machine.execSync q s
  | .swap q => Sys2Proof.Machine.execSwap q s
  | .halt q => Sys2Proof.Machine.execHalt q s
  | .illegalInstruction q => Sys2Proof.Machine.execIllegalInstruction q s
  | .pawnTimeout q => Sys2Proof.Machine.execPawnTimeout q s
  | .armSwap h q v => Sys2Proof.Machine.execArmSwap h q v s
  | .forcedSwap q => Sys2Proof.Machine.execForcedSwap q s
  | .withdrawSwap h q => Sys2Proof.Machine.execWithdrawSwap h q s
  | .inject h q v => Sys2Proof.Machine.execInject h q v s
  | .injectedInstruction q => Sys2Proof.Machine.execInjectedInstruction q s
  | .manualGo h c v => Sys2Proof.Machine.execManualGo h c v s
  | .slotMapWrite h q sub val => Sys2Proof.Machine.execSlotMapWrite h q sub val s
  | .fifoWordsVisible q => Sys2Proof.Machine.execFifoWordsVisible q s
  | .fifoPortPop f => Sys2Proof.Machine.execFifoPortPop f s
  | .fifoPortWrite f => Sys2Proof.Machine.execFifoPortWrite f s
  | .fifoPortWriteEnd f => Sys2Proof.Machine.execFifoPortWriteEnd f s
  | .instructionShadowWrite f => Sys2Proof.Machine.execInstructionShadowWrite f s
  | .pinEdge pin off level => Sys2Proof.Machine.execPinEdge pin off level s
  | .pinConfigWrite h pin v => Sys2Proof.Machine.execPinConfigWrite h pin v s
  | .holdLatchesWrite h bank v => Sys2Proof.Machine.execHoldLatchesWrite h bank v s
  | .reEnableBank h bank => Sys2Proof.Machine.execReEnableBank h bank s
  | .releaseAll h => Sys2Proof.Machine.execReleaseAll h s
  | .vioMeasure bank mv => Sys2Proof.Machine.execVioMeasure bank mv s
  | .bankSupplyLost bank => Sys2Proof.Machine.execBankSupplyLost bank s
  | .coreLoss => Sys2Proof.Machine.execCoreLoss s
  | .requestTransmission n m => Sys2Proof.Machine.execRequestTransmission n m s
  | .abortTransmission n m => Sys2Proof.Machine.execAbortTransmission n m s
  | .statusReadClear n m => Sys2Proof.Machine.execStatusReadClear n m s
  | .arbitrationStart n => Sys2Proof.Machine.execArbitrationStart n s
  | .transmissionAttemptEnd n e => Sys2Proof.Machine.execTransmissionAttemptEnd n e s
  | .frameStored n f sofAgo off => Sys2Proof.Machine.execFrameStored n f sofAgo off s
  | .busOffRecover h n => Sys2Proof.Machine.execBusOffRecover h n s
  | .busOffRecoverAbandon h n => Sys2Proof.Machine.execBusOffRecoverAbandon h n s
  | .busOffRecoveryDone n => Sys2Proof.Machine.execBusOffRecoveryDone n s
  | .controllerModeWrite h n v => Sys2Proof.Machine.execControllerModeWrite h n v s
  | .controllerModeChange n => Sys2Proof.Machine.execControllerModeChange n s
  | .clearBusCounters h n => Sys2Proof.Machine.execClearBusCounters h n s
  | .transceiverStateWrite h t v => Sys2Proof.Machine.execTransceiverStateWrite h t v s
  | .busWake t late => Sys2Proof.Machine.execBusWake t late s
  | .clearWakeFlag h t => Sys2Proof.Machine.execClearWakeFlag h t s
  | .txdDominantTimeout t on => Sys2Proof.Machine.execTxdDominantTimeout t on s
  | .timeStep => Sys2Proof.Machine.execTimeStep s
  | .masterLoss => Sys2Proof.Machine.execMasterLoss s
  | .closureWindowEnd => Sys2Proof.Machine.execClosureWindowEnd s
  | .timeCal p d valid cycle => Sys2Proof.Machine.execTimeCal p d valid cycle s
  | .setFabricTime h v => Sys2Proof.Machine.execSetFabricTime h v s
  | .acceptNextJump h => Sys2Proof.Machine.execAcceptNextJump h s
  | .candidateReturn h v => Sys2Proof.Machine.execCandidateReturn h v s
  | .sealArmLocal h => Sys2Proof.Machine.execSealArmLocal h s
  | .sealArmFabric h => Sys2Proof.Machine.execSealArmFabric h s
  | .sealDisarmLocal h => Sys2Proof.Machine.execSealDisarmLocal h s
  | .sealDisarmFabric h => Sys2Proof.Machine.execSealDisarmFabric h s
  | .sealArm payload => Sys2Proof.Machine.execSealArm payload s
  | .sealDisarm payload => Sys2Proof.Machine.execSealDisarm payload s
  | .sealInEdge off => Sys2Proof.Machine.execSealInEdge off s
  | .sealLatch slot => Sys2Proof.Machine.execSealLatch slot s
  | .ptpEventMessage sent off => Sys2Proof.Machine.execPtpEventMessage sent off s
  | .odRequestFrame f => Sys2Proof.Machine.execOdRequestFrame f s
  | .mailboxRequest pointer => Sys2Proof.Machine.execMailboxRequest pointer s
  | .mailboxResponseRelease pointer => Sys2Proof.Machine.execMailboxResponseRelease pointer s
  | .clearMailboxError => Sys2Proof.Machine.execClearMailboxError s
  | .odDatagram peer bytes => Sys2Proof.Machine.execOdDatagram peer bytes s
  | .serviceChannelFrame f => Sys2Proof.Machine.execServiceChannelFrame f s
  | .serviceReassemblyTimeout => Sys2Proof.Machine.execServiceReassemblyTimeout s
  | .odRead h obj val => Sys2Proof.Machine.execOdRead h obj val s
  | .odWrite h obj val => Sys2Proof.Machine.execOdWrite h obj val s
  | .odDescribe h obj val => Sys2Proof.Machine.execOdDescribe h obj val s
  | .odNext h obj val => Sys2Proof.Machine.execOdNext h obj val s
  | .featureCommit h => Sys2Proof.Machine.execFeatureCommit h s
  | .flashStore obj => Sys2Proof.Machine.execFlashStore obj s
  | .hostRead nonPrefetch addr len tag => Sys2Proof.Machine.execHostRead nonPrefetch addr len tag s
  | .readResponse f => Sys2Proof.Machine.execReadResponse f s
  | .readHoldTimeout tag => Sys2Proof.Machine.execReadHoldTimeout tag s
  | .hostWrite nonPrefetch addr data => Sys2Proof.Machine.execHostWrite nonPrefetch addr data s
  | .fastWindowAccess addr len tag data => Sys2Proof.Machine.execFastWindowAccess addr len tag data s
  | .fabricHostRequest f => Sys2Proof.Machine.execFabricHostRequest f s
  | .hostCompletion tag status poisoned data => Sys2Proof.Machine.execHostCompletion tag status poisoned data s
  | .prefetchLifeExpiry k => Sys2Proof.Machine.execPrefetchLifeExpiry k s
  | .bridgeReset kind => Sys2Proof.Machine.execBridgeReset kind s
  | .windowCommit h => Sys2Proof.Machine.execWindowCommit h s
  | .clearBridgeCounters h => Sys2Proof.Machine.execClearBridgeCounters h s
  | .supplyWarning rail => Sys2Proof.Machine.execSupplyWarning rail s
  | .warningLeft rail => Sys2Proof.Machine.execWarningLeft rail s
  | .supplyResetLevel rail => Sys2Proof.Machine.execSupplyResetLevel rail s
  | .vhsOvervoltage => Sys2Proof.Machine.execVhsOvervoltage s
  | .channelStart c temp vhs => Sys2Proof.Machine.execChannelStart c temp vhs s
  | .startComplete c => Sys2Proof.Machine.execStartComplete c s
  | .startTimeout c => Sys2Proof.Machine.execStartTimeout c s
  | .faultTimerTrip c => Sys2Proof.Machine.execFaultTimerTrip c s
  | .fastTrip c => Sys2Proof.Machine.execFastTrip c s
  | .thermalModelTrip c temp => Sys2Proof.Machine.execThermalModelTrip c temp s
  | .diodeOverTemperature c temp => Sys2Proof.Machine.execDiodeOverTemperature c temp s
  | .gateFault c => Sys2Proof.Machine.execGateFault c s
  | .mosfetShort c => Sys2Proof.Machine.execMosfetShort c s
  | .seatingLost => Sys2Proof.Machine.execSeatingLost s
  | .seatingQualified => Sys2Proof.Machine.execSeatingQualified s
  | .powerGoodDelayEnd c => Sys2Proof.Machine.execPowerGoodDelayEnd c s
  | .retryTimerExpired c => Sys2Proof.Machine.execRetryTimerExpired c s
  | .goodTimeElapsed c => Sys2Proof.Machine.execGoodTimeElapsed c s
  | .clearFault h c conducting => Sys2Proof.Machine.execClearFault h c conducting s
  | .channelOn h c => Sys2Proof.Machine.execChannelOn h c s
  | .channelOff h c => Sys2Proof.Machine.execChannelOff h c s
  | .proposeSleep h => Sys2Proof.Machine.execProposeSleep h s
  | .cancelSleepProposal h => Sys2Proof.Machine.execCancelSleepProposal h s
  | .sleepPropose payload active => Sys2Proof.Machine.execSleepPropose payload active s
  | .sleepVote payload => Sys2Proof.Machine.execSleepVote payload s
  | .sleepCommit payload => Sys2Proof.Machine.execSleepCommit payload s
  | .sleepCancel payload => Sys2Proof.Machine.execSleepCancel payload s
  | .wakeAll => Sys2Proof.Machine.execWakeAll s
  | .pointOfNoReturn => Sys2Proof.Machine.execPointOfNoReturn s
  | .ringWatchArmed => Sys2Proof.Machine.execRingWatchArmed s
  | .wakeSource code late => Sys2Proof.Machine.execWakeSource code late s
  | .wakeTimerExpiry late => Sys2Proof.Machine.execWakeTimerExpiry late s
  | .inhReclaim slow => Sys2Proof.Machine.execInhReclaim slow s
  | .clearFlags h => Sys2Proof.Machine.execClearFlags h s
  | .porEnd => Sys2Proof.Machine.execPorEnd s
  | .vaonLoss below => Sys2Proof.Machine.execVaonLoss below s
  | .cprEnd => Sys2Proof.Machine.execCprEnd s
  | .hrst => Sys2Proof.Machine.execHrst s
  | .bringUp x => Sys2Proof.Machine.execBringUp x s
  | .bringUpStageTimeout => Sys2Proof.Machine.execBringUpStageTimeout s
  | .modeRequestBringUp h => Sys2Proof.Machine.execModeRequestBringUp h s
  | .modeRequestTest h => Sys2Proof.Machine.execModeRequestTest h s
  | .modeRequestConfigure h => Sys2Proof.Machine.execModeRequestConfigure h s
  | .modeRequestRun h => Sys2Proof.Machine.execModeRequestRun h s
  | .modeRequestHold h => Sys2Proof.Machine.execModeRequestHold h s
  | .warmReset h => Sys2Proof.Machine.execWarmReset h s
  | .wrstTakesEffect => Sys2Proof.Machine.execWrstTakesEffect s
  | .keeperWatchdogExpiry => Sys2Proof.Machine.execKeeperWatchdogExpiry s
  | .aonWatchdogExpiry => Sys2Proof.Machine.execAonWatchdogExpiry s
  | .braceEnd ms => Sys2Proof.Machine.execBraceEnd ms s
  | .beginContainerStaging h v => Sys2Proof.Machine.execBeginContainerStaging h v s
  | .stagingChunk h val => Sys2Proof.Machine.execStagingChunk h val s
  | .verify h => Sys2Proof.Machine.execVerify h s
  | .verifyComplete => Sys2Proof.Machine.execVerifyComplete s
  | .promoteFirmware h => Sys2Proof.Machine.execPromoteFirmware h s
  | .promoteSchedule h => Sys2Proof.Machine.execPromoteSchedule h s
  | .promoteConfiguration h => Sys2Proof.Machine.execPromoteConfiguration h s
  | .promotionComplete ok => Sys2Proof.Machine.execPromotionComplete ok s
  | .keeperHandover h => Sys2Proof.Machine.execKeeperHandover h s
  | .handoverHeartbeatMissed => Sys2Proof.Machine.execHandoverHeartbeatMissed s
  | .confirmFirmware h => Sys2Proof.Machine.execConfirmFirmware h s
  | .trialTimeExpiry => Sys2Proof.Machine.execTrialTimeExpiry s
  | .isolateAtCycle h v => Sys2Proof.Machine.execIsolateAtCycle h v s
  | .returnAtCycle h v => Sys2Proof.Machine.execReturnAtCycle h v s
  | .testBist h => Sys2Proof.Machine.execTestBist h s
  | .testIrstBist h => Sys2Proof.Machine.execTestIrstBist h s
  | .bistComplete ok => Sys2Proof.Machine.execBistComplete ok s
  | .journalRecordPosted code => Sys2Proof.Machine.execJournalRecordPosted code s
  | .journalTailWrite h v => Sys2Proof.Machine.execJournalTailWrite h v s
  | .journalFwd payload => Sys2Proof.Machine.execJournalFwd payload s
  | .snapshotCollectionComplete slot => Sys2Proof.Machine.execSnapshotCollectionComplete slot s
  | .snapshotCollectionTimeout slot delivered => Sys2Proof.Machine.execSnapshotCollectionTimeout slot delivered s
  | .releaseSlot h slot => Sys2Proof.Machine.execReleaseSlot h slot s
  | .erroredBlock p b => Sys2Proof.Machine.execErroredBlock p b s
  | .resetLevelLeft rail => Sys2Proof.Machine.execResetLevelLeft rail s
  | .vddcComparatorRecovery code => Sys2Proof.Machine.execVddcComparatorRecovery code s
  | .acknowledgementTimeout tag => Sys2Proof.Machine.execAcknowledgementTimeout tag s
  | .completionTimeout tag => Sys2Proof.Machine.execCompletionTimeout tag s
  | .pcieLinkUp rate width bme msix mps mrrs cpl => Sys2Proof.Machine.execPcieLinkUp rate width bme msix mps mrrs cpl s
  | .faultTimerStart c => Sys2Proof.Machine.execFaultTimerStart c s
  | .faultTimerReturnsToZero c => Sys2Proof.Machine.execFaultTimerReturnsToZero c s
  | .incomingCoreReady ok pause => Sys2Proof.Machine.execIncomingCoreReady ok pause s
  | .frameNotAccepted n f => Sys2Proof.Machine.execFrameNotAccepted n f s
  | .receiveError n code heavy => Sys2Proof.Machine.execReceiveError n code heavy s
  | .transceiverOverTemperature t on => Sys2Proof.Machine.execTransceiverOverTemperature t on s

end Sys2Proof.Machine
end

