-- ==== Sys2Proof/WellFormed.lean ====
section
/-!
DEFINITION. Well-formed commands: every operand lies in the field that carries it.
-/
namespace Sys2Proof

/-- An acyclic frame's fields have the widths of R110, and its payload fits a frame. -/
def Frame.wf (f : Frame) : Bool :=
  decide (f.dst < 1024) && decide (f.src < 1024) && decide (f.cls < 8) && decide (f.flow < 2 ^ 20) && decide (f.type < 16) && decide (f.hops < 256) &&
    decide (f.addr < 2 ^ 64) && decide (f.tag < 65536) && decide (f.len ≤ 2048) && decide (f.outcome < 16) && decide (f.fork < 4096) &&
    decide (f.payload.length ≤ 2048) && decide (f.hcheck < 65536) && decide (f.fcheck < 2 ^ 32)

/-- A segment's fields have the widths of R101; it carries two words and their states for each payload block. -/
def Segment.wf (g : Segment) : Bool :=
  decide (g.num < 4096) && decide (g.tag < 256) && decide (g.origin < 1024) && decide (1 ≤ g.plen) && decide (g.plen ≤ 1024) && decide (g.endNode < 1024) &&
    decide (g.expected < 256) && decide (g.states.length = 2 * g.plen) && decide (g.words.length = 2 * g.plen) &&
    decide (g.check < 2 ^ 32) && decide (g.hops < 256) && decide (g.consumed < 256)

/-- A marker's fields have the widths of R97. -/
def Marker.wf (m : Marker) : Bool :=
  decide (m.master < 1024) && decide (m.tag < 256) && decide (m.timeState < 4) && decide (m.cycleLen < 2 ^ 21) && decide (m.cycle < 2 ^ 64) &&
    decide (m.btime.sec < 2 ^ 48) && decide (m.btime.nano < 2 ^ 32) && decide (m.btime.frac < 65536) && decide (m.origin < 2 ^ 32) &&
    decide (-(2 ^ 63) ≤ m.corr) && decide (m.corr < 2 ^ 63) && decide (m.check < 2 ^ 32)

/-- An express event's fields have the widths of R117. -/
def Express.wf (x : Express) : Bool :=
  decide (x.event < 4096) && decide (x.source < 1024) && decide (x.time < 2 ^ 18) && decide (x.hops < 256)

/-- A WRAP block's fields have the widths of R131. -/
def WrapBlock.wf (b : WrapBlock) : Bool :=
  decide (b.node < 1024) && decide (b.tag < 256) && decide (b.reason < 256) && decide (b.hops < 256) && decide (b.seq < 256)

/-- The fields of a HELLO block have the widths of R125. -/
def Hello.wf (b : Hello) : Bool := decide (b.node < 1024) && decide (b.major < 16) && decide (b.minor < 16)

/-- A CAN frame (R263, R268): an identifier of 29 bits, a base identifier in its top 11; at most 64 data bytes, 8 in a classic frame; a remote
frame is classic, has no data and states a length. -/
def CanFrame.wf (f : CanFrame) : Bool :=
  decide (f.id < 2 ^ 29) && (f.ide || decide (f.id % 2 ^ 18 = 0)) && decide (f.data.length ≤ (if f.fdf then 64 else 8)) &&
    (if f.rtr then !f.fdf && f.data == [] && decide (f.rlen ≤ 8) else f.rlen == 0)

/-- The header of an OD access (R325, R328): a tag of 16 bits, a class and a flow label; a counter of 32 bits and a CMAC of 64. -/
def OdHdr.wf (h : OdHdr) : Bool :=
  decide (h.peer < 2 ^ 144) && decide (h.tag < 65536) && decide (h.cls < 8) && decide (h.flow < 2 ^ 20) &&
    (match h.auth with
     | some a => decide (a.ctr < 2 ^ 32) && decide (a.cmac < 2 ^ 64)
     | none => true)

/-- What a break cut off, where there is something (R134). -/
def cutWf (c : Option Cut) : Bool :=
  match c with
  | some (.frame f) => f.wf
  | some (.segment num tag) => decide (num < 4096) && decide (tag < 256)
  | none => true

/-- The data of a write access to the fast window (R345), where it is one. -/
def dataOptWf (d : Option (List Byte)) : Bool :=
  match d with
  | some d => decide (d.length ≤ 4096)
  | none => true

/-- A command is well formed: its operands fit the fields that carry them. -/
def Instr.wf : Instr → Bool
  | .beatStart => true
  | .cycleBoundary => true
  | .nopm i => decide (i < 4096)
  | .sample i => decide (i < 4096)
  | .apply i => decide (i < 4096)
  | .copy i => decide (i < 4096)
  | .go i => decide (i < 4096)
  | .gate i => decide (i < 4096)
  | .txobj i => decide (i < 4096)
  | .rxlatch i => decide (i < 4096)
  | .seal i => decide (i < 4096)
  | .mark i => decide (i < 4096)
  | .beginStaging h _ => h.wf
  | .startLoadCheck h => h.wf
  | .loadCheckComplete => true
  | .switchAtCycle h v => h.wf && decide (v < 2 ^ 64)
  | .withdrawSwitch h => h.wf
  | .clearLatchedFailures h => h.wf
  | .clockMonitorWindow code count _ => decide (code < 256) && decide (count < 65536)
  | .vddcComparatorTrip code => decide (code < 256)
  | .temperatureRead _ readings => decide (readings.length = 8)
  | .signalDetected _ => true
  | .cdrLocked _ => true
  | .blockLockGained _ _ => true
  | .blockLockLost _ _ cut => cutWf cut
  | .trainingTimeout _ => true
  | .trainingRestart _ => true
  | .retrain h _ => h.wf
  | .clearCounters h _ => h.wf
  | .alignReceived _ skew => decide (skew < 2 ^ 32)
  | .helloSend _ => true
  | .hello _ b => b.wf
  | .helloAck _ b => b.wf
  | .measureExchange _ _ => true
  | .measureReq _ seq turnaround => decide (seq < 256) && decide (turnaround < 2 ^ 36)
  | .measureRep _ seq turnaround _ => decide (seq < 256) && decide (turnaround < 2 ^ 36)
  | .pathRepeat _ => true
  | .path _ etx erx => decide (etx < 65536) && decide (erx < 65536)
  | .idleTimeout _ cut => cutWf cut
  | .noticeRepeat _ => true
  | .notice _ b => b.block.wf && cutWf b.cut
  | .report _ b => b.wf
  | .unwrapReq _ b => b.wf
  | .unwrapAck _ b => b.wf
  | .retryUnwrap h => h.wf
  | .markerReceived _ m arr _ => m.wf && decide (arr < 2097152)
  | .segmentReceived _ g _ => g.wf
  | .frameIngress port f => decide (port < 9) && f.wf
  | .egressSelect port off => decide (port < 9) && decide (off < 32)
  | .fenceEnd d => decide (d < 1024)
  | .epochTableUpdate h obj v => h.wf && decide (obj < 2 ^ 24) && decide (v < 2 ^ 64)
  | .tableBatchBegin h => h.wf
  | .tableBatchCommit h => h.wf
  | .tableBatchAbandon h => h.wf
  | .clearSwitchCounters h => h.wf
  | .failureReport f => f.wf
  | .segShort payload => decide (payload.length ≤ 2048)
  | .expressReceived _ x crc => x.event.wf && decide (x.slot < 13) && decide (crc < 256)
  | .expressTokenRefill _ => true
  | .expressDeferredSend _ => true
  | .fabricPostedWrite f => f.wf
  | .fabricReadRequest f => f.wf
  | .fabricAcknowledgedWrite f => f.wf
  | .writeAcknowledgement f => f.wf
  | .ethernetTunnel f => f.wf
  | .heartbeat _ payload => decide (payload.length ≤ 2048)
  | .heartbeatDeadline => true
  | .mirror _ payload => decide (payload.length ≤ 2048)
  | .pairStatus payload => decide (payload.length ≤ 2048)
  | .arbiterBeacon payload => decide (payload.length ≤ 2048)
  | .grant payload => decide (payload.length ≤ 2048)
  | .grantAck payload => decide (payload.length ≤ 2048)
  | .requestCastling h => h.wf
  | .commandCastling h v => h.wf && decide (v < 2 ^ 16)
  | .nop _ => true
  | .jmp _ => true
  | .jcc _ => true
  | .dja _ => true
  | .djb _ => true
  | .lda _ => true
  | .ldb _ => true
  | .ldc _ => true
  | .waitp _ => true
  | .waite _ => true
  | .waitb _ => true
  | .sho _ => true
  | .shi _ => true
  | .push _ => true
  | .pull _ => true
  | .cmpj _ => true
  | .crcs _ => true
  | .tstmp _ => true
  | .evt _ => true
  | .sync _ => true
  | .swap _ => true
  | .halt _ => true
  | .illegalInstruction _ => true
  | .pawnTimeout _ => true
  | .armSwap h _ v => h.wf && decide (v < 2 ^ 64)
  | .forcedSwap _ => true
  | .withdrawSwap h _ => h.wf
  | .inject h _ v => h.wf && decide (v < 2 ^ 32)
  | .injectedInstruction _ => true
  | .manualGo h _ v => h.wf && decide (v < 2 ^ 32)
  | .slotMapWrite h _ sub val => h.wf && decide (sub < 256) && decide (val.length ≤ 2048)
  | .fifoWordsVisible _ => true
  | .fifoPortPop f => f.wf
  | .fifoPortWrite f => f.wf
  | .fifoPortWriteEnd f => f.wf
  | .instructionShadowWrite f => f.wf
  | .pinEdge _ off _ => decide (off < 32)
  | .pinConfigWrite h _ v => h.wf && decide (v < 2 ^ 32)
  | .holdLatchesWrite h _ v => h.wf && decide (v < 2 ^ 16)
  | .reEnableBank h _ => h.wf
  | .releaseAll h => h.wf
  | .vioMeasure _ mv => decide (mv < 65536)
  | .bankSupplyLost _ => true
  | .coreLoss => true
  | .requestTransmission _ m => decide (m < 129)
  | .abortTransmission _ m => decide (m < 129)
  | .statusReadClear _ m => decide (m < 129)
  | .arbitrationStart _ => true
  | .transmissionAttemptEnd _ _ => true
  | .frameStored _ f _ off => f.wf && decide (off < 32)
  | .busOffRecover h _ => h.wf
  | .busOffRecoverAbandon h _ => h.wf
  | .busOffRecoveryDone _ => true
  | .controllerModeWrite h _ v => h.wf && decide (v < 2 ^ 8)
  | .controllerModeChange _ => true
  | .clearBusCounters h _ => h.wf
  | .transceiverStateWrite h _ v => h.wf && decide (v < 2 ^ 8)
  | .busWake _ _ => true
  | .clearWakeFlag h _ => h.wf
  | .txdDominantTimeout _ _ => true
  | .timeStep => true
  | .masterLoss => true
  | .closureWindowEnd => true
  | .timeCal _ _ _ _ => true
  | .setFabricTime h v => h.wf && decide (v < 2 ^ 96)
  | .acceptNextJump h => h.wf
  | .candidateReturn h v => h.wf && decide (v < 2 ^ 8)
  | .sealArmLocal h => h.wf
  | .sealArmFabric h => h.wf
  | .sealDisarmLocal h => h.wf
  | .sealDisarmFabric h => h.wf
  | .sealArm payload => decide (payload.length ≤ 2048)
  | .sealDisarm payload => decide (payload.length ≤ 2048)
  | .sealInEdge off => decide (off < 32)
  | .sealLatch _ => true
  | .ptpEventMessage _ off => decide (off < 2097152)
  | .odRequestFrame f => f.wf
  | .mailboxRequest pointer => decide (pointer < 16)
  | .mailboxResponseRelease pointer => decide (pointer < 16)
  | .clearMailboxError => true
  | .odDatagram peer bytes => decide (peer.port < 65536) && decide (peer.peer < 2 ^ 144) && decide (bytes.length ≤ 2052)
  | .serviceChannelFrame f => f.wf
  | .serviceReassemblyTimeout => true
  | .odRead h obj val => h.wf && decide (obj < 2 ^ 24) && decide (val.length ≤ 2048)
  | .odWrite h obj val => h.wf && decide (obj < 2 ^ 24) && decide (val.length ≤ 2048)
  | .odDescribe h obj val => h.wf && decide (obj < 2 ^ 24) && decide (val.length ≤ 2048)
  | .odNext h obj val => h.wf && decide (obj < 2 ^ 24) && decide (val.length ≤ 2048)
  | .featureCommit h => h.wf
  | .flashStore obj => decide (obj < 2 ^ 24)
  | .hostRead _ addr len tag => decide (addr < 2 ^ 64) && decide (len < 4097) && decide (tag < 65536)
  | .readResponse f => f.wf
  | .readHoldTimeout tag => decide (tag < 65536)
  | .hostWrite _ addr data => decide (addr < 2 ^ 64) && decide (data.length ≤ 4096)
  | .fastWindowAccess addr len tag data => decide (addr < 2 ^ 64) && decide (len < 4097) && decide (tag < 65536) && dataOptWf data
  | .fabricHostRequest f => f.wf
  | .hostCompletion tag status _ data => decide (tag < 65536) && decide (status < 8) && decide (data.length ≤ 2048)
  | .prefetchLifeExpiry i => decide (i < 16)
  | .bridgeReset _ => true
  | .windowCommit h => h.wf
  | .clearBridgeCounters h => h.wf
  | .supplyWarning rail => decide (rail < 256)
  | .warningLeft rail => decide (rail < 256)
  | .supplyResetLevel rail => decide (rail < 256)
  | .vhsOvervoltage => true
  | .channelStart _ temp vhs => decide (temp < 2 ^ 32) && decide (vhs.vhs < 2 ^ 32)
  | .startComplete _ => true
  | .startTimeout _ => true
  | .faultTimerTrip _ => true
  | .fastTrip _ => true
  | .thermalModelTrip _ temp => decide (temp < 2 ^ 32)
  | .diodeOverTemperature _ temp => decide (temp < 2 ^ 32)
  | .gateFault _ => true
  | .mosfetShort _ => true
  | .seatingLost => true
  | .seatingQualified => true
  | .powerGoodDelayEnd _ => true
  | .retryTimerExpired _ => true
  | .goodTimeElapsed _ => true
  | .clearFault h _ _ => h.wf
  | .channelOn h _ => h.wf
  | .channelOff h _ => h.wf
  | .proposeSleep h => h.wf
  | .cancelSleepProposal h => h.wf
  | .sleepPropose payload _ => decide (payload.length ≤ 2048)
  | .sleepVote payload => decide (payload.length ≤ 2048)
  | .sleepCommit payload => decide (payload.length ≤ 2048)
  | .sleepCancel payload => decide (payload.length ≤ 2048)
  | .wakeAll => true
  | .pointOfNoReturn => true
  | .ringWatchArmed => true
  | .wakeSource code _ => decide (code < 256)
  | .wakeTimerExpiry _ => true
  | .inhReclaim _ => true
  | .clearFlags h => h.wf
  | .porEnd => true
  | .vaonLoss _ => true
  | .cprEnd => true
  | .hrst => true
  | .bringUp x => decide (x.upTo ≤ 8)
  | .bringUpStageTimeout => true
  | .modeRequestBringUp h => h.wf
  | .modeRequestTest h => h.wf
  | .modeRequestConfigure h => h.wf
  | .modeRequestRun h => h.wf
  | .modeRequestHold h => h.wf
  | .warmReset h => h.wf
  | .wrstTakesEffect => true
  | .keeperWatchdogExpiry => true
  | .aonWatchdogExpiry => true
  | .braceEnd ms => decide (ms < 2 ^ 32)
  | .beginContainerStaging h v => h.wf && decide (v < 2 ^ 32)
  | .stagingChunk h val => h.wf && decide (val.length ≤ 2048)
  | .verify h => h.wf
  | .verifyComplete => true
  | .promoteFirmware h => h.wf
  | .promoteSchedule h => h.wf
  | .promoteConfiguration h => h.wf
  | .promotionComplete _ => true
  | .keeperHandover h => h.wf
  | .handoverHeartbeatMissed => true
  | .confirmFirmware h => h.wf
  | .trialTimeExpiry => true
  | .isolateAtCycle h v => h.wf && decide (v < 2 ^ 64)
  | .returnAtCycle h v => h.wf && decide (v < 2 ^ 64)
  | .testBist h => h.wf
  | .testIrstBist h => h.wf
  | .bistComplete _ => true
  | .journalRecordPosted code => decide (code < 256)
  | .journalTailWrite h v => h.wf && decide (v < 2 ^ 32)
  | .journalFwd payload => decide (payload.length ≤ 2048)
  | .snapshotCollectionComplete _ => true
  | .snapshotCollectionTimeout _ delivered => decide (delivered < 2 ^ 32)
  | .releaseSlot h _ => h.wf
  | .erroredBlock _ b => decide (b.sync < 4) && decide (b.block < 2 ^ 64)
  | .resetLevelLeft rail => decide (rail < 256)
  | .vddcComparatorRecovery code => decide (code < 256)
  | .acknowledgementTimeout tag => decide (tag < 65536)
  | .completionTimeout tag => decide (tag < 65536)
  | .pcieLinkUp rate width _ _ mps mrrs cpl => decide (rate < 5) && decide (width < 5) && decide (mps < 4097) && decide (mrrs < 4097) && decide (cpl ≤ 250000000)
  | .faultTimerStart _ => true
  | .faultTimerReturnsToZero _ => true
  | .incomingCoreReady _ pause => decide (pause < 65536)
  | .frameNotAccepted _ f => f.wf
  | .receiveError _ _ _ => true
  | .transceiverOverTemperature _ _ => true

end Sys2Proof
end

