-- ==== Sys2Proof/Safety.lean ====
section
/-!
DEFINITION. What counts as a safe run: the commands that wait are well formed, the stores of the block keep their forms, and no step stops.
-/
namespace Sys2Proof

open Machine

/-- The bytes in which a number travels to an object (R315). -/
def Machine.numBytes (o v : Nat) : List Byte := natBE (objBits o / 8) v

/-- The state in which an authenticated or plain access begins: taken from the queue, its counter stored (R322, R333). -/
def Machine.State.odBegun (s : State) (h : OdHdr) : State := s.odTaken.storeCounter h.auth

/-- A write of `v` to object `o`, which is not one that the spec leaves undocumented in Test (R314), is executed now and passes every check of R335
before its effect. -/
def Machine.State.odPasses (s : State) (h : OdHdr) (o : Nat) (v : List Byte) : Bool :=
  s.odReady ⟨h, .write, o, v⟩ && !(s.undocumentedOd ⟨h, .write, o, v⟩) && decide (s.odTaken.authError h.route 2 o h.auth v = 0) &&
    decide ((s.odBegun h).accessError .write o v = 0) && !((s.odBegun h).storeBarred o)

/-- The same for a number. -/
def Machine.State.numPasses (s : State) (h : OdHdr) (o v : Nat) : Bool := s.odPasses h o (numBytes o v)

/-- A write of `v` to object `o`, which is not one that the spec leaves undocumented in Test (R314), is executed now and passes check 2 of R335, so that checks 4 to 11
judge it. -/
def Machine.State.odReaches (s : State) (h : OdHdr) (o : Nat) (v : List Byte) : Bool :=
  s.odReady ⟨h, .write, o, v⟩ && !(s.undocumentedOd ⟨h, .write, o, v⟩) && decide (s.odTaken.authError h.route 2 o h.auth v = 0)

/-- The same for a number. -/
def Machine.State.numReaches (s : State) (h : OdHdr) (o v : Nat) : Bool := s.odReaches h o (numBytes o v)

/-- The end of an accepted write that began in `b` and left `t`: the value is noted for flash (R319), the response goes out without an error
(R326), and the mailbox is looked at again (R329). -/
def Machine.State.odDone (t b : State) (h : OdHdr) (o : Nat) (v : List Byte) (staged : Bool) : State :=
  ((if b.inBatch o then t else t.noteStore o v).answer h 2 o h.auth.isSome 0 [] (objPersist o = .n && b.inBrace) staged).takeMail 8

/-- The same for a number. -/
def Machine.State.numDone (t b : State) (h : OdHdr) (o v : Nat) (staged : Bool) : State := t.odDone b h o (numBytes o v) staged

/-- Every command that waits is well formed. -/
def queueOk (s : State) : Bool := s.pending.all Instr.wf

/-- The process images keep the canonical form of memory in both banks (R71, R73). -/
def imagesOk (s : State) : Bool :=
  s.seq.input.working.wf && s.seq.input.completed.wf && s.seq.output.working.wf && s.seq.output.completed.wf

/-- The posting buffer of every island holds at most eight records (R460), and the power log at most sixteen (R387). -/
def recordsOk (s : State) : Bool :=
  s.journal.posted.all (fun e => decide (e.2.length ≤ 8)) && decide (s.journal.plog.length ≤ 16)

/-- The end of a write whose effect left `t` and is refused with an error code, or with error 0x0A and a detail code (R326, R336). -/
def Machine.State.odRefused (t : State) (h : OdHdr) (o err : Nat) (detail : Option Nat) : State :=
  (t.answer h 2 o h.auth.isSome err (match detail with | some d => natBE 1 d | none => []) false false).takeMail 8

/-- The journal holds at most 1,024 unread records, between pointers of 11 bits (R462). -/
def journalOk (s : State) : Bool :=
  decide (s.rd 0xD00000 < 2048) && decide (s.rd 0xD00001 < 2048) && decide (s.unread ≤ 1024)

/-- `n` steps from a state take no fault and no refusal. -/
def runsOn (n : Nat) (s : State) : Bool :=
  match core.run n s with
  | .next _ => true
  | _ => false

/-- A pawn after a cycle in which its instruction completed (R200, R203): the levels of the cycle kept, one cycle further, running at `pc`. -/
def Machine.PawnSt.ended (p : PawnSt) (levels : Nat) (pc : BitVec 6) : PawnSt :=
  { p with hist := levels, cyc := p.cyc + 1, execs := 0, barrier := none, run := .running, pc := pc }

/-- A pawn after a cycle in which its instruction stalled (R201). -/
def Machine.PawnSt.waited (p : PawnSt) (levels : Nat) : PawnSt :=
  { p with hist := levels, cyc := p.cyc + 1, execs := p.execs + 1, run := .stalled }

end Sys2Proof
end

