-- ==== Sys2Proof/Certificates/Slice0/Obligations.lean ====
section
/-!
DEFINITION. The statements about the block.
-/

open Sys2Proof Sys2Proof.Machine

/-- When a command is at the front of the queue, one step is the effect of that command on the state with the queue's rest. -/
def Obligations.StepTakesFront : Prop :=
  ∀ (c : Instr) (rest : List Instr) (s : State), s.pending = c :: rest → step s = exec c { s with pending := rest }

/-- On an empty queue one step leaves the state as it is but for the 32.768 kHz count of the AON island, which goes on by one while that island is
powered; before the end of the first POR nothing changes. The idle tick is the model's choice (log entry 3). -/
def Obligations.IdleCountsOnly : Prop :=
  ∀ s : State, s.pending = [] →
    (s.mode ≠ .noPower → step s = .next { s with modes := { s.modes with aonCount := s.modes.aonCount + 1 } }) ∧
    (s.mode = .noPower → step s = .next s)

/-- BEAT_START inside a cycle, once every move of the beat is done and no seal waits, adds one to the beat and 32 ns to the local time and leaves the
cycle number. CYCLE_BOUNDARY at the end of a cycle, with no step and no warm reset due and no time set waiting, begins a beat at the time of the
boundary, with no marker of the new cycle seen yet; where no pin word waits for the boundary, the beat then reads 0 and the cycle number is that of
the new cycle. -/
def Obligations.BeatsAndCyclesAdvance : Prop :=
  ∀ s : State,
    (s.ticking = true → s.beat + 1 < s.cycleLen → s.seq.due = [] → s.sealDue = false →
      ∃ t : State, exec .beatStart s = .next t ∧ t.beat = s.beat + 1 ∧ t.cycle = s.cycle ∧ t.time.now = s.time.now + 32 * 65536 ∧
        t.time.beats = s.time.beats + 1) ∧
    (s.atCycleEnd = true → s.stepDue = none → s.warmDue = false → s.time.setTo = none →
      ∃ t : State, exec .cycleBoundary s = .next t ∧ t.time.now = s.nextBoundary ∧ t.time.bnd = s.nextBoundary ∧
        t.time.beats = s.time.beats + 1 ∧ t.time.seen = [] ∧
        (s.pins.staged = [] → t.beat = 0 ∧ t.cycle = s.nextCycleNo))

/-- A move that is due is executed, and is due no more. NOPM does nothing else, and counts in 4.010.02 where it runs in hold, as GATE and MARK do.
SAMPLE of levels in normal disposition, on pins of banks in service with no setup or hold violation, puts the filtered levels of the masked pins
into eight bytes of the input image that no record covers. APPLY gives every masked pin, and no other, the level that the output image delivers for
it, the substitutes standing in for records where it runs in hold. COPY from image to image in normal disposition, of islands that did not leave the
envelope in this cycle, writes the words read to a destination that no record covers. GATE opens the gates of the named classes until their close
beat, or closes them, and touches no other. MARK emits the marker on the master and opens the marker check on other nodes. -/
def Obligations.MovesTakeEffect : Prop :=
  ∀ (s : State) (i : Nat) (m : MoveRec) (left : List Nat), left = s.seq.due.filter (fun j => j != i) →
    (s.moveDue i 0 = some m → s.plainDisp m = .normal → exec (.nopm i) s = .next { s with seq := { s.seq with due := left } }) ∧
    (∀ (st : RecState) (reason : Nat), s.moveDue i 0 = some m → s.plainDisp m = .inHold st reason →
      exec (.nopm i) s = .next ((s.inc 0x401002).moveDone i)) ∧
    (s.moveDue i 1 = some m → s.moveDisp m = .normal → s.withheldAt 0x01 = false → bits m.a 23 20 = 0 →
      (∀ p ∈ quadPins (bits m.a 19 16) m.b, s.pins.disabled.testBit (p / 16) = false ∧ s.pinViolates p s.nowNs = false) →
      (∀ k < 8, s.recordAt .input (bits m.a 15 0 + k) = none) →
      ∃ t : State, exec (.sample i) s = .next t ∧ t.seq.due = left ∧
        memRead t.seq.input.working (bits m.a 15 0) 8 = natLE 8 (putBits (leNat (memRead s.seq.input.working (bits m.a 15 0) 8)) (bits m.a 19 16)
          (quadPins (bits m.a 19 16) m.b) (fun p => s.levelAt p s.nowNs))) ∧
    (s.moveDue i 2 = some m →
      ∃ t : State, exec (.apply i) s = .next t ∧ t.seq.due = left ∧ t.seq.input = s.seq.input ∧ t.seq.output = s.seq.output ∧
        ∀ p, t.pins.owner.testBit p = if p ∈ quadPins (bits m.a 19 16) m.b then
          (leNat (s.deliver .output (bits m.a 15 0) 8 (s.moveDisp m != .normal))).testBit (p - 64 * bits m.a 19 16) else s.pins.owner.testBit p) ∧
    (s.moveDue i 3 = some m → s.copyDisp m = .normal → s.copyWithheld m = false → bits m.a 31 30 = 0 → bits m.a 29 28 = 1 →
      (∀ k < 4 * (bits m.a 27 16 + 1), s.recordAt .output (bits m.b 15 0 + k) = none) →
      ∃ t : State, exec (.copy i) s = .next t ∧ t.seq.due = left ∧ t.seq.input = s.seq.input ∧
        memRead t.seq.output.working (bits m.b 15 0) (4 * (bits m.a 27 16 + 1)) =
          memRead s.seq.input.working (bits m.a 15 0) (4 * (bits m.a 27 16 + 1))) ∧
    (s.moveDue i 5 = some m →
      ∃ g : NMap GateSt, exec (.gate i) s = .next (({ s with switch := { s.switch with gates := g } }.countHold (s.moveDisp m)).moveDone i) ∧
        (∀ c < 8, m.a.testBit (8 + c) = true →
          mget {} g (queueOf (bits m.a 3 0) c) = if bit m.a 16 then ⟨true, bits m.b 19 0⟩ else ⟨false, 0⟩) ∧
        (∀ q, (∀ c < 8, m.a.testBit (8 + c) = true → q ≠ queueOf (bits m.a 3 0) c) → mget {} g q = mget {} s.switch.gates q)) ∧
    (s.moveDue i 9 = some m →
      ∃ t u : State, exec (.mark i) s = .next t ∧ t.seq.due = left ∧ t = (u.countHold (s.plainDisp m)).moveDone i ∧
        (s.servo ≠ 5 → u = { s with time := { s.time with opened := m.a % 16 } }) ∧
        (s.servo = 5 → u = s.emitMarker ((maskPorts m.a).filter s.ringUsable)))

/-- A due GO in normal disposition whose mask names one halted pawn, with no swap, injection or partial word there, makes it run from the entry address
with its flags and shift count cleared. A due TXOBJ in normal disposition on a hub that speaks for its service copies the bytes into the transmit
object and requests a transmission of them. A due RXLATCH in normal disposition puts the data of a frame stored early enough and not latched before
into input image bytes that no record covers. A due SEAL latches a free slot for which no seal is armed, and counts and journals a refusal where the
slot is held. TXOBJ, RXLATCH and SEAL in hold count in 4.010.02. Each leaves the list of due moves. -/
def Obligations.MovesOnUnitsTakeEffect : Prop :=
  ∀ (s : State) (i : Nat) (m : MoveRec) (left : List Nat), left = s.seq.due.filter (fun j => j != i) →
    (∀ c p : Nat, s.moveDue i 4 = some m → c < 8 → p < 16 → bits m.a 23 16 = 2 ^ c → bits m.a 15 0 = 2 ^ p → bit m.b 8 = false →
      s.clusterDisp m c = .normal → (s.pawn (16 * c + p)).run = .halted → (s.pawn (16 * c + p)).sc = 0 → (s.pawn (16 * c + p)).inj = none →
      s.swapPending (16 * c + p) = false →
      ∃ t : State, exec (.go i) s = .next t ∧ t.seq.due = left ∧ (t.pawn (16 * c + p)).run = .running ∧
        (t.pawn (16 * c + p)).pc = BitVec.ofNat 6 (bits m.b 5 0) ∧ (t.pawn (16 * c + p)).z = false ∧ (t.pawn (16 * c + p)).e = false ∧
        (t.pawn (16 * c + p)).t = false ∧ (t.pawn (16 * c + p)).h = false ∧ (t.pawn (16 * c + p)).sc = 0 ∧
        t.rd (pawnObj (16 * c + p) 0x27) = bits m.a 15 0 ∧ (∀ q, q ≠ 16 * c + p → t.pawn q = s.pawn q)) ∧
    (∀ (n k : Nat) (x : MsgObj), s.moveDue i 6 = some m → n = bits m.a 2 0 → k = bits m.a 14 8 →
      s.controllerDisp m n = .normal → s.speaksService = true → s.serviceObj n k = false → bit (s.msg n k).idw 30 = true →
      x = { (s.msg n k).put 0 (memRead s.seq.output.working (bits m.a 31 16) (bits m.b 6 0)) with
        dstate := ((s.wordsAt .output (bits m.a 31 16) (ceilDiv (bits m.b 6 0) 4)).map (fun w => stateCode w.2)).foldl max 0 } →
      exec (.txobj i) s = .next (((s.setMsg n k x).request n k (bits m.b 6 0)).moveDone i)) ∧
    (∀ (n k : Nat) (f : RxFrame), s.moveDue i 7 = some m → n = bits m.a 2 0 → k = bits m.a 14 8 →
      s.controllerDisp m n = .normal → s.serviceObj n k = false → s.withheldAt 0x28 = false → s.latchFrame n k = some f →
      f.num ≠ (s.msg n k).latched → bit m.b 8 = false →
      (∀ j < bits m.b 6 0, s.recordAt .input (bits m.a 31 16 + j) = none) →
      ∃ t : State, exec (.rxlatch i) s = .next t ∧ t.seq.due = left ∧ (t.msg n k).latched = f.num ∧ t.seq.output = s.seq.output ∧
        memRead t.seq.input.working (bits m.a 31 16) (bits m.b 6 0) = padTo (bits m.b 6 0) f.data) ∧
    (∀ (st : RecState) (reason : Nat), s.moveDue i 6 = some m → s.controllerDisp m (bits m.a 2 0) = .inHold st reason →
      exec (.txobj i) s = .next ((s.inc 0x401002).moveDone i)) ∧
    (∀ (st : RecState) (reason : Nat), s.moveDue i 7 = some m → s.controllerDisp m (bits m.a 2 0) = .inHold st reason →
      exec (.rxlatch i) s = .next (((s.holdRange .input (bits m.a 31 16) (bits m.b 6 0 + if bit m.b 8 then 8 else 0) st reason).inc 0x401002).moveDone i)) ∧
    (∀ k : Nat, s.moveDue i 8 = some m → k = bits m.a 1 0 → mfind s.time.seals k = none →
      (s.slotBusy k = false → ∃ t : State, t = s.latchSnap k 0 0 m.b ∧ exec (.seal i) s = .next ((t.countHold (s.plainDisp m)).moveDone i)) ∧
      (s.slotBusy k = true → ∃ (tag : Nat) (t : State), t = ((s.inc 0x401005).tookFree).raise .mgt 0x00 0x7A tag ∧
        exec (.seal i) s = .next ((t.countHold (s.plainDisp m)).moveDone i)))

/-- Whichever of the ten moves is executed, a byte of a process image, in either bank, reads as before unless it lies in the range that the move's own
fields name as its destination, or in a record that overlaps that range: a move without an image destination stores nothing. -/
def Obligations.MovesStoreOnlyTheirBytes : Prop :=
  ∀ (s t : State) (i : Nat) (c : Instr) (act : Nat) (m : MoveRec), s.moveDue i act = some m →
    (c, act) ∈ [(Instr.nopm i, 0), (.sample i, 1), (.apply i, 2), (.copy i, 3), (.go i, 4), (.gate i, 5), (.txobj i, 6), (.rxlatch i, 7),
      (.seal i, 8), (.mark i, 9)] →
    exec c s = .next t → ∀ (sel : ImageSel) (a : Nat),
      (∀ (o n : Nat), moveWrites m = some (sel, o, n) →
        ¬ (o ≤ a ∧ a < o + n) ∧ ∀ r ∈ s.records, r.overlaps sel o n = true → r.covers sel a = false) →
      mget 0 (t.image sel).working a = mget 0 (s.image sel).working a ∧ mget 0 (t.image sel).completed a = mget 0 (s.image sel).completed a

/-- BEGIN_STAGING in Configure, Run, Repair or Hold with no switch pending loads the contents into the staged bank and leaves it loading, and with a
switch pending is refused with detail 0x32 (the pawn programs and the node number that the contents carry go with them). In other modes both are
refused with 0x03. START_LOAD_CHECK of a bank that holds something starts the check. LOAD_CHECK_COMPLETE of a check under way leaves the bank
checked with no error reported, or rejected with the code and the index reported, and with no active bank latches bit 0 of the failures. A check
whose bank was to be switched to at bring-up asks for that switch where it passes. SWITCH_AT_CYCLE of a checked bank for the first eligible boundary
or a later one leaves the switch pending, with the swaps of its pawns armed, and names that boundary in Run, Repair and Hold; a boundary too near is
refused with detail 0x30 and counted. WITHDRAW_SWITCH of a switch that is not near leaves the bank checked and its swaps disarmed; with no switch
pending it changes nothing. CLEAR_LATCHED_FAILURES clears the latched bits whose conditions hold again and no other register. -/
def Obligations.BankCommandsTakeEffect : Prop :=
  ∀ (s b : State) (h : OdHdr), b = s.odBegun h →
    (∀ img : Bank, s.numPasses h 0x400100 1 = true → b.bankState ≠ 4 →
      exec (.beginStaging h img) s = .next ((b.loadStaged { img with migrated := false, slot := none }).numDone b h 0x400100 1 false)) ∧
    (∀ img : Bank, s.numPasses h 0x400100 1 = true → b.bankState = 4 →
      exec (.beginStaging h img) s = .next (b.odRefused h 0x400100 0x0A (some 0x32))) ∧
    (b.stagingMode = false →
      (∀ img : Bank, s.numReaches h 0x400100 1 = true → exec (.beginStaging h img) s = .next (b.odRefused h 0x400100 0x03 none)) ∧
      (s.numReaches h 0x400101 1 = true → exec (.startLoadCheck h) s = .next (b.odRefused h 0x400101 0x03 none))) ∧
    (s.numPasses h 0x400101 1 = true → b.bankState ≠ 4 → b.bankState ≠ 0 →
      exec (.startLoadCheck h) s = .next (({ b with seq := { b.seq with checking := true } }).numDone b h 0x400101 1 false)) ∧
    (s.odServed = true → s.seq.checking = true →
      ∃ t u : State, exec .loadCheckComplete s = .next t ∧ u = { s with seq := { s.seq with checking := false }, update := { s.update with autoSwitch := false } } ∧
        (loadCheck u u.stagedBank = none →
          t = if s.update.autoSwitch then (((((u.wr 0x400001 2).wr 0x400200 0).wr 0x400201 0).wr 0x207000 0).switchAtCycle 0).st
            else (((u.wr 0x400001 2).wr 0x400200 0).wr 0x400201 0).wr 0x207000 0) ∧
        (∀ e, loadCheck u u.stagedBank = some e → t.rd 0x400001 = 3 ∧ t.rd 0x400200 = e.code ∧ t.rd 0x400201 = e.move ∧ t.rd 0x207000 = e.entry ∧
          t.seq = u.seq ∧ (s.hasBank = true → t.rd 0x408001 = s.rd 0x408001) ∧ (s.hasBank = false → (t.rd 0x408001).testBit 0 = true))) ∧
    (∀ (v : Nat) (u : State), v < 2 ^ 64 → s.numPasses h 0x400102 v = true → b.bankState = 2 → b.seq.checking = false → v = 0 ∨ b.cycle + 2 ≤ v →
      u = ((if b.seq.shadowed then b else b.loadShadows b.stagedBank).armPrograms b.stagedBank).wr 0x400001 4 →
      exec (.switchAtCycle h v) s = .next (({ u with seq := { u.seq with switchAt :=
        (if b.mode = Mode.run ∨ b.mode = Mode.repair ∨ b.mode = Mode.hold then some (if v = 0 then b.cycle + 2 else v) else none) } }).numDone b h 0x400102 v true)) ∧
    (∀ v : Nat, v < 2 ^ 64 → s.numPasses h 0x400102 v = true → b.bankState = 2 → b.seq.checking = false → v ≠ 0 → v < b.cycle + 2 →
      exec (.switchAtCycle h v) s = .next ((b.inc 0x401004).odRefused h 0x400102 0x0A (some 0x30))) ∧
    (s.numPasses h 0x400103 1 = true →
      exec (.withdrawSwitch h) s = .next (
        if b.bankState = 4 then
          if b.switchNear then b.odRefused h 0x400103 0x0A (some 0x32)
          else b.dropSwitch.numDone b h 0x400103 1 false
        else b.numDone b h 0x400103 1 false)) ∧
    (s.numPasses h 0x408003 1 = true →
      ∃ v : Nat, exec (.clearLatchedFailures h) s = .next ((b.wr 0x408001 v).numDone b h 0x408003 1 false) ∧
        (∀ n, v.testBit n = true → (b.rd 0x408001).testBit n = true) ∧
        (∀ n, 8 ≤ n → v.testBit n = (b.rd 0x408001).testBit n) ∧
        (v.testBit 5 = ((b.rd 0x408001).testBit 5 && b.seq.segFail)) ∧ (v.testBit 7 = ((b.rd 0x408001).testBit 7 && b.seq.setupFail)) ∧
        (v.testBit 6 = ((b.rd 0x408001).testBit 6 && b.seq.timeBad)))

/-- While the conditions are monitored, VDDC_COMPARATOR_TRIP of an island of the data hierarchy notes the cause, withholds the island's records, sets
and latches bit 2 of the failures, flags the island, and journals it once while it stays flagged. VDDC_COMPARATOR_RECOVERY ends that cause and
nothing else. CLOCK_MONITOR_WINDOW of an island whose clock the contract states ends the cause where the clock is locked and within 0.5 %, and
otherwise (not locked, or outside 0.5 %) fails the island with cause clock: it sets and latches bit 1 of the failures and flags the island, and an
island that was not flagged is journalled with the tag of the envelope event. TEMPERATURE_READ stores the spread of a die's readings; where it is at
most 25 K it ends the temperature cause of that die's islands with no other register written, and above 25 K each island of the data hierarchy on
that die gets the cause, and while the conditions are monitored bit 3 of the failures is set and each of them is flagged and its records withheld. A
VDDC trip of an island that is not flagged writes one record. -/
def Obligations.EnvelopeMonitorsTakeEffect : Prop :=
  ∀ s : State,
    (∀ code : Nat, s.monitoring = true → code ∈ dataIslands →
      ∃ t : State, exec (.vddcComparatorTrip code) s = .next t ∧ (mget 0 t.seq.envBad code).testBit 1 = true ∧ t.seq.withheld.testBit code = true ∧
        (t.rd 0x408001).testBit 2 = true ∧ (t.rd 0x408002).testBit code = true ∧ t.seq.input = s.seq.input ∧ t.seq.output = s.seq.output ∧
        ((s.rd 0x408002).testBit code = true → t.journal = s.journal) ∧
        ((s.rd 0x408002).testBit code = false → ∃ u : State, t = u.raise (islandOf code) 0x00 0x04 (s.eventTag 2 code 2) ∧ u.journal = s.journal)) ∧
    (∀ code : Nat, exec (.vddcComparatorRecovery code) s =
      .next { s with seq := { s.seq with envBad := mset 0 s.seq.envBad code (setBit (mget 0 s.seq.envBad code) 1 false) } }) ∧
    (∀ (code count f : Nat) (locked : Bool), s.ticking = true → contractClock s.activeBank code = some f →
      (locked = true → 200 * (count * 100000) ≤ 201 * (f * 1024) → 199 * (f * 1024) ≤ 200 * (count * 100000) →
        exec (.clockMonitorWindow code count locked) s =
          .next { s with seq := { s.seq with envBad := mset 0 s.seq.envBad code (setBit (mget 0 s.seq.envBad code) 0 false) } }) ∧
      (locked = false ∨ 201 * (f * 1024) < 200 * (count * 100000) ∨ 200 * (count * 100000) < 199 * (f * 1024) → s.monitoring = true → code ∈ dataIslands →
        ∃ t : State, exec (.clockMonitorWindow code count locked) s = .next t ∧ (mget 0 t.seq.envBad code).testBit 0 = true ∧
          (t.rd 0x408001).testBit 1 = true ∧ (t.rd 0x408002).testBit code = true ∧ ((s.rd 0x408002).testBit code = true → t.journal = s.journal) ∧
          ((s.rd 0x408002).testBit code = false → ∃ u : State, t = u.raise (islandOf code) 0x00 0x04 (s.eventTag 2 code 1) ∧ u.journal = s.journal))) ∧
    (∀ l : List Nat, s.powered = true → spread l ≤ 400 →
      ∃ t : State, exec (.temperatureRead true l) s = .next t ∧ t.rd 0x408007 = f32Ratio (spread l) 16 ∧ (mget 0 t.seq.envBad 1).testBit 2 = false ∧
        (∀ o, o ≠ 0x408007 → t.rd o = s.rd o)) ∧
    (∀ l : List Nat, s.coreUp = true → spread l ≤ 400 →
      ∃ t : State, exec (.temperatureRead false l) s = .next t ∧ t.rd 0x408006 = f32Ratio (spread l) 16 ∧
        (∀ code ∈ dataIslands, code ≠ 1 → (mget 0 t.seq.envBad code).testBit 2 = false) ∧ (∀ o, o ≠ 0x408006 → t.rd o = s.rd o)) ∧
    (∀ (portDie : Bool) (l : List Nat), (if portDie then s.powered else s.coreUp) = true → 400 < spread l →
      ∃ t : State, exec (.temperatureRead portDie l) s = .next t ∧ t.rd (if portDie then 0x408007 else 0x408006) = f32Ratio (spread l) 16 ∧
        ∀ code ∈ dataIslands, (code = 1 ↔ portDie = true) → (mget 0 t.seq.envBad code).testBit 2 = true ∧
          (s.monitoring = true → (t.rd 0x408001).testBit 3 = true ∧ (t.rd 0x408002).testBit code = true ∧ t.seq.withheld.testBit code = true))

/-- An OD write that passes its checks takes effect and is answered. PIN_CONFIG_WRITE of an allowed word is staged for the next cycle boundary while a
table bank is active and is written at once otherwise, where a pin that becomes an output drives its hold latch level. RE_ENABLE_BANK is noted for
the boundary while a bank is active; otherwise a bank whose supply is present is enabled and one whose supply is absent stays as it is. RELEASE_ALL
is noted for the boundary while there are cycle boundaries, and ends every force and freeze at once while there are none. HOLD_LATCHES_WRITE gives
every pin of its bank that is neither forced nor frozen its bit as owner level and hold latch; the held pins' owner levels and latches, the owner
levels of other banks and every other register stay. -/
def Obligations.PinWritesTakeEffect : Prop :=
  ∀ (s b : State) (h : OdHdr), b = s.odBegun h →
    (∀ (pin : Fin 256) (v : Nat), v < 2 ^ 32 → pinWordOk v = true → s.numPasses h (pinObj pin.val) v = true →
      exec (.pinConfigWrite h pin v) s = .next (
        if b.hasBank then
          ({ b with pins := { b.pins with staged := minsert b.pins.staged (pinObj pin.val) v } }).numDone b h (pinObj pin.val) v true
        else ({ b with pins := { b.pins with
            loss := if b.outputMode pin.val = 0 ∧ bits v 5 4 ≠ 0 then merase b.pins.loss pin.val else b.pins.loss } }.wr (pinObj pin.val) v).numDone b h
              (pinObj pin.val) v false)) ∧
    (∀ k : Fin 16, s.numPasses h (bankObj k.val 2) 1 = true →
      exec (.reEnableBank h k) s = .next (
        if b.hasBank then
          ({ b with pins := { b.pins with reEnable := setBit b.pins.reEnable k.val true } }).numDone b h (bankObj k.val 2) 1 true
        else
          (if b.pins.present.testBit k.val then { b with pins := { b.pins with disabled := setBit b.pins.disabled k.val false } }
           else b).numDone b h (bankObj k.val 2) 1 false)) ∧
    (s.numPasses h 0x610003 1 = true →
      exec (.releaseAll h) s = .next (
        if b.ticking then ({ b with pins := { b.pins with relAll := true } }).numDone b h 0x610003 1 true
        else (({ b with pins := { b.pins with relAll := true } }).boundaryReleases).numDone b h 0x610003 1 false) ∧
      (b.ticking = false → ({ b with pins := { b.pins with relAll := true } }).boundaryReleases.pins.forced = [] ∧
        ({ b with pins := { b.pins with relAll := true } }).boundaryReleases.pins.frozen = [])) ∧
    (∀ (k : Fin 16) (v : Nat), v < 2 ^ 16 → s.numPasses h (bankObj k.val 3) v = true →
      ∃ t : State, exec (.holdLatchesWrite h k v) s = .next (t.numDone b h (bankObj k.val 3) v false) ∧
        (∀ p < 16, mfind b.pins.forced (16 * k.val + p) = none → mfind b.pins.frozen (16 * k.val + p) = none →
          t.pins.owner.testBit (16 * k.val + p) = v.testBit p ∧ (t.rd (bankObj k.val 3)).testBit p = v.testBit p) ∧
        (∀ p < 16, (mfind b.pins.forced (16 * k.val + p)).isSome = true ∨ (mfind b.pins.frozen (16 * k.val + p)).isSome = true →
          t.pins.owner.testBit (16 * k.val + p) = b.pins.owner.testBit (16 * k.val + p) ∧
            (t.rd (bankObj k.val 3)).testBit p = (b.rd (bankObj k.val 3)).testBit p) ∧
        (∀ j, j / 16 ≠ k.val → t.pins.owner.testBit j = b.pins.owner.testBit j) ∧
        (∀ o, o ≠ bankObj k.val 3 → t.rd o = b.rd o))

/-- With nothing due at the PIN island, PIN_EDGE to the raw level that the pin has changes nothing. To another raw level, with a filter length above 1,
the raw level changes and the filtered change is due F - 1 PIN clocks later; in bypass the filtered view follows at once and the edge flag is set,
leaving the other pins' filtered levels and flags. Where no SAMPLE of the last beats is kept and no line has the edge as source, the edge also
writes the pin's last-edge word, is kept in the history, and does nothing else. While the hub is powered and its core is not up, both levels follow
without an edge. VIO_MEASURE stores the reading in 6.0b1.04 and judges it against 10 % about the declared voltage. BANK_SUPPLY_LOST journals the
crossing once, and the bank has no supply and is disabled. CORE_LOSS notes the loss, gives every output pin its core-loss action, leaves input-only
pins as they are, and drops what the PIN island has not released of what the core die sent. -/
def Obligations.PinEventsTakeEffect : Prop :=
  ∀ s : State,
    (∀ (pin : Fin 256) (off ns : Nat) (lvl : Bool), s.coreUp = true → s.pins.due = [] → ns = s.nowNs + off →
      (s.pins.raw.testBit pin.val = lvl → exec (.pinEdge pin off lvl) s = .next s) ∧
      (s.pins.raw.testBit pin.val ≠ lvl → s.pins.filt.testBit pin.val ≠ lvl → s.pinFilter pin.val ≠ 1 →
        exec (.pinEdge pin off lvl) s = .next { s with pins := { s.pins with
          raw := setBit s.pins.raw pin.val lvl, due := [(ns + (s.pinFilter pin.val - 1), .filtered pin.val lvl ns)] } }) ∧
      (s.pins.raw.testBit pin.val ≠ lvl → s.pins.filt.testBit pin.val ≠ lvl → s.pinFilter pin.val = 1 →
        ∃ t : State, exec (.pinEdge pin off lvl) s = .next t ∧ t.pins.raw = setBit s.pins.raw pin.val lvl ∧
          t.pins.filt = setBit s.pins.filt pin.val lvl ∧
          t.pins.flagAt = (if (mfind s.pins.flagAt pin.val).isSome then s.pins.flagAt else minsert s.pins.flagAt pin.val ns) ∧
          (s.pins.samples = [] → s.pinLines pin.val lvl = [] →
            t = ({ s with pins := { s.pins with
              raw := setBit s.pins.raw pin.val lvl, filt := setBit s.pins.filt pin.val lvl
              flagAt := if (mfind s.pins.flagAt pin.val).isSome then s.pins.flagAt else minsert s.pins.flagAt pin.val ns
              hist := mset [] s.pins.hist pin.val (recentEdges (⟨ns, lvl, s.edgeStamp ns lvl⟩ :: mget [] s.pins.hist pin.val) ns) } }).wr
                (lastEdgeObj pin.val) (s.edgeStamp ns lvl)))) ∧
    (∀ (pin : Fin 256) (off : Nat) (lvl : Bool), s.coreUp = false → s.mode ≠ .noPower →
      exec (.pinEdge pin off lvl) s = .next { s with pins := { s.pins with
        raw := setBit s.pins.raw pin.val lvl, filt := setBit s.pins.filt pin.val lvl } }) ∧
    (∀ (k : Fin 16) (mv : Nat) (out : Bool), s.powered = true →
      out = (decide (10 * mv < 9 * s.rd (bankObj k.val 1)) || decide (11 * s.rd (bankObj k.val 1) < 10 * mv)) →
      exec (.vioMeasure k mv) s = .next (({ s with pins := { s.pins with outside := setBit s.pins.outside k.val out } }).wr (bankObj k.val 4) mv)) ∧
    (∀ k : Fin 16, s.powered = true → s.power.under.testBit (0x20 + k.val) = false →
      ∃ t : State, t = s.raise .aon 0x00 0x72 (powerTag (0x20 + k.val) 3 0 0) ∧
        exec (.bankSupplyLost k) s = .next { t with
          power := { t.power with under := setBit t.power.under (0x20 + k.val) true }
          pins := { t.pins with present := setBit t.pins.present k.val false, disabled := setBit t.pins.disabled k.val true } }) ∧
    (s.powered = true →
      ∃ (m : NMap LossAction) (l : List (Nat × PinDue)), exec .coreLoss s = .next { s with pins := { s.pins with coreLoss := true, loss := m, due := l } } ∧
        l = s.pins.due.filter (fun e => match e.2 with | .filtered _ _ _ => true | _ => false) ∧
        ∀ p < 256, mget .keep m p = if s.outputMode p = 0 then mget .keep s.pins.loss p else s.lossOf p)

/-- On a port of a working ring island: SIGNAL_DETECTED takes an enabled port that is DOWN and does not wait to SIGNAL and counts the attempt;
CDR_LOCKED takes SIGNAL to LOCK; BLOCK_LOCK_GAINED of the second lane takes LOCK to DESKEW and of the first only notes it; ALIGN_RECEIVED in DESKEW
stores a skew of at most 10.24 ns and goes on to HELLO, and fails with a larger one; TRAINING_TIMEOUT in SIGNAL, DESKEW, HELLO or MEASURE returns
the port to DOWN, waiting; TRAINING_RESTART ends the wait. In HELLO, HELLO_SEND sends HELLO; a compatible HELLO is answered, its values recorded and
the first half of the exchange noted, an incompatible one refuses the port; HELLO_ACK the same without an answer. Nothing else changes. -/
def Obligations.TrainingAdvances : Prop :=
  ∀ (s : State) (p : Port), s.portLive p = true →
    (s.portState p = 0 → s.rd (portObj p 0 5) = 1 → (s.port p).waiting = false →
      exec (.signalDetected p) s = .next ((s.wr (portObj p 0 0) 1).incSat (portObj p 0 7))) ∧
    (s.portState p = 1 → exec (.cdrLocked p) s = .next (s.wr (portObj p 0 0) 2)) ∧
    (s.portState p = 2 → (s.port p).lock1 = false → exec (.blockLockGained p 0) s = .next (s.setPort p { s.port p with lock0 := true })) ∧
    (s.portState p = 2 → (s.port p).lock0 = true →
      exec (.blockLockGained p 1) s = .next ((s.setPort p { s.port p with lock1 := true }).wr (portObj p 0 0) 3)) ∧
    (∀ skew, s.portState p = 3 → skew ≤ 10240 →
      exec (.alignReceived p skew) s = .next (((s.setPort p { s.port p with skewBase := skew }).wr (portObj p 0 4) skew).wr (portObj p 0 0) 4)) ∧
    (∀ skew, s.portState p = 3 → 10240 < skew → exec (.alignReceived p skew) s = .next (s.wr (portObj p 0 0) 8)) ∧
    (s.portState p ∈ [1, 3, 4, 5] → exec (.trainingTimeout p) s = .next ((s.setPort p { s.port p with
      lock0 := false, lock1 := false, helloIn := false, ackIn := false, meas := [], measReqs := 0, measN := 0, measSum := 0, measDone := false
      path := none, waiting := true }).wr (portObj p 0 0) 0)) ∧
    (s.portState p = 0 → exec (.trainingRestart p) s = .next (s.setPort p { s.port p with waiting := false })) ∧
    (s.portState p = 4 → exec (.helloSend p) s = .next (s.emit (.hello p false ⟨s.node, p, 1, 0⟩))) ∧
    (∀ b : Hello, s.portState p = 4 → b.major = 1 → b.node ≠ s.node → (s.port p).ackIn = false →
      exec (.hello p b) s = .next ((((s.emit (.hello p true ⟨s.node, p, 1, 0⟩)).wr (portObj p 0 1) b.node).wr (portObj p 0 2) (portNum b.port)).setPort p
        { s.port p with helloIn := true })) ∧
    (∀ b : Hello, s.portState p = 4 → b.major ≠ 1 ∨ b.node = s.node →
      exec (.hello p b) s = .next ((((s.emit (.hello p true ⟨s.node, p, 1, 0⟩)).wr (portObj p 0 1) b.node).wr (portObj p 0 2) (portNum b.port)).wr
        (portObj p 0 0) 8)) ∧
    (∀ b : Hello, s.portState p = 4 → b.major = 1 → b.node ≠ s.node → (s.port p).helloIn = false →
      exec (.helloAck p b) s = .next (((s.wr (portObj p 0 1) b.node).wr (portObj p 0 2) (portNum b.port)).setPort p { s.port p with ackIn := true })) ∧
    (∀ b : Hello, s.portState p = 4 → b.major ≠ 1 ∨ b.node = s.node →
      exec (.helloAck p b) s = .next (((s.wr (portObj p 0 1) b.node).wr (portObj p 0 2) (portNum b.port)).wr (portObj p 0 0) 8))

/-- In MEASURE, MEASURE_EXCHANGE sends the next MEASURE_REQ while fewer than 1,024 were sent and notes its time beside those still unanswered.
MEASURE_REQ is answered with the turnaround from HELLO on. A MEASURE_REP to an exchange noted, not the last one, adds one value, twice the delay
(arrival less sending less turnaround), to the sum, least and greatest; the last one, of a spread of the delays above 1,000 ps, takes the port DOWN,
and of a smaller one stores the mean as the cable delay and sends PATH. PATH_REPEAT sends PATH again while the neighbour's has not come. PATH before
the measurement is done is noted; after it the port is UP and in use. -/
def Obligations.CableMeasured : Prop :=
  ∀ (s : State) (p : Port), s.portLive p = true →
    (s.portState p = 5 → (s.port p).measReqs < 1024 → (s.port p).measDone = false → ∀ t1 : Nat,
      exec (.measureExchange p t1) s = .next ((s.setPort p { s.port p with
        meas := (s.port p).meas.filter (fun e => e.1 != (s.port p).nextSeq) ++ [((s.port p).nextSeq, t1)]
        measReqs := (s.port p).measReqs + 1
        nextSeq := ((s.port p).nextSeq + 1) % 256 }).emit (.measureReq p (s.port p).nextSeq))) ∧
    (∀ seq r : Nat, seq < 256 → 4 ≤ s.portState p → s.portState p ≤ 7 → exec (.measureReq p seq r) s = .next (s.emit (.measureRep p seq r))) ∧
    (∀ (seq r t1 t4 : Nat) (d : Int), s.portState p = 5 → (s.port p).meas.find? (fun e => e.1 == seq) = some (seq, t1) →
      0 < (s.port p).measN → (s.port p).measN < 1023 → d = (t4 : Int) - t1 - r →
      exec (.measureRep p seq r t4) s = .next (s.setPort p { s.port p with
        meas := (s.port p).meas.filter (fun e => e.1 != seq), measN := (s.port p).measN + 1, measSum := (s.port p).measSum + d
        measMin := min (s.port p).measMin d, measMax := max (s.port p).measMax d })) ∧
    (∀ (seq r t1 t4 : Nat) (d : Int), s.portState p = 5 → (s.port p).meas.find? (fun e => e.1 == seq) = some (seq, t1) → (s.port p).measN = 1023 →
      d = (t4 : Int) - t1 - r → 2 * 1000 < max (s.port p).measMax d - min (s.port p).measMin d →
      ∃ t : State, exec (.measureRep p seq r t4) s = .next t ∧ t.portState p = 0 ∧ (t.port p).waiting = true) ∧
    (∀ (seq r t1 t4 : Nat) (d : Int), s.portState p = 5 → (s.port p).meas.find? (fun e => e.1 == seq) = some (seq, t1) → (s.port p).measN = 1023 →
      (s.port p).path = none → d = (t4 : Int) - t1 - r → max (s.port p).measMax d - min (s.port p).measMin d ≤ 2 * 1000 →
      ∃ t : State, exec (.measureRep p seq r t4) s = .next t ∧ t.rd (portObj p 0 3) = (((s.port p).measSum + d) / (2 * 1024)).toNat % 2 ^ 32 ∧
        t.portState p = 5 ∧ (t.port p).measDone = true ∧
        t.out = .path p (Config.pathTx (portNum p)).toNat (Config.pathRx (portNum p)).toNat :: s.out) ∧
    (s.portState p = 5 → (s.port p).measDone = true → (s.port p).path = none →
      exec (.pathRepeat p) s = .next (s.emit (.path p (Config.pathTx (portNum p)).toNat (Config.pathRx (portNum p)).toNat))) ∧
    (∀ etx erx : Nat, s.portState p = 5 → (s.port p).measDone = false →
      exec (.path p etx erx) s = .next (s.setPort p { s.port p with path := some (toSigned 16 etx, toSigned 16 erx) })) ∧
    (∀ etx erx : Nat, s.portState p = 5 → (s.port p).measDone = true → (s.port p).wrapped = false →
      ∃ t : State, exec (.path p etx erx) s = .next t ∧ t.portState p = 6 ∧ (t.port p).inUse = true ∧ (t.port p).broken = false)

/-- On a port in use of a working ring island, BLOCK_LOCK_LOST from LOCK on, IDLE_TIMEOUT and NOTICE report what was cut off while it was received and
declare a break of reason 1, 2 and 3 for this cycle, for NOTICE for the cycle of its tag. Where nothing was cut off, nothing was sent lately on the
span and no frame is queued for the port or for another broken one, the port is then DOWN, waiting, broken with that reason and out of use, a main-
ring port is wrapped and a spur is not, the break sequence advances by one, and 2.080.01 and 2.080.02 name this node and cycle. BLOCK_LOCK_LOST in
DESKEW, HELLO or MEASURE counts and returns the port to DOWN, waiting, and does nothing else; on a port below LOCK it changes nothing. IDLE_TIMEOUT
and NOTICE on a port that is not in use change nothing. NOTICE_REPEAT on a broken port that is not UP sends one NOTICE of the break, at once where
no frame is on its way out; on a port that is not broken it changes nothing. -/
def Obligations.BreaksWrapThePort : Prop :=
  ∀ (s : State) (p : Port) (lane : Fin 2) (cut : Option Cut) (n : WrapBlock),
    (s.portLive p = true → (s.port p).inUse = true → 2 ≤ s.portState p → s.portState p ≤ 7 →
      ∃ t : State, t = (s.incSat (portObj p 1 2)).cutItem p cut ∧
        exec (.blockLockLost p lane cut) s = .next (t.declareBreak p 1 (s.cycle % 256))) ∧
    (s.portLive p = true → (s.port p).inUse = true → exec (.idleTimeout p cut) s = .next ((s.cutItem p cut).declareBreak p 2 (s.cycle % 256))) ∧
    (s.portLive p = true → (s.port p).inUse = true → exec (.notice p ⟨n, cut⟩) s = .next ((s.cutItem p cut).declareBreak p 3 n.tag)) ∧
    (∀ (c : Instr) (reason : Nat), s.portLive p = true → (s.port p).inUse = true →
      (s.port p).sent = [] → (s.port p).sentX = [] → (s.port p).sentSegs = [] → (∀ q : Port, q = p ∨ (s.port q).broken = true → ∀ k < 8, s.queueCopies (queueOf (portNum q) k) = []) →
      (c = .blockLockLost p lane none ∧ reason = 1 ∧ 2 ≤ s.portState p ∧ s.portState p ≤ 7) ∨ (c = .idleTimeout p none ∧ reason = 2) ∨
        (c = .notice p ⟨n, none⟩ ∧ reason = 3) →
      ∃ t : State, exec c s = .next t ∧ t.portState p = 0 ∧ (t.port p).waiting = true ∧ (t.port p).broken = true ∧
        (t.port p).brkReason = reason ∧ (t.port p).inUse = false ∧ (t.port p).wrapped = (p == .e || p == .w) ∧
        t.ring.brkSeq = (s.ring.brkSeq + 1) % 256 ∧ t.rd 0x208001 = s.node ∧ t.rd 0x208002 = s.cycle) ∧
    (s.portLive p = true → (s.port p).inUse = false → s.portState p ∈ [3, 4, 5] →
      exec (.blockLockLost p lane cut) s = .next (((s.incSat (portObj p 1 2)).setPort p { s.port p with
        lock0 := false, lock1 := false, helloIn := false, ackIn := false, meas := [], measReqs := 0, measN := 0, measSum := 0, measDone := false
        path := none, waiting := true }).wr (portObj p 0 0) 0)) ∧
    (s.portState p < 2 → exec (.blockLockLost p lane cut) s = .next s) ∧
    ((s.port p).inUse = false → exec (.idleTimeout p cut) s = .next s ∧ exec (.notice p ⟨n, cut⟩) s = .next s) ∧
    (s.ticking = true → (s.port p).broken = true → s.portState p ≠ 6 → s.portState p ≠ 7 → s.partIsolated (0x10 + portNum p) = false →
      exec (.noticeRepeat p) s = .next (s.sendWrap p 1 (s.breakBlock p)) ∧
      ((mget {} s.switch.onAir (portNum p)).stop ≤ s.at10ps 0 →
        exec (.noticeRepeat p) s = .next (s.emit (.wrap p 1 ⟨s.node, p, (s.port p).brkTag, (s.port p).brkReason, 0, (s.port p).brkSeq⟩)))) ∧
    ((s.port p).broken = false → exec (.noticeRepeat p) s = .next s)

/-- A REPORT of another node not yet forwarded is kept as the newest of eight, remembered as forwarded, and named, with the cycle of its tag, in
2.080.01 and 2.080.02. UNWRAP_REQ on a usable port with no frame on its way out is answered with UNWRAP_ACK of its tag, and the wrap is to end at
the cycle of the tag; UNWRAP_ACK of the tag asked for ends it likewise. RETRY_UNWRAP with no wrapped main-ring port that is UP or in SERVICE sends
nothing; with one on E alone and no frame on its way out it asks again with the tag of the cycle two later. RETRAIN takes the port DOWN without a
wait. CLEAR_COUNTERS takes the counts 2.0p0.07, 2.0p1.02 to 2.0p1.0B, 2.070.01 and 2.070.02 to zero and writes no other register. -/
def Obligations.WrapReportsAndUnwraps : Prop :=
  ∀ (s b : State) (h : OdHdr) (p : Port), b = s.odBegun h →
    (∀ r : WrapBlock, s.ticking = true → s.ringUsable p = true → r.node ≠ s.node → (r.node, portNum r.port, r.seq) ∉ s.ring.forwarded →
      ∃ t : State, exec (.report p r) s = .next t ∧ t.ring.reports = (r :: s.ring.reports).take 8 ∧
        t.ring.forwarded = ((r.node, portNum r.port, r.seq) :: s.ring.forwarded).take 64 ∧ t.rd 0x208001 = r.node ∧ t.rd 0x208002 = s.pastCycle r.tag) ∧
    (∀ r : WrapBlock, s.ticking = true → s.portUsable p = true → (mget {} s.switch.onAir (portNum p)).stop ≤ s.at10ps 0 →
      exec (.unwrapReq p r) s = .next ((s.emit (.wrap p 4 ⟨s.node, p, r.tag, r.reason, 0, (s.port p).brkSeq⟩)).setPort p { s.port p with
        unwrapAt := some (s.cycle + (r.tag + 256 - s.cycle % 256) % 256), unwrapTag := none })) ∧
    (∀ (r : WrapBlock) (sent : Nat), s.portLive p = true → (s.port p).unwrapTag = some (r.tag, sent) →
      exec (.unwrapAck p r) s = .next (s.setPort p { s.port p with
        unwrapAt := some (s.cycle + (r.tag + 256 - s.cycle % 256) % 256), unwrapTag := none })) ∧
    (s.numPasses h 0x208004 1 = true → (∀ q ∈ [Port.e, .w], (b.port q).wrapped = false ∨ (b.portState q ≠ 6 ∧ b.portState q ≠ 7)) →
      exec (.retryUnwrap h) s = .next (b.numDone b h 0x208004 1 false)) ∧
    (s.numPasses h 0x208004 1 = true → (b.port .e).wrapped = true → b.portState .e = 6 ∨ b.portState .e = 7 → (b.port .w).wrapped = false →
      (mget {} b.switch.onAir 0).stop ≤ b.at10ps 0 →
      exec (.retryUnwrap h) s = .next (((b.setPort .e { b.port .e with unwrapTag := some ((b.cycle + 2) % 256, b.time.beats), unwrapAt := none }).emit
        (.wrap .e 3 ⟨b.node, .e, (b.cycle + 2) % 256, (b.port .e).brkReason, 0, (b.port .e).brkSeq⟩)).numDone b h 0x208004 1 false)) ∧
    (s.numPasses h (portObj p 0 6) 1 = true →
      exec (.retrain h p) s = .next (((b.setPort p { b.port p with
        lock0 := false, lock1 := false, helloIn := false, ackIn := false, meas := [], measReqs := 0, measN := 0, measSum := 0, measDone := false
        path := none, waiting := false }).wr (portObj p 0 0) 0).numDone b h (portObj p 0 6) 1 false)) ∧
    (s.numPasses h (portObj p 1 0xC) 1 = true →
      ∃ t : State, exec (.clearCounters h p) s = .next (t.numDone b h (portObj p 1 0xC) 1 false) ∧
        t.rd (portObj p 0 7) = 0 ∧ t.rd 0x207001 = 0 ∧ t.rd 0x207002 = 0 ∧ (∀ k, 2 ≤ k → k ≤ 0xB → t.rd (portObj p 1 k) = 0) ∧
        (∀ o, o ≠ portObj p 0 7 → o ≠ 0x207001 → o ≠ 0x207002 → (∀ k, 2 ≤ k → k ≤ 0xB → o ≠ portObj p 1 k) → t.rd o = b.rd o) ∧ t = { b with objs := t.objs })

/-- On a usable port of a ring: a master's own marker that returns in time with a right check is added to the markers seen, with its arrival in steps of
1 ps, and sent nowhere. A marker that the hub accepts is added to those seen of its master with its offset, and 8.010.01 and 8.010.04 give the
offset and master; one not accepted, of right check and ended by no rule, is counted. A segment of this cycle, of right check, that this hub neither
extracts from nor owns goes on through the port opposite with one hop more and a check made again; its originator removes and counts it, saturating.
A segment on E or W notes how many hops its originator is away. An express event with a wrong CRC-8 is counted as an errored block and as discarded,
journalled with the time of its word clock, and goes no further; one not seen before is remembered with its emission time. EXPRESS_TOKEN_REFILL adds
a token up to 8, EXPRESS_DEFERRED_SEND sends the oldest waiting event for one token, through the port that takes over where the hub turns.
ERRORED_BLOCK of an errored block enters the lane's window and the saturating total, and of one without error changes nothing. -/
def Obligations.RingTrafficPasses : Prop :=
  ∀ (s : State) (p : Port),
    (∀ (m : Marker) (arr res : Nat), s.ticking = true → s.ringUsable p = true → m.check = markerCheck m → m.master = s.node →
      bankRegions s.activeBank (portNum (ringTx p)) = none → m.tag = s.cycle % 256 →
      exec (.markerReceived p m arr res) s = .next { s with time := { s.time with
        seen := s.time.seen ++ [⟨portNum p, s.markerOffset p m (ballStamp arr), s.node, m.cycle, ofTime96 m.btime⟩] } }) ∧
    (∀ (m : Marker) (arr res : Nat), s.ticking = true → s.ringUsable p = true → m.master ≠ s.node → s.endsForeign m = false →
      (s.onward p).isSome = true → s.markerGood p m = true →
      ∃ t : State, exec (.markerReceived p m arr res) s = .next t ∧ t.time.hadMark = true ∧ t.rd 0x801004 = m.master ∧
        t.rd 0x801001 = ofSigned 64 (s.markerOffset p m (ballStamp arr)) ∧
        t.time.seen = s.time.seen.filter (fun e => e.master == m.master) ++
          [⟨portNum p, s.markerOffset p m (ballStamp arr), m.master, m.cycle, ofTime96 m.btime⟩]) ∧
    (∀ (m : Marker) (arr res : Nat), s.ticking = true → s.ringUsable p = true → m.master ≠ s.node → s.endsForeign m = false →
      (s.onward p).isSome = true → m.check = markerCheck m → s.markerGood p m = false →
      ∃ t : State, exec (.markerReceived p m arr res) s = .next t ∧ t.time.seen = s.time.seen ∧ t.time.hadMark = s.time.hadMark ∧
        t.rd 0x801004 = s.rd 0x801004 ∧ t.rd (portObj p 1 5) = min (s.rd (portObj p 1 5) + 1) (2 ^ objBits (portObj p 1 5) - 1)) ∧
    (∀ (g : Segment) (res : Nat) (q : Port), s.ticking = true → s.ringUsable p = true → g.check = segCheck g → s.judging = false →
      g.tag = s.cycle % 256 → s.isOwn g.origin = false → s.isOwn g.endNode = false → s.onward p = some q → s.ringUsable q = true →
      (s.port q).wrapped = false →
      ∃ (u : State) (l : List SentSegment), u = (s.noteOrigin p g).noteResidence q res ∧
        l = ⟨g.num, g.tag, u.nowNs⟩ :: (u.port q).sentSegs.filter (fun e => decide (u.nowNs ≤ e.at_ + u.lossWindow q)) ∧
        exec (.segmentReceived p g res) s = .next ((u.setPort q { u.port q with sentSegs := l }).emit (.segment q { g with
          hops := (g.hops + 1) % 256, check := segCheck { g with hops := (g.hops + 1) % 256 } }))) ∧
    (∀ (g : Segment) (res : Nat), s.ticking = true → s.ringUsable p = true → g.check = segCheck g → s.judging = false → s.isOwn g.origin = true →
      exec (.segmentReceived p g res) s = .next ((s.noteOrigin p g).incSat 0x207002)) ∧
    (∀ (x : Express) (lane : Fin 2) (slot : Nat) (crc : Nat), s.ticking = true → s.ringUsable p = true → blockCrc (expressBits x) ≠ crc →
      exec (.expressReceived p ⟨lane, x, slot⟩ crc) s =
        .next (((s.countErrored p lane.val).incSat (portObj p 1 7)).raiseAt (s.clockTime (s.wordClock + slot)) (.ring p) 0x07 0x29 (expressTag x))) ∧
    (∀ (x : Express) (lane : Fin 2) (slot : Nat) (l : List ExpressSeen), s.ticking = true → s.ringUsable p = true →
      l = s.ring.seenX.filter (fun e => decide (s.nowNs ≤ e.at_ + 262144)) → l.any (sameExpress x) = false →
      ∃ t : State, exec (.expressReceived p ⟨lane, x, slot⟩ (blockCrc (expressBits x))) s = .next t ∧
        t.ring.seenX = ⟨x.event, x.source, x.time, s.nowNs, emissionNs (toTime96 s.time.now) x.time⟩ :: l) ∧
    (s.ticking = true → exec (.expressTokenRefill p) s = .next (s.setPort p { s.port p with tokens := min 8 ((s.port p).tokens + 1) })) ∧
    (∀ (x : Express) (rest : List Express) (q : Port), s.ticking = true → (s.port p).queue = x :: rest → s.txPort p = some q → q ≠ p →
      exec (.expressDeferredSend p) s = .next ((s.setPort p { s.port p with queue := rest }).sendExpressOn q x)) ∧
    (∀ (x : Express) (rest : List Express), s.ticking = true → (s.port p).queue = x :: rest → s.txPort p = some p → 0 < (s.port p).tokens →
      exec (.expressDeferredSend p) s = .next ((s.setPort p { s.port p with
        queue := rest, tokens := (s.port p).tokens - 1, sentX := 32 * s.time.beats :: (s.port p).sentX }).emit (.express p x))) ∧
    (∀ (lane : Fin 2) (header block : Nat), blockErrored header block = false → exec (.erroredBlock p ⟨lane, header, block⟩) s = .next s) ∧
    (∀ (lane : Fin 2) (header block : Nat), s.portLive p = true → s.monitoring = false → blockErrored header block = true →
      ∃ x : PortSt, exec (.erroredBlock p ⟨lane, header, block⟩) s = .next ((s.setPort p x).incSat (portObj p 1 0x0B)) ∧
        (if lane = 0 then x.errs0 else x.errs1) = 32 * s.time.beats ::
          (if lane = 0 then (s.port p).errs0 else (s.port p).errs1).filter (fun t => decide (32 * s.time.beats ≤ t + laneWindow)))

/-- FRAME_INGRESS of a frame with a wrong header check at a usable ring port counts it there, with the errored blocks of a failed frame check, and
journals it with reason 0x20, and does nothing else; a whole frame for one local port with no policer, room in its queue and no marking joins its
feed under the next buffer number, and its epoch drains one frame more; a failure report with no route, whose hops are not used up, is journalled
and not reported; a frame from a local port with no hops left for another hub is discarded with outcome 0x9, journalled and reported. EGRESS_SELECT
on a free port in service, no higher class having a candidate, sends the candidate of the class where it is eligible: it leaves its feed, and the
frame goes out, rewritten on a ring port; a port that is sending a frame starts none. FENCE_END removes the fences of a destination for which no old
frame is left and whose time is over, and does nothing else; those that are not over stay. -/
def Obligations.FramesEnterAndLeaveTheSwitch : Prop :=
  ∀ s : State,
    (∀ (port : Nat) (f : Frame), s.ticking = true → port < 4 → s.portUsable (portOf port) = true → headerCheck f ≠ f.hcheck →
      exec (.frameIngress port f) s = .next ((s.countArrival port f).raise .swx 0x02 0x20 (switchTag f 0))) ∧
    (∀ (port p : Nat) (f : Frame), s.ticking = true → 4 ≤ port → port < 9 → s.quiet f = false → headerCheck f = f.hcheck → frameCheck f = f.fcheck →
      f.src ≠ 0 → f.src ≠ 0x3FF → f.type < 0xA → s.lookup port f = .inr [p] → 4 ≤ p → s.feature 5 = false → s.feature 3 = false →
      s.egressIsolated p = false → s.admits (queueOf p f.cls) (frameCells f.len) = true →
      ∃ t : State, exec (.frameIngress port f) s = .next t ∧
        t.feed (queueOf p f.cls) port = s.feed (queueOf p f.cls) port ++ [⟨f, port, p, f.cls, s.epoch, s.switch.nextId, s.nowNs⟩] ∧
        t.switch.nextId = s.switch.nextId + 1 ∧ t.drainOf s.epoch = s.drainOf s.epoch + 1 ∧ t.journal = s.journal ∧ t.out = s.out) ∧
    (∀ (port oc : Nat) (f : Frame), s.ticking = true → 4 ≤ port → port < 9 → s.quiet f = false → f.type = 0x9 →
      f.src ≠ 0 → f.src ≠ 0x3FF → f.hops ≠ 0 → s.lookup port f = .inl oc →
      exec (.frameIngress port f) s = .next (s.raise .swx 0x02 (0x10 + oc) (switchTag f 0))) ∧
    (∀ (port : Nat) (f : Frame), s.ticking = true → 4 ≤ port → port < 9 → s.quiet f = false → isJournalFwd f = false → f.type ≠ 0x9 →
      f.src ≠ 0 → f.src ≠ 0x3FF → f.hops = 0 → s.destined f = false →
      exec (.frameIngress port f) s = .next ((s.raise .swx 0x02 0x19 (switchTag f 0)).sendReport
        ((s.raise .swx 0x02 0x19 (switchTag f 0)).failureReport f 0x9))) ∧
    (∀ (port tx off k : Nat) (x : FrameCopy) (u v : State), s.ticking = true → port < 9 → k < 8 → u = s.settleAir (s.at10ps off) →
      u.egressPort port = some tx → u.egressIsolated tx = false → u.sending tx (s.at10ps off) = false →
      (∀ j, k < j → j < 8 → u.findCandidate (queueOf port j) ((u.queueCopies (queueOf port j)).length + 1) = (u, none)) →
      u.findCandidate (queueOf port k) ((u.queueCopies (queueOf port k)).length + 1) = (v, some x) → v.eligible (queueOf port k) tx off x = true →
      ∃ t : State, exec (.egressSelect port off) s = .next t ∧ t = v.sendCopy (queueOf port k) tx off x ∧
        (∀ y ∈ t.feed (queueOf x.egress x.cls) x.ing, y.id ≠ x.id) ∧
        (mget [] v.switch.heldWraps tx = [] → t.out = .frame tx (if tx < 4 then forwardFrame x.ing x.frame else x.frame) :: v.out)) ∧
    (∀ (port tx off : Nat) (u : State), s.ticking = true → port < 9 → u = s.settleAir (s.at10ps off) → u.egressPort port = some tx →
      u.sending tx (s.at10ps off) = true → exec (.egressSelect port off) s = .next u) ∧
    (∀ d : Nat, s.ticking = true →
      (∀ f ∈ s.switch.fences, f.dst = d → (∀ q < 72, ∀ c ∈ s.chargedCopies q, c.frame.dst = d → f.first ≤ c.id) ∧
        f.at_ + 1000 * s.cell 0x300005 ≤ s.nowNs) →
      exec (.fenceEnd d) s = .next { s with switch := { s.switch with fences := s.switch.fences.filter (fun g => g.dst != d) } }) ∧
    (∀ d : Nat, s.ticking = true → (∀ f ∈ s.switch.fences, f.dst = d → s.fenceOver f = false) → exec (.fenceEnd d) s = .next s)

/-- EPOCH_TABLE_UPDATE outside a batch, with the next epoch drained and the entry's spare slot free, makes the value current and advances the epoch by
one modulo 4; inside an open batch of fewer than 256 entries it waits there; where a spare slot or the next epoch still drains it is refused as
busy. TABLE_BATCH_BEGIN opens a batch, refused as busy where one is open; TABLE_BATCH_COMMIT closes an empty batch without an epoch, and one of a
single entry with its value current under one epoch advance; TABLE_BATCH_ABANDON drops what waits. CLEAR_SWITCH_COUNTERS takes the counts of queues,
policers and SEG_SHORT to zero and 3.000.01 to the free cells. -/
def Obligations.TableUpdatesAdvanceTheEpoch : Prop :=
  ∀ (s b : State) (h : OdHdr), b = s.odBegun h →
    (∀ obj v : Nat, epochObj obj = true → v < 2 ^ objBits obj → s.numPasses h obj v = true → b.switch.batch = none →
      b.drainOf ((b.epoch + 1) % 4) = 0 → b.spareDrains obj = false →
      ∃ t : State, exec (.epochTableUpdate h obj v) s = .next (t.numDone b h obj v false) ∧ t.rd obj = v ∧ t.epoch = (b.epoch + 1) % 4 ∧
        (∀ o, o ≠ obj → o ≠ 0x300002 → o ≠ 0x300009 → t.rd o = b.rd o)) ∧
    (∀ (obj v : Nat) (l : List (Nat × Nat)), epochObj obj = true → v < 2 ^ objBits obj → s.numPasses h obj v = true → b.switch.batch = some l →
      l.length < 256 →
      exec (.epochTableUpdate h obj v) s =
        .next (({ b with switch := { b.switch with batch := some (l ++ [(obj, v)]) } }).numDone b h obj v false)) ∧
    (∀ obj v : Nat, epochObj obj = true → v < 2 ^ objBits obj → s.numPasses h obj v = true → b.switch.batch = none →
      b.drainOf ((b.epoch + 1) % 4) ≠ 0 ∨ b.spareDrains obj = true →
      exec (.epochTableUpdate h obj v) s = .next (b.odRefused h obj 0x06 none)) ∧
    (s.numPasses h 0x300007 1 = true →
      exec (.tableBatchBegin h) s = .next (if b.switch.batch = none then
        ({ b with switch := { b.switch with batch := some [] } }).numDone b h 0x300007 1 false else b.odRefused h 0x300007 0x06 none)) ∧
    (s.numPasses h 0x300007 2 = true → b.switch.batch = some [] →
      exec (.tableBatchCommit h) s = .next (({ b with switch := { b.switch with batch := none } }).numDone b h 0x300007 2 false)) ∧
    (∀ o v : Nat, s.numPasses h 0x300007 2 = true → b.switch.batch = some [(o, v)] → epochObj o = true → b.drainOf ((b.epoch + 1) % 4) = 0 →
      b.spareDrains o = false →
      ∃ t : State, exec (.tableBatchCommit h) s = .next (t.numDone b h 0x300007 2 false) ∧ t.switch.batch = none ∧ t.rd o = v ∧
        t.epoch = (b.epoch + 1) % 4) ∧
    (s.numPasses h 0x300007 3 = true →
      exec (.tableBatchAbandon h) s = .next (({ b with switch := { b.switch with batch := none } }).numDone b h 0x300007 3 false)) ∧
    (s.numPasses h 0x300008 1 = true →
      ∃ t : State, exec (.clearSwitchCounters h) s = .next (t.numDone b h 0x300008 1 false) ∧ t.rd 0x360000 = 0 ∧ t.rd 0x300009 = 0 ∧
        t.rd 0x300001 = b.freeCells ∧ (∀ q < 72, ∀ k ∈ [7, 8, 9, 0xA], t.rd (queueObj q k) = 0) ∧
        (∀ q < 64, ∀ k ∈ [8, 9, 0xA], t.rd (0x350000 + 0x100 * q + k) = 0) ∧ t.switch = b.switch)

/-- A whole posted write frame of 1 to 2,048 bytes for space 0x01 that lies inside the 64 KiB of the input image and covers no record word writes its
bytes into both banks of the image, and does nothing else. A whole read request for space 0x02 is answered with a read response that carries the
bytes of the completed bank of the output image. A whole acknowledged write of such bytes to space 0x02 writes both banks and is answered with
outcome 0; a read request or an acknowledged write past the image and its map, or to a space that is not listed, is answered with outcome 0x3 or 0x2
and changes nothing else; a posted write to a space that is not listed is discarded with outcome 0x2. -/
def Obligations.FabricRequestsAreServed : Prop :=
  ∀ (s : State) (f : Frame), 0 < f.len → f.len ≤ 2048 →
    (s.serves f 0 = true → fabSpace f.addr = 0x01 → fabOff f.addr + f.len ≤ 0x10000 → s.recordsIn .input (fabOff f.addr) f.len = [] →
      exec (.fabricPostedWrite f) s = .next (s.setImage .input
        { s.seq.input with
          working := memWrite s.seq.input.working (fabOff f.addr) f.payload
          completed := memWrite s.seq.input.completed (fabOff f.addr) f.payload })) ∧
    (s.serves f 1 = true → fabSpace f.addr = 0x02 → fabOff f.addr + f.len ≤ 0x10000 →
      exec (.fabricReadRequest f) s = .next (s.sendFrame 4 (s.response f 0x2 0 (memRead s.seq.output.completed (fabOff f.addr) f.len)))) ∧
    (∀ t : State, s.serves f 3 = true → fabSpace f.addr = 0x02 → fabOff f.addr + f.len ≤ 0x10000 → s.recordsIn .output (fabOff f.addr) f.len = [] →
      t = s.setImage .output
        { s.seq.output with
          working := memWrite s.seq.output.working (fabOff f.addr) f.payload
          completed := memWrite s.seq.output.completed (fabOff f.addr) f.payload } →
      exec (.fabricAcknowledgedWrite f) s = .next (t.sendFrame 4 (t.response f 0x4 0 []))) ∧
    (s.serves f 1 = true → (fabSpace f.addr = 0x01 ∨ fabSpace f.addr = 0x02) → 0x11000 < fabOff f.addr + f.len →
      exec (.fabricReadRequest f) s = .next (s.sendFrame 4 (s.response f 0x2 0x3 []))) ∧
    (s.serves f 3 = true → 0x08 < fabSpace f.addr → fabSpace f.addr < 0x3F →
      exec (.fabricAcknowledgedWrite f) s = .next (s.sendFrame 4 (s.response f 0x4 0x2 []))) ∧
    (s.serves f 0 = true → 0x08 < fabSpace f.addr → fabSpace f.addr < 0x3F →
      exec (.fabricPostedWrite f) s = .next (s.discardFrame f 0 0x2 0x12))

/-- A whole acknowledged write into the input or the output image that covers any byte of a record of the active bank is answered with outcome 0x4,
record word protected, and writes no byte of either bank of either image: the state is otherwise that before the response is sent. A posted one is
discarded with that outcome. A read of any bytes of an image, record words among them, returns those of the completed bank. -/
def Obligations.RecordWordsAreProtected : Prop :=
  ∀ (s : State) (f : Frame) (sel : ImageSel), 0 < f.len → f.len ≤ 2048 → fabSpace f.addr = (if sel = .input then 0x01 else 0x02) →
    fabOff f.addr + f.len ≤ 0x10000 →
    (s.recordsIn sel (fabOff f.addr) f.len ≠ [] →
      (s.serves f 3 = true → exec (.fabricAcknowledgedWrite f) s = .next (s.sendFrame 4 (s.response f 0x4 0x4 []))) ∧
      (s.serves f 0 = true → exec (.fabricPostedWrite f) s = .next (s.discardFrame f 0 0x4 0x14))) ∧
    (s.serves f 1 = true →
      exec (.fabricReadRequest f) s = .next (s.sendFrame 4 (s.response f 0x2 0 (memRead (s.image sel).completed (fabOff f.addr) f.len))))

/-- A whole request of 1 to 2,048 bytes for space 0x3F in Test is answered: a read request with a read response of some outcome and some data, an
acknowledged write with an acknowledgement of some outcome, and a posted write is taken or discarded with an outcome other than 0; nothing else
changes but the model's counter of free values (model's choice, log entry 46). In every other mode it is refused with outcome 0x5: a read request
and an acknowledged write are answered with it, a posted write is discarded with it. -/
def Obligations.UndocumentedSpaceAnswers : Prop :=
  ∀ (s : State) (f : Frame), 0 < f.len → f.len ≤ 2048 → fabSpace f.addr = 0x3F →
    (s.mode = .test →
      (s.serves f 0 = true → ∃ (t : State) (oc : Nat), t = { s with free := t.free } ∧ oc < 16 ∧
        exec (.fabricPostedWrite f) s = .next (if oc = 0 then t else t.discardFrame f 0 oc (0x10 + oc))) ∧
      (s.serves f 1 = true → ∃ (t : State) (oc : Nat) (data : List Byte), t = { s with free := t.free } ∧ oc < 16 ∧
        exec (.fabricReadRequest f) s = .next (t.sendFrame 4 (t.response f 0x2 oc data))) ∧
      (s.serves f 3 = true → ∃ (t : State) (oc : Nat), t = { s with free := t.free } ∧ oc < 16 ∧
        exec (.fabricAcknowledgedWrite f) s = .next (t.sendFrame 4 (t.response f 0x4 oc [])))) ∧
    (s.mode ≠ .test →
      (s.serves f 0 = true → exec (.fabricPostedWrite f) s = .next (s.discardFrame f 0 0x5 0x15)) ∧
      (s.serves f 1 = true → exec (.fabricReadRequest f) s = .next (s.sendFrame 4 (s.response f 0x2 0x5 []))) ∧
      (s.serves f 3 = true → exec (.fabricAcknowledgedWrite f) s = .next (s.sendFrame 4 (s.response f 0x4 0x5 []))))

/-- A whole write acknowledgement with a tag of the bridge ends the write piece that waits for it: with outcome 0 the piece is gone and nothing else
happens, with another outcome the failed write is also logged. One with a tag of another port changes nothing. A whole failure report with a tag of
the bridge ends the write piece that it is for and logs it with the address that the report carries; one for a forwarded journal record is counted
in D.010.03. SEG_SHORT is counted in 3.600.00, its segment and cycle read in 3.600.01 and 3.600.02, and it is journalled once per segment and cycle:
with reason 0x09 and the tag of the segment and cycle where it is not among the last ones, and not again where it is. An Ethernet tunnel frame
leaves at the Ethernet port with its payload. -/
def Obligations.AnswersReachTheirRequester : Prop :=
  ∀ (s : State) (f : Frame),
    (∀ p : SentPiece, s.endsHere f 0x4 = true → f.tag / 4096 = 6 → s.bridge.pieces.find? (fun p => p.tag == f.tag && p.acked) = some p →
      exec (.writeAcknowledgement f) s = .next (
        let t := { s with bridge := { s.bridge with pieces := s.bridge.pieces.filter (fun x => x.tag != f.tag) } }
        if f.outcome = 0 then t else t.writeFailed f.tag p.window p.addr f.outcome)) ∧
    (s.endsHere f 0x4 = true → f.tag / 4096 ≠ 6 → exec (.writeAcknowledgement f) s = .next s) ∧
    (∀ p : SentPiece, s.endsHere f 0x9 = true → f.tag / 4096 = 6 → s.bridge.held.any (fun h => h.pieces.any (fun p => p.answer.isNone && p.tag == f.tag)) = false →
      s.bridge.pieces.find? (fun p => p.tag == f.tag) = some p →
      exec (.failureReport f) s = .next (({ s with bridge := { s.bridge with pieces := s.bridge.pieces.filter (fun x => x.tag != f.tag) } }).writeFailed
        f.tag p.window (beField f.payload 8 8) f.outcome)) ∧
    (s.endsHere f 0x9 = true → f.tag = 0x7D10 → exec (.failureReport f) s = .next (s.inc 0xD01003)) ∧
    (∀ m : List Byte, s.ticking = true → beField m 0 2 = 0x0630 →
      ∃ t : State, exec (.segShort m) s = .next t ∧ t.rd 0x360001 = beField m 12 2 % 4096 ∧ t.rd 0x360002 = beField m 4 8 ∧
        t.rd 0x360000 = (s.inc 0x360000).rd 0x360000 ∧ (beField m 12 2 % 4096, beField m 4 8) ∈ t.switch.shorts ∧
        ((beField m 12 2 % 4096, beField m 4 8) ∈ s.switch.shorts → t.journal = s.journal) ∧
        ((beField m 12 2 % 4096, beField m 4 8) ∉ s.switch.shorts → ∃ u : State, u.journal = s.journal ∧ u.time = s.time ∧
          t = u.raise .swx 0x01 0x09 (beField m 12 2 % 4096 * 2 ^ 20 + beField m 4 8 % 256 * 2 ^ 12))) ∧
    (s.endsHere f 0x8 = true → exec (.ethernetTunnel f) s = .next (s.emit (.ethernet f.payload)))

/-- On a hub whose cluster of the pawn is not isolated: a whole read request of 4 or 8 bytes at offset 0x00 of a pawn's FIFO port, where no COPY of the
active bank reads that IN FIFO, pops one word and answers with it: four bytes carry the word, eight also its state, its end flag and a valid bit;
with the FIFO empty nothing is popped and zeros are answered. A posted write of four or eight bytes at offset 0x00 or of four at 0x04, where no COPY
writes that OUT FIFO and it is not full, adds one word, the low one, without or with the end flag, that is visible at once; on a full FIFO the write
is counted in 5.0pp.12 and discarded with outcome 0x5. A posted write of four aligned bytes to space 0x05 writes one word of the shadow program, at
the same index from either half, and no other state. -/
def Obligations.PawnSpacesAreServed : Prop :=
  ∀ (s : State) (f : Frame) (q : Nat), q < 128 → s.partIsolated (0x20 + q / 16) = false →
    (s.serves f 1 = true → fabSpace f.addr = 0x03 → fabOff f.addr = 0x100 * q → f.len = 4 ∨ f.len = 8 → s.endScheduled q false = false →
      exec (.fifoPortPop f) s = .next (
        if (s.pawn q).inCount = 0 then s.sendFrame 4 (s.response f 0x2 0 (natLE f.len 0))
        else
          let x := (s.pawn q).inF.front
          let t := s.setPawn q { s.pawn q with inF := (s.pawn q).inF.pop }
          t.sendFrame 4 (t.response f 0x2 0 (natLE f.len (x.word.toNat +
            (if f.len = 8 then stateCode x.state * 2 ^ 32 + b2n x.last * 2 ^ 34 + 2 ^ 35 else 0)))))) ∧
    (s.serves f 0 = true → fabSpace f.addr = 0x03 → fabOff f.addr = 0x100 * q → f.len = 4 ∨ f.len = 8 → s.endScheduled q true = false →
      exec (.fifoPortWrite f) s = .next (
        if (s.pawn q).outF.full then (s.inc (pawnObj q 0x12)).discardFrame f 0 0x5 0x15
        else s.setPawn q { s.pawn q with
          outF := { (s.pawn q).outF.write ⟨BitVec.ofNat 32 (leNat f.payload), .fresh, false, 0⟩ with vwp := (s.pawn q).outF.vwp + 1 } })) ∧
    (s.serves f 0 = true → fabSpace f.addr = 0x03 → fabOff f.addr = 0x100 * q + 4 → f.len = 4 → s.endScheduled q true = false →
      (s.pawn q).outF.full = false →
      exec (.fifoPortWriteEnd f) s = .next (s.setPawn q { s.pawn q with
          outF := { (s.pawn q).outF.write ⟨BitVec.ofNat 32 (leNat f.payload), .fresh, true, 0⟩ with vwp := (s.pawn q).outF.vwp + 1 } })) ∧
    (∀ k : Nat, k < 128 → s.serves f 0 = true → fabSpace f.addr = 0x05 → fabOff f.addr = 0x200 * q + 4 * k → f.len = 4 →
      exec (.instructionShadowWrite f) s = .next (s.setPawn q { s.pawn q with
        shadow := mset haltWord (s.pawn q).shadow (k % 64) (BitVec.ofNat 32 (leField f.payload 0 4)) }))

/-- A pawn that fetches NOP, LDA, LDB, LDC, SHI or CRCS acts on its side field in the first execution and completes: the next word follows, and only the
named registers change. LDA and LDB take the immediate, the low or the high half of SH, or the other counter; LDC writes the low half, the high half
or the whole of CMP, or takes SH; SHI shifts the level of its slot into SH, counts it in SC and sets Z to its complement; CRCS advances the low half
of CMP by one bit of SH, with Z set when the result is zero. -/
def Obligations.PawnArithmeticCompletes : Prop :=
  ∀ (s u : State) (q : Fin 128) (c : PawnCycle) (p : PawnSt), c = s.nextCycle q.val false none → u = s.sideFirst c → p = u.pawn q.val →
    (s.fetches q.val 0x00 = true → exec (.nop q) s = .next (u.setPawn q.val (p.ended c.levels (p.pc + 1)))) ∧
    (s.fetches q.val 0x05 = true → exec (.lda q) s = .next (u.setPawn q.val { p.ended c.levels (p.pc + 1) with
      ca := if condOf c.w = 0 then BitVec.ofNat 16 (bits c.w 15 0) else if condOf c.w = 1 then p.sh.extractLsb' 0 16
        else if condOf c.w = 2 then p.sh.extractLsb' 16 16 else p.cb })) ∧
    (s.fetches q.val 0x06 = true → exec (.ldb q) s = .next (u.setPawn q.val { p.ended c.levels (p.pc + 1) with
      cb := if condOf c.w = 0 then BitVec.ofNat 16 (bits c.w 15 0) else if condOf c.w = 1 then p.sh.extractLsb' 0 16
        else if condOf c.w = 2 then p.sh.extractLsb' 16 16 else p.ca })) ∧
    (s.fetches q.val 0x07 = true → exec (.ldc q) s = .next (u.setPawn q.val { p.ended c.levels (p.pc + 1) with
      cmp := if condOf c.w = 0 then p.cmp.extractLsb' 16 16 ++ BitVec.ofNat 16 (bits c.w 15 0)
        else if condOf c.w = 1 then BitVec.ofNat 16 (bits c.w 15 0) ++ p.cmp.extractLsb' 0 16
        else if condOf c.w = 2 then p.sh else BitVec.ofNat 32 (bits c.w 15 0) })) ∧
    (s.fetches q.val 0x0C = true → exec (.shi q) s = .next (u.setPawn q.val { p.ended c.levels (p.pc + 1) with
      sh := if c.w.testBit 24 then BitVec.ofBool (c.levels.testBit (slotOf c.w)) ++ p.sh.extractLsb' 1 31
        else p.sh.extractLsb' 0 31 ++ BitVec.ofBool (c.levels.testBit (slotOf c.w))
      sc := p.sc + 1, z := !(c.levels.testBit (slotOf c.w)), shiftIn := true })) ∧
    (s.fetches q.val 0x10 = true →
      ∃ r : BitVec 16, exec (.crcs q) s = .next (u.setPawn q.val { p.ended c.levels (p.pc + 1) with
          cmp := p.cmp.extractLsb' 16 16 ++ r, z := decide (r = 0) }) ∧
        (c.w.testBit 25 = false → r = ((s.pawn q.val).cmp.extractLsb' 0 16 <<< 1) ^^^
          (if ((s.pawn q.val).cmp.getLsbD 15 != (if c.w.testBit 24 then (s.pawn q.val).sh.getLsbD 0 else (s.pawn q.val).sh.getLsbD 31))
            then BitVec.ofNat 16 (bits c.w 15 0) else 0)) ∧
        (c.w.testBit 25 = true → r = ((s.pawn q.val).cmp.extractLsb' 0 16 >>> 1) ^^^
          (if ((s.pawn q.val).cmp.getLsbD 0 != (if c.w.testBit 24 then (s.pawn q.val).sh.getLsbD 0 else (s.pawn q.val).sh.getLsbD 31))
            then BitVec.ofNat 16 (bits c.w 15 0) else 0)))

/-- A pawn that fetches JMP, JCC, DJA, DJB or CMPJ acts on its side field in the first execution and completes. JMP goes to its target. JCC goes there
where the condition on Z, E, T, the visible OUT FIFO words or the room in the IN FIFO holds, to the next word otherwise. DJA and DJB decrement their
counter modulo 65,536, set Z where it is then zero, and jump where it is not. CMPJ sets Z where SH equals CMP and jumps where its unsigned relation
or bit test of SH against CMP holds. -/
def Obligations.PawnJumpsComplete : Prop :=
  ∀ (s u : State) (q : Fin 128) (c : PawnCycle) (p : PawnSt) (next : Bool → BitVec 6), c = s.nextCycle q.val false none → u = s.sideFirst c →
    p = u.pawn q.val → (∀ b, next b = if b then BitVec.ofNat 6 (bits c.w 5 0) else p.pc + 1) →
    (s.fetches q.val 0x01 = true → exec (.jmp q) s = .next (u.setPawn q.val (p.ended c.levels (BitVec.ofNat 6 (bits c.w 5 0))))) ∧
    (s.fetches q.val 0x02 = true → ∀ x : PawnSt, x = s.pawn q.val →
      exec (.jcc q) s = .next (u.setPawn q.val (p.ended c.levels (next
        (match condOf c.w with
          | 0 => x.z | 1 => !x.z | 2 => x.e | 3 => !x.e | 4 => x.t | 5 => !x.t
          | 6 => decide (x.outF.vwp ≠ x.outF.rp)
          | _ => decide ((x.inF.wp - x.inF.rp).toNat ≠ 16)))))) ∧
    (s.fetches q.val 0x03 = true → ∀ n : BitVec 16, n = (s.pawn q.val).ca - 1 →
      exec (.dja q) s = .next (u.setPawn q.val { p.ended c.levels (next (decide (n ≠ 0))) with ca := n, z := decide (n = 0) })) ∧
    (s.fetches q.val 0x04 = true → ∀ n : BitVec 16, n = (s.pawn q.val).cb - 1 →
      exec (.djb q) s = .next (u.setPawn q.val { p.ended c.levels (next (decide (n ≠ 0))) with cb := n, z := decide (n = 0) })) ∧
    (s.fetches q.val 0x0F = true → ∀ a b : BitVec 32, a = (s.pawn q.val).sh → b = (s.pawn q.val).cmp →
      exec (.cmpj q) s = .next (u.setPawn q.val { p.ended c.levels (next
        (match condOf c.w with
          | 0 => decide (a = b) | 1 => decide (a ≠ b) | 2 => a.ult b | 3 => b.ule a | 4 => b.ult a | 5 => a.ule b
          | 6 => decide (a &&& b ≠ 0)
          | _ => decide (a &&& b = 0))) with z := decide (p.sh = p.cmp) }))

/-- A pawn that fetches WAITP, WAITE, PUSH, PULL, TSTMP or SYNC completes in the cycle in which its condition holds (the level, the edge between this
cycle and the last (none in cycle 0 of a new phase), room for its words, a visible word, its group at the barrier), with T clear; WAITE sets E, PUSH
writes SH with the end flag and clears SC, PULL loads the word with Z its end flag and H set by a word that is not fresh. Where it does not hold and
the execution count is below the limit of its timeout register, the pawn stalls. WAITB stalls before its target beat. PAWN_TIMEOUT at the limit
completes WAITP and WAITE with T set, E cleared by WAITE, counted in 5.0pp.11. -/
def Obligations.PawnWaitsCompleteStallOrTimeOut : Prop :=
  ∀ (s u : State) (q : Fin 128) (c : PawnCycle) (p : PawnSt), c = s.nextCycle q.val false none → u = s.sideFirst c → p = u.pawn q.val →
    (∀ n : Nat, n ∈ [0x08, 0x09, 0x0D, 0x0E, 0x11] → s.fetches q.val n = true → (s.pawn q.val).execs < (s.pawn q.val).limit (toOf c.w) →
      (n = 0x08 → exec (.waitp q) s = .next (u.setPawn q.val
        (if c.levels.testBit (slotOf c.w) = (condOf c.w == 1) then { p.ended c.levels (p.pc + 1) with t := false } else p.waited c.levels))) ∧
      (n = 0x09 → exec (.waite q) s = .next (u.setPawn q.val
        (if edgeSeen (condOf c.w) (((s.pawn q.val).history c.levels).testBit (slotOf c.w)) (c.levels.testBit (slotOf c.w)) = true
          then { p.ended c.levels (p.pc + 1) with e := true, t := false } else p.waited c.levels))) ∧
      (n = 0x0D → (s.pawn q.val).inF.full = true → exec (.push q) s = .next (u.setPawn q.val (p.waited c.levels))) ∧
      (n = 0x0E → (s.pawn q.val).outCount = 0 → exec (.pull q) s = .next (u.setPawn q.val (p.waited c.levels))) ∧
      (n = 0x11 → (s.pawn q.val).inCount = 16 → exec (.tstmp q) s = .next (u.setPawn q.val (p.waited c.levels)))) ∧
    (s.fetches q.val 0x0D = true → (s.pawn q.val).inF.full = false → c.w.testBit 0 = false →
      exec (.push q) s = .next (u.setPawn q.val { p.ended c.levels (p.pc + 1) with
        inF := p.inF.write ⟨p.sh, if p.h then .held else .fresh, false, c.edge⟩, sc := 0, t := false })) ∧
    (s.fetches q.val 0x0D = true → (s.pawn q.val).inF.full = false → c.w.testBit 0 = true →
      ∃ t : State, exec (.push q) s = .next t ∧ (t.pawn q.val).inF = p.inF.write ⟨p.sh, if p.h then .held else .fresh, true, c.edge⟩ ∧
        t.rd (pawnObj q.val 0x10) = (u.rd (pawnObj q.val 0x10) + 1) % 65536) ∧
    (s.fetches q.val 0x0E = true → (s.pawn q.val).outCount ≠ 0 →
      exec (.pull q) s = .next (u.setPawn q.val { p.ended c.levels (p.pc + 1) with
        outF := p.outF.pop, sh := p.outF.front.word, sc := 0, h := p.h || decide (p.outF.front.state ≠ .fresh), z := p.outF.front.last, t := false })) ∧
    (s.fetches q.val 0x11 = true → (s.pawn q.val).inCount < 16 → c.w.testBit 0 = false → c.w.testBit 1 = false →
      exec (.tstmp q) s = .next (u.setPawn q.val { p.ended c.levels (p.pc + 1) with
        inF := p.inF.write ⟨BitVec.ofNat 32 (s.fabricNs c.sj / 2), if p.h then .held else .fresh, false, c.edge⟩, t := false })) ∧
    (∀ v w : State, s.fetches q.val 0x13 = true → v = s.meetBarrier c → w = v.sideFirst c →
      ((s.pawn q.val).barrier = none → (∀ m ∈ s.groupOf q.val, m = q.val ∨ s.atSync m c.sj = true) → (v.pawn q.val).barrier = some c.sj) ∧
      (∀ e, (v.pawn q.val).barrier = some e → e ≤ c.sj →
        exec (.sync q) s = .next (w.setPawn q.val { (w.pawn q.val).ended c.levels ((w.pawn q.val).pc + 1) with t := false })) ∧
      ((v.pawn q.val).barrier = none → (v.pawn q.val).execs < (v.pawn q.val).limit (toOf c.w) →
        exec (.sync q) s = .next (w.setPawn q.val ((w.pawn q.val).waited c.levels)))) ∧
    (s.fetches q.val 0x0A = true → (s.pawn q.val).execs ≠ 0 → condOf c.w = 1 →
      exec (.waitb q) s = .next (s.setPawn q.val
        (if unitsPerBeat * ((s.pawn q.val).issue + bits c.w 13 0) ≤ c.sj then { (s.pawn q.val).ended c.levels ((s.pawn q.val).pc + 1) with t := false }
         else (s.pawn q.val).waited c.levels))) ∧
    (s.timesOut q.val = true → s.fetches q.val 0x08 = true →
      ∃ t : State, exec (.pawnTimeout q) s = .next t ∧ t.pawn q.val = { (s.pawn q.val).ended c.levels ((s.pawn q.val).pc + 1) with t := true } ∧
        t.rd (pawnObj q.val 0x11) = (s.inc (pawnObj q.val 0x11)).rd (pawnObj q.val 0x11)) ∧
    (s.timesOut q.val = true → s.fetches q.val 0x09 = true →
      ∃ t : State, exec (.pawnTimeout q) s = .next t ∧
        t.pawn q.val = { (s.pawn q.val).ended c.levels ((s.pawn q.val).pc + 1) with t := true, e := false })

/-- A pawn that fetches SHO drives its slot with the bit that leaves SH, shifts SH and counts it in SC; what a pawn drives is due at the pin 32 ns after
the effect edge. EVT raises a sequencer event line of its cluster, raises at one clock edge counting as one, or a reflex line 30 ns after its effect
edge, and neither where its cluster is isolated. SWAP without a pending swap goes to the next word; with one that its cycle sees and that gives no
pin two output slots, the shadow program and the staged slots become active, the swap is counted and no longer pending, and the PC is the target.
HALT without a pending swap halts the pawn at the next word. An illegal word faults the pawn where it stands and is journalled with reason 0x54 and
the time of its edge. -/
def Obligations.PawnOutputsEventsSwapAndHalt : Prop :=
  ∀ (s u : State) (q : Fin 128) (c : PawnCycle) (p : PawnSt), c = s.nextCycle q.val false none → u = s.sideFirst c → p = s.pawn q.val →
    (s.fetches q.val 0x0B = true → ∀ b : Bool, b = (if c.w.testBit 24 then p.sh.getLsbD 0 else p.sh.getLsbD 31) →
      exec (.sho q) s = .next (((s.sideCodes c (some (slotOf c.w))).driveSlot q.val (slotOf c.w) c.edge b).setPawn q.val { p.ended c.levels (p.pc + 1) with
        sh := if c.w.testBit 24 then p.sh >>> 1 else p.sh <<< 1, sc := p.sc + 1, shiftIn := false })) ∧
    (∀ (slot edge : Nat) (lvl : Bool), slotOut (p.slot slot) = true → s.partIsolated (0x20 + q.val / 16) = false →
      s.driveSlot q.val slot edge lvl =
        { s with pins := { s.pins with due := dueInsert s.pins.due (ceilDiv edge unitsPerNs + 32, .drive (slotPin q.val (p.slot slot)) lvl) } }) ∧
    (s.fetches q.val 0x12 = true → s.partIsolated (0x20 + q.val / 16) = false → c.w.testBit 8 = true →
      exec (.evt q) s = .next ((u.setPawn q.val (p.ended c.levels (p.pc + 1))).raiseSeqLine (q.val / 16) (bits c.w 2 0) c.edge)) ∧
    (s.fetches q.val 0x12 = true → s.partIsolated (0x20 + q.val / 16) = true → exec (.evt q) s = .next (u.setPawn q.val (p.ended c.levels (p.pc + 1)))) ∧
    (s.fetches q.val 0x12 = true → s.partIsolated (0x20 + q.val / 16) = false → c.w.testBit 8 = false → s.pins.coreLoss = false →
      exec (.evt q) s = .next ((u.setPawn q.val (p.ended c.levels (p.pc + 1))).pinLater (ceilDiv c.edge unitsPerNs + 30)
        (.line (bits c.w 5 0)))) ∧
    (s.fetches q.val 0x14 = true → s.swapPending q.val = false → exec (.swap q) s = .next (u.setPawn q.val (p.ended c.levels (p.pc + 1)))) ∧
    (s.fetches q.val 0x14 = true → s.swapPending q.val = true → p.pendAt ≤ c.sj → s.slotClash q.val p.nextSlots = false →
      ∃ t : State, exec (.swap q) s = .next t ∧ t.rd (pawnObj q.val 0x23) = 0 ∧
        t.rd (pawnObj q.val 0x24) = (u.inc (pawnObj q.val 0x24)).rd (pawnObj q.val 0x24) ∧ (t.pawn q.val).imem = p.shadow ∧
        (t.pawn q.val).slots = p.stSlots.getD p.slots ∧ (t.pawn q.val).divv = p.stDiv.getD p.divv ∧
        (t.pawn q.val).pc = BitVec.ofNat 6 (targetOf c.w) ∧ (t.pawn q.val).run = .running ∧ (t.pawn q.val).shadow = p.shadow ∧
        (t.pawn q.val).sh = p.sh ∧ (t.pawn q.val).inF = p.inF ∧ (t.pawn q.val).outF = p.outF) ∧
    (s.fetches q.val 0x15 = true → s.swapPending q.val = false →
      exec (.halt q) s = .next (u.setPawn q.val { p.ended c.levels (p.pc + 1) with run := .halted })) ∧
    (s.fetchesIllegal q.val = true →
      exec (.illegalInstruction q) s = .next ((s.setPawn q.val { p with hist := c.levels, cyc := p.cyc + 1, execs := 0, run := .faulted }).raiseAt
        (s.fabricTicks c.edge) (.pwn (clusterOf q)) 0x05 0x54 (q.val * 2 ^ 24 + p.pc.toNat * 2 ^ 16 + p.sc.toNat)))

/-- A write to 5.0pp.20 while a bank is active arms the swap for its cycle: 5.0pp.23 reads 1 and the answer says staged. With no bank active the swap is
pending at once; of a halted pawn it is made on the write, and one that would give a pin two output slots is refused with 0x04, 5.0pp.23 reads 3 and
the program stays. A write of 1 to 5.0pp.22 withdraws an armed or a pending swap. A forced swap that is pending puts the shadow into effect at the
pawn's next cycle start, at the entry address, with SC zero. A legal word written to 5.0pp.25 with none queued is queued unless the active bank
schedules the cluster in Run or Repair, which is refused with 0x02; with one queued it is refused with 0x06; an illegal word is refused with 0x04.
An injected LDA of an immediate, in a cycle that begins after its write, loads CA, leaves the PC, and 5.0pp.26 reads 2. A manual GO is kept for the
next beat start in Configure, Test and Hold, and refused with 0x02 in Run. A staged divider or timeout waits for the swap. The words of a COPY
become visible at their beat and not before. -/
def Obligations.PawnServiceTakesEffect : Prop :=
  ∀ (s b : State) (h : OdHdr) (q : Fin 128), b = s.odBegun h →
    (∀ v : Nat, v < 2 ^ objBits (pawnObj q.val 0x20) → s.numPasses h (pawnObj q.val 0x20) v = true → b.hasBank = true →
      exec (.armSwap h q v) s = .next (((b.setPawn q.val { b.pawn q.val with swapAt := some v, swapBank := false }).wr (pawnObj q.val 0x23) 1).numDone b h
        (pawnObj q.val 0x20) v true)) ∧
    (∀ v : Nat, v < 2 ^ objBits (pawnObj q.val 0x20) → s.numPasses h (pawnObj q.val 0x20) v = true → b.hasBank = false →
      exec (.armSwap h q v) s = .next (if (b.swapBecomesPending q.val).rd (pawnObj q.val 0x23) = 3
        then (b.swapBecomesPending q.val).odRefused h (pawnObj q.val 0x20) 0x04 none
        else (b.swapBecomesPending q.val).numDone b h (pawnObj q.val 0x20) v false) ∧
      ((b.pawn q.val).run = .halted → b.slotClash q.val (b.pawn q.val).nextSlots = true →
        (b.swapBecomesPending q.val).rd (pawnObj q.val 0x23) = 3 ∧ ((b.swapBecomesPending q.val).pawn q.val).imem = (b.pawn q.val).imem)) ∧
    (s.numPasses h (pawnObj q.val 0x22) 1 = true →
      exec (.withdrawSwap h q) s = .next ((if b.rd (pawnObj q.val 0x23) = 1 ∨ b.rd (pawnObj q.val 0x23) = 2 then
          (b.setPawn q.val { b.pawn q.val with swapAt := none, swapBank := false }).wr (pawnObj q.val 0x23) 0 else b).numDone b h (pawnObj q.val 0x22) 1 false)) ∧
    (s.ticking = true → s.swapPending q.val = true → s.swapForced q.val = true → (s.pawn q.val).goes = true → (s.pawn q.val).pendAt ≤ s.sj q.val →
      s.slotClash q.val (s.pawn q.val).nextSlots = false →
      ∃ t : State, exec (.forcedSwap q) s = .next t ∧ (t.pawn q.val).imem = (s.pawn q.val).shadow ∧
        (t.pawn q.val).pc = BitVec.ofNat 6 (s.swapEntry q.val) ∧ (t.pawn q.val).sc = 0 ∧ (t.pawn q.val).run = .running ∧
        t.rd (pawnObj q.val 0x23) = 0) ∧
    (∀ v : Nat, v < 2 ^ 32 → s.numPasses h (pawnObj q.val 0x25) v = true →
      (illegalWord v = false → (b.pawn q.val).inj = none →
        ¬ ((b.mode = .run ∨ b.mode = .repair) ∧ b.clusterScheduled (q.val / 16) = true ∧ b.partIsolated (0x20 + q.val / 16) = false) →
        exec (.inject h q v) s = .next (((b.setPawn q.val { b.pawn q.val with inj := some (BitVec.ofNat 32 v), injAt := unitsPerBeat * b.time.beats }).wr
          (pawnObj q.val 0x26) 1).numDone b h (pawnObj q.val 0x25) v false)) ∧
      (illegalWord v = false → (b.pawn q.val).inj = none → (b.mode = .run ∨ b.mode = .repair) → b.clusterScheduled (q.val / 16) = true →
        b.partIsolated (0x20 + q.val / 16) = false →
        exec (.inject h q v) s = .next ((b.wr (pawnObj q.val 0x26) 5).odRefused h (pawnObj q.val 0x25) 0x02 none)) ∧
      (illegalWord v = false → (b.pawn q.val).inj ≠ none → exec (.inject h q v) s = .next (b.odRefused h (pawnObj q.val 0x25) 0x06 none)) ∧
      (illegalWord v = true → (b.pawn q.val).inj ≠ none → exec (.inject h q v) s = .next (b.odRefused h (pawnObj q.val 0x25) 0x04 none))) ∧
    (∀ w : BitVec 32, s.ticking = true → (s.pawn q.val).inj = some w → (s.alignCycle q.val).injects q.val = true → illegalWord w.toNat = false → opcodeOf w.toNat = 0x05 → condOf w.toNat = 0 →
      ∃ t : State, exec (.injectedInstruction q) s = .next t ∧ (t.pawn q.val).ca = w.extractLsb' 0 16 ∧ (t.pawn q.val).pc = (s.pawn q.val).pc ∧
        (t.pawn q.val).inj = none ∧ t.rd (pawnObj q.val 0x26) = 2 ∧ (t.pawn q.val).run = (s.pawn q.val).run ∧
        (t.pawn q.val).cb = (s.pawn q.val).cb ∧ (t.pawn q.val).cmp = (s.pawn q.val).cmp ∧ (t.pawn q.val).sh = (s.pawn q.val).sh) ∧
    (∀ (c : Fin 8) (v : Nat), v < 2 ^ objBits (manualObj c.val) → s.numPasses h (manualObj c.val) v = true →
      (b.mode = .configure ∨ b.mode = .test ∨ b.mode = .hold →
        exec (.manualGo h c v) s = .next (({ b with pawns := { b.pawns with manual := b.pawns.manual ++ [(c.val, v)] } }).numDone b h (manualObj c.val) v false)) ∧
      (b.mode = .run → exec (.manualGo h c v) s = .next (b.odRefused h (manualObj c.val) 0x02 none))) ∧
    (∀ v : List Byte, dividerOk (beNat v) = true → s.odPasses h (pawnObj q.val 0x09) v = true →
      exec (.slotMapWrite h q 0x09 v) s = .next ((b.setPawn q.val { b.pawn q.val with stDiv := some (beNat v) }).odDone b h (pawnObj q.val 0x09) v true)) ∧
    (∀ (i : Nat) (v : List Byte), i < 4 → timeoutOk (beNat v) = true → s.odPasses h (pawnObj q.val (0x0A + i)) v = true →
      exec (.slotMapWrite h q (0x0A + i) v) s = .next ((b.setPawn q.val { b.pawn q.val with stTos := minsert (b.pawn q.val).stTos i (beNat v) }).odDone b h
        (pawnObj q.val (0x0A + i)) v true)) ∧
    (∀ (vb n : Nat) (rest : List (Nat × Nat)), (s.pawn q.val).vis = (vb, n) :: rest →
      exec (.fifoWordsVisible q) s = .next (if vb ≤ s.time.beats then s.setPawn q.val { s.pawn q.val with
        vis := rest
        outF := { (s.pawn q.val).outF with vwp := (s.pawn q.val).outF.vwp + BitVec.ofNat 5 n } } else s))

/-- TIME_STEP at the end of a cycle on which a jump is due sets the local time and the cycle boundary to the first boundary of the corrected time, and
the step is no longer due. MASTER_LOSS at the loss count on a hub that is not the master notes the loss, and ends a holdover that is not allowed to
free-run. CLOSURE_WINDOW_END of a full window begins a new one, and keeps the mean as this hub's value for both ring ports where every cycle
counted. A valid TIME_CAL is kept, and with this hub's value of the same cycle makes the span's correction due; an invalid one changes nothing.
Setting the time is accepted on the master with no bank active and refused with 0x02 otherwise, with 0x04 for a bad nanosecond field. A candidate
returns, the next jump is taken, and a PTP event message is stamped and shows the PTP Instance's objects, class and port state. -/
def Obligations.TimeCommandsTakeEffect : Prop :=
  ∀ (s b : State) (h : OdHdr), b = s.odBegun h →
    (∀ (k : MarkerSeen) (len now m bnd : Nat), s.stepDue = some k → s.atCycleEnd = true → s.warmDue = false → len = s.cycleLen * beatTicks →
      now = (((s.time.bnd + len : Nat) : Int) - k.off).toNat → m = (if now ≤ k.btime then 0 else ceilDiv (now - k.btime) len) → bnd = k.btime + m * len →
      ∃ t : State, exec .timeStep s = .next t ∧ t.time.now = bnd ∧ t.time.bnd = bnd ∧ t.time.step = none ∧ t.time.stepped = true ∧
        t.time.beats = s.time.beats + 1 + ceilDiv (bnd - now) beatTicks) ∧
    (s.ticking = true → s.servo ≠ 5 → s.time.lost = false → s.lossCount ≤ s.missing → ∀ t : State, t = { s with time := { s.time with lost := true } } →
      exec .masterLoss s = .next (if s.servo = 3 ∧ (s.cell 0x801100).testBit 0 = false then t.setServo 0 else t)) ∧
    (s.ticking = true → s.time.winN = 1024 →
      ∃ t : State, exec .closureWindowEnd s = .next t ∧ t.time.winN = 0 ∧ t.time.winGood = 0 ∧ t.time.winA = 0 ∧ t.time.winB = 0 ∧
        t.time.calib = (s.time.calib || decide (s.time.winGood = 1024)) ∧
        (s.time.winGood = 1024 → mfind t.time.ownD 0 = some (if s.servo = 5 then -(s.time.winB / 1024) else s.time.winA / 1024, s.cycle) ∧
          mfind t.time.ownD 1 = some (s.time.winA / 1024, s.cycle))) ∧
    (s.ticking = true → s.time.winN < 1024 → exec .closureWindowEnd s = .next s) ∧
    (∀ (p : Port) (d own : Int) (c : Nat), s.ticking = true → p = .e ∨ p = .w → mfind s.time.ownD (portNum p) = some (own, c) →
      ∃ t : State, exec (.timeCal p d true c) s = .next t ∧ mfind t.time.nbrD (portNum p) = some (d, c) ∧
        mfind t.time.epsDue (portNum p) = some (if p = .e then (d - own) / 2 else (own - d) / 2)) ∧
    (∀ (p : Port) (d : Int) (c : Nat), exec (.timeCal p d false c) s = .next s) ∧
    (∀ v : Nat, v < 2 ^ objBits 0x800001 → s.od.queue = [] → h.auth = none → s.numPasses h 0x800001 0 = true → 999999999 < v / 2 ^ 16 % 2 ^ 32 →
      exec (.setFabricTime h v) s = .next (b.odRefused h 0x800001 0x04 none)) ∧
    (∀ v : Nat, v < 2 ^ objBits 0x800001 → s.numPasses h 0x800001 v = true →
      v / 2 ^ 16 % 2 ^ 32 ≤ 999999999 ∧
      (b.servo = 5 → b.hasBank = false →
        exec (.setFabricTime h v) s = .next (({ b with time := { b.time with setTo := some (ofTime96 (natTime96 v)) } }).numDone b h 0x800001 v true)) ∧
      (b.servo ≠ 5 ∨ b.hasBank = true →
        exec (.setFabricTime h v) s = .next (b.odRefused h 0x800001 0x02 none))) ∧
    (s.numPasses h 0x800104 1 = true → ∀ t : State, t = b.wr 0x800104 1 →
      exec (.candidateReturn h 1) s = .next (({ t with time := { t.time with barred := false } }).numDone b h 0x800104 1 false)) ∧
    (s.numPasses h 0x80100A 1 = true →
      exec (.acceptNextJump h) s = .next (({ b with time := { b.time with takeJump := true } }).numDone b h 0x80100A 1 false)) ∧
    (∀ (sent : Bool) (off : Nat), s.feature 35 = true → s.rd 0x804000 = 1 → s.ticking = true →
      exec (.ptpEventMessage sent off) s = .next ((s.emit (.ptpStamp sent ((s.time.now + off) / 131072 * 131072 -
        (psUnits (if sent then bits (s.rd 0x804005) 31 16 else bits (s.rd 0x804005) 15 0)).toNat) (s.ptpPort sent))).tookFree))

/-- A SEAL_ARM for a free slot, with a good time that is not too late and at most 10 s ahead, makes the seal pending, converted to a beat where it lies
in this cycle; where the slot has a seal pending or the time is too late it is counted in 8.020.07 and journalled. A SEAL_DISARM with the id of a
pending seal that is not too late removes it; one for a slot with none pending does nothing. The four seal commands arm and disarm with the values
of 8.020.01 to 8.020.04, and those for the fabric also send SEAL_ARM or SEAL_DISARM to the fork group of 8.020.03. A SEAL_IN edge stamps 8.020.0A
and takes the next id; with the slot's seal pending it only stamps and counts. At its beat an armed seal is pending no more: a free slot is taken
with its id, cycle, beat and the images of the beat's first clock, an unreleased one is counted in 8.020.07. -/
def Obligations.SealsArmAndLatch : Prop :=
  ∀ (s b : State) (h : OdHdr), b = s.odBegun h →
    (∀ (m : List Byte) (time : Time96) (slot id : Nat), s.ticking = true → beField m 0 2 = 0x0820 → time = natTime96 (beField m 16 12) →
      slot = beField m 12 1 % 4 → id = beField m 14 2 → time.nano ≤ 999999999 → ofTime96 time ≤ s.time.now + 10000000000 * 65536 →
      (mfind s.time.seals slot = none → s.tooLate (ofTime96 time) = false →
        exec (.sealArm m) s = .next (s.setSeals (minsert s.time.seals slot (s.convertSeal ⟨ofTime96 time, id, 1, none, false⟩)))) ∧
      ((mfind s.time.seals slot).isSome = true ∨ s.tooLate (ofTime96 time) = true →
        exec (.sealArm m) s = .next ((s.inc 0x802007).raise .seq 0x02 0x25 (snapTag id slot)))) ∧
    (∀ (m : List Byte) (slot : Nat), s.ticking = true → beField m 0 2 = 0x0821 → slot = beField m 12 1 % 4 →
      (mfind s.time.seals slot = none → exec (.sealDisarm m) s = .next s) ∧
      (∀ x : SealSt, mfind s.time.seals slot = some x → x.id = beField m 14 2 → s.tooLate x.time = false →
        exec (.sealDisarm m) s = .next (s.setSeals (merase s.time.seals slot)))) ∧
    (s.numPasses h 0x802000 1 = true →
      exec (.sealArmLocal h) s = .next ((b.armSeal (natTime96 (b.rd 0x802001)) (b.rd 0x802002) (b.rd 0x802004) 1).numDone b h 0x802000 1 false)) ∧
    (s.numPasses h 0x802000 2 = true →
      exec (.sealArmFabric h) s = .next (((b.armSeal (natTime96 (b.rd 0x802001)) (b.rd 0x802002) (b.rd 0x802004) 1).sendFork (b.rd 0x802003)
        (b.sealMessage 0x0820 (b.rd 0x802002) (b.rd 0x802004) (natTime96 (b.rd 0x802001)))).numDone b h 0x802000 2 false)) ∧
    (s.numPasses h 0x802000 3 = true →
      exec (.sealDisarmLocal h) s = .next ((b.disarmSeal (b.rd 0x802002) (b.rd 0x802004)).numDone b h 0x802000 3 false)) ∧
    (s.numPasses h 0x802000 4 = true →
      exec (.sealDisarmFabric h) s = .next (((b.disarmSeal (b.rd 0x802002) (b.rd 0x802004)).sendFork (b.rd 0x802003)
        (b.sealMessage 0x0821 (b.rd 0x802002) (b.rd 0x802004) ⟨0, 0, 0⟩)).numDone b h 0x802000 4 false)) ∧
    (∀ (off : Nat) (edge : Time96) (stamp : Nat), s.feature 32 = true → s.ticking = true → (s.cell 0x802008).testBit 7 = true →
      edge = toTime96 ((10 * (s.time.now + off * 65536) - 197 * 65536) / 10) → stamp = edge.sec % 2 ^ 32 * 2 ^ 32 + 2 ^ 31 + 2 ^ 30 + edge.nano →
      (mfind s.time.seals (s.cell 0x802008 % 4) = none →
        ∃ t : State, exec (.sealInEdge off) s = .next t ∧ t.time.sealCtr = (s.time.sealCtr % 65536 + 1) % 65536 ∧ t.rd 0x80200A = stamp) ∧
      ((mfind s.time.seals (s.cell 0x802008 % 4)).isSome = true →
        exec (.sealInEdge off) s = .next ((s.wr 0x80200A stamp).inc 0x802007))) ∧
    (∀ (slot : Fin 4) (x : SealSt), s.ticking = true → mfind s.time.seals slot.val = some x → x.beat = some s.beat →
      (s.slotBusy slot.val = false →
        ∃ t : State, exec (.sealLatch slot) s = .next t ∧ mfind t.time.seals slot.val = none ∧ (t.snap slot.val).state = 1 ∧
          (t.snap slot.val).id = x.id ∧ (t.snap slot.val).cycle = s.cycle ∧ (t.snap slot.val).beat = s.beat ∧
          (s.partIsolated 0x19 = false → (t.snap slot.val).inImg = s.sealImages.inImg ∧ (t.snap slot.val).outImg = s.sealImages.outImg) ∧
          (∀ k, k ≠ slot.val → t.snap k = s.snap k)) ∧
      (s.slotBusy slot.val = true →
        ∃ t : State, exec (.sealLatch slot) s = .next t ∧ mfind t.time.seals slot.val = none ∧ t.snaps = s.snaps ∧
          t.rd 0x802007 = (s.inc 0x802007).rd 0x802007))

/-- Collection of a latched slot that completes holds it with every latched island delivered; one that times out leaves it incomplete with the islands
that delivered, and journals it as an incomplete snapshot with its id and slot. A release of a held or incomplete slot frees it at once while no
bank is active, at the next beat otherwise; one of a slot being latched is refused with 0x02; one of a free slot is accepted and changes nothing.
The oldest posted record of an island is stored at the head and the head advances; in a full journal whose policy keeps the oldest it is lost and
counted. A forwarded record is stored under its sender's node, and lost and counted while the Keeper does not store. A tail that leaves at most
1,024 unread records is taken; another is refused with 0x04. -/
def Obligations.SnapshotsAndJournal : Prop :=
  ∀ (s b : State) (h : OdHdr), b = s.odBegun h →
    (∀ slot : Fin 4, s.coreUp = true → (s.snap slot.val).state = 1 →
      exec (.snapshotCollectionComplete slot) s = .next (s.setSnap slot.val { s.snap slot.val with
        state := 2
        header := withDelivered (s.snap slot.val).header (s.snap slot.val).latched })) ∧
    (∀ (slot : Fin 4) (d : Nat), s.coreUp = true → (s.snap slot.val).state = 1 →
      ∃ t : State, exec (.snapshotCollectionTimeout slot d) s = .next t ∧ (t.snap slot.val).state = 3 ∧
        (t.snap slot.val).header = withDelivered (s.snap slot.val).header (d &&& (s.snap slot.val).latched) ∧
        ((d &&& (s.snap slot.val).latched).testBit 0x19 = false → (t.snap slot.val).inImg = [] ∧ (t.snap slot.val).outImg = []) ∧
        (∀ k, k ≠ slot.val → t.snap k = s.snap k) ∧
        ∃ u : State, t = u.raise .mgt 0x00 0x7B (snapTag (s.snap slot.val).id slot.val) ∧ u.journal = s.journal ∧ u.time = s.time ∧
          u.modes = s.modes) ∧
    (∀ slot : Fin 4, s.numPasses h (releaseObj slot.val) 1 = true →
      ((b.snap slot.val).state = 0 → exec (.releaseSlot h slot) s = .next (b.numDone b h (releaseObj slot.val) 1 false)) ∧
      ((b.snap slot.val).state = 1 → exec (.releaseSlot h slot) s = .next (b.odRefused h (releaseObj slot.val) 0x02 none)) ∧
      (2 ≤ (b.snap slot.val).state → exec (.releaseSlot h slot) s = .next (
        if b.hasBank then (b.setSnap slot.val { b.snap slot.val with relAt := true }).numDone b h (releaseObj slot.val) 1 true
        else (b.setSnap slot.val {}).numDone b h (releaseObj slot.val) 1 false))) ∧
    (∀ (code : Nat) (r : JRecord) (rest : List JRecord), s.keeperStores = true → mget [] s.journal.posted code = r :: rest → s.rd 0xD00007 = 0 →
      (s.unread < 1024 → s.rd 0xD00006 ≠ 1 → s.rd 0xD01000 = 0 →
        exec (.journalRecordPosted code) s = .next (({ s with journal := { s.journal with
          posted := mset [] s.journal.posted code rest
          recs := minsert s.journal.recs (s.rd 0xD00000 % 1024) r } }).wr 0xD00000 ((s.rd 0xD00000 + 1) % 2048))) ∧
      (s.unread < 1024 →
        ∃ t : State, exec (.journalRecordPosted code) s = .next t ∧ t.rd 0xD00000 = (s.rd 0xD00000 + 1) % 2048 ∧ t.rd 0xD00001 = s.rd 0xD00001 ∧
          t.journal.recs = minsert s.journal.recs (s.rd 0xD00000 % 1024) r) ∧
      (1024 ≤ s.unread → s.rd 0xD00003 ≠ 1 →
        exec (.journalRecordPosted code) s =
          .next (({ s with journal := { s.journal with posted := mset [] s.journal.posted code rest } }).recordLost r.cls)) ∧
      (1024 ≤ s.unread → s.rd 0xD00003 = 1 →
        ∃ t : State, exec (.journalRecordPosted code) s = .next t ∧ t.rd 0xD00000 = (s.rd 0xD00000 + 1) % 2048 ∧
          t.rd 0xD00001 = (s.rd 0xD00001 + 1) % 2048 ∧ t.journal.recs = minsert s.journal.recs (s.rd 0xD00000 % 1024) r)) ∧
    (∀ m : List Byte, s.keeperStores = true → beField m 0 2 = 0x0D10 → beField m 12 2 = 1 → s.rd 0xD00007 = 0 → s.unread < 1024 →
      ∃ t : State, exec (.journalFwd m) s = .next t ∧ t.rd 0xD00000 = (s.rd 0xD00000 + 1) % 2048 ∧
        t.journal.recs = minsert s.journal.recs (s.rd 0xD00000 % 1024) { natRecord (beField m 16 16) with node := beField m 2 2 % 1024 }) ∧
    (∀ m : List Byte, s.keeperStores = false → s.ticking = true → beField m 0 2 = 0x0D10 → beField m 12 2 = 1 →
      exec (.journalFwd m) s = .next (s.recordLost (natRecord (beField m 16 16)).cls)) ∧
    (∀ v : Nat, v < 2 ^ objBits 0xD00001 → s.numPasses h 0xD00001 v = true →
      v < 2048 ∧
      ((b.rd 0xD00000 + 2048 - v) % 2048 ≤ 1024 → exec (.journalTailWrite h v) s = .next ((b.wr 0xD00001 v).numDone b h 0xD00001 v false)) ∧
      (1024 < (b.rd 0xD00000 + 2048 - v) % 2048 → exec (.journalTailWrite h v) s = .next (b.odRefused h 0xD00001 0x04 none))) ∧
    (∀ v : Nat, 2048 ≤ v → v < 2 ^ objBits 0xD00001 → s.od.queue = [] → h.auth = none → s.numPasses h 0xD00001 0 = true →
      exec (.journalTailWrite h v) s = .next (b.odRefused h 0xD00001 0x04 none))

/-- A request on an object that can make it, on a controller in service in mode 1 or 4 whose role lets it send, puts the frame built from the object,
with its policy and limit, to the object; a pending one that is not being sent is replaced with outcome 5 and journalled; a mismatched object ends
with outcome 7, journalled. An abort of a pending request that is not being sent ends it with outcome 6, journalled; the frame in transmission is
not retried. At a start-of-frame opportunity the controller enters arbitration with the frame that wins on the bus, equal ones in ascending object
number, and on a real bus it goes out. A transmission that succeeds leaves its object with outcome 1, its stamp, the transmit error count one lower
and the count of sent frames one higher; where its transmitter is off it ends in a bit or an acknowledgement error instead; one that loses
arbitration is counted and, under the one-shot policy, ends with outcome 4, under the others stays. One that ends in an error raises the transmit
error count by 8, keeps its code and, where its policy retries, stays with one failure more; a waiting request replaces one that did not succeed.
Where the role keeps the controller listening, a request ends at once with outcome 6. -/
def Obligations.BusTransmissionTakesEffect : Prop :=
  ∀ (s : State) (n : Fin 8) (m : Nat), m ≤ 128 →
    (s.commandsBus m 1 n.val = true →
      (s.mismatch n.val (s.msg n.val m) (bits (s.msg n.val m).ctrl 6 0) = true →
        exec (.requestTransmission n m) s =
          .next ((s.setMsg n.val m { s.msg n.val m with outcome := 7, attempts := if (s.msg n.val m).req.isSome then (s.msg n.val m).attempts else 0 }).busJournal n.val m 0 0x45)) ∧
      (s.mismatch n.val (s.msg n.val m) (bits (s.msg n.val m).ctrl 6 0) = false → s.mutes n.val = true →
        exec (.requestTransmission n m) s =
          .next ((s.setMsg n.val m { s.msg n.val m with outcome := 6, attempts := if (s.msg n.val m).req.isSome then (s.msg n.val m).attempts else 0 }).busJournal n.val m 0 0x44)) ∧
      (∀ r : TxReq, s.mismatch n.val (s.msg n.val m) (bits (s.msg n.val m).ctrl 6 0) = false → s.mutes n.val = false →
        (s.ctl n.val).mode = 1 ∨ (s.ctl n.val).mode = 4 → (s.ctl n.val).sending ≠ some m →
        r = ⟨(s.msg n.val m).build (bits (s.msg n.val m).ctrl 6 0), bits (s.msg n.val m).ctrl 28 27, bits (s.msg n.val m).ctrl 23 16, 0, 0⟩ →
        ((s.msg n.val m).req = none →
          exec (.requestTransmission n m) s = .next (s.setMsg n.val m { s.msg n.val m with req := some r, attempts := 0 })) ∧
        (∀ old : TxReq, (s.msg n.val m).req = some old →
          exec (.requestTransmission n m) s =
            .next ((s.setMsg n.val m { s.msg n.val m with req := some r, outcome := 5, attempts := 0 }).busJournal n.val m old.attempts 0x43))) ∧
      (s.mismatch n.val (s.msg n.val m) (bits (s.msg n.val m).ctrl 6 0) = false → s.mutes n.val = false →
        (s.ctl n.val).mode ≠ 1 → (s.ctl n.val).mode ≠ 4 → exec (.requestTransmission n m) s = .next (s.busJournal n.val m 0 0x46))) ∧
    (s.commandsBus m 2 n.val = true → (s.msg n.val m).next = none →
      (∀ r : TxReq, (s.ctl n.val).sending ≠ some m → (s.msg n.val m).req = some r →
        exec (.abortTransmission n m) s =
          .next ((s.setMsg n.val m { s.msg n.val m with req := none, outcome := 6 }).busJournal n.val m r.attempts 0x44)) ∧
      ((s.ctl n.val).sending = some m → exec (.abortTransmission n m) s = .next (s.setCtl n.val { s.ctl n.val with dropped := true }))) ∧
    (s.sends n.val = true → (s.ctl n.val).sending = none →
      (∀ r : TxReq, (s.ctl n.val).winner = some m → (s.msg n.val m).req = some r →
        (∀ (k : Nat) (q : TxReq), k < 128 → (s.msg n.val k).req = some q → arbKey r.frame < arbKey q.frame ∨ arbKey r.frame = arbKey q.frame ∧ m ≤ k) ∧
        ∃ t : State, exec (.arbitrationStart n) s = .next t ∧ (t.ctl n.val).sending = some m ∧
          (t.msg n.val m).req = some { r with attempts := r.attempts + 1 } ∧ (t.msg n.val m).attempts = min (r.attempts + 1) 255 ∧
          t.out = (if (s.ctl n.val).mode = 1 ∧ s.busDrives n.val = true then [Out.can n ((s.ctl n.val).onBus r.frame)] else []) ++ s.out ∧ (∀ k, k ≠ m → t.msg n.val k = s.msg n.val k)) ∧
      ((∀ k < 128, (s.msg n.val k).req = none) → exec (.arbitrationStart n) s = .next s)) ∧
    (∀ (r : TxReq) (ago : Nat) (t : State), (s.ctl n.val).sending = some m → (s.msg n.val m).req = some r → (s.ctl n.val).mode ≠ 4 →
      s.mutes n.val = false → (s.ctl n.val).mode ≠ 1 ∨ s.busDrives n.val = true →
      t = (((s.setCtl n.val ({ s.ctl n.val with sending := none, tec := (s.ctl n.val).tec - 1, lonely := false, dropped := false }).confine).wr
        (busObj n.val 1 1) 0).setMsg n.val m { s.msg n.val m with
          req := (s.msg n.val m).next
          next := none
          outcome := 1
          attempts := if (s.msg n.val m).next.isSome then 0 else (s.msg n.val m).attempts
          ts := s.busStamp ago }).inc (busObj n.val 1 3) →
      exec (.transmissionAttemptEnd n (.sent ago none)) s = .next (if n.val = 0 then t.feedService else t)) ∧
    (∀ (r : TxReq) (ago : Nat), (s.ctl n.val).sending = some m → (s.msg n.val m).req = some r → (s.ctl n.val).mode = 1 → s.busDrives n.val = false →
      s.mutes n.val = false →
      ∃ t : State, exec (.transmissionAttemptEnd n (.sent ago none)) s = .next t ∧ (t.ctl n.val).sending = none ∧
        ((t.ctl n.val).lastErr = 3 ∨ (t.ctl n.val).lastErr = 5) ∧ t.rd (busObj n.val 1 3) = s.rd (busObj n.val 1 3)) ∧
    (∀ (r : TxReq) (t : State), (s.ctl n.val).sending = some m → (s.msg n.val m).req = some r → (s.ctl n.val).dropped = false →
      s.mutes n.val = false →
      t = (s.setCtl n.val { s.ctl n.val with sending := none }).inc (busObj n.val 1 7) →
      (r.policy = 1 → (s.msg n.val m).next = none → ∃ u : State, u = t.failRequest n.val m r.attempts 4 0x42 ∧ (u.msg n.val m).outcome = 4 ∧
        exec (.transmissionAttemptEnd n .lost) s = .next (if n.val = 0 then u.feedService else u)) ∧
      (r.policy ≠ 1 → (s.msg n.val m).next = none →
        ∃ u : State, exec (.transmissionAttemptEnd n .lost) s = .next (if n.val = 0 then u.feedService else u) ∧ (u.msg n.val m).req = some r ∧
          (u.ctl n.val).sending = none) ∧
      ((s.msg n.val m).next.isSome = true → ∃ u : State, u = t.failRequest n.val m r.attempts 5 0x43 ∧ (u.msg n.val m).outcome = 5 ∧
        (u.msg n.val m).req = (s.msg n.val m).next ∧ exec (.transmissionAttemptEnd n .lost) s = .next (if n.val = 0 then u.feedService else u))) ∧
    (∀ (r : TxReq) (code : Fin 8) (t : State), (s.ctl n.val).sending = some m → (s.msg n.val m).req = some r → (s.ctl n.val).dropped = false →
      s.mutes n.val = false → (s.msg n.val m).next = none → code.val ≠ 3 → (s.ctl n.val).tec + 8 ≤ 255 → r.policy = 0 →
      t = (s.setCtl n.val ({ s.ctl n.val with sending := none, lastErr := code.val, tec := (s.ctl n.val).tec + 8 }).confine).setMsg n.val m
        { s.msg n.val m with req := some { r with fails := r.fails + 1 } } →
      exec (.transmissionAttemptEnd n (.error code none)) s = .next (if n.val = 0 then t.feedService else t))

/-- A frame that matches the filter of an object of a controller that stores frames is stored there: the object is new, its data are the frame's, its
count is one higher, and overrun is set where it was new before; the frame is accepted by the high-priority buffer before the others, and by the
lowest receive object of those. A frame that matches nothing is counted in 7.0n1.05 and stored nowhere. A receive error in normal mode raises REC by
1, or by 8 where a dominant bit follows, to 255 at most, and its code is kept. Reading the read-clear status word clears new and overrun of that
object and nothing else. A frame of the service channel on MB0 is left to that channel. A frame that the controller cannot receive (its bus not
heard, CAN FD disabled) changes nothing. -/
def Obligations.BusReceptionTakesEffect : Prop :=
  ∀ (s : State) (n : Fin 8),
    (∀ (f : CanFrame) (ago off m : Nat), s.canReceive n.val f = true → (n.val = 0 → s.serviceRequest f = false) → (s.ctl n.val).accepts f = some m →
      ∃ t : State, exec (.frameStored n f ago off) s = .next t ∧ (t.msg n.val m).isNew = true ∧
        (t.msg n.val m).overrun = ((s.msg n.val m).overrun || (s.msg n.val m).isNew) ∧ (t.msg n.val m).count = (s.msg n.val m).count + 1 ∧
        (t.msg n.val m).ts = s.busStamp ago ∧ (∀ k < f.data.length, mget 0 (t.msg n.val m).data k = f.data.getD k 0) ∧
        (t.msg n.val m).stored.head?.map RxFrame.data = some f.data ∧ (∀ k, k ≠ m → t.msg n.val k = s.msg n.val k) ∧
        (∀ j, j ≠ n.val → t.ctl j = s.ctl j)) ∧
    (∀ (f : CanFrame) (m : Nat), (s.ctl n.val).accepts f = some m →
      (s.msg n.val m).matches_ f = true ∧ (m = 128 ∨ (m < 128 ∧ (s.msg n.val 128).matches_ f = false ∧ ∀ k < m, (s.msg n.val k).matches_ f = false))) ∧
    (∀ f : CanFrame, s.canReceive n.val f = true → (n.val = 0 → s.serviceRequest f = false) → (s.ctl n.val).accepts f = none →
      ∃ t : State, exec (.frameNotAccepted n f) s = .next t ∧ (∀ k, t.msg n.val k = s.msg n.val k) ∧ (t.ctl n.val).lonely = false ∧
        (s.rd (busObj n.val 1 5) + 1 < 2 ^ objBits (busObj n.val 1 5) → t.rd (busObj n.val 1 5) = s.rd (busObj n.val 1 5) + 1)) ∧
    (∀ (code : Fin 8) (heavy : Bool), s.ctlLive n.val = true → s.busHears n.val = true → (s.ctl n.val).mode = 1 → (s.ctl n.val).conf < 2 → code.val ≠ 7 →
      exec (.receiveError n code heavy) s = .next (s.setCtl n.val ({ s.ctl n.val with
        rxe := min 255 ((s.ctl n.val).rxe + (if heavy then 8 else 1))
        lastErr := code.val }).confine)) ∧
    (∀ m : Nat, m ≤ 128 → s.ctlReached n.val = true →
      exec (.statusReadClear n m) s = .next (s.setMsg n.val m { s.msg n.val m with isNew := false, overrun := false })) ∧
    (∀ (f : CanFrame) (ago off : Nat), s.serviceRequest f = true → exec (.frameStored 0 f ago off) s = .next s) ∧
    (∀ (f : CanFrame) (ago off : Nat), s.canReceive n.val f = false →
      exec (.frameStored n f ago off) s = .next s ∧ exec (.frameNotAccepted n f) s = .next s)

/-- Recovery of a controller that is bus-off begins, with every request abandoned first where the command says so, and is refused with 0x02 of one that
is not; after its sequences the controller is error active with both error counts zero. A mode write is kept, loopback outside Test is refused with
0x03; between frames the controller takes the mode it is to run in, and mode 0 zeroes its error counts and leaves bus-off as it is, and a controller
that its role makes listen abandons its requests. Clearing the counters zeroes 7.0n1.01 to 7.0n1.07. A transceiver keeps the state asked for and
takes it, but for Standby while VCAN is low, Listen-only while the role listens, and Standby where it was woken in the AON tick in which Sleep is
written. Clearing the wake flag, and the timeout and temperature faults of a transceiver, change only 7.1t0.03 and one bit of 7.1t0.05. A bus wake
without an enabled wake source, or outside Standby and Sleep, changes nothing; an enabled one in Standby or Sleep sets the wake flag. -/
def Obligations.BusControllersAndTransceiversTakeEffect : Prop :=
  ∀ (s b : State) (h : OdHdr) (n : Fin 8) (x : Fin 2), b = s.odBegun h →
    (s.numPasses h (busObj n.val 0 6) 1 = true →
      ((b.ctl n.val).conf = 2 →
        exec (.busOffRecover h n) s = .next ((b.setCtl n.val { b.ctl n.val with conf := 3 }).numDone b h (busObj n.val 0 6) 1 false)) ∧
      ((b.ctl n.val).conf ≠ 2 → exec (.busOffRecover h n) s = .next (b.odRefused h (busObj n.val 0 6) 0x02 none))) ∧
    (s.numPasses h (busObj n.val 0 6) 2 = true →
      ((b.ctl n.val).conf = 2 →
        ∃ t : State, exec (.busOffRecoverAbandon h n) s = .next (t.numDone b h (busObj n.val 0 6) 2 false) ∧ (t.ctl n.val).conf = 3 ∧
          (∀ m < 128, (t.msg n.val m).next = none ∧ ((b.ctl n.val).sending ≠ some m → (t.msg n.val m).req = none))) ∧
      ((b.ctl n.val).conf ≠ 2 → exec (.busOffRecoverAbandon h n) s = .next (b.odRefused h (busObj n.val 0 6) 0x02 none))) ∧
    (s.ctlLive n.val = true → (s.ctl n.val).conf = 3 →
      exec (.busOffRecoveryDone n) s = .next (s.setCtl n.val { s.ctl n.val with conf := 0, tec := 0, rxe := 0 })) ∧
    (∀ v : Nat, v < 2 ^ objBits (busObj n.val 0 0) → s.numPasses h (busObj n.val 0 0) v = true →
      (v = 4 → b.mode ≠ .test → exec (.controllerModeWrite h n v) s = .next (b.odRefused h (busObj n.val 0 0) 0x03 none)) ∧
      (v ≠ 4 ∨ b.mode = .test →
        exec (.controllerModeWrite h n v) s = .next ((b.wr (busObj n.val 0 0) v).numDone b h (busObj n.val 0 0) v false))) ∧
    (s.ticking = true → (s.ctl n.val).sending = none → s.listening = false → (s.ctl n.val).mode ≠ s.wantMode n.val →
      exec (.controllerModeChange n) s = .next (s.setCtl n.val (if s.wantMode n.val = 0
        then ({ s.ctl n.val with mode := 0, tec := 0, rxe := 0 }).confine else { s.ctl n.val with mode := s.wantMode n.val }))) ∧
    (s.ticking = true → (s.ctl n.val).sending = none → s.listening = true → s.wantMode n.val = 2 → (s.ctl n.val).mode ≠ 2 →
      ∃ t : State, exec (.controllerModeChange n) s = .next t ∧ (t.ctl n.val).mode = 2 ∧
        ∀ m < 128, (t.msg n.val m).req = none ∧ (t.msg n.val m).next = none) ∧
    (s.ticking = true → (s.ctl n.val).mode = s.wantMode n.val → exec (.controllerModeChange n) s = .next s) ∧
    (s.numPasses h (busObj n.val 1 9) 1 = true →
      ∃ t : State, exec (.clearBusCounters h n) s = .next (t.numDone b h (busObj n.val 1 9) 1 false) ∧
        (∀ k ∈ [1, 2, 3, 4, 5, 6, 7], t.rd (busObj n.val 1 k) = 0) ∧ t.bus = b.bus ∧
        (∀ o, (∀ k ∈ [1, 2, 3, 4, 5, 6, 7], o ≠ busObj n.val 1 k) → t.rd o = b.rd o)) ∧
    (∀ v : Nat, v < 2 ^ objBits (xcvrObj x.val 0) → s.numPasses h (xcvrObj x.val 0) v = true →
      ∃ t : State, exec (.transceiverStateWrite h x v) s = .next (t.numDone b h (xcvrObj x.val 0) v false) ∧
        (v = 3 → (b.xcvr x.val).woke = some b.aonTick → (t.xcvr x.val).want = 2 ∧ t.rd (xcvrObj x.val 0) = 2) ∧
        (v ≠ 3 ∨ (b.xcvr x.val).woke ≠ some b.aonTick → (t.xcvr x.val).want = v) ∧
        (v ≤ 1 → (b.rd (xcvrObj x.val 5)).testBit 1 = true → t.rd (xcvrObj x.val 0) = 2) ∧
        (v = 0 → (b.rd (xcvrObj x.val 5)).testBit 1 = false → t.rd (xcvrObj x.val 0) = if b.listening then 1 else 0) ∧
        (v = 1 → (b.rd (xcvrObj x.val 5)).testBit 1 = false → t.rd (xcvrObj x.val 0) = 1) ∧ (v = 2 → t.rd (xcvrObj x.val 0) = 2) ∧
        (v = 3 → (b.xcvr x.val).woke ≠ some b.aonTick → t.rd (xcvrObj x.val 0) = 3) ∧
        (t.rd 0x712000 = 0 ↔ t.rd (xcvrObj 0 0) = 3 ∧ t.rd (xcvrObj 1 0) = 3)) ∧
    (s.numPasses h (xcvrObj x.val 4) 1 = true →
      exec (.clearWakeFlag h x) s = .next ((b.wr (xcvrObj x.val 3) 0).numDone b h (xcvrObj x.val 4) 1 false)) ∧
    (∀ on : Bool, s.mode ≠ .noPower →
      exec (.txdDominantTimeout x on) s = .next (s.wr (xcvrObj x.val 5) (setBit (s.rd (xcvrObj x.val 5)) 0 on)) ∧
      exec (.transceiverOverTemperature x on) s = .next (s.wr (xcvrObj x.val 5) (setBit (s.rd (xcvrObj x.val 5)) 2 on))) ∧
    (∀ late : Bool,
      (s.rd (xcvrObj x.val 2) ≠ 1 ∨ s.rd (xcvrObj x.val 0) < 2 → exec (.busWake x late) s = .next s) ∧
      (s.powered = true → s.rd (xcvrObj x.val 2) = 1 → 2 ≤ s.rd (xcvrObj x.val 0) →
        ∃ t : State, exec (.busWake x late) s = .next t ∧ t.rd (xcvrObj x.val 3) = 1))

/-- A host read of one piece in a window of the aperture that is not prefetchable, with no write of that window waiting and a tag free, is held, and a
read request for its bytes leaves at port 6 with the next free tag; a read that no window covers is answered UR and counted. The response to the
only piece of a held read completes it with the data. At the read hold limit it is answered CA, counted and journalled with reason 0x30, and the
read is gone. A host write of one piece, with nothing in the prefetch buffer and none waiting, leaves as one posted write, or an acknowledged one
where the window says so, with the next tag, or waits in the posted buffer (which of the two the spec leaves open: a free bit, log entry 143); a
write that no window covers has no effect. With the bridge isolated a read is answered CA and a write is journalled with reason 0x07 and its window.
A piece not acknowledged in time is logged with outcome 0xA. A prefetch entry whose life expires leaves the buffer. -/
def Obligations.HostAccessesReachTheFabric : Prop :=
  ∀ s : State,
    (∀ (a n tag k i addr : Nat) (w : Window) (t u : State), s.bridgeUp = true → s.isolated .hbr = false → 0 < n → a % 2048 + n ≤ 2048 →
      s.bridge.held.length < 64 → s.heldBytes + n ≤ 65536 → s.bridge.held.any (fun h => h.hostTag == tag) = false →
      (∀ p ∈ s.bridge.posted, p.window ≠ k) → s.busyTags < 4096 → s.windowAt true a = some (k, w) → (s.windowAt true (a + n - 1)).map Prod.fst = some k → addr = w.base + (a - w.off) → s.takeTag = (t, i) →
      w.aperN = true → u = t.sendFrame 6 (t.newFrame (bits addr 63 54) w.cls w.flow 0x1 addr i 0 0 (zeros n)) →
      exec (.hostRead true a n tag) s = .next { u with bridge := { u.bridge with
        held := u.bridge.held ++ [⟨tag, a, n, [⟨i, k, addr, n, 0, n, 0, none⟩]⟩] } }) ∧
    (∀ (aper : Bool) (a n tag : Nat), s.bridgeUp = true → s.isolated .hbr = false → 0 < n → n ≤ 4096 → s.bridge.held.length < 64 →
      s.heldBytes + n ≤ 65536 → s.bridge.held.any (fun h => h.hostTag == tag) = false → s.windowAt aper a = none →
      ∃ x : Nat, exec (.hostRead aper a n tag) s = .next (({ (s.inc 0x907001) with bridge := { s.bridge with aer := x } }).emit
        (.hostCompletion tag 1 false []))) ∧
    (∀ (aper : Bool) (a n tag : Nat), s.bridgeUp = true → s.isolated .hbr = true → 0 < n → n ≤ 4096 →
      ∃ x : Nat, exec (.hostRead aper a n tag) s = .next (({ (s.inc 0x907001) with bridge := { s.bridge with aer := x } }).emit
        (.hostCompletion tag 4 false []))) ∧
    (∀ (f : Frame) (g : HeldRead) (p : ReadPiece), s.ticking = true → f.type = 0x2 → frameWhole f = true → f.tag / 4096 = 6 → f.outcome = 0 →
      s.bridge.held.find? (fun h => h.pieces.any (fun p => p.answer.isNone && p.tag == f.tag && (f.outcome != 0 || p.len == f.payload.length))) = some g →
      g.pieces = [p] → p.block = 0 →
      ∃ t : State, exec (.readResponse f) s = .next t ∧ t.bridge.held = s.bridge.held.filter (fun x => x.hostTag != g.hostTag) ∧
        t.out = (s.completeData g.hostTag g.at_ (slice f.payload p.skip p.want)).out) ∧
    (∀ (tag : Nat) (g : HeldRead) (p : ReadPiece), s.bridge.held.find? (fun h => h.hostTag == tag) = some g →
      g.pieces.find? (fun p => p.answer.isNone) = some p →
      ∃ (t u : State) (x : Nat), exec (.readHoldTimeout tag) s = .next t ∧ u = (((s.endRead g).inc 0x907001).raise .hbr 0x03 0x30
          (bridgeTag p.tag p.window 0 0)).notice 2 ∧
        t = ({ u with bridge := { u.bridge with aer := x } }).emit (.hostCompletion tag 4 false []) ∧
        t.bridge.held = s.bridge.held.filter (fun x => x.hostTag != g.hostTag) ∧ t.rd 0x907001 = (s.inc 0x907001).rd 0x907001) ∧
    (∀ (aper : Bool) (a k i addr : Nat) (v : List Byte) (w : Window) (t u : State), s.bridge.posted = [] → s.busyTags < 4096 → s.bridgeUp = true → s.isolated .hbr = false → 0 < v.length →
      a % 2048 + v.length ≤ 2048 → s.windowAt aper a = some (k, w) → (s.windowAt aper (a + v.length - 1)).map Prod.fst = some k →
      addr = w.base + (a - w.off) → s.bridge.fetch = [] → s.tookFree.takeTag = (t, i) →
      u = { t with bridge := { t.bridge with pieces := ⟨i, k, addr, w.ack⟩ :: t.bridge.pieces.filter (fun p => p.tag != i) } } →
      exec (.hostWrite aper a v) s =
        .next (if s.freeNat 1 = 1 then { s.tookFree with bridge := { s.bridge with posted := [⟨k, w, addr, v⟩] } }
          else u.sendFrame 6 (u.newFrame (bits addr 63 54) w.cls w.flow (if w.ack then 0x3 else 0x0) addr i 0 0 v))) ∧
    (∀ (aper : Bool) (a k : Nat) (v : List Byte) (w : Window), s.bridgeUp = true → s.isolated .hbr = true → 0 < v.length → a % 2048 + v.length ≤ 2048 →
      s.windowAt aper a = some (k, w) → (s.windowAt aper (a + v.length - 1)).map Prod.fst = some k →
      exec (.hostWrite aper a v) s = .next ((s.raise .hbr 0x03 0x07 (bridgeTag 0 k 0 0)).notice 2)) ∧
    (∀ (aper : Bool) (a : Nat) (v : List Byte), s.windowAt aper a = none → exec (.hostWrite aper a v) s = .next s) ∧
    (∀ (tag : Nat) (p : SentPiece), s.bridge.pieces.find? (fun p => p.tag == tag && p.acked) = some p →
      exec (.acknowledgementTimeout tag) s = .next (({ s with bridge := { s.bridge with
        pieces := s.bridge.pieces.filter (fun x => x.tag != tag) } }).writeFailed tag p.window p.addr 0xA)) ∧
    (∀ i : Nat,
      (∀ e : Prefetch, s.bridge.fetch[i]? = some e → fabSpace e.addr ≠ 0x08 →
        exec (.prefetchLifeExpiry i) s = .next { s with bridge := { s.bridge with fetch := s.bridge.fetch.eraseIdx i } }) ∧
      (s.bridge.fetch[i]? = none → exec (.prefetchLifeExpiry i) s = .next s))

/-- A host read of the mailbox returns its bytes in completions and counts one read; a read that no region covers is answered UR and counted. A host
write to request slots writes those bytes and no other byte of the mailbox. A host write of four bytes to a vector's control word with MSI-X off
masks or unmasks that vector and no other. A host write to a FIFO port that cannot take it is logged with window code 6. A write that no region
covers has no effect. With the bridge isolated a read is answered CA, and a write is journalled with reason 0x07 and window 6. -/
def Obligations.FastWindowReachesMailboxAndVectors : Prop :=
  ∀ (s : State) (a n tag : Nat), s.bridgeUp = true →
    (s.isolated .hbr = false → 0 < n → n ≤ 4096 →
      (a + n ≤ 0x10018 → exec (.fastWindowAccess a n tag none) s = .next ((s.inc 0x907000).completeData tag a ((List.range n).map (fun k => s.fastByte (a + k))))) ∧
      (fastRegion a n = none → ∃ x : Nat, exec (.fastWindowAccess a n tag none) s = .next (({ (s.inc 0x907001) with bridge := { s.bridge with aer := x } }).emit
        (.hostCompletion tag 1 false [])))) ∧
    (∀ v : List Byte, s.isolated .hbr = false → v ≠ [] →
      (a + v.length ≤ 0x8000 →
        ∃ m : Memory, exec (.fastWindowAccess a n tag (some v)) s = .next { s with od := { s.od with reqMem := m } } ∧
          (∀ k < v.length, mget 0 m (a + k) = v.getD k 0) ∧ (∀ k, k < a ∨ a + v.length ≤ k → mget 0 m k = mget 0 s.od.reqMem k)) ∧
      (∀ j < 160, a = 0x30000 + 16 * j + 12 → v.length = 4 → s.bridge.msixOn = false →
        exec (.fastWindowAccess a n tag (some v)) s =
          .next { s with bridge := { s.bridge with vecOn := setBit s.bridge.vecOn j (!((v.getD 0 0).toNat.testBit 0)) } }) ∧
      (∀ q < 128, a = 0x20000 + 0x100 * q + 8 → v.length = 4 ∨ v.length = 8 →
        exec (.fastWindowAccess a n tag (some v)) s =
          .next (s.writeFailed 0 6 (s.node * 2 ^ 54 + 3 * 2 ^ 48 + (0x100 * q + 8)) 0x5)) ∧
      (fastRegion a v.length = none → exec (.fastWindowAccess a n tag (some v)) s = .next s)) ∧
    (s.isolated .hbr = true →
      (∃ x : Nat, exec (.fastWindowAccess a n tag none) s = .next (({ (s.inc 0x907001) with bridge := { s.bridge with aer := x } }).emit
        (.hostCompletion tag 4 false []))) ∧
      ∀ v : List Byte, exec (.fastWindowAccess a n tag (some v)) s = .next ((s.raise .hbr 0x03 0x07 (bridgeTag 0 6 0 0)).notice 2))

/-- A posted write for an enabled, writable slot of the host that can take it, with no other request there, goes out as PCIe writes at the slot's base
and does nothing else, or waits for the link's credit (a free bit, log entry 143); one for a slot that is not enabled is counted and reported with
outcome 0x3. The last completion of a read with good data answers the fabric with the bytes, and a completion for no request changes nothing; the
Completion Timeout answers a read response with outcome 0x7 and no data, and is journalled with reason 0x35 and that outcome. A reset of the bridge
ends every held read, write piece, waiting write, host request and queued COPY and clears mastering, MSI-X and its vectors; the link stays up under
FLR only. A window commit outside Configure is refused with 0x03; one that fails a check is refused with 0x0A and leaves the windows in force; one
that passes puts the enabled windows in force. Clearing the bridge counts zeroes 9.070.00 to 9.070.05. The link coming up sets what the host
configured and 9.000.00. -/
def Obligations.BridgeServesTheHost : Prop :=
  ∀ (s b : State) (h : OdHdr), b = s.odBegun h →
    (∀ (f : Frame) (k : Nat), s.ticking = true → fabSpace f.addr = 0x08 → frameWhole f = true → f.len = f.payload.length → 0 < f.len → f.len ≤ 2048 → k = bits f.addr 47 45 → s.isolated .hbr = false →
      (f.type = 0x0 → s.bridge.reqs = [] → s.slotFlag k 0 = true → s.slotFlag k 2 = true → bits f.addr 44 0 + f.len ≤ 2 ^ s.rd (slotObj k 1) → s.mastering = true →
        exec (.fabricHostRequest f) s = .next (if s.freeNat 1 = 1
          then { s.tookFree with bridge := { s.bridge with reqs := [⟨f, k, [], false, some (s.rd (slotObj k 0) + bits f.addr 44 0)⟩] } }
          else s.tookFree.masterWrite (s.rd (slotObj k 0) + bits f.addr 44 0) f.payload)) ∧
      (f.type = 0x0 ∨ f.type = 0x1 ∨ f.type = 0x3 → s.slotFlag k 0 = false →
        ∃ t u : State, t = (s.inc 0x907003).bridgeJournal 0x13 f.tag 7 0x3 k ∧ u = t.sendFrame 6 (t.failureReport f 0x3) ∧
          exec (.fabricHostRequest f) s = .next u)) ∧
    (∀ (tag : Nat) (d : List Byte) (r : HostReq) (p : HostPart), s.reqOf tag = some r → r.parts = [p] → p.tag = some tag → p.done = false →
      r.answered = false → r.frame.type = 0x1 → s.bridge.reqs = [r] →
      (p.len ≤ (p.got ++ d).length →
        ∃ (t u : State) (r' : HostReq), u = { s with bridge := { s.bridge with reqs := [r'] } } ∧ exec (.hostCompletion tag 0 false d) s = .next t ∧
          t.bridge.reqs = [] ∧ t.switch = (u.sendFrame 6 (u.response r.frame 0x2 0 ((p.got ++ d).take p.len))).switch) ∧
      (s.bridge.cplTime ≠ 0 → ∃ (t u v : State) (x : Nat) (r' : HostReq), u = { s with bridge := { s.bridge with reqs := [r'], aer := x } } ∧
        v = (u.raise .hbr 0x03 0x35 (bridgeTag r.frame.tag 7 0x7 r.slot)).notice 2 ∧ exec (.completionTimeout tag) s = .next t ∧ t.bridge.reqs = [] ∧
        t.switch = (v.sendFrame 6 (v.response r.frame 0x2 0x7 [])).switch ∧ t.journal = (v.sendFrame 6 (v.response r.frame 0x2 0x7 [])).journal)) ∧
    (∀ (tag status : Nat) (bad : Bool) (d : List Byte), s.reqOf tag = none →
      exec (.hostCompletion tag status bad d) s = .next s ∧ exec (.completionTimeout tag) s = .next s) ∧
    (∀ k : BridgeResetKind, s.ticking = true →
      ∃ t : State, exec (.bridgeReset k) s = .next t ∧ t.bridge.held = [] ∧ t.bridge.pieces = [] ∧ t.bridge.reqs = [] ∧ t.bridge.bme = false ∧
        t.bridge.posted = [] ∧ t.bridge.copies = [] ∧ t.bridge.flr = decide (k = .flr) ∧
        t.bridge.msixOn = false ∧ t.bridge.vecOn = 0 ∧ t.bridge.pba = 0 ∧ t.bridge.linkUp = (s.bridge.linkUp && decide (k = .flr)) ∧
        t.bridge.wins = s.bridge.wins ∧ (k ≠ .flr → t.rd 0x900000 = 0)) ∧
    (s.numReaches h 0x901800 1 = true → b.mode ≠ .configure → exec (.windowCommit h) s = .next (b.odRefused h 0x901800 0x03 none)) ∧
    (s.numPasses h 0x901800 1 = true →
      (b.windowCheck ≠ 0 →
        exec (.windowCommit h) s = .next ((b.wr 0x901801 b.windowCheck).odRefused h 0x901800 0x0A (some b.windowCheck))) ∧
      (b.windowCheck = 0 →
        ∃ t : State, exec (.windowCommit h) s = .next (t.numDone b h 0x901800 1 false) ∧ t.rd 0x901801 = 0 ∧
          t.bridge.wins = ((List.range 6).filter (fun k => b.rd (winObj k 0) == 1)).map (fun k => (k, (b.windowOf k).1)))) ∧
    (s.numPasses h 0x907006 1 = true →
      ∃ t : State, exec (.clearBridgeCounters h) s = .next (t.numDone b h 0x907006 1 false) ∧ (∀ k < 6, t.rd (0x907000 + k) = 0) ∧ t.bridge = b.bridge ∧
        (∀ o, o < 0x907000 ∨ 0x907005 < o → t.rd o = b.rd o)) ∧
    (∀ (rate width mps mrrs cpl : Nat) (c : PcieCommand) (msix : MsixControl), s.ticking = true → 1 ≤ rate → rate ≤ 4 → width ∈ [1, 2, 4] →
      mps ∈ [128, 256, 512] → mrrs ∈ [128, 256, 512] → cplTimeOk cpl = true → s.bridge.pba = 0 →
      exec (.pcieLinkUp rate width c msix mps mrrs cpl) s = .next (({ s with bridge := { s.bridge with
        linkUp := true, flr := false, bme := c.bme, ecrcGen := c.ecrcGen, ecrcChk := c.ecrcChk, msixOn := msix.enable, fmask := msix.mask, mps := mps
        mrrs := mrrs, cplTime := cpl } }).wr 0x900000 (rate * 16 + width)))

/-- A write of a mode to 1.001.00 that passes its checks: a request for Test in bring-up enters it at once; one that a row of the mode table makes at a
cycle boundary (Test from Configure; Configure from Run, Repair or Hold; Run from Configure or Hold; Hold from Run, Repair or Configure) is kept in
1.001.01 and answered as staged where its condition holds, and refused with detail 1 where it does not; once a sleep commit is accepted it is
refused with detail 3. Bring-up or Configure asked for in Test is shown in 1.001.01 as pending, for the WRST that it asks for, and refused with
detail 4 in brace. A request that no row names is refused with 0x02. Configure asked for in a bring-up that an error has stopped is refused with
detail 2. A warm reset is staged, and refused with detail 5 in Run and Repair and with detail 4 in brace. -/
def Obligations.ModeRequestsFollowTheTable : Prop :=
  ∀ (s b : State) (h : OdHdr), b = s.odBegun h →
    (∀ (c : Instr) (code : Nat),
      (c = .modeRequestBringUp h ∧ code = 1) ∨ (c = .modeRequestTest h ∧ code = 2) ∨ (c = .modeRequestConfigure h ∧ code = 3) ∨
        (c = .modeRequestRun h ∧ code = 4) ∨ (c = .modeRequestHold h ∧ code = 6) →
      s.numPasses h 0x100100 code = true →
      (code = 2 → b.mode = .bringUp → exec c s = .next ((b.enterMode .test).numDone b h 0x100100 code false)) ∧
      ((code = 2 ∧ b.mode = .configure) ∨ (code = 3 ∧ (b.mode = .run ∨ b.mode = .repair ∨ b.mode = .hold)) ∨
          (code = 4 ∧ (b.mode = .configure ∨ b.mode = .hold)) ∨ (code = 6 ∧ (b.mode = .run ∨ b.mode = .repair ∨ b.mode = .configure)) →
        (b.sleep.back.isSome = true → exec c s = .next (b.odRefused h 0x100100 0x0A (some 3))) ∧
        (b.sleep.back = none →
          exec c s = .next (
            if (code = 4 → b.hasBank = true ∨ b.bankState = 4) ∧ (code = 6 → b.mode = .configure → b.hasBank = true) then
              (b.wr 0x100101 code).numDone b h 0x100100 code true
            else b.odRefused h 0x100100 0x0A (some 1)))) ∧
      (code = 1 ∨ code = 3 → b.mode = .test → b.power.brace = none →
        exec c s = .next ((b.wr 0x100101 code).numDone b h 0x100100 code true)) ∧
      (code = 1 ∨ code = 3 → b.mode = .test → b.power.brace.isSome = true → exec c s = .next (b.odRefused h 0x100100 0x0A (some 4))) ∧
      ((code = 1 ∧ b.mode ≠ .test) ∨ (code = 2 ∧ b.mode ∉ [.bringUp, .configure]) ∨ (code = 3 ∧ (b.mode = .configure ∨ b.mode = .bringUp ∧ b.rd 0x104001 = 0)) ∨
          (code = 4 ∧ b.mode ∉ [.configure, .hold]) ∨ (code = 6 ∧ b.mode ∉ [.run, .repair, .configure]) →
        exec c s = .next (b.odRefused h 0x100100 0x02 none)) ∧
      (code = 3 → b.mode = .bringUp → b.rd 0x104001 ≠ 0 → exec c s = .next (b.odRefused h 0x100100 0x0A (some 2)))) ∧
    (s.numPasses h 0x100200 1 = true →
      (b.mode = .run ∨ b.mode = .repair → exec (.warmReset h) s = .next (b.odRefused h 0x100200 0x0A (some 5))) ∧
      (b.mode ≠ .run → b.mode ≠ .repair → b.power.brace.isSome = true →
        exec (.warmReset h) s = .next (b.odRefused h 0x100200 0x0A (some 4))) ∧
      (b.mode ≠ .run → b.mode ≠ .repair → b.power.brace = none →
        exec (.warmReset h) s = .next (({ b with modes := { b.modes with wrst := true } }).numDone b h 0x100200 1 true)))

/-- The end of a POR leads to Standby with both transceivers in Standby, and does nothing in another mode. The end of a CPR in Standby leads to bring-up
with the core rails up. RST_N and a watchdog reset a running core die, and a WRST that was asked for, by its command or by a mode request pending in
Test out of brace, resets it at the end of a cycle with no store pending: the mode is Standby, the sequencer, pawns, OD, bridge, switch and fabric
time are at reset (the bridge keeps its aperture sizes through a WRST and a watchdog), stores not yet made are lost, flash stays, and an object of
class V that is no pin cell reads its default. The journal stays through a WRST and the Keeper watchdog and is empty after the others. A watchdog
counts in 1.020.02 and the run of watchdog resets, to 3, in 1.020.03. Loss of VAON leaves no power, with flash as it is and INH released; below 1.80
V, then or later in POR, class A takes its defaults too. -/
def Obligations.ResetsLeaveStandby : Prop :=
  ∀ s : State,
    (s.mode = .noPower → ∃ t : State, exec .porEnd s = .next t ∧ t.mode = .standby ∧ t.rd (xcvrObj 0 0) = 2 ∧ t.rd (xcvrObj 1 0) = 2) ∧
    (s.mode ≠ .noPower → exec .porEnd s = .next s) ∧
    (s.mode = .standby →
      exec .cprEnd s = .next { s with mode := .bringUp, power := { s.power with
        under := setBit (setBit (setBit s.power.under 0x10 false) 0x11 false) 0x12 false } }) ∧
    (s.coreUp = true →
      ∀ (c : Instr) (warm : Bool), (c = .hrst ∧ warm = false) ∨ (c = .keeperWatchdogExpiry ∧ warm = true) ∨ (c = .aonWatchdogExpiry ∧ warm = false) ∨
          (c = .wrstTakesEffect ∧ warm = true ∧ (s.modes.wrst = true ∨ s.mode = .test ∧ (s.rd 0x100101 = 1 ∨ s.rd 0x100101 = 3) ∧ s.inBrace = false) ∧ s.stores = [] ∧ (s.ticking = false ∨ s.atCycleEnd = true)) →
        ∃ t : State, exec c s = .next t ∧ t.mode = .standby ∧ t.seq = {} ∧ t.pawns = {} ∧ t.od = {} ∧
          t.bridge = (if c = .hrst then {} else { aperP := s.bridge.aperP, aperN := s.bridge.aperN, aperSet := s.bridge.aperSet }) ∧ t.switch = {} ∧ t.time = {} ∧
          t.ports = [] ∧ t.stores = [] ∧ t.flash = s.flash ∧ t.flashBlobs = s.flashBlobs ∧ t.modes.keeperUp = false ∧ t.modes.wrst = false ∧
          t.journal.recs = (if warm then s.journal.recs else []) ∧ t.pending = s.pending ∧
          (∀ o, objPersist o = .v → pinCell o = false → mfind s.flash o = none → t.rd o = objDefault o) ∧
          (c = .keeperWatchdogExpiry ∨ c = .aonWatchdogExpiry → t.rd 0x102003 = min 3 (s.rd 0x102003 + 1)) ∧
          (c = .hrst ∨ c = .wrstTakesEffect → t.rd 0x102003 = s.rd 0x102003)) ∧
    (s.coreUp = false → exec .hrst s = .next s ∧ exec .keeperWatchdogExpiry s = .next s ∧ exec .aonWatchdogExpiry s = .next s ∧
      exec .wrstTakesEffect s = .next s) ∧
    (s.modes.wrst = false → s.rd 0x100101 = 0xFF → exec .wrstTakesEffect s = .next s) ∧
    (∀ below : Bool, s.mode ≠ .noPower →
      ∃ t : State, exec (.vaonLoss below) s = .next t ∧ t.mode = .noPower ∧ t.seq = {} ∧ t.od = {} ∧ t.bus = {} ∧ t.flash = s.flash ∧ t.stores = [] ∧
        t.power.under.testBit 0x13 = true ∧ (below = true → t.pins.owner = 0) ∧
        t.rd 0x712000 = 0 ∧ (below = true → ∀ o, objPersist o = .a → mfind s.flash o = none → t.rd o = objDefault o)) ∧
    (s.mode = .noPower → exec (.vaonLoss false) s = .next s ∧
      ∃ t : State, exec (.vaonLoss true) s = .next t ∧ t.mode = .noPower ∧ t.modes.aonLost = true ∧
        ∀ o, objPersist o = .a → mfind s.flash o = none → t.rd o = objDefault o)

/-- Bring-up in its first stage after a third watchdog reset stops in stage 3 with error 5, without flash with error 1, and with neither firmware slot
good with error 2. With a good slot and a sequencer, switch or Keeper that fails its self test it stops in stage 4 with error 3. With a good slot
chosen by the boot record and no such failure the Keeper runs, the islands are released, and the hub is in Configure with stage 9; a run that
completes only its first stages shows the next one, with the transmitters of the ring ports as their enables say from stage 3 on, the Keeper running
from stage 4 on, and the islands released from stage 7 on. A stage that takes too long stops where it is with error 4. A bring-up that has stopped,
and another mode, take neither command. -/
def Obligations.BringUpEntersConfigure : Prop :=
  ∀ (s : State) (x : BringUpFindings) (slotB : Bool),
    slotB = (bootChoice s.bootNow).1 →
    (s.mode = .bringUp → s.rd 0x104001 = 0 → s.rd 0x104000 = 1 →
      (∀ err : Nat, 3 ≤ x.upTo →
          (s.thirdWdr = true ∧ err = 5) ∨ (s.thirdWdr = false ∧ x.flashOk = false ∧ err = 1) ∨
            (s.thirdWdr = false ∧ x.flashOk = true ∧ (x.sigA && s.update.fwA.full) = false ∧ (x.sigB && s.update.fwB.full) = false ∧ err = 2) →
        ∃ t : State, exec (.bringUp x) s = .next t ∧ t.mode = .bringUp ∧ t.rd 0x104000 = 3 ∧ t.rd 0x104001 = err ∧ t.modes = s.modes ∧ t.seq = s.seq ∧
          t.update = s.update ∧ ∀ o, o ≠ 0x104000 → o ≠ 0x104001 → t.rd o = s.rd o) ∧
      (s.thirdWdr = false → x.flashOk = true → (if slotB then x.sigB && s.update.fwB.full else x.sigA && s.update.fwA.full) = true → x.bistBad = [] →
        1 ≤ x.upTo → x.upTo ≤ 7 →
        ∃ t : State, exec (.bringUp x) s = .next t ∧ t.mode = .bringUp ∧ t.rd 0x104000 = x.upTo + 1 ∧ t.rd 0x104001 = 0 ∧
          (2 ≤ x.upTo → ∀ p : Port, t.ring.tx.testBit (portNum p) = decide (s.pwrParam (portObj p 0 5) = 1)) ∧
          (x.upTo < 3 → t.modes = s.modes) ∧ (3 ≤ x.upTo → t.modes.keeperUp = true ∧ t.update.runB = slotB) ∧
          (x.upTo < 6 → t.seq.released = s.seq.released) ∧ (6 ≤ x.upTo → t.seq.released = true)) ∧
      (s.thirdWdr = false → x.flashOk = true → (if slotB then x.sigB && s.update.fwB.full else x.sigA && s.update.fwA.full) = true →
        (x.bistBad.any (fun i => i = .seq || i = .swx || i = .mgt) = true → 4 ≤ x.upTo →
          ∃ t : State, exec (.bringUp x) s = .next t ∧ t.mode = .bringUp ∧ t.rd 0x104000 = 4 ∧ t.rd 0x104001 = 3) ∧
        (x.bistBad = [] → 8 ≤ x.upTo →
          ∃ t : State, exec (.bringUp x) s = .next t ∧ t.mode = .configure ∧ t.rd 0x104000 = 9 ∧ t.rd 0x104001 = 0 ∧ t.seq.released = true ∧
            t.modes.keeperUp = true ∧ t.update.runB = slotB ∧ t.rd 0x102003 = 0))) ∧
    (s.mode = .bringUp → s.rd 0x104001 = 0 → exec .bringUpStageTimeout s = .next ((s.wr 0x104000 (s.rd 0x104000)).wr 0x104001 4)) ∧
    (s.mode ≠ .bringUp ∨ s.rd 0x104001 ≠ 0 → exec (.bringUp x) s = .next s ∧ exec .bringUpStageTimeout s = .next s)

/-- A channel whose start conditions hold starts, and one whose conditions do not hold does not: it is wanted on by its auto-start or its last command,
the card is seated, its retry timer does not run, and a shorted MOSFET has ceased to conduct. A completed start is on; a fault timer that first
counts, and returns to zero, moves an on channel to regulation and back. A start timeout, a fault timer trip, a thermal or diode over-temperature
and a gate fault turn a channel that is on off with fault 4, 1, 2, 3 and 5: its power-good goes, its retry timer runs, and it waits for a retry or
is latched off by its retry policy; with the inlet the e-fuses lose power-good too. A fast trip is only counted. A MOSFET that conducts while its
gate is off is shorted, with fault 6. Power-good is asserted at the end of the delay of an on channel and not while the fault timer counts. A retry
timer that expires frees the channel to start again, and the good time clears the retry count. -/
def Obligations.PowerChannelsFollowTheirEvents : Prop :=
  ∀ (s : State) (c : Fin 9), s.mode ≠ .noPower →
    (∀ (temp vhs : Nat) (conducting : Bool), exec (.channelStart c temp ⟨vhs, conducting⟩) s = .next (if s.mayStart c.val temp vhs conducting then s.wr (chanObj c.val 1 0) 2 else s) ∧
      (s.mayStart c.val temp vhs conducting = true → (c.val = 8 ∨ s.pwrParam (chanObj c.val 0 7) = 1 ∨ mfind s.power.cmd c.val = some true) ∧
        s.power.seated = true ∧ s.power.retry.testBit c.val = false ∧ (s.chanRun c.val = 0 ∨ s.chanRun c.val = 7 ∧ conducting = false))) ∧
    (s.chanRun c.val = 2 → exec (.startComplete c) s = .next (s.wr (chanObj c.val 1 0) 3)) ∧
    (s.chanRun c.val = 3 → exec (.faultTimerStart c) s = .next (s.wr (chanObj c.val 1 0) 4)) ∧
    (s.chanRun c.val = 4 → exec (.faultTimerReturnsToZero c) s = .next (s.wr (chanObj c.val 1 0) 3)) ∧
    (∀ (i : Instr) (code : Nat),
      (i = .startTimeout c ∧ code = 4 ∧ s.chanRun c.val = 2) ∨ (i = .faultTimerTrip c ∧ code = 1 ∧ s.chanRun c.val = 4) ∨
        (∃ temp, i = .thermalModelTrip c temp ∧ code = 2 ∧ s.gateOn c.val = true ∧ s.pwrParam (chanObj c.val 0 0xE) ≠ 1 ∧
          f32Int (s.pwrParam (chanObj c.val 0 0x14)) ≤ f32Int temp) ∨
        (∃ temp, i = .diodeOverTemperature c temp ∧ code = 3 ∧ c.val < 8 ∧ s.gateOn c.val = true ∧ s.pwrParam (chanObj c.val 0 0xE) ≠ 0 ∧
          f32Int (s.pwrParam (chanObj c.val 0 0x16)) ≤ f32Int temp) ∨
        (i = .gateFault c ∧ code = 5 ∧ (s.chanRun c.val = 3 ∨ s.chanRun c.val = 4)) →
      ∃ t : State, exec i s = .next t ∧ t.power.pg.testBit c.val = false ∧ t.power.retry.testBit c.val = true ∧
        (c.val = 8 → ∀ k < 8, s.gateOn k = true → t.power.pg.testBit k = false) ∧
        (c.val ≠ 8 → t.rd (chanObj c.val 1 1) = code ∧
          t.chanRun c.val = (if s.pwrParam (chanObj c.val 0 0xA) = 0 then 6
            else if s.pwrParam (chanObj c.val 0 0xA) = 1 ∧ s.pwrParam (chanObj c.val 0 0xB) < (s.inc (chanObj c.val 1 2)).rd (chanObj c.val 1 2) then 6
            else 5))) ∧
    (s.gateOn c.val = true → exec (.fastTrip c) s = .next (s.inc (chanObj c.val 1 9))) ∧
    (s.gateOn c.val = false → s.chanRun c.val ≠ 7 →
      ∃ t : State, exec (.mosfetShort c) s = .next t ∧ t.chanRun c.val = 7 ∧ t.rd (chanObj c.val 1 1) = 6 ∧ t.power.pg.testBit c.val = false) ∧
    (s.chanRun c.val = 3 →
      exec (.powerGoodDelayEnd c) s = .next { s with power := { s.power with pg := setBit s.power.pg c.val true } }) ∧
    (s.chanRun c.val = 4 → exec (.powerGoodDelayEnd c) s = .next s) ∧
    (∀ t : State, t = { s with power := { s.power with retry := setBit s.power.retry c.val false } } → s.power.retry.testBit c.val = true →
      exec (.retryTimerExpired c) s = .next (if s.chanRun c.val = 5 then t.wr (chanObj c.val 1 0) 0 else t)) ∧
    (s.gateOn c.val = true → s.power.pg.testBit c.val = true → exec (.goodTimeElapsed c) s = .next (s.wr (chanObj c.val 1 2) 0))

/-- A channel command of 1 or 0 is kept as the channel's last command, for the inlet in Hold and Configure only and refused with 0x02 otherwise; a
command of 0 also turns an e-fuse that is on off with fault 0x0B, to off, journalled, and does nothing more to one that is off. Clearing the fault
of a channel zeroes its retry count and fault code, stops its retry timer and frees a latched, waiting or shorted channel, and is refused with 0x02
while a shorted MOSFET still conducts. -/
def Obligations.PowerCommandsTakeEffect : Prop :=
  ∀ (s b : State) (h : OdHdr) (c : Fin 9), b = s.odBegun h →
    (∀ (conducting : Bool) (t : State), s.numPasses h (chanObj c.val 1 0xA) 1 = true →
      t = (({ b with power := { b.power with retry := setBit b.power.retry c.val false } }).wr (chanObj c.val 1 2) 0).wr (chanObj c.val 1 1) 0 →
      (b.chanRun c.val = 7 → conducting = true → exec (.clearFault h c conducting) s = .next (b.odRefused h (chanObj c.val 1 0xA) 0x02 none)) ∧
      (b.chanRun c.val ≠ 7 ∨ conducting = false →
        exec (.clearFault h c conducting) s =
          .next ((if 5 ≤ b.chanRun c.val then t.wr (chanObj c.val 1 0) 0 else t).numDone b h (chanObj c.val 1 0xA) 1 false))) ∧
    (s.numPasses h (chanObj c.val 1 0xB) 1 = true →
      (c.val ≠ 8 ∨ b.mode = .hold ∨ b.mode = .configure →
        exec (.channelOn h c) s = .next (({ b with power := { b.power with cmd := minsert b.power.cmd c.val true } }).numDone b h
          (chanObj c.val 1 0xB) 1 false)) ∧
      (c.val = 8 → b.mode ≠ .hold → b.mode ≠ .configure →
        exec (.channelOn h c) s = .next (b.odRefused h (chanObj c.val 1 0xB) 0x02 none))) ∧
    (∀ t : State, s.numPasses h (chanObj c.val 1 0xB) 0 = true → t = { b with power := { b.power with cmd := minsert b.power.cmd c.val false } } →
      (c.val ≠ 8 → b.gateOn c.val = false → exec (.channelOff h c) s = .next (t.numDone b h (chanObj c.val 1 0xB) 0 false)) ∧
      (c.val ≠ 8 → b.gateOn c.val = true →
        exec (.channelOff h c) s = .next ((((({ t with power := { t.power with pg := setBit t.power.pg c.val false } }).wr (chanObj c.val 1 1) 0x0B).wr
          (chanObj c.val 1 0) 0).chanJournal c.val 0x0B).numDone b h (chanObj c.val 1 0xB) 0 false)) ∧
      (c.val = 8 → b.mode ≠ .hold → b.mode ≠ .configure →
        exec (.channelOff h c) s = .next (b.odRefused h (chanObj c.val 1 0xB) 0x02 none)))

/-- A rail that falls below its warning is remembered as warned; a rail that starts brace begins it with one warning, or adds one to a brace under way.
A rail that rises again is forgotten and journalled. A core rail at its reset level resets a running core die to Standby; VCAN takes both
transceivers out of Normal and Listen-only to Standby; a bank's supply leaves the bank absent and disabled. Leaving a reset level clears it, and
makes the bank present again. An overvoltage turns a running inlet off. Lost seating turns every gate off; qualified seating is noted. Brace ends
once no rail that starts it is warned, journalled with its first rail, its warnings and its time. -/
def Obligations.SuppliesSeatingAndBrace : Prop :=
  ∀ s : State, s.mode ≠ .noPower →
    (∀ rail : Nat, railOk rail = true → s.power.warn.testBit rail = false →
      ∃ t : State, exec (.supplyWarning rail) s = .next t ∧ t.power.warn = setBit s.power.warn rail true ∧ t.mode = s.mode ∧
        (∀ first n : Nat, s.power.brace = some (first, n) → t.power.brace = some (first, n + 1)) ∧
        (s.power.brace = none → t.power.brace = if s.startsBrace rail then some (rail, 1) else none)) ∧
    (∀ rail : Nat, railOk rail = true → s.power.warn.testBit rail = true →
      exec (.warningLeft rail) s =
        .next (({ s with power := { s.power with warn := setBit s.power.warn rail false } }).railJournal 0x71 rail 2)) ∧
    (∀ rail : Nat, coreRail rail = true → s.power.under.testBit rail = false → s.coreUp = true →
      ∃ t : State, exec (.supplyResetLevel rail) s = .next t ∧ t.mode = .standby ∧ t.seq = {} ∧ t.power.under = setBit s.power.under rail true) ∧
    (s.power.under.testBit 0x14 = false →
      ∃ t : State, exec (.supplyResetLevel 0x14) s = .next t ∧ t.power.under = setBit s.power.under 0x14 true ∧ t.mode = s.mode ∧
        (∀ x < 2, (s.rd (xcvrObj x 0) ≤ 1 → t.rd (xcvrObj x 0) = 2) ∧ (1 < s.rd (xcvrObj x 0) → t.rd (xcvrObj x 0) = s.rd (xcvrObj x 0)) ∧
          (t.rd (xcvrObj x 5)).testBit 1 = true)) ∧
    (∀ k < 16, s.power.under.testBit (0x20 + k) = false →
      ∃ t : State, exec (.supplyResetLevel (0x20 + k)) s = .next t ∧ t.pins.present = setBit s.pins.present k false ∧
        t.pins.disabled = setBit s.pins.disabled k true ∧ t.power.under = setBit s.power.under (0x20 + k) true ∧ t.mode = s.mode) ∧
    (∀ rail : Nat, coreRail rail = true ∨ rail = 0x15 →
      exec (.resetLevelLeft rail) s = .next { s with power := { s.power with under := setBit s.power.under rail false } }) ∧
    (∀ k < 16, exec (.resetLevelLeft (0x20 + k)) s = .next { s with
      power := { s.power with under := setBit s.power.under (0x20 + k) false }
      pins := { s.pins with present := setBit s.pins.present k true } }) ∧
    (s.gateOn 8 = false → exec .vhsOvervoltage s = .next s) ∧
    (s.gateOn 8 = true → ∃ t : State, exec .vhsOvervoltage s = .next t ∧ t.gateOn 8 = false ∧ (∀ c < 8, t.gateOn c = false) ∧
      (s.coreUp = true → t.mode = .standby)) ∧
    (s.power.seated = true →
      ∃ t : State, exec .seatingLost s = .next t ∧ t.power.seated = false ∧ (∀ c < 9, t.gateOn c = false) ∧
        (s.gateOn 8 = true → s.coreUp = true → t.mode = .standby) ∧ (s.gateOn 8 = false → t.mode = s.mode)) ∧
    (s.power.seated = false → exec .seatingLost s = .next s) ∧
    (exec .seatingQualified s = .next { s with power := { s.power with seated := true } }) ∧
    (∀ first n ms : Nat, s.power.brace = some (first, n) → s.braceWarn = 0 → s.update.bootDefer = none →
      exec (.braceEnd ms) s = .next (({ s with power := { s.power with brace := none, again := 0 } }).raise (if s.modes.keeperUp then .mgt else .aon) 0x00 0x74
        (first * 2 ^ 24 + min n 255 * 2 ^ 16 + min ms 65535)))

/-- A HEARTBEAT of this cycle from the partner is heard with its hash; where both hubs say they are active, the one with the lower grant sequence, or
the higher node number at equal ones, goes to holding next. At beat h + 256 the missed count is cleared or goes up, once. A standby writes a MIRROR
entry of an image into its mirror store and not into its images. An ARBITER_BEACON that is not stale names the hub active or holding; a GRANT to
this hub is answered with 3 stale, 2 not synchronized, 1 too late or 0 accepted, and then taken at its cycle; one that releases this hub is noted.
The arbiter keeps a hub's PAIR_STATUS, names an active hub where it has none, and notes an accepted GRANT_ACK. Each with a failed CMAC, and a status
or an answer of no pair that the arbiter knows, is journalled and has no other effect; a beacon or grant of another pair has none. A castling
request is noted on the active hub of a pair; a castling command names a known service or is answered with 0x04. -/
def Obligations.PairMessagesTakeEffect : Prop :=
  ∀ (s b : State) (h : OdHdr) (m : List Byte), b = s.odBegun h →
    (∀ p : Port,
      (s.fromPartner p m 0x0510 = true → m.length = 32 → beField m 4 8 = s.cycle →
        ∃ t : State, exec (.heartbeat p m) s = .next t ∧ t.pair.heard = true ∧ t.pair.hash = some (beField m 16 8) ∧
          t.pair.roleNext = if beField m 12 1 = 1 ∧ s.rd 0x208200 = 1 ∧
            (s.rd 0x208203 < beField m 28 4 ∨ s.rd 0x208203 = beField m 28 4 ∧ s.rd 0x208101 < s.node) then some 2 else s.pair.roleNext) ∧
      (s.fromPartner p m 0x0510 = false → exec (.heartbeat p m) s = .next s) ∧
      (∀ d words : Nat, s.fromPartner p m 0x0511 = true → s.rd 0x208200 = 0 → beField m 16 2 = 1 → d = beField m 20 4 → words = bits d 29 24 + 1 →
        24 + 4 * words ≤ m.length → bits d 31 30 ≤ 1 →
        ∃ t : State, exec (.mirror p m) s = .next t ∧ t.pair.mirSeq = beField m 12 4 ∧ t.seq = s.seq ∧
          t.pair.storeIn = (if bits d 31 30 = 0 then memWrite s.pair.storeIn (d % 2 ^ 24) (wireWords (slice m 24 (4 * words))) else s.pair.storeIn) ∧
          t.pair.storeOut = (if bits d 31 30 = 1 then memWrite s.pair.storeOut (d % 2 ^ 24) (wireWords (slice m 24 (4 * words))) else s.pair.storeOut)) ∧
      (s.fromPartner p m 0x0511 = false ∨ s.rd 0x208200 ≠ 0 → exec (.mirror p m) s = .next s)) ∧
    (s.inPair = true → s.ticking = true → s.beat = s.heartBeat + 256 →
      (s.pair.judged = false →
        ∃ t : State, exec .heartbeatDeadline s = .next t ∧ t.pair.judged = true ∧
          t.rd 0x208201 = if s.pair.heard then 0 else min (s.rd 0x208201 + 1) (2 ^ objBits 0x208201 - 1)) ∧
      (s.pair.judged = true → exec .heartbeatDeadline s = .next s)) ∧
    (s.fromArbiter m 0x0513 = true →
      (cmacOk s.pairKey m 20 = false → exec (.arbiterBeacon m) s = .next (s.raise .mgt 0x02 0x24 (messageTag m))) ∧
      (cmacOk s.pairKey m 20 = true → s.otherPair m = true ∨ beField m 16 4 < s.rd 0x208203 → exec (.arbiterBeacon m) s = .next s) ∧
      (cmacOk s.pairKey m 20 = true → s.otherPair m = false → s.rd 0x208203 ≤ beField m 16 4 →
        (beField m 14 2 = s.node → s.rd 0x208200 = 2 →
          exec (.arbiterBeacon m) s = .next { s with pair := { s.pair with beacon := true, roleNext := some 1 } }) ∧
        (beField m 14 2 ≠ s.node → beField m 14 2 = s.rd 0x208101 → s.rd 0x208200 = 1 →
          exec (.arbiterBeacon m) s = .next { s with pair := { s.pair with beacon := true, roleNext := some 2 } }))) ∧
    (∀ (take seq r : Nat) (u : State), s.fromArbiter m 0x0514 = true → take = beField m 20 8 → seq = beField m 28 4 →
      r = (if seq ≤ s.rd 0x208203 then 3 else if s.rd 0x208200 = 0 ∧ s.rd 0x208206 = 0 then 2 else if s.beatsTo take < 64 then 1 else 0) →
      u = (if r = 0 then { (s.wr 0x208203 seq) with pair := { s.pair with takeAt := some (take, seq), releaseAt := none } } else s) →
      (cmacOk s.pairKey m 32 = false → exec (.grant m) s = .next (s.raise .mgt 0x02 0x24 (messageTag m))) ∧
      (cmacOk s.pairKey m 32 = true → s.otherPair m = true → exec (.grant m) s = .next s) ∧
      (cmacOk s.pairKey m 32 = true → s.otherPair m = false → beField m 14 2 = s.node →
        exec (.grant m) s = .next (u.sendControl (u.rd 0x208102) (withCmac u.pairKey (controlHead 0x0515 u.node u.cycle ++
          natBE 2 (u.rd 0x208100) ++ natBE 1 r ++ zeros 1 ++ natBE 8 take ++ natBE 4 seq)))) ∧
      (cmacOk s.pairKey m 32 = true → s.otherPair m = false → beField m 14 2 ≠ s.node → beField m 16 2 = s.node → s.rd 0x208203 < seq →
        exec (.grant m) s = .next { (s.wr 0x208203 seq) with pair := { s.pair with releaseAt := some take, takeAt := none } })) ∧
    (∀ k hub : Nat, s.ticking = true → hub = beField m 2 2 % 1024 →
      (beField m 0 2 = 0x0512 → s.findEntry (fun e => e.hubA = hub || e.hubB = hub) = none →
        exec (.pairStatus m) s = .next (s.raise .mgt 0x02 0x24 (messageTag m))) ∧
      (beField m 0 2 = 0x0515 → s.findEntry (fun e => e.service = beField m 12 2) = none →
        exec (.grantAck m) s = .next (s.raise .mgt 0x02 0x24 (messageTag m))) ∧
      (beField m 0 2 = 0x0512 → s.findEntry (fun e => e.hubA = hub || e.hubB = hub) = some k →
        (cmacOk (s.pairEntry k).key m 20 = false → exec (.pairStatus m) s = .next (s.raise .mgt 0x02 0x24 (messageTag m))) ∧
        (cmacOk (s.pairEntry k).key m 20 = true →
          ∃ t : State, exec (.pairStatus m) s = .next t ∧
            t.reportOf hub (beField m 4 8) = some ⟨beField m 4 8, beField m 12 1, beField m 15 1, beField m 16 4⟩ ∧
            (∀ n, n ≠ hub → mget [] t.pair.reports n = mget [] s.pair.reports n) ∧
            mget 0 t.pair.named k = (if beField m 12 1 = 1 ∧ mget 0 s.pair.named k = 0 then hub else mget 0 s.pair.named k))) ∧
      (beField m 0 2 = 0x0515 → s.findEntry (fun e => e.service = beField m 12 2) = some k →
        (cmacOk (s.pairEntry k).key m 28 = false → exec (.grantAck m) s = .next (s.raise .mgt 0x02 0x24 (messageTag m))) ∧
        (cmacOk (s.pairEntry k).key m 28 = true → beField m 14 1 ≠ 0 → exec (.grantAck m) s = .next s) ∧
        (cmacOk (s.pairEntry k).key m 28 = true → beField m 14 1 = 0 → beField m 24 4 = mget 0 s.pair.grantSeq k →
          ∃ t : State, exec (.grantAck m) s = .next t ∧ mfind t.pair.granted k = some (hub, beField m 16 8) ∧ k ∉ t.pair.commanded))) ∧
    (s.numPasses h 0x208205 1 = true →
      exec (.requestCastling h) s = .next ((if b.inPair = true ∧ b.rd 0x208200 = 1 then { b with pair := { b.pair with askCastle := true } } else b).numDone
        b h 0x208205 1 false)) ∧
    (∀ v : Nat, v < 2 ^ objBits 0x208410 → s.numPasses h 0x208410 v = true →
      (∀ k : Nat, b.findEntry (fun e => e.service = v) = some k →
        ∃ t : State, exec (.commandCastling h v) s = .next (t.numDone b h 0x208410 v false) ∧ k ∈ t.pair.commanded ∧ t.pair.granted = b.pair.granted) ∧
      (b.findEntry (fun e => e.service = v) = none → exec (.commandCastling h v) s = .next (b.odRefused h 0x208410 0x04 none)))

/-- PROPOSE_SLEEP on the master with no proposal outstanding makes the next one, numbered one higher; CANCEL withdraws it before the commit, with a
SLEEP_CANCEL, and logs the vetoes held; both are otherwise refused with 0x02. A member answers a new SLEEP_PROPOSE of the master with one
SLEEP_VOTE: with no veto reason it accepts and holds the proposal, otherwise it counts the veto; one already answered gets no second vote. The
master keeps a vote under the sender's number; an accept clears that member's consecutive vetoes and takes it off the flag list. A SLEEP_COMMIT of
the master for the accepted proposal commits the member: the mode is noted and a pending mode request is withdrawn; where a wake came since its
accept its entry is aborted at once. A SLEEP_CANCEL of the master ends an accepted proposal. WAKE_ALL aborts a committed or entering hub, is ignored
by one that has aborted, and for any other is a wake seen, which a member that has accepted remembers and on which a master that has voted, before
its commit, cancels. CLEAR_FLAGS on the master empties the list of flagged nodes. -/
def Obligations.SleepIsProposedVotedAndCommitted : Prop :=
  ∀ (s b : State) (h : OdHdr) (m : List Byte) (sender : Nat), b = s.odBegun h → sender = beField m 2 2 % 1024 →
    (s.numPasses h 0xB00001 1 = true →
      (b.servo = 5 → b.sleep.mine = none →
        exec (.proposeSleep h) s = .next (((({ b with sleep := { b.sleep with
          mine := some ⟨(b.rd 0xB00008 + 1) % 2 ^ 32, 0, 0, b.node⟩
          toSend := true
          done := false
          votes := [] } }).wr 0xB00007 1).wr 0xB00008 ((b.rd 0xB00008 + 1) % 2 ^ 32)).numDone b h 0xB00001 1 false)) ∧
      (b.servo ≠ 5 ∨ b.sleep.mine ≠ none → exec (.proposeSleep h) s = .next (b.odRefused h 0xB00001 0x02 none))) ∧
    (s.numPasses h 0xB00001 2 = true →
      ((∀ e ∈ b.sleep.votes, e.2.1 = 0) → b.logVetoes = b) ∧
      (∀ (x : Proposal) (u : State), b.servo = 5 → b.sleep.mine = some x → b.sleep.done = false → u = b.logVetoes.sendCancel x.num 3 →
        exec (.cancelSleepProposal h) s = .next ((({ u with sleep := { u.sleep with mine := none, prop := none, votes := [] } }).wr 0xB00007 0).numDone
          b h 0xB00001 2 false)) ∧
      (b.servo ≠ 5 ∨ b.sleep.mine = none ∨ b.sleep.done = true →
        exec (.cancelSleepProposal h) s = .next (b.odRefused h 0xB00001 0x02 none))) ∧
    (∀ (active : Bool) (r : Nat) (x : Proposal) (t u : State), r = s.vetoReason (x.v - beField m 4 8) active →
      x = ⟨beField m 12 4, beField m 16 8, beField m 24 8, sender⟩ → t = { s with sleep := { s.sleep with answered := some x } } →
      u = (if r = 0 then ((({ t with sleep := { t.sleep with prop := some x, back := none, swept := false, woke := none } }).wr 0xB00101 0).wr 0xB00008 x.num).wr 0xB00007 2
        else (t.inc 0xB00101).wr 0xB00008 x.num) →
      (s.ticking = true → isMessage m 0x0B10 32 = true → s.fromMaster sender = true → sender ≠ s.node → s.sleep.answered ≠ some x → s.sleep.back = none →
        exec (.sleepPropose m active) s = .next (u.sendControl sender (controlHead 0x0B11 s.node s.cycle ++ natBE 4 x.num ++
          natBE 1 (if r = 0 then 0 else 1) ++ natBE 1 r ++ natBE 2 (u.rd 0xB00101)))) ∧
      (s.fromMaster sender = false ∨ s.sleep.answered = some x → exec (.sleepPropose m active) s = .next s)) ∧
    (∀ x : Proposal, s.sleep.mine = some x →
      (s.ticking = true → isMessage m 0x0B11 20 = true → x.num = beField m 12 4 → s.sleep.done = false →
        (beField m 16 1 ≠ 0 → exec (.sleepVote m) s = .next { s with sleep := { s.sleep with
          votes := minsert s.sleep.votes sender (beField m 16 1, beField m 17 1, beField m 18 2) } }) ∧
        (beField m 16 1 = 0 → ∀ t : State, t = { s with sleep := { s.sleep with
            votes := minsert s.sleep.votes sender (0, beField m 17 1, beField m 18 2)
            consec := merase s.sleep.consec sender } } →
          exec (.sleepVote m) s = .next (t.setFlagged (s.flagged.filter (fun k => k != sender))))) ∧
      (x.num ≠ beField m 12 4 → exec (.sleepVote m) s = .next s)) ∧
    (∀ x : Proposal, s.sleep.prop = some x →
      (s.ticking = true → isMessage m 0x0B12 24 = true → s.fromMaster sender = true → x.num = beField m 12 4 → s.rd 0xB00007 = 2 →
        ∀ t : State, t = (({ s with sleep := { s.sleep with prop := some { x with p := beField m 16 8 }, back := some s.mode } }).wr
          0xB00007 3).wr 0x100101 0xFF →
        exec (.sleepCommit m) s = .next (if s.sleep.woke = none then t else ((t.wr 0xB00007 5).inc 0xB02004).raiseOpen .mgt 0x00 0x75)) ∧
      (s.fromMaster sender = false ∨ x.num ≠ beField m 12 4 ∨ s.rd 0xB00007 ≠ 2 → exec (.sleepCommit m) s = .next s) ∧
      (s.ticking = true → isMessage m 0x0B13 20 = true → s.fromMaster sender = true → x.num = beField m 12 4 → s.rd 0xB00007 = 2 →
        exec (.sleepCancel m) s = .next (({ s with sleep := { s.sleep with prop := none } }).wr 0xB00007 0)) ∧
      (s.fromMaster sender = false ∨ x.num ≠ beField m 12 4 ∨ s.rd 0xB00007 ≠ 2 → exec (.sleepCancel m) s = .next s)) ∧
    (s.ticking = true → s.rd 0xB00007 = 3 ∨ s.rd 0xB00007 = 4 →
      exec .wakeAll s = .next (((s.wr 0xB00007 5).inc 0xB02004).raiseOpen .mgt 0x00 0x75)) ∧
    (∀ (x : Proposal) (t u : State), s.ticking = true → s.rd 0xB00007 ≠ 3 → s.rd 0xB00007 ≠ 4 → s.sleep.back = none → s.sleep.mine = some x →
      s.sleep.done = false → t = { s with sleep := { s.sleep with seen := minsert s.sleep.seen 0x0E s.cycle } } → u = t.logVetoes.sendCancel x.num 2 →
      (s.sleep.toSend = true → exec .wakeAll s = .next t) ∧
      (s.sleep.toSend = false → exec .wakeAll s = .next (({ u with sleep := { u.sleep with mine := none, prop := none, votes := [] } }).wr 0xB00007 0))) ∧
    (s.rd 0xB00007 ≠ 3 → s.rd 0xB00007 ≠ 4 →
      (s.sleep.back ≠ none → exec .wakeAll s = .next s) ∧
      (s.ticking = true → s.sleep.back = none → s.sleep.mine = none →
        exec .wakeAll s = .next { s with sleep := { s.sleep with
          seen := minsert s.sleep.seen 0x0E s.cycle
          woke := if s.rd 0xB00007 = 2 ∧ s.sleep.toSend = false then some 0x0E else s.sleep.woke } })) ∧
    (s.numPasses h 0xB03201 1 = true →
      exec (.clearFlags h) s = .next ((if b.servo = 5 then b.setFlagged [] else b).numDone b h 0xB03201 1 false) ∧ (b.setFlagged []).flagged = [])

/-- At the point of no return of an entering hub in Hold the hub is in Doze with nothing armed or recorded, the entry is counted, and the state of the
core die is lost: no bank, no queued frame, no OD access, no pawn program. The ring watch is armed in Doze only. In Doze an enabled source records
its code and the AON count and claims INH; a late one claims nothing until the core rails have fallen, and is counted, each of them; one that is not
enabled does nothing. The wake timer acts in Doze only. INH is claimed again once the rails have fallen, or after 100 ms with bit 7 of the source
set. Outside Doze an enabled source seen by a committed or entering hub aborts the entry; a member that has accepted remembers it, for the commit to
come; with no proposal it is only noted with its cycle. -/
def Obligations.DozeIsEnteredAndLeft : Prop :=
  ∀ s : State,
    (∀ x : Proposal, s.sleep.prop = some x →
      (s.ticking = true → s.rd 0xB00007 = 4 → s.mode = .hold → x.p ≤ s.cycle →
        ∃ t : State, exec .pointOfNoReturn s = .next t ∧ t.mode = .doze ∧ t.doze = {} ∧ t.seq = {} ∧ t.switch = {} ∧ t.od = {} ∧ t.pawns = {} ∧
          t.sleep = { unread := s.sleep.unread } ∧ (s.rd 0xB02002 + 1 < 2 ^ 32 → t.rd 0xB02002 = s.rd 0xB02002 + 1)) ∧
      (s.rd 0xB00007 ≠ 4 ∨ s.cycle < x.p → exec .pointOfNoReturn s = .next s)) ∧
    (s.mode = .doze → exec .ringWatchArmed s = .next { s with doze := { s.doze with armed := true } }) ∧
    (s.mode ≠ .doze → exec .ringWatchArmed s = .next s ∧ (∀ late : Bool, exec (.wakeTimerExpiry late) s = .next s) ∧
      (∀ slow : Bool, exec (.inhReclaim slow) s = .next s)) ∧
    (s.mode = .doze → ∀ (c : Instr) (code : Nat) (late : Bool), c = .wakeSource code late ∨ (c = .wakeTimerExpiry late ∧ code = 8) →
      (s.wakeEnabled code = false → exec c s = .next s) ∧
      (s.wakeEnabled code = true → s.doze.woken = false →
        ∃ t : State, exec c s = .next t ∧ t.mode = .doze ∧ t.doze.woken = true ∧ t.rd 0xB02000 = code ∧ t.rd 0xB02001 = s.modes.aonCount % 2 ^ 32 ∧
          (s.doze.inh = false → late = false → s.doze.fell = 7 → t.doze.inh = true) ∧
          (s.doze.inh = false → late = true ∨ s.doze.fell ≠ 7 → t.doze.inh = false ∧ t.rd 0xB02005 = (s.inc 0xB02005).rd 0xB02005)) ∧
      (s.wakeEnabled code = true → s.doze.woken = true → s.doze.inh = false → late = true ∨ s.doze.fell ≠ 7 → exec c s = .next (s.inc 0xB02005))) ∧
    (∀ slow : Bool, s.mode = .doze → s.doze.woken = true → s.doze.inh = false →
      (s.doze.fell = 7 ∨ slow = true →
        ∃ t : State, exec (.inhReclaim slow) s = .next t ∧ t.doze = { s.doze with inh := true } ∧
          t.rd 0xB02000 = if s.doze.fell = 7 then s.rd 0xB02000 else s.rd 0xB02000 % 128 + 128) ∧
      (s.doze.fell ≠ 7 → slow = false → exec (.inhReclaim slow) s = .next s)) ∧
    (∀ (code : Nat) (late : Bool), s.mode ≠ .doze → s.ticking = true → code ≤ 7 → s.wakeEnabled code = true →
      (s.rd 0xB00007 = 3 ∨ s.rd 0xB00007 = 4 →
        ∃ t : State, exec (.wakeSource code late) s = .next t ∧ t.rd 0xB00007 = 5 ∧ mfind t.sleep.seen code = some s.cycle) ∧
      (s.rd 0xB00007 ≠ 2 → s.rd 0xB00007 ≠ 3 → s.rd 0xB00007 ≠ 4 → s.sleep.mine = none →
        exec (.wakeSource code late) s = .next { s with sleep := { s.sleep with seen := minsert s.sleep.seen code s.cycle } }) ∧
      (s.rd 0xB00007 = 2 → s.sleep.mine = none →
        ∃ t : State, exec (.wakeSource code late) s = .next t ∧ t.sleep.woke = some code ∧ mfind t.sleep.seen code = some s.cycle ∧ t.rd 0xB00007 = 2))

/-- Begin staging, not in brace and with no promotion running, empties the staging area, takes the length and sets state 1; otherwise 0x06, or 0x0A with
detail 0x0A. A chunk at the offset received, within the length, is appended; another is refused with detail 0x05. Verify sets state 2; its end
leaves the code in C.020.05 and state 3 at code 0, 4 otherwise, with code 1 for a wrong magic. Promotion of firmware, of a schedule and of a
configuration set needs a verified container with such a section, detail 0x06, and no promotion running, detail 0x0A; a schedule also needs a
staging mode, 0x03, and a staged bank that is not armed, detail 0x32; a configuration set needs Configure, 0x03, no class-N entry under a sleep
commit, 0x06, and no entry that fails, detail 0x09 with its index, which counts the entries that the version skips; a section of an unknown version
is refused with index 0. A good firmware copy fills the slot that is not in use and makes it active on trial; a good schedule copy loads the staged
bank to be checked; C.021.01 reads 2, or 3 after a bad copy. -/
def Obligations.ContainersAreStagedVerifiedAndPromoted : Prop :=
  ∀ (s b : State) (h : OdHdr), b = s.odBegun h →
    (∀ v : Nat, v < 2 ^ 32 → s.numPasses h 0xC02000 v = true →
      (b.inBrace = true → exec (.beginContainerStaging h v) s = .next (b.odRefused h 0xC02000 0x06 none)) ∧
      (b.inBrace = false → b.update.promoting ≠ 0 → exec (.beginContainerStaging h v) s = .next (b.odRefused h 0xC02000 0x0A (some 0x0A))) ∧
      (b.inBrace = false → b.update.promoting = 0 →
        exec (.beginContainerStaging h v) s =
          .next (((({ b with update := { b.update with staging := [], total := v } }).wr 0xC02002 0).wr 0xC02004 1).numDone b h 0xC02000 v false))) ∧
    (∀ v : List Byte, s.odPasses h 0xC02001 v = true → b.inBrace = false →
      (beField v 0 4 = b.update.staging.length → b.update.staging.length + (v.drop 4).length ≤ b.update.total →
        exec (.stagingChunk h v) s = .next ((({ b with update := { b.update with staging := b.update.staging ++ v.drop 4 } }).wr 0xC02002
          (b.update.staging.length + (v.drop 4).length)).odDone b h 0xC02001 v false)) ∧
      (beField v 0 4 ≠ b.update.staging.length ∨ b.update.total < b.update.staging.length + (v.drop 4).length →
        exec (.stagingChunk h v) s = .next (b.odRefused h 0xC02001 0x0A (some 0x05)))) ∧
    (s.numPasses h 0xC02003 1 = true → exec (.verify h) s = .next ((b.wr 0xC02004 2).numDone b h 0xC02003 1 false)) ∧
    (∀ k : Nat, k = s.verifyCode s.update.staging → s.odServed = true → s.rd 0xC02004 = 2 →
      ∃ t : State, exec .verifyComplete s = .next t ∧ t.rd 0xC02005 = k ∧ t.rd 0xC02004 = (if k = 0 then 3 else 4) ∧ t.update = s.update ∧
        (leField s.update.staging 0 4 ≠ 0x52454F53 → k = 1)) ∧
    (s.rd 0xC02004 ≠ 2 → exec .verifyComplete s = .next s) ∧
    (s.numPasses h 0xC02100 1 = true →
      (b.update.promoting ≠ 0 → exec (.promoteFirmware h) s = .next (b.odRefused h 0xC02100 0x0A (some 0x0A))) ∧
      (b.update.promoting = 0 → b.rd 0xC02004 ≠ 3 ∨ firmwareSection b.update.staging = none →
        exec (.promoteFirmware h) s = .next (b.odRefused h 0xC02100 0x0A (some 0x06))) ∧
      (∀ x : SectionRec, b.update.promoting = 0 → b.rd 0xC02004 = 3 → firmwareSection b.update.staging = some x →
        exec (.promoteFirmware h) s = .next ((b.startCopy 1 x).numDone b h 0xC02100 1 false))) ∧
    (s.numReaches h 0xC02100 2 = true → b.stagingMode = false → exec (.promoteSchedule h) s = .next (b.odRefused h 0xC02100 0x03 none)) ∧
    (s.numPasses h 0xC02100 2 = true →
      (b.update.promoting ≠ 0 → exec (.promoteSchedule h) s = .next (b.odRefused h 0xC02100 0x0A (some 0x0A))) ∧
      (b.update.promoting = 0 → b.rd 0xC02004 ≠ 3 ∨ b.scheduleSection b.update.staging = none →
        exec (.promoteSchedule h) s = .next (b.odRefused h 0xC02100 0x0A (some 0x06))) ∧
      (∀ x : SectionRec, b.update.promoting = 0 → b.rd 0xC02004 = 3 → b.scheduleSection b.update.staging = some x →
        (b.rd 0x400001 = 4 → exec (.promoteSchedule h) s = .next (b.odRefused h 0xC02100 0x0A (some 0x32))) ∧
        (b.rd 0x400001 ≠ 4 → exec (.promoteSchedule h) s = .next ((b.startCopy 2 x).numDone b h 0xC02100 2 false)))) ∧
    (s.numReaches h 0xC02100 3 = true → b.mode ≠ .configure → exec (.promoteConfiguration h) s = .next (b.odRefused h 0xC02100 0x03 none)) ∧
    (∀ (secs : List SectionRec) (parts : List (List SetEntry × List Nat)) (es : List SetEntry), s.numPasses h 0xC02100 3 = true →
      secs = b.configSections b.update.staging → parts = secs.filterMap b.sectionEntries → es = parts.flatMap (·.1) →
      (b.update.promoting ≠ 0 → exec (.promoteConfiguration h) s = .next (b.odRefused h 0xC02100 0x0A (some 0x0A))) ∧
      (b.update.promoting = 0 → b.rd 0xC02004 ≠ 3 ∨ secs = [] →
        exec (.promoteConfiguration h) s = .next (b.odRefused h 0xC02100 0x0A (some 0x06))) ∧
      (b.update.promoting = 0 → b.rd 0xC02004 = 3 → secs ≠ [] →
        (parts.length ≠ secs.length → exec (.promoteConfiguration h) s = .next ((b.wr 0xC02102 0).odRefused h 0xC02100 0x0A (some 0x09))) ∧
        (parts.length = secs.length → (∃ e ∈ es, e.2 = false ∧ b.storeBarred e.1.1 = true) →
          exec (.promoteConfiguration h) s = .next (b.odRefused h 0xC02100 0x06 none)) ∧
        (parts.length = secs.length → (∀ e ∈ es, e.2 = false → b.storeBarred e.1.1 = false) →
          (∀ k : Nat, es.findIdx? b.entryFails = some k →
            exec (.promoteConfiguration h) s = .next ((b.wr 0xC02102 k).odRefused h 0xC02100 0x0A (some 0x09))) ∧
          (es.findIdx? b.entryFails = none →
            ∃ t : State, exec (.promoteConfiguration h) s = .next (t.numDone b h 0xC02100 3 false) ∧ t.rd 0xC02101 = 2)))) ∧
    (∀ ok : Bool, s.odServed = true → s.inBrace = false → s.update.governing.2.seq + 1 < 2 ^ 32 →
      (s.update.promoting = 0 → exec (.promotionComplete ok) s = .next s) ∧
      (s.update.promoting = 1 →
        ∃ t : State, exec (.promotionComplete ok) s = .next t ∧ t.update.promoting = 0 ∧ t.rd 0xC02101 = (if ok then 2 else 3) ∧
          (ok = true → t.bootNow.fwB = s.spareSlot ∧ t.bootNow.trial = true ∧ t.bootNow.started = false ∧
            t.fwSlot s.spareSlot = { s.update.copying with data := [] }) ∧
          (ok = false → t.bootNow = s.bootNow) ∧ t.update.runB = s.update.runB ∧ t.fwSlot s.update.runB = s.fwSlot s.update.runB) ∧
      (s.update.promoting = 2 → s.rd 0x400001 ≠ 4 →
        ∃ t : State, exec (.promotionComplete ok) s = .next t ∧ t.update.promoting = 0 ∧ t.rd 0xC02101 = (if ok then 2 else 3) ∧
          (ok = true → t.rd 0x400001 = 1 ∧ t.seq.checking = true ∧ t.update.autoSwitch = false) ∧ (ok = false → t.seq = s.seq)))

/-- A handover is refused without its feature with 0x02, while one runs with detail 0x07, with no firmware waiting on trial with 0x06, and under a sleep
commit with 0x08; otherwise it starts and the trial has started. A ready incoming core begins the pause, of at most 2,000 us, in C.030.05; at the
first beat at or after its end, or at once where no beats exist, the core runs from the active slot and the handover is counted. A failed one
reverts the trial; a missed heartbeat does too, and the outgoing core goes on after a pause. The end of a pause ends a load check, an open batch and
a reassembly. Confirmation and the trial time end the trial of the firmware that runs, and change nothing for one that a handover has still to
start. Isolating a part that is in service, and returning an isolated one that owes no BIST, is accepted for its boundary, the nearest for 0; a
nearer one is refused with detail 0x02, a part that is none with 0x01, one in the wrong state with 0x03, one that owes a BIST with 0x04, and outside
a staging mode the error is 0x03. BIST starts on an isolated part that is not under test, after those that run, and withdraws its return; with IRST
it then owes a pass. The end of the oldest test takes its part off the list and leaves 2 or 3 in C.050.04, or 1 while another runs; a part that
failed owes a pass. -/
def Obligations.TrialsHandoversIsolationAndTests : Prop :=
  ∀ (s b : State) (h : OdHdr) (part : Nat), b = s.odBegun h → part = b.rd 0xC05000 → s.update.governing.2.seq + 4 < 2 ^ 32 →
    (s.numPasses h 0xC03000 1 = true →
      (b.feature 96 = false → exec (.keeperHandover h) s = .next (b.odRefused h 0xC03000 0x02 none)) ∧
      (b.feature 96 = true → b.update.handover ≠ .idle → exec (.keeperHandover h) s = .next (b.odRefused h 0xC03000 0x0A (some 0x07))) ∧
      (b.feature 96 = true → b.update.handover = .idle → b.bootNow.trial = false ∨ b.bootNow.started = true →
        exec (.keeperHandover h) s = .next (b.odRefused h 0xC03000 0x0A (some 0x06))) ∧
      (b.feature 96 = true → b.update.handover = .idle → b.bootNow.trial = true → b.bootNow.started = false → b.sleep.back ≠ none →
        exec (.keeperHandover h) s = .next (b.odRefused h 0xC03000 0x0A (some 0x08))) ∧
      (b.feature 96 = true → b.update.handover = .idle → b.bootNow.trial = true → b.bootNow.started = false → b.sleep.back = none →
        ∃ t : State, exec (.keeperHandover h) s = .next (t.numDone b h 0xC03000 1 false) ∧ t.update.handover = .starting ∧
          t.bootNow.started = true ∧ t.bootNow.trial = true ∧ t.bootNow.fwB = b.bootNow.fwB ∧ t.update.runB = b.update.runB)) ∧
    (∀ (ok : Bool) (pause : Nat), s.odServed = true →
      (s.update.handover = .starting →
        ∃ t : State, exec (.incomingCoreReady ok pause) s = .next t ∧
          (ok = true → t.rd 0xC03005 = min 2000 pause ∧ t.bootNow.fwB = s.bootNow.fwB ∧ t.bootNow.trial = s.bootNow.trial ∧
            t.bootNow.started = s.bootNow.started ∧
            (s.ticking = true → t.update.handover = .paused (s.nowNs + 1000 * min 2000 pause) false ∧ t.update.runB = s.update.runB) ∧
            (s.ticking = false → t.update.handover = .trial ∧ t.update.runB = s.bootNow.fwB ∧
              (s.rd 0xC03004 + 1 < 2 ^ 32 → t.rd 0xC03004 = s.rd 0xC03004 + 1))) ∧
          (ok = false → t.update.handover = .idle ∧ t.update.runB = s.update.runB ∧ t.bootNow.fwB = (!s.bootNow.fwB) ∧ t.bootNow.trial = false)) ∧
      (s.update.handover ≠ .starting → exec (.incomingCoreReady ok pause) s = .next s) ∧
      (s.update.handover = .trial →
        ∃ t : State, exec .handoverHeartbeatMissed s = .next t ∧ t.bootNow.fwB = (!s.bootNow.fwB) ∧ t.bootNow.trial = false ∧ t.rd 0xC03005 ≤ 2000 ∧
          (s.ticking = true → t.update.handover = .paused (s.nowNs + 1000 * t.rd 0xC03005) true ∧ t.update.runB = s.update.runB) ∧
          (s.ticking = false → t.update.handover = .idle ∧ t.update.runB = !s.update.runB)) ∧
      (s.update.handover ≠ .trial → exec .handoverHeartbeatMissed s = .next s)) ∧
    (∀ (u : Nat) (back : Bool), s.update.handover = .paused u back →
      (s.nowNs < u → s.pauseAtBeat = s) ∧
      (u ≤ s.nowNs → s.pauseAtBeat.update.handover = (if back then .idle else .trial) ∧
        s.pauseAtBeat.update.runB = (if back then !s.update.runB else s.bootNow.fwB) ∧ s.pauseAtBeat.seq.checking = false ∧
        s.pauseAtBeat.switch.batch = none ∧ s.pauseAtBeat.od.asm = none ∧ s.pauseAtBeat.update.promoting = 0 ∧ s.pauseAtBeat.bootNow = s.bootNow ∧
        (back = false → s.rd 0xC03004 + 1 < 2 ^ 32 → s.pauseAtBeat.rd 0xC03004 = s.rd 0xC03004 + 1))) ∧
    (s.numPasses h 0xC03001 1 = true →
      ∃ t : State, exec (.confirmFirmware h) s = .next (t.numDone b h 0xC03001 1 false) ∧
        (b.onTrial = true → t.bootNow.trial = false ∧ (b.update.handover = .trial → t.update.handover = .idle)) ∧ (b.onTrial = false → t = b) ∧
        t.bootNow.fwB = b.bootNow.fwB ∧ t.update.runB = b.update.runB) ∧
    (s.onTrial = true ↔ s.bootNow.trial = true ∧ s.bootNow.started = true ∧ s.update.runB = s.bootNow.fwB) ∧
    (s.odServed = true → s.stagingMode = true → s.onTrial = true →
      ∃ t : State, exec .trialTimeExpiry s = .next t ∧ t.bootNow.trial = false ∧ t.bootNow.fwB = s.bootNow.fwB ∧ t.update.runB = s.update.runB ∧
        (s.update.handover = .trial → t.update.handover = .idle)) ∧
    (s.onTrial = false → exec .trialTimeExpiry s = .next s) ∧
    (∀ (v n : Nat) (c : Instr) (o : Nat) (back : Bool), v < 2 ^ 64 → n = (if v = 0 then b.cycle + 2 else v) →
      (c = .isolateAtCycle h v ∧ o = 0xC05001 ∧ back = false) ∨ (c = .returnAtCycle h v ∧ o = 0xC05002 ∧ back = true) →
      (s.numReaches h o v = true → b.stagingMode = false → exec c s = .next (b.odRefused h o 0x03 none)) ∧
      (s.numPasses h o v = true → partCode part = false → exec c s = .next (b.odRefused h o 0x0A (some 0x01))) ∧
      (s.numPasses h o v = true → partCode part = true → b.sleep.back ≠ none → exec c s = .next (b.odRefused h o 0x0A (some 0x08))) ∧
      (s.numPasses h o v = true → partCode part = true → b.sleep.back = none →
        (b.partIsolated part ≠ back → exec c s = .next (b.odRefused h o 0x0A (some 0x03))) ∧
        (b.partIsolated part = back →
          (back = true → part ∈ b.repair.owesBist → exec c s = .next (b.odRefused h o 0x0A (some 0x04))) ∧
          (back = false ∨ part ∉ b.repair.owesBist → n < b.cycle + 2 → exec c s = .next (b.odRefused h o 0x0A (some 0x02))) ∧
          (back = false → mfind b.repair.isolating part = none → b.cycle + 2 ≤ n →
            exec c s = .next (({ b with repair := { b.repair with isolating := minsert b.repair.isolating part n } }).numDone b h o v true)) ∧
          (back = true → part ∉ b.repair.owesBist → mfind b.repair.returning part = none → b.cycle + 2 ≤ n →
            (part < 0x20 ∨ 0x28 ≤ part) →
            exec c s = .next (({ b with repair := { b.repair with returning := minsert b.repair.returning part n } }).numDone b h o v true)) ∧
          (back = true → part ∉ b.repair.owesBist → (∀ k, mfind b.repair.returning part = some k → b.cycle + 2 ≤ k) → b.cycle + 2 ≤ n →
            ∃ t : State, exec c s = .next (t.numDone b h o v true) ∧ mfind t.repair.returning part = some n)))) ∧
    (∀ (c : Instr) (v : Nat), (c = .testBist h ∧ v = 1) ∨ (c = .testIrstBist h ∧ v = 2) →
      (s.numReaches h 0xC05003 v = true → b.stagingMode = false → exec c s = .next (b.odRefused h 0xC05003 0x03 none)) ∧
      (s.numPasses h 0xC05003 v = true → partCode part = false → exec c s = .next (b.odRefused h 0xC05003 0x0A (some 0x01))) ∧
      (s.numPasses h 0xC05003 v = true → partCode part = true →
      (b.partIsolated part = false → exec c s = .next (b.odRefused h 0xC05003 0x0A (some 0x03))) ∧
      (b.partIsolated part = true → v = 2 → 0x80 ≤ part → exec c s = .next (b.odRefused h 0xC05003 0x0A (some 0x01))) ∧
      (b.partIsolated part = true → v = 1 ∨ part < 0x80 →
        (part ∈ b.repair.testing → exec c s = .next (b.odRefused h 0xC05003 0x0A (some 0x0B))) ∧
        (part ∉ b.repair.testing →
          ∃ t : State, exec c s = .next (t.numDone b h 0xC05003 v false) ∧ t.rd 0xC05004 = 1 ∧ t.repair.testing = b.repair.testing ++ [part] ∧
            mfind t.repair.returning part = none ∧ (v = 2 → part ∈ t.repair.owesBist))))) ∧
    (∀ (ok : Bool) (p : Nat) (more : List Nat), s.repair.testing = p :: more → s.odServed = true →
      ∃ t : State, exec (.bistComplete ok) s = .next t ∧ t.repair.testing = more ∧
        t.rd 0xC05004 = (if more ≠ [] then 1 else if ok then 2 else 3) ∧
        (ok = true → p ∉ t.repair.owesBist) ∧ (ok = false → p ∈ t.repair.owesBist ∧ mfind t.repair.returning p = none)) ∧
    (∀ ok : Bool, s.repair.testing = [] → exec (.bistComplete ok) s = .next s)

/-- A whole OD request frame with a message of right form and a known operation joins the end of the queue of 64; with the queue full it is answered
with error 0x0E. One of wrong form or of an unknown operation waits for the accesses before it; where there is none, one of wrong form is answered
with 0x0C at once. The host that moves REQ_WP by one slot with the queue able to take its message has it queued; a move past the slots in use, and a
move of RSP_RP past RSP_WP, are ignored and flagged; clearing the error clears the flag. A datagram of the wrong length is counted in 0.003.06 and
one of the right length is queued; over a version of IP that is off, or to a port other than that of 0.030.00, none arrives. A first service frame
begins a reassembly, the next one in order continues it, one out of order and a timeout abandon it. The store of an accepted number puts it in
flash, with all that wait from a configuration set where it is one of them, and is not made in brace. -/
def Obligations.OdMessagesArrive : Prop :=
  ∀ s : State, s.odServed = true →
    (∀ (f : Frame) (m : OdMessage) (op : OdOp), s.ticking = true → f.type = 0x5 → frameWhole f = true → f.len = f.payload.length →
      odFormOk f.payload = true → m = odParse f.payload → opOf m.op = some op →
      (s.odHeld < 64 →
        exec (.odRequestFrame f) s = .next { s with od := { s.od with
          queue := s.od.queue ++ [⟨⟨.ring, f.src, f.tag, f.cls, f.flow, s.ownName f.dst != s.node, m.auth⟩, op, m.obj, m.val⟩] } }) ∧
      (64 ≤ s.odHeld →
        exec (.odRequestFrame f) s = .next (s.sendResponse ⟨.ring, f.src, f.tag, f.cls, f.flow, s.ownName f.dst != s.node, none⟩
          (odHeader m.op 0 m.obj 0x0E 0 m.ctr)))) ∧
    (∀ f : Frame, s.ticking = true → f.type = 0x5 → frameWhole f = true → f.len = f.payload.length → 16 ≤ f.payload.length →
      oddMessage f.payload = true → s.odHeld < 64 →
      (s.od.queue ≠ [] → exec (.odRequestFrame f) s = .next { s with od := { s.od with
        odd := s.od.odd ++ [(s.od.queue.length, ⟨.ring, f.src, f.tag, f.cls, f.flow, s.ownName f.dst != s.node, none⟩, f.payload)] } }) ∧
      (s.od.queue = [] → odFormOk f.payload = false →
        exec (.odRequestFrame f) s = .next (({ s with od := { s.od with checked := s.node } }).sendResponse
          ⟨.ring, f.src, f.tag, f.cls, f.flow, s.ownName f.dst != s.node, none⟩
          (odHeader (odParse f.payload).op 0 (odParse f.payload).obj 0x0C 0 (odParse f.payload).ctr)))) ∧
    (∀ (w : Nat) (l : List Byte) (m : OdMessage) (op : OdOp), s.hostReaches = true → s.od.reqRp < 16 → w = (s.od.reqRp + 1) % 16 →
      l = s.slotMessage (s.od.reqRp % 8) → odFormOk l = true → m = odParse l → opOf m.op = some op → s.odHeld < 64 → (∀ e ∈ s.od.odd, 0 < e.1) →
      (s.od.rspWp + 16 - s.od.rspRp) % 16 + s.windowQueued < 8 →
      exec (.mailboxRequest w) s = .next { s with od := { s.od with
        reqWp := w
        reqRp := w
        queue := s.od.queue ++ [⟨⟨.window, 0, beField (memRead s.od.reqMem (0x1000 * (s.od.reqRp % 8)) 2) 0 2, 0, 0, false, m.auth⟩, op, m.obj, m.val⟩] } }) ∧
    (∀ w : Nat, s.hostReaches = true → 8 < (w % 16 + 16 - s.od.reqRp) % 16 →
      exec (.mailboxRequest w) s = .next { s with od := { s.od with ptrErr := true } }) ∧
    (∀ w : Nat, s.hostReaches = true →
      ((s.od.rspWp + 16 - s.od.rspRp) % 16 < (w % 16 + 16 - s.od.rspRp) % 16 →
        exec (.mailboxResponseRelease w) s = .next { s with od := { s.od with ptrErr := true } }) ∧
      ((w % 16 + 16 - s.od.rspRp) % 16 ≤ (s.od.rspWp + 16 - s.od.rspRp) % 16 → s.od.reqRp = s.od.reqWp → (∀ e ∈ s.od.odd, 0 < e.1) →
        exec (.mailboxResponseRelease w) s = .next { s with od := { s.od with rspRp := w % 16 } })) ∧
    (s.hostReaches = true → exec .clearMailboxError s = .next { s with od := { s.od with ptrErr := false } }) ∧
    (∀ (port peer : Nat) (l : List Byte),
      (s.ipOn peer = false ∨ port ≠ s.rd 0x003000 → exec (.odDatagram ⟨port, peer⟩ l) s = .next s) ∧
      (s.ipOn peer = true → port = s.rd 0x003000 → l.length < 20 ∨ (l.drop 4).length ≠ odLength (l.drop 4) → exec (.odDatagram ⟨port, peer⟩ l) s = .next (s.inc 0x003006)) ∧
      (∀ op : OdOp, s.ipOn peer = true → port = s.rd 0x003000 → 20 ≤ l.length → odFormOk (l.drop 4) = true → opOf (odParse (l.drop 4)).op = some op →
        s.odHeld < 64 →
        exec (.odDatagram ⟨port, peer⟩ l) s = .next { s with od := { s.od with queue := s.od.queue ++
          [⟨⟨.udp, peer, beField l 0 2, 0, 0, false, (odParse (l.drop 4)).auth⟩, op, (odParse (l.drop 4)).obj, (odParse (l.drop 4)).val⟩] } })) ∧
    (∀ (f : CanFrame) (b : Nat), s.storesFrames 0 = true → s.serviceRequest f = true → b = beField f.data 0 1 → b.testBit 7 = false →
      (b.testBit 6 = true →
        ∃ t : State, exec (.serviceChannelFrame f) s = .next t ∧ t.od.asm = some ((b + 1) % 64, f.data.drop 1) ∧ t.od.queue = s.od.queue) ∧
      (∀ (k : Nat) (l : List Byte), b.testBit 6 = false → s.od.asm = some (k, l) →
        ∃ t : State, exec (.serviceChannelFrame f) s = .next t ∧ t.od.queue = s.od.queue ∧
          t.od.asm = if b % 64 = k then some ((b + 1) % 64, l ++ f.data.drop 1) else none)) ∧
    (s.od.asm = none → exec .serviceReassemblyTimeout s = .next s) ∧
    (s.od.asm ≠ none →
      exec .serviceReassemblyTimeout s = .next (({ s with od := { s.od with asm := none } }).raise .mgt 0x06 0x61 0)) ∧
    (∀ (o : Nat) (v : List Byte) (r : ObjRow), mfind s.stores o = some v → objRow o = some r →
      (s.inBrace = true → exec (.flashStore o) s = .next s) ∧
      (s.inBrace = false → o ∉ s.update.setStores → r.type.isBytes = false →
        exec (.flashStore o) s = .next { s with
          stores := merase s.stores o
          flash := minsert s.flash o (beNat v)
          update := { s.update with storeVer := if s.update.storeVer = 0 then s.odVersion else s.update.storeVer } }) ∧
      (s.inBrace = false → o ∈ s.update.setStores → ∃ t : State, exec (.flashStore o) s = .next t ∧ t.update.setStores = [] ∧
        ∀ p ∈ s.update.setStores, ∀ (x : List Byte) (q : ObjRow), mfind s.stores p = some x → objRow p = some q →
          mfind t.stores p = none ∧ (q.type.isBytes = false → mfind t.flash p = some (beNat x))))

/-- An access that is the first of the queue, or meets an empty queue, and is authenticated as its route asks, outside area F in Test: a read, describe
or next that fails a check is answered with its error; one that passes is answered with the value, the description, or the next object. A write that
passes its checks of a number that has no command of its own takes the value, which the data path sees from the next beat where it reads the cell,
and is answered without an error; the pair number takes the controllers and transceivers with it. An access that is not authenticated though its
route asks for it is answered with 0x07, and a wrong CMAC with 0x08, journalled. An access that is not the first has no effect. An access to area F
in Test that passes authentication completes with an error code and a value that the spec does not document: both are free (log entry 100). -/
def Obligations.OdAccessesAreExecuted : Prop :=
  ∀ (s b : State) (h : OdHdr) (o : Nat) (v : List Byte), b = s.odBegun h →
    (s.odReady ⟨h, .read, o, v⟩ = true → s.odTaken.authError h.route 1 o h.auth v = 0 → ¬ (s.mode = .test ∧ o / 2 ^ 20 = 0xF) →
      (b.accessError .read o v ≠ 0 →
        exec (.odRead h o v) s = .next ((b.answer h 1 o h.auth.isSome (b.accessError .read o v) [] false false).takeMail 8)) ∧
      (b.accessError .read o v = 0 →
        exec (.odRead h o v) s = .next (((b.readObj o).1.answer h 1 o h.auth.isSome 0 (b.readObj o).2 false false).takeMail 8))) ∧
    (s.odReady ⟨h, .describe, o, v⟩ = true → s.odTaken.authError h.route 3 o h.auth v = 0 → ¬ (s.mode = .test ∧ o / 2 ^ 20 = 0xF) →
      (b.accessError .describe o v ≠ 0 →
        exec (.odDescribe h o v) s = .next ((b.answer h 3 o h.auth.isSome (b.accessError .describe o v) [] false false).takeMail 8)) ∧
      (∀ r : ObjRow, b.accessError .describe o v = 0 → objRow o = some r →
        exec (.odDescribe h o v) s = .next ((b.answer h 3 o h.auth.isSome 0 (describeBytes r) false false).takeMail 8))) ∧
    (s.odReady ⟨h, .next, o, v⟩ = true → s.odTaken.authError h.route 4 o h.auth v = 0 → b.accessError .next o v = 0 →
      ¬ (s.mode = .test ∧ o / 2 ^ 20 = 0xF) →
      exec (.odNext h o v) s = .next ((b.answer h 4 o h.auth.isSome 0 (natBE 3 (b.nextObj o)) false false).takeMail 8)) ∧
    (∀ r : ObjRow, s.odPasses h o v = true → objRow o = some r → r.type.isBytes = false → ownRow o = false →
      o &&& 0xFF0FFF ≠ 0x200005 → o &&& 0xFFF0FF ≠ 0x803001 → o ≠ 0x610000 → o / 2 ^ 12 ≠ 0xA18 →
      (dataCell o = false → o ≠ 0x208100 → exec (.odWrite h o v) s = .next ((b.wr o (beNat v)).odDone b h o v false)) ∧
      (dataCell o = true → exec (.odWrite h o v) s = .next ((b.writeCell o (beNat v)).odDone b h o v false)) ∧
      (o = 0x208100 → exec (.odWrite h o v) s = .next ((b.wr o (beNat v)).listenFollow.odDone b h o v false))) ∧
    (s.odReady ⟨h, .write, o, v⟩ = true → ¬ (s.mode = .test ∧ o / 2 ^ 20 = 0xF) → h.auth = none →
      s.odTaken.authNeeded h.route 2 o = true →
      exec (.odWrite h o v) s = .next ((s.odTaken.answer h 2 o false 0x07 [] false false).takeMail 8)) ∧
    (∀ a : OdAuth, s.odReady ⟨h, .write, o, v⟩ = true → ¬ (s.mode = .test ∧ o / 2 ^ 20 = 0xF) → h.auth = some a →
      s.odMac a.key.val 0 (odHeader 2 1 o a.key.val v.length a.ctr ++ v) ≠ a.cmac →
      exec (.odWrite h o v) s =
        .next (((s.odTaken.raise .mgt 0x06 0x24 (0x08 * 2 ^ 24 + o)).answer h 2 o false 0x08 [] false false).takeMail 8)) ∧
    (∀ (c : Instr) (op : OdOp), (c = .odRead h o v ∧ op = .read) ∨ (c = .odWrite h o v ∧ op = .write) ∨ (c = .odDescribe h o v ∧ op = .describe) ∨
        (c = .odNext h o v ∧ op = .next) →
      (s.odReady ⟨h, op, o, v⟩ = false → exec c s = .next s) ∧
      (s.odReady ⟨h, op, o, v⟩ = true → s.mode = .test → o / 2 ^ 20 = 0xF → s.odTaken.authError h.route (opCode op) o h.auth v = 0 →
        exec c s = .next ((b.runUndocumented.st.answer h (opCode op) o h.auth.isSome b.runUndocumented.err b.runUndocumented.val false false).takeMail 8)))

/-- In every state a read of an OD key that is executed and authenticated is answered with error 0x02 and no value, and one with a wrong CMAC or a used
counter with 0x08 or 0x09: a read of a key puts no value into a response. -/
def Obligations.KeysAreNeverRead : Prop :=
  ∀ (s : State) (h : OdHdr) (k : Fin 4) (v : List Byte), s.odReady ⟨h, .read, 0x002100 + k.val, v⟩ = true →
    ∃ (t : State) (passed : Bool) (e : Nat),
      exec (.odRead h (0x002100 + k.val) v) s = .next ((t.answer h 1 (0x002100 + k.val) passed e [] false false).takeMail 8) ∧
        (e = 0x02 ∨ e = 0x07 ∨ e = 0x08 ∨ e = 0x09) ∧ (s.odTaken.authError h.route 1 (0x002100 + k.val) h.auth v = 0 → e = 0x02)

/-- A FEATURE_COMMIT outside Configure is answered with 0x03. One that passes its checks in Configure, where some accepted word holds a bit that the
offered word does not: the commit is answered with 0x04, the four active words are zero, 0.014.00 reads 2, and 0.015.00 to 0.015.03 hold the bits
accepted without being offered. Where every accepted bit is offered the active words are the accepted ones and 0.014.00 reads 1. No other object
changes, but where the hub begins or ceases to listen with its pair's feature: its controllers and transceivers then follow (listenFollow), which
changes no object below 0.020.00. -/
def Obligations.FeatureCommitDecides : Prop :=
  ∀ (s b : State) (h : OdHdr), b = s.odBegun h →
    (s.numReaches h 0x001200 1 = true → b.mode ≠ .configure → exec (.featureCommit h) s = .next (b.odRefused h 0x001200 0x03 none)) ∧
    (s.numPasses h 0x001200 1 = true →
    ((∃ w < 4, ∃ i, (b.rd (0x001100 + w)).testBit i = true ∧ (b.rd (0x001000 + w)).testBit i = false) →
      ∃ t : State, exec (.featureCommit h) s = .next (t.listenFollow.odRefused h 0x001200 0x04 none) ∧ t.rd 0x001400 = 2 ∧
        (∀ o < 0x002000, t.listenFollow.rd o = t.rd o) ∧
        (∀ w < 4, t.rd (0x001300 + w) = 0 ∧
          ∀ i, (t.rd (0x001500 + w)).testBit i = ((b.rd (0x001100 + w)).testBit i && !(b.rd (0x001000 + w)).testBit i)) ∧
        (∀ o, (∀ w < 4, o ≠ 0x001300 + w ∧ o ≠ 0x001500 + w) → o ≠ 0x001400 → t.rd o = b.rd o)) ∧
    ((∀ w < 4, ∀ i, (b.rd (0x001100 + w)).testBit i = true → (b.rd (0x001000 + w)).testBit i = true) →
      ∃ t : State, exec (.featureCommit h) s = .next (t.listenFollow.numDone b h 0x001200 1 false) ∧ t.rd 0x001400 = 1 ∧
        (∀ o < 0x002000, t.listenFollow.rd o = t.rd o) ∧
        (∀ w < 4, t.rd (0x001300 + w) = b.rd (0x001100 + w)) ∧
        (∀ o, (∀ w < 4, o ≠ 0x001300 + w) → o ≠ 0x001400 → t.rd o = b.rd o)))

/-- WITHDRAW_SWAP for a pawn whose swap is armed or pending, as 5.0pp.23 reads 1 or 2: the write is answered without an error, 5.0pp.23 reads 0, no
boundary is named for the swap any more, and the active program, the shadow program, the slots, the program counter, the run state and the count of
swaps are as they were, as is every other pawn. -/
def Obligations.SwapsAreWithdrawn : Prop :=
  ∀ (s b : State) (h : OdHdr) (q : Fin 128), b = s.odBegun h → s.numPasses h (pawnObj q.val 0x22) 1 = true →
    b.rd (pawnObj q.val 0x23) = 1 ∨ b.rd (pawnObj q.val 0x23) = 2 →
    ∃ t : State, exec (.withdrawSwap h q) s = .next (t.numDone b h (pawnObj q.val 0x22) 1 false) ∧ t.rd (pawnObj q.val 0x23) = 0 ∧
      t.swapPending q.val = false ∧ (t.pawn q.val).swapAt = none ∧ (t.pawn q.val).imem = (b.pawn q.val).imem ∧
      (t.pawn q.val).shadow = (b.pawn q.val).shadow ∧ (t.pawn q.val).slots = (b.pawn q.val).slots ∧ (t.pawn q.val).pc = (b.pawn q.val).pc ∧
      (t.pawn q.val).run = (b.pawn q.val).run ∧ t.rd (pawnObj q.val 0x24) = b.rd (pawnObj q.val 0x24) ∧ (∀ k, k ≠ q.val → t.pawn k = b.pawn k)

/-- INJECT of a legal word for a pawn with none queued. In Run and Repair, where the active bank names the pawn's cluster in a GO move, or in a COPY
from or to a pawn FIFO of it, and the cluster is not isolated, the write is answered with 0x02, access refused, and nothing is queued. In every
other case, in every mode in which the core die is powered, it is accepted: the word is queued and 5.0pp.26 reads 1. -/
def Obligations.InjectionIsRefusedInService : Prop :=
  ∀ (s b : State) (h : OdHdr) (q : Fin 128) (v : Nat), b = s.odBegun h → v < 2 ^ 32 → s.numPasses h (pawnObj q.val 0x25) v = true →
    illegalWord v = false → (b.pawn q.val).inj = none →
    ∀ named : Prop, (named ↔ ∃ m ∈ b.moves, (m.act = 0x04 ∧ m.a.testBit (16 + q.val / 16) = true) ∨
      (m.act = 0x03 ∧ m.grp = 7 ∧ (bits m.a 31 30 = 2 ∨ bits m.a 29 28 = 3) ∧ bits m.b 62 60 = q.val / 16)) →
    ((b.mode = .run ∨ b.mode = .repair) → named → b.partIsolated (0x20 + q.val / 16) = false →
      ∃ t : State, exec (.inject h q v) s = .next (t.odRefused h (pawnObj q.val 0x25) 0x02 none) ∧ (∀ k, t.pawn k = b.pawn k)) ∧
    (¬ ((b.mode = .run ∨ b.mode = .repair) ∧ named ∧ b.partIsolated (0x20 + q.val / 16) = false) →
      ∃ t : State, exec (.inject h q v) s = .next (t.numDone b h (pawnObj q.val 0x25) v false) ∧ (t.pawn q.val).inj = some (BitVec.ofNat 32 v) ∧
        t.rd (pawnObj q.val 0x26) = 1 ∧ (∀ k, k ≠ q.val → t.pawn k = b.pawn k))

/-- BRING_UP in its first stage, with no stage that exceeds its limit, with flash, no third watchdog reset, a good firmware slot chosen by the boot
record and every island good, where the store's check finds the class-N objects of a list, not empty, invalid: bring-up continues to Configure,
1.040.03 reads 1, and every class-N number of the list reads its default. -/
def Obligations.InvalidStoresTakeDefaults : Prop :=
  ∀ (s : State) (x : BringUpFindings), s.mode = .bringUp → s.rd 0x104001 = 0 → s.rd 0x104000 = 1 → s.thirdWdr = false → x.flashOk = true →
    (if (bootChoice s.bootNow).1 then x.sigB && s.update.fwB.full else x.sigA && s.update.fwA.full) = true → x.bistBad = [] → x.storeBad ≠ [] →
    8 ≤ x.upTo →
    ∃ t : State, exec (.bringUp x) s = .next t ∧ t.mode = .configure ∧ t.rd 0x104000 = 9 ∧ t.rd 0x104003 = 1 ∧
      ∀ o ∈ x.storeBad, objPersist o = .n → t.rd o = objDefault o ∧ t.rdB o = blobDefault o

/-- A write of 1 to A.1c1.0B that is accepted leaves the channel with its start wanted, and a write of 0 leaves it with its start not wanted and, where
its gate was on, with the gate off and fault 0x0B recorded. For the inlet, channel 8, both are answered with 0x02 outside Hold and Configure, and
are accepted in them; for the other channels they are accepted in every mode. -/
def Obligations.ChannelCommandsTurnChannelsOnAndOff : Prop :=
  ∀ (s b : State) (h : OdHdr) (c : Fin 9), b = s.odBegun h →
    (s.numPasses h (chanObj c.val 1 0xB) 1 = true →
      (c.val = 8 ∧ b.mode ≠ .hold ∧ b.mode ≠ .configure → exec (.channelOn h c) s = .next (b.odRefused h (chanObj c.val 1 0xB) 0x02 none)) ∧
      (¬ (c.val = 8 ∧ b.mode ≠ .hold ∧ b.mode ≠ .configure) →
        ∃ t : State, exec (.channelOn h c) s = .next (t.numDone b h (chanObj c.val 1 0xB) 1 false) ∧ t.startWanted c.val = true)) ∧
    (s.numPasses h (chanObj c.val 1 0xB) 0 = true →
      (c.val = 8 ∧ b.mode ≠ .hold ∧ b.mode ≠ .configure → exec (.channelOff h c) s = .next (b.odRefused h (chanObj c.val 1 0xB) 0x02 none)) ∧
      (¬ (c.val = 8 ∧ b.mode ≠ .hold ∧ b.mode ≠ .configure) →
        ∃ t : State, exec (.channelOff h c) s = .next (t.numDone b h (chanObj c.val 1 0xB) 0 false) ∧ t.startWanted c.val = false ∧
          t.gateOn c.val = false ∧ (b.gateOn c.val = true → t.rd (chanObj c.val 1 1) = 0x0B)))

/-- In the state after reset no mode has been entered, every object reads its default, so the veto flag threshold reads 8, the vote window 16, the
commit lead 8, the trial time 60 and the wake timer 0, no bank is active and no island is isolated. The memories are empty, the buffers hold
nothing, the journal holds no unread record, and the queue is empty: every invariant holds. That the state starts before the first POR with an empty
queue is the model's own form (log entries 2 and 3); the defaults are those of the object tables. -/
def Obligations.ResetReadsDefaults : Prop :=
  State.reset.mode = .noPower ∧ (∀ o, State.reset.rd o = objDefault o) ∧ (∀ o, State.reset.rdB o = blobDefault o) ∧
    State.reset.rd 0xB00004 = 8 ∧ State.reset.rd 0xB00005 = 16 ∧ State.reset.rd 0xB00006 = 8 ∧ State.reset.rd 0xC03002 = 60 ∧
    State.reset.rd 0xB01003 = 0 ∧ State.reset.anyIsolated = false ∧ State.reset.stores = [] ∧
    imagesOk State.reset = true ∧ recordsOk State.reset = true ∧ journalOk State.reset = true ∧ queueOk State.reset = true

/-- From every state every command answers a next state, and so does every step. No access to area F or to space 0x3F in Test stops: its answer is free
(log entries 46 and 100). What each command does is said by the other statements; a command whose conditions do not hold leaves the state as it is,
or is answered as its rule says. -/
def Obligations.EveryCommandCompletes : Prop :=
  (∀ (c : Instr) (s : State), ∃ t : State, exec c s = .next t) ∧ (∀ s : State, ∃ t : State, step s = .next t)

/-- For every state: if one step answers a next state, the commands waiting in it are those that waited before without the first. No effect of any
command adds one, drops one or changes their order, so a queue of well-formed commands stays one. The queue is the model's own form for commands
from outside (log entry 4). -/
def Obligations.CommandsAreTakenInOrder : Prop :=
  ∀ s t : State, step s = .next t → t.pending = s.pending.tail ∧ (queueOk s = true → queueOk t = true)

/-- For every state in which both banks of the input and output images are in the canonical form of memory, addresses rising and no zero byte listed,
and in which no island posts more than eight records and the power log holds at most sixteen: every step that answers a next state leaves one with
the same properties, whatever the command. -/
def Obligations.StoresKeepTheirForms : Prop :=
  ∀ s t : State, imagesOk s = true → recordsOk s = true → step s = .next t → imagesOk t = true ∧ recordsOk t = true
end

