-- ==== Sys2Proof/Laws/Bytes.lean ====
section
/-!
SUPPORT. Numbers as bytes in network order, and the check of a message that was made with the same key.
-/
namespace Sys2Proof.Machine

/-- One byte more at the end of a number. -/
theorem beNat_concat (l : List Byte) (b : Byte) : beNat (l ++ [b]) = 256 * beNat l + b.toNat := by
  simp [beNat, List.foldl_append]

@[simp] theorem length_natLE (n v : Nat) : (natLE n v).length = n := by
  induction n generalizing v with
  | zero => rfl
  | succ n ih => simp [natLE, ih]

@[simp] theorem length_natBE (n v : Nat) : (natBE n v).length = n := by simp [natBE]

/-- The bytes of a number spell it, modulo what fits. -/
theorem beNat_natBE (n v : Nat) : beNat (natBE n v) = v % 256 ^ n := by
  induction n generalizing v with
  | zero => simp [natBE, natLE, beNat, Nat.mod_one]
  | succ n ih =>
    have h : natBE (n + 1) v = natBE n (v / 256) ++ [BitVec.ofNat 8 v] := by simp [natBE, natLE]
    rw [h, beNat_concat, ih, Nat.pow_succ', Nat.mod_mul]
    simp only [BitVec.toNat_ofNat]
    omega

/-- A byte string spells a number that fits its length. -/
theorem beNat_lt (l : List Byte) : beNat l < 256 ^ l.length := by
  have h (n : Nat) : ∀ l : List Byte, l.length = n → beNat l < 256 ^ n := by
    induction n with
    | zero => intro l hl; simp [List.length_eq_zero_iff.mp hl, beNat]
    | succ n ih =>
      intro l hl
      have hn : l ≠ [] := by intro e; simp [e] at hl
      have := ih l.dropLast (by simp [hl])
      have hb := (l.getLast hn).isLt
      rw [← List.dropLast_concat_getLast hn, beNat_concat, Nat.pow_succ]
      omega
  exact h _ l rfl

theorem cmac64_lt (key m : List Byte) : cmac64 key m < 256 ^ 8 := by
  refine Nat.lt_of_lt_of_le (beNat_lt _) (Nat.pow_le_pow_right (by omega) ?_)
  simp only [List.length_take]
  exact Nat.min_le_left _ _

/-- A message made with a key passes the check with it (R148). -/
theorem cmacOk_withCmac (key m : List Byte) {n : Nat} (h : m.length = n) : cmacOk key (withCmac key m) n = true := by
  subst h
  have hs : slice (m ++ natBE 8 (cmac64 key m)) m.length 8 = natBE 8 (cmac64 key m) := by
    simp [slice, List.take_of_length_le]
  simp only [cmacOk, withCmac, beField, hs, beNat_natBE, Nat.mod_eq_of_lt (cmac64_lt key m)]
  simp

end Sys2Proof.Machine
end

