-- ==== Sys2Proof/Laws/Boot.lean ====
section
/-!
SUPPORT. The boot record (R431): its bytes spell it, and a record written governs.
-/
namespace Sys2Proof.Machine

/-- Numbers come back from their bytes, least significant first. -/
theorem leNat_natLE (n v : Nat) : leNat (natLE n v) = v % 256 ^ n := by
  induction n generalizing v with
  | zero => simp [natLE, leNat, Nat.mod_one]
  | succ n ih =>
    rw [natLE, leNat, ih, BitVec.toNat_ofNat]
    show v % 256 + 256 * (v / 256 % 256 ^ n) = v % 256 ^ (n + 1)
    rw [Nat.pow_succ', Nat.mod_mul]

/-- A field of known place in a byte string made of three parts. -/
theorem leField_mid (a b c : List Byte) {o n : Nat} (ho : a.length = o) (hn : b.length = n) : leField (a ++ (b ++ c)) o n = leNat b := by
  subst ho hn
  simp [leField, slice]

theorem crcBit_lt (d : Nat) (hd : d < 2 ^ 32) : (if d.testBit 0 then (d / 2) ^^^ 0x82F63B78 else d / 2) < 2 ^ 32 := by
  split
  · exact Nat.xor_lt_two_pow (by omega) (by omega)
  · omega

theorem crcBits_lt (k : List Nat) (d : Nat) (hd : d < 2 ^ 32) :
    k.foldl (fun c _ => if c.testBit 0 then (c / 2) ^^^ 0x82F63B78 else c / 2) d < 2 ^ 32 := by
  induction k generalizing d with
  | nil => exact hd
  | cons _ _ ih => exact ih _ (crcBit_lt d hd)

theorem crc32cByte_lt (c : Nat) (b : Byte) (h : c < 2 ^ 32) : crc32cByte c b < 2 ^ 32 := by
  unfold crc32cByte
  generalize List.range 8 = k
  exact crcBits_lt k _ (Nat.xor_lt_two_pow h (Nat.lt_of_lt_of_le b.isLt (by omega)))

theorem crcBytes_lt (l : List Byte) (c : Nat) (h : c < 2 ^ 32) : l.foldl crc32cByte c < 2 ^ 32 := by
  induction l generalizing c with
  | nil => exact h
  | cons b _ ih => exact ih _ (crc32cByte_lt c b h)

/-- A CRC-32C fits 32 bits. -/
theorem crc32c_lt (l : List Byte) : crc32c l < 2 ^ 32 := by
  unfold crc32c
  exact Nat.xor_lt_two_pow (crcBytes_lt l _ (by omega)) (by omega)

/-- The fields of the byte string of a boot record, whatever its parts. -/
theorem bootFields (m q f g e z c : List Byte) (hm : m.length = 4) (hq : q.length = 4) (hf : f.length = 1) (hg : g.length = 1) (he : e.length = 1)
    (hz : z.length = 17) (hc : c.length = 4) :
    let l := (m ++ q ++ f ++ g ++ e ++ z) ++ c
    leField l 0 4 = leNat m ∧ leField l 4 4 = leNat q ∧ leField l 8 1 = leNat f ∧ leField l 9 1 = leNat g ∧ leField l 10 1 = leNat e ∧
      leField l 28 4 = leNat c ∧ l.take 28 = m ++ q ++ f ++ g ++ e ++ z ∧ l.length = 32 := by
  have h (a b d : List Byte) (o n : Nat) (x : List Byte) (hx : x = a ++ (b ++ d)) (ho : a.length = o) (hn : b.length = n) :
      leField x o n = leNat b := by rw [hx]; exact leField_mid a b d ho hn
  refine ⟨h [] m (q ++ f ++ g ++ e ++ z ++ c) _ _ _ ?_ rfl hm, h m q (f ++ g ++ e ++ z ++ c) _ _ _ ?_ hm hq,
    h (m ++ q) f (g ++ e ++ z ++ c) _ _ _ ?_ ?_ hf, h (m ++ q ++ f) g (e ++ z ++ c) _ _ _ ?_ ?_ hg,
    h (m ++ q ++ f ++ g) e (z ++ c) _ _ _ ?_ ?_ he, h (m ++ q ++ f ++ g ++ e ++ z) c [] _ _ _ ?_ ?_ hc, ?_, ?_⟩ <;>
  simp only [List.append_assoc, List.nil_append, List.append_nil, List.length_append, hm, hq, hf, hg, he, hz, hc]
  rw [show 28 = (m ++ (q ++ (f ++ (g ++ (e ++ z))))).length by simp only [List.length_append, hm, hq, hf, hg, he, hz]]
  rw [show m ++ (q ++ (f ++ (g ++ (e ++ (z ++ c))))) = (m ++ (q ++ (f ++ (g ++ (e ++ z))))) ++ c by simp only [List.append_assoc]]
  exact List.take_left

/-- A boot record whose sequence fits its field comes back from its bytes. -/
theorem bootOf_bytes (b : BootRec) (h : b.seq < 2 ^ 32) : bootOf b.bytes = some b := by
  have hz : (zeros 17).length = 17 := List.length_replicate
  obtain ⟨h0, h4, h8, h9, h10, h28, ht, hn⟩ := bootFields (natLE 4 0x424F4F54) (natLE 4 b.seq) (natLE 1 (bootByte8 b)) (natLE 1 (bootByte9 b))
    (natLE 1 (b2n b.storeB)) (zeros 17) (natLE 4 (crc32c (natLE 4 0x424F4F54 ++ natLE 4 b.seq ++ natLE 1 (bootByte8 b) ++ natLE 1 (bootByte9 b) ++
      natLE 1 (b2n b.storeB) ++ zeros 17))) (length_natLE _ _) (length_natLE _ _) (length_natLE _ _) (length_natLE _ _) (length_natLE _ _) hz
    (length_natLE _ _)
  rw [leNat_natLE] at h0 h4 h8 h9 h10 h28
  rw [Nat.mod_eq_of_lt (by omega)] at h4
  rw [Nat.mod_eq_of_lt (by have := crc32c_lt (natLE 4 0x424F4F54 ++ natLE 4 b.seq ++ natLE 1 (bootByte8 b) ++ natLE 1 (bootByte9 b) ++
      natLE 1 (b2n b.storeB) ++ zeros 17); omega)] at h28
  have e8 : bootByte8 b % 256 ^ 1 = bootByte8 b := Nat.mod_eq_of_lt (by
    unfold bootByte8; cases b.fwB <;> cases b.trial <;> cases b.started <;> cases b.revert <;> decide)
  have e9 : bootByte9 b % 256 ^ 1 = bootByte9 b := Nat.mod_eq_of_lt (by unfold bootByte9; cases b.schedB <;> cases b.schedOk <;> decide)
  have e10 : b2n b.storeB % 256 ^ 1 = b2n b.storeB := Nat.mod_eq_of_lt (by cases b.storeB <;> decide)
  rw [e8] at h8
  rw [e9] at h9
  rw [e10] at h10
  have hm : 0x424F4F54 % 256 ^ 4 = 0x424F4F54 := by decide
  rw [hm] at h0
  have parts : bootOf b.bytes = some ⟨b.seq, (bootByte8 b).testBit 0, (bootByte8 b).testBit 1, (bootByte8 b).testBit 2, (bootByte8 b).testBit 3,
      (bootByte9 b).testBit 0, (bootByte9 b).testBit 1, (b2n b.storeB).testBit 0⟩ := by
    unfold bootOf BootRec.bytes
    dsimp only
    rw [h0, h4, h8, h9, h10, h28, ht, hn]
    simp only [decide_true, Bool.and_self, if_true]
  rw [parts]
  clear parts h0 h4 h8 h9 h10 h28 ht hn e8 e9 e10 hm hz h
  obtain ⟨seq, fwB, trial, started, revert, schedB, schedOk, storeB⟩ := b
  cases fwB <;> cases trial <;> cases started <;> cases revert <;> cases schedB <;> cases schedOk <;> cases storeB <;>
    simp [bootByte8, bootByte9, b2n, Nat.testBit]

/-- Of two copies the valid one with the higher sequence governs (R431). -/
def governingOf : Option BootRec → Option BootRec → Bool × BootRec
  | some a, some b => if a.seq < b.seq then (true, b) else (false, a)
  | none, some b => (true, b)
  | some a, none => (false, a)
  | none, none => (true, {})

theorem governing_eq (u : UpdateSt) : u.governing = governingOf (bootOf u.bootA) (bootOf u.bootB) := by
  unfold UpdateSt.governing governingOf
  rfl

/-- A copy with the sequence after that of the governing one, in its place or beside it, governs. -/
theorem governingOf_next (a b : Option BootRec) (x : BootRec) (h : x.seq = (governingOf a b).2.seq + 1) :
    (if (governingOf a b).1 then governingOf (some x) b else governingOf a (some x)).2 = x := by
  cases a <;> cases b <;> simp only [governingOf] at h ⊢
  · simp
  · simp only [if_true]
    rw [if_neg (by omega)]
  · simp only [Bool.false_eq_true, if_false]
    rw [if_pos (by omega)]
  · split at h
    · rename_i hlt
      simp only [hlt, if_true]
      rw [if_neg (by dsimp only at h; omega)]
    · rename_i hlt
      simp only [hlt, if_false, Bool.false_eq_true]
      rw [if_pos (by dsimp only at h; omega)]

/-- A boot record that is written governs (R431), while its sequence fits the field. -/
theorem governing_writeBoot (u : UpdateSt) (b : BootRec) (h : u.governing.2.seq + 1 < 2 ^ 32) :
    (u.writeBoot b).governing.2 = { b with seq := u.governing.2.seq + 1 } := by
  have hb := bootOf_bytes { b with seq := u.governing.2.seq + 1 } h
  have hn := governingOf_next (bootOf u.bootA) (bootOf u.bootB) { b with seq := u.governing.2.seq + 1 } (by rw [governing_eq])
  rw [← governing_eq] at hn
  unfold UpdateSt.writeBoot
  simp only [Nat.mod_eq_of_lt h]
  by_cases hg : u.governing.1 = true
  · rw [if_pos hg] at hn ⊢
    rw [governing_eq, hb]
    exact hn
  · rw [if_neg hg] at hn ⊢
    rw [governing_eq, hb]
    exact hn

end Sys2Proof.Machine
end

