-- ==== Sys2Proof/Laws/Map.lean ====
section
/-!
SUPPORT. Reading a sparse map after a write to it, and registers after a write to one: what was written, and everything else as it was.
-/
namespace Sys2Proof.Machine

theorem mfind_minsert {α : Type} (m : NMap α) (k j : Nat) (x : α) : mfind (minsert m k x) j = if j = k then some x else mfind m j := by
  induction m with
  | nil => simp [minsert, mfind]
  | cons e t ih =>
    obtain ⟨a, v⟩ := e
    simp only [minsert]
    split
    · simp [mfind]
    · split
      · rename_i h; subst h; simp only [mfind]; split <;> rfl
      · rename_i h1 h2
        simp only [mfind, ih]
        by_cases ha : j = a
        · subst ha; simp [Ne.symm h2]
        · simp [ha]

theorem mfind_merase {α : Type} (m : NMap α) (k j : Nat) : mfind (merase m k) j = if j = k then none else mfind m j := by
  induction m with
  | nil => simp [merase, mfind]
  | cons e t ih =>
    obtain ⟨a, v⟩ := e
    simp only [merase] at ih
    by_cases ha : a = k
    · subst ha
      simp only [merase, List.filter_cons, beq_self_eq_true, Bool.not_true, Bool.false_eq_true, if_false, ih, mfind]
      by_cases hj : j = a <;> simp [hj]
    · have hb : (a == k) = false := by simp [ha]
      simp only [merase, List.filter_cons, hb, Bool.not_false, if_true, mfind, ih]
      by_cases hj : j = a
      · subst hj; simp [ha]
      · simp [hj]

/-- A read after a write: what was written at that key, what was there before at every other. -/
theorem mget_mset {α : Type} [DecidableEq α] (d : α) (m : NMap α) (k j : Nat) (x : α) : mget d (mset d m k x) j = if j = k then x else mget d m j := by
  unfold mget mset
  split
  · rename_i h; rw [mfind_merase]; split <;> simp [h]
  · rw [mfind_minsert]; split <;> simp

@[simp] theorem mget_mset_self {α : Type} [DecidableEq α] (d : α) (m : NMap α) (k : Nat) (x : α) : mget d (mset d m k x) k = x := by
  simp [mget_mset]

theorem mget_mset_ne {α : Type} [DecidableEq α] (d : α) (m : NMap α) {k j : Nat} (x : α) (h : j ≠ k) : mget d (mset d m k x) j = mget d m j := by
  simp [mget_mset, h]

theorem State.rd_eq (s : State) (o : Nat) : s.rd o = mget (objDefault o) s.objs o := rfl

/-- A register after a write to one of them. -/
theorem State.rd_wr (s : State) (o v p : Nat) : (s.wr o v).rd p = if p = o then v else s.rd p := by
  by_cases h : p = o
  · subst h; simp [State.rd_eq, State.wr]
  · simp only [h, if_false, State.rd_eq, State.wr]
    unfold mget mset
    split
    · rw [mfind_merase]; simp [h]
    · rw [mfind_minsert]; simp [h]

@[simp] theorem State.rd_wr_self (s : State) (o v : Nat) : (s.wr o v).rd o = v := by simp [State.rd_wr]

theorem State.rd_wr_ne (s : State) {o p : Nat} (v : Nat) (h : p ≠ o) : (s.wr o v).rd p = s.rd p := by simp [State.rd_wr, h]

theorem State.port_setPort (s : State) (p q : Port) (x : PortSt) : (s.setPort p x).port q = if q = p then x else s.port q := by
  cases p <;> cases q <;> simp [State.port, State.setPort, portNum, mget_mset]

@[simp] theorem State.port_setPort_self (s : State) (p : Port) (x : PortSt) : (s.setPort p x).port p = x := by simp [State.port_setPort]

end Sys2Proof.Machine
end

