-- ==== Sys2Proof/Laws/Memory.lean ====
section
/-!
SUPPORT. The memories of the block keep their canonical form, addresses rising and no zero byte listed: one lemma for every operation that writes one.
What a read gives after a write.
-/
namespace Sys2Proof.Machine

/-- The keys of a sparse map rise where the first lies below all others, and these rise. -/
theorem keysRise_cons {α : Type} (e : Nat × α) (t : NMap α) : keysRise (e :: t) = true ↔ (∀ x ∈ t, e.1 < x.1) ∧ keysRise t = true := by
  induction t generalizing e with
  | nil => simp [keysRise]
  | cons b t ih =>
    obtain ⟨a, v⟩ := e
    obtain ⟨c, w⟩ := b
    simp only [keysRise, Bool.and_eq_true, decide_eq_true_eq, List.mem_cons, forall_eq_or_imp]
    constructor
    · rintro ⟨h1, h2⟩
      exact ⟨⟨h1, fun x hx => Nat.lt_trans h1 (((ih (c, w)).mp h2).1 x hx)⟩, h2⟩
    · rintro ⟨⟨h1, _⟩, h2⟩
      exact ⟨h1, h2⟩

/-- Filtering keeps the keys rising. -/
theorem keysRise_filter {α : Type} (m : NMap α) (f : Nat × α → Bool) (h : keysRise m = true) : keysRise (m.filter f) = true := by
  induction m with
  | nil => exact h
  | cons e t ih =>
    obtain ⟨h1, h2⟩ := (keysRise_cons e t).mp h
    rw [List.filter_cons]
    split
    · exact (keysRise_cons e _).mpr ⟨fun x hx => h1 x (List.mem_filter.mp hx |>.1), ih h2⟩
    · exact ih h2

/-- What a map lists after a key is written: that entry, or one listed before. -/
theorem mem_minsert {α : Type} {m : NMap α} {k : Nat} {x : α} {e : Nat × α} (h : e ∈ minsert m k x) : e = (k, x) ∨ e ∈ m := by
  induction m with
  | nil => simpa [minsert] using h
  | cons b t ih =>
    obtain ⟨a, v⟩ := b
    simp only [minsert] at h
    split at h
    · simpa using h
    · split at h
      · rcases List.mem_cons.mp h with h | h
        · exact .inl h
        · exact .inr (List.mem_cons_of_mem _ h)
      · rcases List.mem_cons.mp h with h | h
        · exact .inr (h ▸ List.mem_cons_self)
        · exact (ih h).imp_right (List.mem_cons_of_mem _)

/-- Writing a key keeps the keys rising. -/
theorem keysRise_minsert {α : Type} (m : NMap α) (k : Nat) (x : α) (h : keysRise m = true) : keysRise (minsert m k x) = true := by
  induction m with
  | nil => rfl
  | cons b t ih =>
    obtain ⟨a, v⟩ := b
    obtain ⟨h1, h2⟩ := (keysRise_cons (a, v) t).mp h
    simp only [minsert]
    split
    · rename_i hk
      exact (keysRise_cons _ _).mpr ⟨fun y hy => by
        rcases List.mem_cons.mp hy with rfl | hy
        · exact hk
        · exact Nat.lt_trans hk (h1 y hy), h⟩
    · split
      · rename_i hk
        subst hk
        exact (keysRise_cons _ _).mpr ⟨h1, h2⟩
      · refine (keysRise_cons _ _).mpr ⟨fun y hy => ?_, ih h2⟩
        rcases mem_minsert hy with rfl | hy
        · show a < k
          omega
        · exact h1 y hy

/-- A sparse map in canonical form stays so when entries leave it. -/
theorem mwf_filter {α : Type} [DecidableEq α] {d : α} {m : NMap α} (f : Nat × α → Bool) (h : mwf d m = true) : mwf d (m.filter f) = true := by
  simp only [mwf, Bool.and_eq_true, List.all_eq_true] at h ⊢
  exact ⟨keysRise_filter m f h.1, fun e he => h.2 e (List.mem_filter.mp he |>.1)⟩

/-- Every write keeps the canonical form of a sparse map. -/
theorem mwf_mset {α : Type} [DecidableEq α] {d : α} {m : NMap α} (k : Nat) (x : α) (h : mwf d m = true) : mwf d (mset d m k x) = true := by
  unfold mset
  split
  · exact mwf_filter _ h
  · rename_i hx
    simp only [mwf, Bool.and_eq_true, List.all_eq_true, decide_eq_true_eq] at h ⊢
    refine ⟨keysRise_minsert m k x h.1, fun e he => ?_⟩
    rcases mem_minsert he with rfl | he
    · exact hx
    · exact h.2 e he

/-- Writing bytes keeps the canonical form of a memory. -/
theorem Memory.wf_write {m : Memory} (o : Nat) (l : List Byte) (h : m.wf = true) : (memWrite m o l).wf = true := by
  induction l generalizing m o with
  | nil => exact h
  | cons b t ih => exact ih (o + 1) (mwf_mset o b h)

/-- One byte of a memory after bytes are written from an offset: those inside, and every other as it was. -/
theorem mget_memWrite (m : Memory) (o a : Nat) (l : List Byte) :
    mget 0 (memWrite m o l) a = if o ≤ a ∧ a < o + l.length then l.getD (a - o) 0 else mget 0 m a := by
  induction l generalizing m o with
  | nil =>
    simp only [memWrite, List.length_nil, Nat.add_zero]
    rw [if_neg (by omega)]
  | cons b t ih =>
    rw [memWrite, ih, mget_mset, List.length_cons]
    by_cases h : a = o
    · subst h
      have h1 : ¬ (a + 1 ≤ a ∧ a < a + 1 + t.length) := by omega
      have h2 : a ≤ a ∧ a < a + (t.length + 1) := by omega
      rw [if_neg h1, if_pos rfl, if_pos h2, Nat.sub_self]
      rfl
    · by_cases h2 : o ≤ a ∧ a < o + (t.length + 1)
      · have h1 : o + 1 ≤ a ∧ a < o + 1 + t.length := by omega
        have h3 : a - o = (a - (o + 1)) + 1 := by omega
        rw [if_pos h1, if_pos h2, h3]
        rfl
      · have h1 : ¬ (o + 1 ≤ a ∧ a < o + 1 + t.length) := by omega
        rw [if_neg h1, if_neg h2, if_neg h]

/-- What is read where bytes have been written is those bytes. -/
theorem memRead_memWrite (m : Memory) (o : Nat) (l : List Byte) : memRead (memWrite m o l) o l.length = l := by
  apply List.ext_getElem
  · simp [memRead]
  · intro k h1 h2
    simp only [memRead, List.getElem_map, List.getElem_range, mget_memWrite]
    have : o ≤ o + k ∧ o + k < o + l.length := by omega
    simp [this, h2]

/-- Both banks of a process image are in canonical form. -/
def Image.wf (x : Image) : Bool := x.working.wf && x.completed.wf

/-- Every write keeps the rest of both images as they are, and those in canonical form so. -/
theorem State.setImage_wf {s : State} {sel : ImageSel} {x : Image} (hi : s.seq.input.wf = true) (ho : s.seq.output.wf = true) (hx : x.wf = true) :
    (s.setImage sel x).seq.input.wf = true ∧ (s.setImage sel x).seq.output.wf = true := by
  cases sel with
  | input => exact ⟨hx, ho⟩
  | output => exact ⟨hi, hx⟩

/-- An image of a state whose images are in canonical form is in canonical form. -/
theorem State.image_wf {s : State} {sel : ImageSel} (hi : s.seq.input.wf = true) (ho : s.seq.output.wf = true) : (s.image sel).wf = true := by
  cases sel with
  | input => exact hi
  | output => exact ho

/-- A byte written at the arrival port keeps both images in canonical form (R69, R73). -/
theorem State.arriveByte_wf {s : State} {sel : ImageSel} {a : Nat} {v : Byte} (hi : s.seq.input.wf = true) (ho : s.seq.output.wf = true) :
    (s.arriveByte sel a v).seq.input.wf = true ∧ (s.arriveByte sel a v).seq.output.wf = true := by
  have h : (s.image sel).working.wf = true ∧ (s.image sel).completed.wf = true := by simpa [Image.wf] using s.image_wf (sel := sel) hi ho
  unfold State.arriveByte
  split
  · split
    · exact ⟨hi, ho⟩
    · exact State.setImage_wf hi ho (by simp only [Image.wf, Bool.and_eq_true]; exact ⟨mwf_mset a v h.1, h.2⟩)
  · exact State.setImage_wf hi ho (by simp only [Image.wf, Bool.and_eq_true]; exact ⟨mwf_mset a v h.1, mwf_mset a v h.2⟩)

/-- So do bytes (R69). -/
theorem State.arriveBytes_wf {s : State} {sel : ImageSel} (o : Nat) (l : List Byte) (hi : s.seq.input.wf = true) (ho : s.seq.output.wf = true) :
    (s.arriveBytes sel o l).seq.input.wf = true ∧ (s.arriveBytes sel o l).seq.output.wf = true := by
  induction l generalizing s o with
  | nil => exact ⟨hi, ho⟩
  | cons b t ih => exact ih (o + 1) (State.arriveByte_wf hi ho).1 (State.arriveByte_wf hi ho).2

/-- A substitute written into the working bank keeps both images in canonical form (R35). -/
theorem State.writeSubstitute_wf {s : State} (i : Nat) (hi : s.seq.input.wf = true) (ho : s.seq.output.wf = true) :
    (s.writeSubstitute i).seq.input.wf = true ∧ (s.writeSubstitute i).seq.output.wf = true := by
  unfold State.writeSubstitute
  split
  · rename_i d _
    have h : (s.image d.img).working.wf = true ∧ (s.image d.img).completed.wf = true := by simpa [Image.wf] using s.image_wf (sel := d.img) hi ho
    exact State.setImage_wf hi ho (by simp only [Image.wf, Bool.and_eq_true]; exact ⟨Memory.wf_write d.off _ h.1, h.2⟩)
  · exact ⟨hi, ho⟩

/-- The change of bank roles keeps both images in canonical form (R71). -/
theorem State.turnImages_wf {s : State} (hi : s.seq.input.wf = true) (ho : s.seq.output.wf = true) :
    s.turnImages.seq.input.wf = true ∧ s.turnImages.seq.output.wf = true := by
  simp only [Image.wf, Bool.and_eq_true] at hi ho ⊢
  exact ⟨⟨hi.2, hi.1⟩, ⟨ho.2, ho.1⟩⟩

/-- Entries written one after the other keep the canonical form of a memory. -/
theorem Memory.wf_foldl {m : Memory} (l : List (Nat × Byte)) (h : m.wf = true) :
    (l.foldl (fun (m : Memory) (e : Nat × Byte) => mset 0 m e.1 e.2) m).wf = true := by
  induction l generalizing m with
  | nil => exact h
  | cons e t ih => exact ih (mwf_mset e.1 e.2 h)

/-- What a bank switch leaves in the words of no record is in canonical form (R73). -/
theorem State.settleWords_wf {s : State} (hi : s.seq.input.wf = true) (ho : s.seq.output.wf = true) :
    s.settleWords.seq.input.wf = true ∧ s.settleWords.seq.output.wf = true := by
  simp only [Image.wf, Bool.and_eq_true] at hi ho ⊢
  exact ⟨⟨Memory.wf_foldl _ (mwf_filter _ hi.2), hi.2⟩, ⟨Memory.wf_foldl _ (mwf_filter _ ho.2), ho.2⟩⟩

/-- The memories of the state after reset are in canonical form. -/
theorem State.reset_images_wf : State.reset.seq.input.wf = true ∧ State.reset.seq.output.wf = true := ⟨rfl, rfl⟩

end Sys2Proof.Machine
end

