-- ==== Sys2Proof/Laws/Od.lean ====
section
/-!
SUPPORT. What the OD operations do to an access that passes its checks, and to one that does not.
-/
namespace Sys2Proof.Machine

/-- A check 2 that passes stores the counter and authenticates what carries a key. -/
theorem State.authenticate_ok {s : State} {h : OdHdr} {op o : Nat} {v : List Byte} (e : s.authError h.route op o h.auth v = 0) :
    s.authenticate h op o v = (s.storeCounter h.auth, 0, h.auth.isSome) := by
  simp [State.authenticate, e]

/-- A write that passes every check and whose effect is accepted: the effect, and the end of the access. -/
theorem State.odWrite_ok {s : State} {h : OdHdr} {o : Nat} {v : List Byte} {eff : State → OdRes} (hp : s.odPasses h o v = true)
    (he : (eff (s.odBegun h)).err = 0) :
    s.odWrite h o v eff = (eff (s.odBegun h)).st.odDone (s.odBegun h) h o v (eff (s.odBegun h)).staged := by
  simp only [State.odPasses, Bool.and_eq_true, decide_eq_true_eq, Bool.not_eq_true'] at hp
  obtain ⟨⟨⟨⟨h1, h0⟩, h2⟩, h3⟩, h4⟩ := hp
  have h2' := State.authenticate_ok h2
  simp only [State.odWrite, State.odExecute, h1, h0, if_true, opCode, h2']
  simp only [State.odBegun] at h3 h4 he ⊢
  simp [h3, State.runWrite, h4, he, State.odDone]

/-- The same for a number. -/
theorem State.odSet_ok {s : State} {h : OdHdr} {o v : Nat} {eff : State → OdRes} (hp : s.numPasses h o v = true)
    (he : (eff (s.odBegun h)).err = 0) :
    s.odSet h o v eff = (eff (s.odBegun h)).st.numDone (s.odBegun h) h o v (eff (s.odBegun h)).staged :=
  State.odWrite_ok hp he

/-- The command of an accepted numeric write completes, with its effect and the end of the access. -/
theorem State.odSet_next {s b : State} {h : OdHdr} {o v : Nat} {eff : State → OdRes} {r : OdRes} (hb : b = s.odBegun h) (hp : s.numPasses h o v = true)
    (he : eff b = r) (hr : r.err = 0) : (.next (s.odSet h o v eff) : Result) = .next (r.st.numDone b h o v r.staged) := by
  subst hb; subst he; rw [State.odSet_ok hp hr]

/-- A numeric write whose effect is done at once leaves what its effect leaves, and the end of the access. -/
theorem State.odSet_done {s b t : State} {h : OdHdr} {o v : Nat} {eff : State → OdRes} (hb : b = s.odBegun h) (hp : s.numPasses h o v = true)
    (he : eff b = okRes t) : (.next (s.odSet h o v eff) : Result) = .next (t.numDone b h o v false) :=
  State.odSet_next (r := okRes t) hb hp he rfl

/-- The same for one whose effect waits for a boundary or a swap. -/
theorem State.odSet_staged {s b t : State} {h : OdHdr} {o v : Nat} {eff : State → OdRes} (hb : b = s.odBegun h) (hp : s.numPasses h o v = true)
    (he : eff b = stagedRes t) : (.next (s.odSet h o v eff) : Result) = .next (t.numDone b h o v true) :=
  State.odSet_next (r := stagedRes t) hb hp he rfl

/-- The same for the bytes of any object. -/
theorem State.odWrite_next {s b : State} {h : OdHdr} {o : Nat} {v : List Byte} {eff : State → OdRes} {r : OdRes} (hb : b = s.odBegun h)
    (hp : s.odPasses h o v = true) (he : eff b = r) (hr : r.err = 0) :
    (.next (s.odWrite h o v eff) : Result) = .next (r.st.odDone b h o v r.staged) := by
  subst hb; subst he; rw [State.odWrite_ok hp hr]

/-- A write that passes every check and whose effect is refused: its error is answered, with the detail code of error 0x0A. -/
theorem State.odWrite_refused {s : State} {h : OdHdr} {o : Nat} {v : List Byte} {eff : State → OdRes} (hp : s.odPasses h o v = true)
    (he : (eff (s.odBegun h)).err ≠ 0) :
    s.odWrite h o v eff = ((eff (s.odBegun h)).st.answer h 2 o h.auth.isSome (eff (s.odBegun h)).err
      (if (eff (s.odBegun h)).err = 0x0A then natBE 1 (eff (s.odBegun h)).detail else []) false false).takeMail 8 := by
  simp only [State.odPasses, Bool.and_eq_true, decide_eq_true_eq, Bool.not_eq_true'] at hp
  obtain ⟨⟨⟨⟨h1, h0⟩, h2⟩, h3⟩, h4⟩ := hp
  have h2' := State.authenticate_ok h2
  simp only [State.odWrite, State.odExecute, h1, h0, if_true, opCode, h2']
  simp only [State.odBegun] at h3 h4 he ⊢
  simp [h3, State.runWrite, h4, he]
  rfl

/-- The command of a numeric write that is refused completes, with the refusal answered. -/
theorem State.odSet_refuses {s b : State} {h : OdHdr} {o v : Nat} {eff : State → OdRes} {t : State} {d : Nat} (hb : b = s.odBegun h)
    (hp : s.numPasses h o v = true) (he : eff b = refusedRes t d) : (.next (s.odSet h o v eff) : Result) = .next (t.odRefused h o 0x0A (some d)) := by
  subst hb
  have hr : (eff (s.odBegun h)).err ≠ 0 := by rw [he]; simp [refusedRes]
  have hw := State.odWrite_refused (v := numBytes o v) hp hr
  rw [he] at hw
  have : s.odSet h o v eff = s.odWrite h o (numBytes o v) eff := rfl
  rw [this, hw]
  simp [refusedRes, State.odRefused]

/-- The same for an error code without a detail. -/
theorem State.odSet_errs {s b : State} {h : OdHdr} {o v : Nat} {eff : State → OdRes} {t : State} {e : Nat} (hb : b = s.odBegun h)
    (hp : s.numPasses h o v = true) (he : eff b = errRes t e) (h0 : e ≠ 0) (ha : e ≠ 0x0A) :
    (.next (s.odSet h o v eff) : Result) = .next (t.odRefused h o e none) := by
  subst hb
  have hr : (eff (s.odBegun h)).err ≠ 0 := by rw [he]; simpa [errRes] using h0
  have hw := State.odWrite_refused (v := numBytes o v) hp hr
  rw [he] at hw
  have : s.odSet h o v eff = s.odWrite h o (numBytes o v) eff := rfl
  rw [this, hw]
  simp [errRes, State.odRefused, ha]

/-- A write that fails a check of R335 after authentication is answered with that error, and its effect does not happen. -/
theorem State.odWrite_barred {s : State} {h : OdHdr} {o e : Nat} {v : List Byte} {eff : State → OdRes} (hp : s.odReaches h o v = true)
    (he : (s.odBegun h).accessError .write o v = e) (h0 : e ≠ 0) : s.odWrite h o v eff = (s.odBegun h).odRefused h o e none := by
  simp only [State.odReaches, Bool.and_eq_true, decide_eq_true_eq, Bool.not_eq_true'] at hp
  obtain ⟨⟨h1, h2⟩, h3⟩ := hp
  have h3' := State.authenticate_ok h3
  simp only [State.odWrite, State.odExecute, h1, h2, if_true, opCode, h3']
  simp only [State.odBegun] at he ⊢
  simp [he, h0, State.odRefused]

/-- The command of a numeric write that fails a check completes, with the error answered. -/
theorem State.odSet_barred {s b : State} {h : OdHdr} {o v e : Nat} {eff : State → OdRes} (hb : b = s.odBegun h) (hp : s.numReaches h o v = true)
    (he : b.accessError .write o (numBytes o v) = e) (h0 : e ≠ 0) : (.next (s.odSet h o v eff) : Result) = .next (b.odRefused h o e none) := by
  subst hb; exact congrArg _ (State.odWrite_barred hp he h0)

/-- An access that the Keeper is not ready to execute has no effect. -/
theorem State.odExecute_waits {s : State} {q : OdAccessReq} {run : State → OdAnswer} (h : s.odReady q = false) : s.odExecute q run = s := by
  simp [State.odExecute, h]

end Sys2Proof.Machine
end

