-- ==== Sys2Proof/Laws/State.lean ====
section
/-!
SUPPORT. The plain updates of State, field by field: what each leaves as it was.
-/
namespace Sys2Proof.Machine

@[simp] theorem State.wr_mode (s : State) (o v : Nat) : (s.wr o v).mode = s.mode := rfl
@[simp] theorem State.wr_blobs (s : State) (o v : Nat) : (s.wr o v).blobs = s.blobs := rfl
@[simp] theorem State.wr_flash (s : State) (o v : Nat) : (s.wr o v).flash = s.flash := rfl
@[simp] theorem State.wr_flashBlobs (s : State) (o v : Nat) : (s.wr o v).flashBlobs = s.flashBlobs := rfl
@[simp] theorem State.wr_stores (s : State) (o v : Nat) : (s.wr o v).stores = s.stores := rfl
@[simp] theorem State.wr_journal (s : State) (o v : Nat) : (s.wr o v).journal = s.journal := rfl
@[simp] theorem State.wr_seq (s : State) (o v : Nat) : (s.wr o v).seq = s.seq := rfl
@[simp] theorem State.wr_ports (s : State) (o v : Nat) : (s.wr o v).ports = s.ports := rfl
@[simp] theorem State.wr_ring (s : State) (o v : Nat) : (s.wr o v).ring = s.ring := rfl
@[simp] theorem State.wr_time (s : State) (o v : Nat) : (s.wr o v).time = s.time := rfl
@[simp] theorem State.wr_pawns (s : State) (o v : Nat) : (s.wr o v).pawns = s.pawns := rfl
@[simp] theorem State.wr_pins (s : State) (o v : Nat) : (s.wr o v).pins = s.pins := rfl
@[simp] theorem State.wr_od (s : State) (o v : Nat) : (s.wr o v).od = s.od := rfl
@[simp] theorem State.wr_update (s : State) (o v : Nat) : (s.wr o v).update = s.update := rfl
@[simp] theorem State.wr_repair (s : State) (o v : Nat) : (s.wr o v).repair = s.repair := rfl
@[simp] theorem State.wr_modes (s : State) (o v : Nat) : (s.wr o v).modes = s.modes := rfl
@[simp] theorem State.wr_bridge (s : State) (o v : Nat) : (s.wr o v).bridge = s.bridge := rfl
@[simp] theorem State.wr_switch (s : State) (o v : Nat) : (s.wr o v).switch = s.switch := rfl
@[simp] theorem State.wr_bus (s : State) (o v : Nat) : (s.wr o v).bus = s.bus := rfl
@[simp] theorem State.wr_snaps (s : State) (o v : Nat) : (s.wr o v).snaps = s.snaps := rfl
@[simp] theorem State.wr_power (s : State) (o v : Nat) : (s.wr o v).power = s.power := rfl
@[simp] theorem State.wr_sleep (s : State) (o v : Nat) : (s.wr o v).sleep = s.sleep := rfl
@[simp] theorem State.wr_doze (s : State) (o v : Nat) : (s.wr o v).doze = s.doze := rfl
@[simp] theorem State.wr_pair (s : State) (o v : Nat) : (s.wr o v).pair = s.pair := rfl
@[simp] theorem State.wr_out (s : State) (o v : Nat) : (s.wr o v).out = s.out := rfl
@[simp] theorem State.wr_free (s : State) (o v : Nat) : (s.wr o v).free = s.free := rfl
@[simp] theorem State.wr_pending (s : State) (o v : Nat) : (s.wr o v).pending = s.pending := rfl
@[simp] theorem State.wr_rdB (s : State) (o v : Nat) (n : Nat) : (s.wr o v).rdB n = s.rdB n := rfl

@[simp] theorem State.wrB_mode (s : State) (o : Nat) (v : List Byte) : (s.wrB o v).mode = s.mode := rfl
@[simp] theorem State.wrB_objs (s : State) (o : Nat) (v : List Byte) : (s.wrB o v).objs = s.objs := rfl
@[simp] theorem State.wrB_flash (s : State) (o : Nat) (v : List Byte) : (s.wrB o v).flash = s.flash := rfl
@[simp] theorem State.wrB_flashBlobs (s : State) (o : Nat) (v : List Byte) : (s.wrB o v).flashBlobs = s.flashBlobs := rfl
@[simp] theorem State.wrB_stores (s : State) (o : Nat) (v : List Byte) : (s.wrB o v).stores = s.stores := rfl
@[simp] theorem State.wrB_journal (s : State) (o : Nat) (v : List Byte) : (s.wrB o v).journal = s.journal := rfl
@[simp] theorem State.wrB_seq (s : State) (o : Nat) (v : List Byte) : (s.wrB o v).seq = s.seq := rfl
@[simp] theorem State.wrB_ports (s : State) (o : Nat) (v : List Byte) : (s.wrB o v).ports = s.ports := rfl
@[simp] theorem State.wrB_ring (s : State) (o : Nat) (v : List Byte) : (s.wrB o v).ring = s.ring := rfl
@[simp] theorem State.wrB_time (s : State) (o : Nat) (v : List Byte) : (s.wrB o v).time = s.time := rfl
@[simp] theorem State.wrB_pawns (s : State) (o : Nat) (v : List Byte) : (s.wrB o v).pawns = s.pawns := rfl
@[simp] theorem State.wrB_pins (s : State) (o : Nat) (v : List Byte) : (s.wrB o v).pins = s.pins := rfl
@[simp] theorem State.wrB_od (s : State) (o : Nat) (v : List Byte) : (s.wrB o v).od = s.od := rfl
@[simp] theorem State.wrB_update (s : State) (o : Nat) (v : List Byte) : (s.wrB o v).update = s.update := rfl
@[simp] theorem State.wrB_repair (s : State) (o : Nat) (v : List Byte) : (s.wrB o v).repair = s.repair := rfl
@[simp] theorem State.wrB_modes (s : State) (o : Nat) (v : List Byte) : (s.wrB o v).modes = s.modes := rfl
@[simp] theorem State.wrB_bridge (s : State) (o : Nat) (v : List Byte) : (s.wrB o v).bridge = s.bridge := rfl
@[simp] theorem State.wrB_switch (s : State) (o : Nat) (v : List Byte) : (s.wrB o v).switch = s.switch := rfl
@[simp] theorem State.wrB_bus (s : State) (o : Nat) (v : List Byte) : (s.wrB o v).bus = s.bus := rfl
@[simp] theorem State.wrB_snaps (s : State) (o : Nat) (v : List Byte) : (s.wrB o v).snaps = s.snaps := rfl
@[simp] theorem State.wrB_power (s : State) (o : Nat) (v : List Byte) : (s.wrB o v).power = s.power := rfl
@[simp] theorem State.wrB_sleep (s : State) (o : Nat) (v : List Byte) : (s.wrB o v).sleep = s.sleep := rfl
@[simp] theorem State.wrB_doze (s : State) (o : Nat) (v : List Byte) : (s.wrB o v).doze = s.doze := rfl
@[simp] theorem State.wrB_pair (s : State) (o : Nat) (v : List Byte) : (s.wrB o v).pair = s.pair := rfl
@[simp] theorem State.wrB_out (s : State) (o : Nat) (v : List Byte) : (s.wrB o v).out = s.out := rfl
@[simp] theorem State.wrB_free (s : State) (o : Nat) (v : List Byte) : (s.wrB o v).free = s.free := rfl
@[simp] theorem State.wrB_pending (s : State) (o : Nat) (v : List Byte) : (s.wrB o v).pending = s.pending := rfl
@[simp] theorem State.wrB_rd (s : State) (o : Nat) (v : List Byte) (n : Nat) : (s.wrB o v).rd n = s.rd n := rfl

@[simp] theorem State.tookFree_mode (s : State) : (s.tookFree).mode = s.mode := rfl
@[simp] theorem State.tookFree_objs (s : State) : (s.tookFree).objs = s.objs := rfl
@[simp] theorem State.tookFree_blobs (s : State) : (s.tookFree).blobs = s.blobs := rfl
@[simp] theorem State.tookFree_flash (s : State) : (s.tookFree).flash = s.flash := rfl
@[simp] theorem State.tookFree_flashBlobs (s : State) : (s.tookFree).flashBlobs = s.flashBlobs := rfl
@[simp] theorem State.tookFree_stores (s : State) : (s.tookFree).stores = s.stores := rfl
@[simp] theorem State.tookFree_journal (s : State) : (s.tookFree).journal = s.journal := rfl
@[simp] theorem State.tookFree_seq (s : State) : (s.tookFree).seq = s.seq := rfl
@[simp] theorem State.tookFree_ports (s : State) : (s.tookFree).ports = s.ports := rfl
@[simp] theorem State.tookFree_ring (s : State) : (s.tookFree).ring = s.ring := rfl
@[simp] theorem State.tookFree_time (s : State) : (s.tookFree).time = s.time := rfl
@[simp] theorem State.tookFree_pawns (s : State) : (s.tookFree).pawns = s.pawns := rfl
@[simp] theorem State.tookFree_pins (s : State) : (s.tookFree).pins = s.pins := rfl
@[simp] theorem State.tookFree_od (s : State) : (s.tookFree).od = s.od := rfl
@[simp] theorem State.tookFree_update (s : State) : (s.tookFree).update = s.update := rfl
@[simp] theorem State.tookFree_repair (s : State) : (s.tookFree).repair = s.repair := rfl
@[simp] theorem State.tookFree_modes (s : State) : (s.tookFree).modes = s.modes := rfl
@[simp] theorem State.tookFree_bridge (s : State) : (s.tookFree).bridge = s.bridge := rfl
@[simp] theorem State.tookFree_switch (s : State) : (s.tookFree).switch = s.switch := rfl
@[simp] theorem State.tookFree_bus (s : State) : (s.tookFree).bus = s.bus := rfl
@[simp] theorem State.tookFree_snaps (s : State) : (s.tookFree).snaps = s.snaps := rfl
@[simp] theorem State.tookFree_power (s : State) : (s.tookFree).power = s.power := rfl
@[simp] theorem State.tookFree_sleep (s : State) : (s.tookFree).sleep = s.sleep := rfl
@[simp] theorem State.tookFree_doze (s : State) : (s.tookFree).doze = s.doze := rfl
@[simp] theorem State.tookFree_pair (s : State) : (s.tookFree).pair = s.pair := rfl
@[simp] theorem State.tookFree_out (s : State) : (s.tookFree).out = s.out := rfl
@[simp] theorem State.tookFree_pending (s : State) : (s.tookFree).pending = s.pending := rfl
@[simp] theorem State.tookFree_rd (s : State) (n : Nat) : (s.tookFree).rd n = s.rd n := rfl
@[simp] theorem State.tookFree_rdB (s : State) (n : Nat) : (s.tookFree).rdB n = s.rdB n := rfl

@[simp] theorem State.emit_mode (s : State) (x : Out) : (s.emit x).mode = s.mode := rfl
@[simp] theorem State.emit_objs (s : State) (x : Out) : (s.emit x).objs = s.objs := rfl
@[simp] theorem State.emit_blobs (s : State) (x : Out) : (s.emit x).blobs = s.blobs := rfl
@[simp] theorem State.emit_flash (s : State) (x : Out) : (s.emit x).flash = s.flash := rfl
@[simp] theorem State.emit_flashBlobs (s : State) (x : Out) : (s.emit x).flashBlobs = s.flashBlobs := rfl
@[simp] theorem State.emit_stores (s : State) (x : Out) : (s.emit x).stores = s.stores := rfl
@[simp] theorem State.emit_journal (s : State) (x : Out) : (s.emit x).journal = s.journal := rfl
@[simp] theorem State.emit_seq (s : State) (x : Out) : (s.emit x).seq = s.seq := rfl
@[simp] theorem State.emit_ports (s : State) (x : Out) : (s.emit x).ports = s.ports := rfl
@[simp] theorem State.emit_ring (s : State) (x : Out) : (s.emit x).ring = s.ring := rfl
@[simp] theorem State.emit_time (s : State) (x : Out) : (s.emit x).time = s.time := rfl
@[simp] theorem State.emit_pawns (s : State) (x : Out) : (s.emit x).pawns = s.pawns := rfl
@[simp] theorem State.emit_pins (s : State) (x : Out) : (s.emit x).pins = s.pins := rfl
@[simp] theorem State.emit_od (s : State) (x : Out) : (s.emit x).od = s.od := rfl
@[simp] theorem State.emit_update (s : State) (x : Out) : (s.emit x).update = s.update := rfl
@[simp] theorem State.emit_repair (s : State) (x : Out) : (s.emit x).repair = s.repair := rfl
@[simp] theorem State.emit_modes (s : State) (x : Out) : (s.emit x).modes = s.modes := rfl
@[simp] theorem State.emit_bridge (s : State) (x : Out) : (s.emit x).bridge = s.bridge := rfl
@[simp] theorem State.emit_switch (s : State) (x : Out) : (s.emit x).switch = s.switch := rfl
@[simp] theorem State.emit_bus (s : State) (x : Out) : (s.emit x).bus = s.bus := rfl
@[simp] theorem State.emit_snaps (s : State) (x : Out) : (s.emit x).snaps = s.snaps := rfl
@[simp] theorem State.emit_power (s : State) (x : Out) : (s.emit x).power = s.power := rfl
@[simp] theorem State.emit_sleep (s : State) (x : Out) : (s.emit x).sleep = s.sleep := rfl
@[simp] theorem State.emit_doze (s : State) (x : Out) : (s.emit x).doze = s.doze := rfl
@[simp] theorem State.emit_pair (s : State) (x : Out) : (s.emit x).pair = s.pair := rfl
@[simp] theorem State.emit_free (s : State) (x : Out) : (s.emit x).free = s.free := rfl
@[simp] theorem State.emit_pending (s : State) (x : Out) : (s.emit x).pending = s.pending := rfl
@[simp] theorem State.emit_rd (s : State) (x : Out) (n : Nat) : (s.emit x).rd n = s.rd n := rfl
@[simp] theorem State.emit_rdB (s : State) (x : Out) (n : Nat) : (s.emit x).rdB n = s.rdB n := rfl

@[simp] theorem State.emitAll_mode (s : State) (xs : List Out) : (s.emitAll xs).mode = s.mode := rfl
@[simp] theorem State.emitAll_objs (s : State) (xs : List Out) : (s.emitAll xs).objs = s.objs := rfl
@[simp] theorem State.emitAll_blobs (s : State) (xs : List Out) : (s.emitAll xs).blobs = s.blobs := rfl
@[simp] theorem State.emitAll_flash (s : State) (xs : List Out) : (s.emitAll xs).flash = s.flash := rfl
@[simp] theorem State.emitAll_flashBlobs (s : State) (xs : List Out) : (s.emitAll xs).flashBlobs = s.flashBlobs := rfl
@[simp] theorem State.emitAll_stores (s : State) (xs : List Out) : (s.emitAll xs).stores = s.stores := rfl
@[simp] theorem State.emitAll_journal (s : State) (xs : List Out) : (s.emitAll xs).journal = s.journal := rfl
@[simp] theorem State.emitAll_seq (s : State) (xs : List Out) : (s.emitAll xs).seq = s.seq := rfl
@[simp] theorem State.emitAll_ports (s : State) (xs : List Out) : (s.emitAll xs).ports = s.ports := rfl
@[simp] theorem State.emitAll_ring (s : State) (xs : List Out) : (s.emitAll xs).ring = s.ring := rfl
@[simp] theorem State.emitAll_time (s : State) (xs : List Out) : (s.emitAll xs).time = s.time := rfl
@[simp] theorem State.emitAll_pawns (s : State) (xs : List Out) : (s.emitAll xs).pawns = s.pawns := rfl
@[simp] theorem State.emitAll_pins (s : State) (xs : List Out) : (s.emitAll xs).pins = s.pins := rfl
@[simp] theorem State.emitAll_od (s : State) (xs : List Out) : (s.emitAll xs).od = s.od := rfl
@[simp] theorem State.emitAll_update (s : State) (xs : List Out) : (s.emitAll xs).update = s.update := rfl
@[simp] theorem State.emitAll_repair (s : State) (xs : List Out) : (s.emitAll xs).repair = s.repair := rfl
@[simp] theorem State.emitAll_modes (s : State) (xs : List Out) : (s.emitAll xs).modes = s.modes := rfl
@[simp] theorem State.emitAll_bridge (s : State) (xs : List Out) : (s.emitAll xs).bridge = s.bridge := rfl
@[simp] theorem State.emitAll_switch (s : State) (xs : List Out) : (s.emitAll xs).switch = s.switch := rfl
@[simp] theorem State.emitAll_bus (s : State) (xs : List Out) : (s.emitAll xs).bus = s.bus := rfl
@[simp] theorem State.emitAll_snaps (s : State) (xs : List Out) : (s.emitAll xs).snaps = s.snaps := rfl
@[simp] theorem State.emitAll_power (s : State) (xs : List Out) : (s.emitAll xs).power = s.power := rfl
@[simp] theorem State.emitAll_sleep (s : State) (xs : List Out) : (s.emitAll xs).sleep = s.sleep := rfl
@[simp] theorem State.emitAll_doze (s : State) (xs : List Out) : (s.emitAll xs).doze = s.doze := rfl
@[simp] theorem State.emitAll_pair (s : State) (xs : List Out) : (s.emitAll xs).pair = s.pair := rfl
@[simp] theorem State.emitAll_free (s : State) (xs : List Out) : (s.emitAll xs).free = s.free := rfl
@[simp] theorem State.emitAll_pending (s : State) (xs : List Out) : (s.emitAll xs).pending = s.pending := rfl
@[simp] theorem State.emitAll_rd (s : State) (xs : List Out) (n : Nat) : (s.emitAll xs).rd n = s.rd n := rfl
@[simp] theorem State.emitAll_rdB (s : State) (xs : List Out) (n : Nat) : (s.emitAll xs).rdB n = s.rdB n := rfl

@[simp] theorem State.setPort_mode (s : State) (p : Port) (x : PortSt) : (s.setPort p x).mode = s.mode := rfl
@[simp] theorem State.setPort_objs (s : State) (p : Port) (x : PortSt) : (s.setPort p x).objs = s.objs := rfl
@[simp] theorem State.setPort_blobs (s : State) (p : Port) (x : PortSt) : (s.setPort p x).blobs = s.blobs := rfl
@[simp] theorem State.setPort_flash (s : State) (p : Port) (x : PortSt) : (s.setPort p x).flash = s.flash := rfl
@[simp] theorem State.setPort_flashBlobs (s : State) (p : Port) (x : PortSt) : (s.setPort p x).flashBlobs = s.flashBlobs := rfl
@[simp] theorem State.setPort_stores (s : State) (p : Port) (x : PortSt) : (s.setPort p x).stores = s.stores := rfl
@[simp] theorem State.setPort_journal (s : State) (p : Port) (x : PortSt) : (s.setPort p x).journal = s.journal := rfl
@[simp] theorem State.setPort_seq (s : State) (p : Port) (x : PortSt) : (s.setPort p x).seq = s.seq := rfl
@[simp] theorem State.setPort_ring (s : State) (p : Port) (x : PortSt) : (s.setPort p x).ring = s.ring := rfl
@[simp] theorem State.setPort_time (s : State) (p : Port) (x : PortSt) : (s.setPort p x).time = s.time := rfl
@[simp] theorem State.setPort_pawns (s : State) (p : Port) (x : PortSt) : (s.setPort p x).pawns = s.pawns := rfl
@[simp] theorem State.setPort_pins (s : State) (p : Port) (x : PortSt) : (s.setPort p x).pins = s.pins := rfl
@[simp] theorem State.setPort_od (s : State) (p : Port) (x : PortSt) : (s.setPort p x).od = s.od := rfl
@[simp] theorem State.setPort_update (s : State) (p : Port) (x : PortSt) : (s.setPort p x).update = s.update := rfl
@[simp] theorem State.setPort_repair (s : State) (p : Port) (x : PortSt) : (s.setPort p x).repair = s.repair := rfl
@[simp] theorem State.setPort_modes (s : State) (p : Port) (x : PortSt) : (s.setPort p x).modes = s.modes := rfl
@[simp] theorem State.setPort_bridge (s : State) (p : Port) (x : PortSt) : (s.setPort p x).bridge = s.bridge := rfl
@[simp] theorem State.setPort_switch (s : State) (p : Port) (x : PortSt) : (s.setPort p x).switch = s.switch := rfl
@[simp] theorem State.setPort_bus (s : State) (p : Port) (x : PortSt) : (s.setPort p x).bus = s.bus := rfl
@[simp] theorem State.setPort_snaps (s : State) (p : Port) (x : PortSt) : (s.setPort p x).snaps = s.snaps := rfl
@[simp] theorem State.setPort_power (s : State) (p : Port) (x : PortSt) : (s.setPort p x).power = s.power := rfl
@[simp] theorem State.setPort_sleep (s : State) (p : Port) (x : PortSt) : (s.setPort p x).sleep = s.sleep := rfl
@[simp] theorem State.setPort_doze (s : State) (p : Port) (x : PortSt) : (s.setPort p x).doze = s.doze := rfl
@[simp] theorem State.setPort_pair (s : State) (p : Port) (x : PortSt) : (s.setPort p x).pair = s.pair := rfl
@[simp] theorem State.setPort_out (s : State) (p : Port) (x : PortSt) : (s.setPort p x).out = s.out := rfl
@[simp] theorem State.setPort_free (s : State) (p : Port) (x : PortSt) : (s.setPort p x).free = s.free := rfl
@[simp] theorem State.setPort_pending (s : State) (p : Port) (x : PortSt) : (s.setPort p x).pending = s.pending := rfl
@[simp] theorem State.setPort_rd (s : State) (p : Port) (x : PortSt) (n : Nat) : (s.setPort p x).rd n = s.rd n := rfl
@[simp] theorem State.setPort_rdB (s : State) (p : Port) (x : PortSt) (n : Nat) : (s.setPort p x).rdB n = s.rdB n := rfl

@[simp] theorem State.setCtl_mode (s : State) (n : Nat) (c : BusCtl) : (s.setCtl n c).mode = s.mode := rfl
@[simp] theorem State.setCtl_objs (s : State) (n : Nat) (c : BusCtl) : (s.setCtl n c).objs = s.objs := rfl
@[simp] theorem State.setCtl_blobs (s : State) (n : Nat) (c : BusCtl) : (s.setCtl n c).blobs = s.blobs := rfl
@[simp] theorem State.setCtl_flash (s : State) (n : Nat) (c : BusCtl) : (s.setCtl n c).flash = s.flash := rfl
@[simp] theorem State.setCtl_flashBlobs (s : State) (n : Nat) (c : BusCtl) : (s.setCtl n c).flashBlobs = s.flashBlobs := rfl
@[simp] theorem State.setCtl_stores (s : State) (n : Nat) (c : BusCtl) : (s.setCtl n c).stores = s.stores := rfl
@[simp] theorem State.setCtl_journal (s : State) (n : Nat) (c : BusCtl) : (s.setCtl n c).journal = s.journal := rfl
@[simp] theorem State.setCtl_seq (s : State) (n : Nat) (c : BusCtl) : (s.setCtl n c).seq = s.seq := rfl
@[simp] theorem State.setCtl_ports (s : State) (n : Nat) (c : BusCtl) : (s.setCtl n c).ports = s.ports := rfl
@[simp] theorem State.setCtl_ring (s : State) (n : Nat) (c : BusCtl) : (s.setCtl n c).ring = s.ring := rfl
@[simp] theorem State.setCtl_time (s : State) (n : Nat) (c : BusCtl) : (s.setCtl n c).time = s.time := rfl
@[simp] theorem State.setCtl_pawns (s : State) (n : Nat) (c : BusCtl) : (s.setCtl n c).pawns = s.pawns := rfl
@[simp] theorem State.setCtl_pins (s : State) (n : Nat) (c : BusCtl) : (s.setCtl n c).pins = s.pins := rfl
@[simp] theorem State.setCtl_od (s : State) (n : Nat) (c : BusCtl) : (s.setCtl n c).od = s.od := rfl
@[simp] theorem State.setCtl_update (s : State) (n : Nat) (c : BusCtl) : (s.setCtl n c).update = s.update := rfl
@[simp] theorem State.setCtl_repair (s : State) (n : Nat) (c : BusCtl) : (s.setCtl n c).repair = s.repair := rfl
@[simp] theorem State.setCtl_modes (s : State) (n : Nat) (c : BusCtl) : (s.setCtl n c).modes = s.modes := rfl
@[simp] theorem State.setCtl_bridge (s : State) (n : Nat) (c : BusCtl) : (s.setCtl n c).bridge = s.bridge := rfl
@[simp] theorem State.setCtl_switch (s : State) (n : Nat) (c : BusCtl) : (s.setCtl n c).switch = s.switch := rfl
@[simp] theorem State.setCtl_snaps (s : State) (n : Nat) (c : BusCtl) : (s.setCtl n c).snaps = s.snaps := rfl
@[simp] theorem State.setCtl_power (s : State) (n : Nat) (c : BusCtl) : (s.setCtl n c).power = s.power := rfl
@[simp] theorem State.setCtl_sleep (s : State) (n : Nat) (c : BusCtl) : (s.setCtl n c).sleep = s.sleep := rfl
@[simp] theorem State.setCtl_doze (s : State) (n : Nat) (c : BusCtl) : (s.setCtl n c).doze = s.doze := rfl
@[simp] theorem State.setCtl_pair (s : State) (n : Nat) (c : BusCtl) : (s.setCtl n c).pair = s.pair := rfl
@[simp] theorem State.setCtl_out (s : State) (n : Nat) (c : BusCtl) : (s.setCtl n c).out = s.out := rfl
@[simp] theorem State.setCtl_free (s : State) (n : Nat) (c : BusCtl) : (s.setCtl n c).free = s.free := rfl
@[simp] theorem State.setCtl_pending (s : State) (n : Nat) (c : BusCtl) : (s.setCtl n c).pending = s.pending := rfl
@[simp] theorem State.setCtl_rd (s : State) (n : Nat) (c : BusCtl) (k : Nat) : (s.setCtl n c).rd k = s.rd k := rfl
@[simp] theorem State.setCtl_rdB (s : State) (n : Nat) (c : BusCtl) (k : Nat) : (s.setCtl n c).rdB k = s.rdB k := rfl

@[simp] theorem State.setMsg_mode (s : State) (n m : Nat) (x : MsgObj) : (s.setMsg n m x).mode = s.mode := rfl
@[simp] theorem State.setMsg_objs (s : State) (n m : Nat) (x : MsgObj) : (s.setMsg n m x).objs = s.objs := rfl
@[simp] theorem State.setMsg_blobs (s : State) (n m : Nat) (x : MsgObj) : (s.setMsg n m x).blobs = s.blobs := rfl
@[simp] theorem State.setMsg_flash (s : State) (n m : Nat) (x : MsgObj) : (s.setMsg n m x).flash = s.flash := rfl
@[simp] theorem State.setMsg_flashBlobs (s : State) (n m : Nat) (x : MsgObj) : (s.setMsg n m x).flashBlobs = s.flashBlobs := rfl
@[simp] theorem State.setMsg_stores (s : State) (n m : Nat) (x : MsgObj) : (s.setMsg n m x).stores = s.stores := rfl
@[simp] theorem State.setMsg_journal (s : State) (n m : Nat) (x : MsgObj) : (s.setMsg n m x).journal = s.journal := rfl
@[simp] theorem State.setMsg_seq (s : State) (n m : Nat) (x : MsgObj) : (s.setMsg n m x).seq = s.seq := rfl
@[simp] theorem State.setMsg_ports (s : State) (n m : Nat) (x : MsgObj) : (s.setMsg n m x).ports = s.ports := rfl
@[simp] theorem State.setMsg_ring (s : State) (n m : Nat) (x : MsgObj) : (s.setMsg n m x).ring = s.ring := rfl
@[simp] theorem State.setMsg_time (s : State) (n m : Nat) (x : MsgObj) : (s.setMsg n m x).time = s.time := rfl
@[simp] theorem State.setMsg_pawns (s : State) (n m : Nat) (x : MsgObj) : (s.setMsg n m x).pawns = s.pawns := rfl
@[simp] theorem State.setMsg_pins (s : State) (n m : Nat) (x : MsgObj) : (s.setMsg n m x).pins = s.pins := rfl
@[simp] theorem State.setMsg_od (s : State) (n m : Nat) (x : MsgObj) : (s.setMsg n m x).od = s.od := rfl
@[simp] theorem State.setMsg_update (s : State) (n m : Nat) (x : MsgObj) : (s.setMsg n m x).update = s.update := rfl
@[simp] theorem State.setMsg_repair (s : State) (n m : Nat) (x : MsgObj) : (s.setMsg n m x).repair = s.repair := rfl
@[simp] theorem State.setMsg_modes (s : State) (n m : Nat) (x : MsgObj) : (s.setMsg n m x).modes = s.modes := rfl
@[simp] theorem State.setMsg_bridge (s : State) (n m : Nat) (x : MsgObj) : (s.setMsg n m x).bridge = s.bridge := rfl
@[simp] theorem State.setMsg_switch (s : State) (n m : Nat) (x : MsgObj) : (s.setMsg n m x).switch = s.switch := rfl
@[simp] theorem State.setMsg_snaps (s : State) (n m : Nat) (x : MsgObj) : (s.setMsg n m x).snaps = s.snaps := rfl
@[simp] theorem State.setMsg_power (s : State) (n m : Nat) (x : MsgObj) : (s.setMsg n m x).power = s.power := rfl
@[simp] theorem State.setMsg_sleep (s : State) (n m : Nat) (x : MsgObj) : (s.setMsg n m x).sleep = s.sleep := rfl
@[simp] theorem State.setMsg_doze (s : State) (n m : Nat) (x : MsgObj) : (s.setMsg n m x).doze = s.doze := rfl
@[simp] theorem State.setMsg_pair (s : State) (n m : Nat) (x : MsgObj) : (s.setMsg n m x).pair = s.pair := rfl
@[simp] theorem State.setMsg_out (s : State) (n m : Nat) (x : MsgObj) : (s.setMsg n m x).out = s.out := rfl
@[simp] theorem State.setMsg_free (s : State) (n m : Nat) (x : MsgObj) : (s.setMsg n m x).free = s.free := rfl
@[simp] theorem State.setMsg_pending (s : State) (n m : Nat) (x : MsgObj) : (s.setMsg n m x).pending = s.pending := rfl
@[simp] theorem State.setMsg_rd (s : State) (n m : Nat) (x : MsgObj) (k : Nat) : (s.setMsg n m x).rd k = s.rd k := rfl
@[simp] theorem State.setMsg_rdB (s : State) (n m : Nat) (x : MsgObj) (k : Nat) : (s.setMsg n m x).rdB k = s.rdB k := rfl

@[simp] theorem State.setWant_mode (s : State) (t v : Nat) : (s.setWant t v).mode = s.mode := rfl
@[simp] theorem State.setWant_objs (s : State) (t v : Nat) : (s.setWant t v).objs = s.objs := rfl
@[simp] theorem State.setWant_blobs (s : State) (t v : Nat) : (s.setWant t v).blobs = s.blobs := rfl
@[simp] theorem State.setWant_flash (s : State) (t v : Nat) : (s.setWant t v).flash = s.flash := rfl
@[simp] theorem State.setWant_flashBlobs (s : State) (t v : Nat) : (s.setWant t v).flashBlobs = s.flashBlobs := rfl
@[simp] theorem State.setWant_stores (s : State) (t v : Nat) : (s.setWant t v).stores = s.stores := rfl
@[simp] theorem State.setWant_journal (s : State) (t v : Nat) : (s.setWant t v).journal = s.journal := rfl
@[simp] theorem State.setWant_seq (s : State) (t v : Nat) : (s.setWant t v).seq = s.seq := rfl
@[simp] theorem State.setWant_ports (s : State) (t v : Nat) : (s.setWant t v).ports = s.ports := rfl
@[simp] theorem State.setWant_ring (s : State) (t v : Nat) : (s.setWant t v).ring = s.ring := rfl
@[simp] theorem State.setWant_time (s : State) (t v : Nat) : (s.setWant t v).time = s.time := rfl
@[simp] theorem State.setWant_pawns (s : State) (t v : Nat) : (s.setWant t v).pawns = s.pawns := rfl
@[simp] theorem State.setWant_pins (s : State) (t v : Nat) : (s.setWant t v).pins = s.pins := rfl
@[simp] theorem State.setWant_od (s : State) (t v : Nat) : (s.setWant t v).od = s.od := rfl
@[simp] theorem State.setWant_update (s : State) (t v : Nat) : (s.setWant t v).update = s.update := rfl
@[simp] theorem State.setWant_repair (s : State) (t v : Nat) : (s.setWant t v).repair = s.repair := rfl
@[simp] theorem State.setWant_modes (s : State) (t v : Nat) : (s.setWant t v).modes = s.modes := rfl
@[simp] theorem State.setWant_bridge (s : State) (t v : Nat) : (s.setWant t v).bridge = s.bridge := rfl
@[simp] theorem State.setWant_switch (s : State) (t v : Nat) : (s.setWant t v).switch = s.switch := rfl
@[simp] theorem State.setWant_snaps (s : State) (t v : Nat) : (s.setWant t v).snaps = s.snaps := rfl
@[simp] theorem State.setWant_power (s : State) (t v : Nat) : (s.setWant t v).power = s.power := rfl
@[simp] theorem State.setWant_sleep (s : State) (t v : Nat) : (s.setWant t v).sleep = s.sleep := rfl
@[simp] theorem State.setWant_doze (s : State) (t v : Nat) : (s.setWant t v).doze = s.doze := rfl
@[simp] theorem State.setWant_pair (s : State) (t v : Nat) : (s.setWant t v).pair = s.pair := rfl
@[simp] theorem State.setWant_out (s : State) (t v : Nat) : (s.setWant t v).out = s.out := rfl
@[simp] theorem State.setWant_free (s : State) (t v : Nat) : (s.setWant t v).free = s.free := rfl
@[simp] theorem State.setWant_pending (s : State) (t v : Nat) : (s.setWant t v).pending = s.pending := rfl
@[simp] theorem State.setWant_rd (s : State) (t v : Nat) (n : Nat) : (s.setWant t v).rd n = s.rd n := rfl
@[simp] theorem State.setWant_rdB (s : State) (t v : Nat) (n : Nat) : (s.setWant t v).rdB n = s.rdB n := rfl

@[simp] theorem State.setPawn_mode (s : State) (q : Nat) (p : PawnSt) : (s.setPawn q p).mode = s.mode := rfl
@[simp] theorem State.setPawn_objs (s : State) (q : Nat) (p : PawnSt) : (s.setPawn q p).objs = s.objs := rfl
@[simp] theorem State.setPawn_blobs (s : State) (q : Nat) (p : PawnSt) : (s.setPawn q p).blobs = s.blobs := rfl
@[simp] theorem State.setPawn_flash (s : State) (q : Nat) (p : PawnSt) : (s.setPawn q p).flash = s.flash := rfl
@[simp] theorem State.setPawn_flashBlobs (s : State) (q : Nat) (p : PawnSt) : (s.setPawn q p).flashBlobs = s.flashBlobs := rfl
@[simp] theorem State.setPawn_stores (s : State) (q : Nat) (p : PawnSt) : (s.setPawn q p).stores = s.stores := rfl
@[simp] theorem State.setPawn_journal (s : State) (q : Nat) (p : PawnSt) : (s.setPawn q p).journal = s.journal := rfl
@[simp] theorem State.setPawn_seq (s : State) (q : Nat) (p : PawnSt) : (s.setPawn q p).seq = s.seq := rfl
@[simp] theorem State.setPawn_ports (s : State) (q : Nat) (p : PawnSt) : (s.setPawn q p).ports = s.ports := rfl
@[simp] theorem State.setPawn_ring (s : State) (q : Nat) (p : PawnSt) : (s.setPawn q p).ring = s.ring := rfl
@[simp] theorem State.setPawn_time (s : State) (q : Nat) (p : PawnSt) : (s.setPawn q p).time = s.time := rfl
@[simp] theorem State.setPawn_pins (s : State) (q : Nat) (p : PawnSt) : (s.setPawn q p).pins = s.pins := rfl
@[simp] theorem State.setPawn_od (s : State) (q : Nat) (p : PawnSt) : (s.setPawn q p).od = s.od := rfl
@[simp] theorem State.setPawn_update (s : State) (q : Nat) (p : PawnSt) : (s.setPawn q p).update = s.update := rfl
@[simp] theorem State.setPawn_repair (s : State) (q : Nat) (p : PawnSt) : (s.setPawn q p).repair = s.repair := rfl
@[simp] theorem State.setPawn_modes (s : State) (q : Nat) (p : PawnSt) : (s.setPawn q p).modes = s.modes := rfl
@[simp] theorem State.setPawn_bridge (s : State) (q : Nat) (p : PawnSt) : (s.setPawn q p).bridge = s.bridge := rfl
@[simp] theorem State.setPawn_switch (s : State) (q : Nat) (p : PawnSt) : (s.setPawn q p).switch = s.switch := rfl
@[simp] theorem State.setPawn_bus (s : State) (q : Nat) (p : PawnSt) : (s.setPawn q p).bus = s.bus := rfl
@[simp] theorem State.setPawn_snaps (s : State) (q : Nat) (p : PawnSt) : (s.setPawn q p).snaps = s.snaps := rfl
@[simp] theorem State.setPawn_power (s : State) (q : Nat) (p : PawnSt) : (s.setPawn q p).power = s.power := rfl
@[simp] theorem State.setPawn_sleep (s : State) (q : Nat) (p : PawnSt) : (s.setPawn q p).sleep = s.sleep := rfl
@[simp] theorem State.setPawn_doze (s : State) (q : Nat) (p : PawnSt) : (s.setPawn q p).doze = s.doze := rfl
@[simp] theorem State.setPawn_pair (s : State) (q : Nat) (p : PawnSt) : (s.setPawn q p).pair = s.pair := rfl
@[simp] theorem State.setPawn_out (s : State) (q : Nat) (p : PawnSt) : (s.setPawn q p).out = s.out := rfl
@[simp] theorem State.setPawn_free (s : State) (q : Nat) (p : PawnSt) : (s.setPawn q p).free = s.free := rfl
@[simp] theorem State.setPawn_pending (s : State) (q : Nat) (p : PawnSt) : (s.setPawn q p).pending = s.pending := rfl
@[simp] theorem State.setPawn_rd (s : State) (q : Nat) (p : PawnSt) (n : Nat) : (s.setPawn q p).rd n = s.rd n := rfl
@[simp] theorem State.setPawn_rdB (s : State) (q : Nat) (p : PawnSt) (n : Nat) : (s.setPawn q p).rdB n = s.rdB n := rfl

@[simp] theorem State.setRecLive_mode (s : State) (i : Nat) (r : RecLive) : (s.setRecLive i r).mode = s.mode := rfl
@[simp] theorem State.setRecLive_objs (s : State) (i : Nat) (r : RecLive) : (s.setRecLive i r).objs = s.objs := rfl
@[simp] theorem State.setRecLive_blobs (s : State) (i : Nat) (r : RecLive) : (s.setRecLive i r).blobs = s.blobs := rfl
@[simp] theorem State.setRecLive_flash (s : State) (i : Nat) (r : RecLive) : (s.setRecLive i r).flash = s.flash := rfl
@[simp] theorem State.setRecLive_flashBlobs (s : State) (i : Nat) (r : RecLive) : (s.setRecLive i r).flashBlobs = s.flashBlobs := rfl
@[simp] theorem State.setRecLive_stores (s : State) (i : Nat) (r : RecLive) : (s.setRecLive i r).stores = s.stores := rfl
@[simp] theorem State.setRecLive_journal (s : State) (i : Nat) (r : RecLive) : (s.setRecLive i r).journal = s.journal := rfl
@[simp] theorem State.setRecLive_ports (s : State) (i : Nat) (r : RecLive) : (s.setRecLive i r).ports = s.ports := rfl
@[simp] theorem State.setRecLive_ring (s : State) (i : Nat) (r : RecLive) : (s.setRecLive i r).ring = s.ring := rfl
@[simp] theorem State.setRecLive_time (s : State) (i : Nat) (r : RecLive) : (s.setRecLive i r).time = s.time := rfl
@[simp] theorem State.setRecLive_pawns (s : State) (i : Nat) (r : RecLive) : (s.setRecLive i r).pawns = s.pawns := rfl
@[simp] theorem State.setRecLive_pins (s : State) (i : Nat) (r : RecLive) : (s.setRecLive i r).pins = s.pins := rfl
@[simp] theorem State.setRecLive_od (s : State) (i : Nat) (r : RecLive) : (s.setRecLive i r).od = s.od := rfl
@[simp] theorem State.setRecLive_update (s : State) (i : Nat) (r : RecLive) : (s.setRecLive i r).update = s.update := rfl
@[simp] theorem State.setRecLive_repair (s : State) (i : Nat) (r : RecLive) : (s.setRecLive i r).repair = s.repair := rfl
@[simp] theorem State.setRecLive_modes (s : State) (i : Nat) (r : RecLive) : (s.setRecLive i r).modes = s.modes := rfl
@[simp] theorem State.setRecLive_bridge (s : State) (i : Nat) (r : RecLive) : (s.setRecLive i r).bridge = s.bridge := rfl
@[simp] theorem State.setRecLive_switch (s : State) (i : Nat) (r : RecLive) : (s.setRecLive i r).switch = s.switch := rfl
@[simp] theorem State.setRecLive_bus (s : State) (i : Nat) (r : RecLive) : (s.setRecLive i r).bus = s.bus := rfl
@[simp] theorem State.setRecLive_snaps (s : State) (i : Nat) (r : RecLive) : (s.setRecLive i r).snaps = s.snaps := rfl
@[simp] theorem State.setRecLive_power (s : State) (i : Nat) (r : RecLive) : (s.setRecLive i r).power = s.power := rfl
@[simp] theorem State.setRecLive_sleep (s : State) (i : Nat) (r : RecLive) : (s.setRecLive i r).sleep = s.sleep := rfl
@[simp] theorem State.setRecLive_doze (s : State) (i : Nat) (r : RecLive) : (s.setRecLive i r).doze = s.doze := rfl
@[simp] theorem State.setRecLive_pair (s : State) (i : Nat) (r : RecLive) : (s.setRecLive i r).pair = s.pair := rfl
@[simp] theorem State.setRecLive_out (s : State) (i : Nat) (r : RecLive) : (s.setRecLive i r).out = s.out := rfl
@[simp] theorem State.setRecLive_free (s : State) (i : Nat) (r : RecLive) : (s.setRecLive i r).free = s.free := rfl
@[simp] theorem State.setRecLive_pending (s : State) (i : Nat) (r : RecLive) : (s.setRecLive i r).pending = s.pending := rfl
@[simp] theorem State.setRecLive_rd (s : State) (i : Nat) (r : RecLive) (n : Nat) : (s.setRecLive i r).rd n = s.rd n := rfl
@[simp] theorem State.setRecLive_rdB (s : State) (i : Nat) (r : RecLive) (n : Nat) : (s.setRecLive i r).rdB n = s.rdB n := rfl

@[simp] theorem State.moveDone_mode (s : State) (i : Nat) : (s.moveDone i).mode = s.mode := rfl
@[simp] theorem State.moveDone_objs (s : State) (i : Nat) : (s.moveDone i).objs = s.objs := rfl
@[simp] theorem State.moveDone_blobs (s : State) (i : Nat) : (s.moveDone i).blobs = s.blobs := rfl
@[simp] theorem State.moveDone_flash (s : State) (i : Nat) : (s.moveDone i).flash = s.flash := rfl
@[simp] theorem State.moveDone_flashBlobs (s : State) (i : Nat) : (s.moveDone i).flashBlobs = s.flashBlobs := rfl
@[simp] theorem State.moveDone_stores (s : State) (i : Nat) : (s.moveDone i).stores = s.stores := rfl
@[simp] theorem State.moveDone_journal (s : State) (i : Nat) : (s.moveDone i).journal = s.journal := rfl
@[simp] theorem State.moveDone_ports (s : State) (i : Nat) : (s.moveDone i).ports = s.ports := rfl
@[simp] theorem State.moveDone_ring (s : State) (i : Nat) : (s.moveDone i).ring = s.ring := rfl
@[simp] theorem State.moveDone_time (s : State) (i : Nat) : (s.moveDone i).time = s.time := rfl
@[simp] theorem State.moveDone_pawns (s : State) (i : Nat) : (s.moveDone i).pawns = s.pawns := rfl
@[simp] theorem State.moveDone_pins (s : State) (i : Nat) : (s.moveDone i).pins = s.pins := rfl
@[simp] theorem State.moveDone_od (s : State) (i : Nat) : (s.moveDone i).od = s.od := rfl
@[simp] theorem State.moveDone_update (s : State) (i : Nat) : (s.moveDone i).update = s.update := rfl
@[simp] theorem State.moveDone_repair (s : State) (i : Nat) : (s.moveDone i).repair = s.repair := rfl
@[simp] theorem State.moveDone_modes (s : State) (i : Nat) : (s.moveDone i).modes = s.modes := rfl
@[simp] theorem State.moveDone_bridge (s : State) (i : Nat) : (s.moveDone i).bridge = s.bridge := rfl
@[simp] theorem State.moveDone_switch (s : State) (i : Nat) : (s.moveDone i).switch = s.switch := rfl
@[simp] theorem State.moveDone_bus (s : State) (i : Nat) : (s.moveDone i).bus = s.bus := rfl
@[simp] theorem State.moveDone_snaps (s : State) (i : Nat) : (s.moveDone i).snaps = s.snaps := rfl
@[simp] theorem State.moveDone_power (s : State) (i : Nat) : (s.moveDone i).power = s.power := rfl
@[simp] theorem State.moveDone_sleep (s : State) (i : Nat) : (s.moveDone i).sleep = s.sleep := rfl
@[simp] theorem State.moveDone_doze (s : State) (i : Nat) : (s.moveDone i).doze = s.doze := rfl
@[simp] theorem State.moveDone_pair (s : State) (i : Nat) : (s.moveDone i).pair = s.pair := rfl
@[simp] theorem State.moveDone_out (s : State) (i : Nat) : (s.moveDone i).out = s.out := rfl
@[simp] theorem State.moveDone_free (s : State) (i : Nat) : (s.moveDone i).free = s.free := rfl
@[simp] theorem State.moveDone_pending (s : State) (i : Nat) : (s.moveDone i).pending = s.pending := rfl
@[simp] theorem State.moveDone_rd (s : State) (i : Nat) (n : Nat) : (s.moveDone i).rd n = s.rd n := rfl
@[simp] theorem State.moveDone_rdB (s : State) (i : Nat) (n : Nat) : (s.moveDone i).rdB n = s.rdB n := rfl

@[simp] theorem State.setSnap_mode (s : State) (k : Nat) (x : SnapSlot) : (s.setSnap k x).mode = s.mode := rfl
@[simp] theorem State.setSnap_objs (s : State) (k : Nat) (x : SnapSlot) : (s.setSnap k x).objs = s.objs := rfl
@[simp] theorem State.setSnap_blobs (s : State) (k : Nat) (x : SnapSlot) : (s.setSnap k x).blobs = s.blobs := rfl
@[simp] theorem State.setSnap_flash (s : State) (k : Nat) (x : SnapSlot) : (s.setSnap k x).flash = s.flash := rfl
@[simp] theorem State.setSnap_flashBlobs (s : State) (k : Nat) (x : SnapSlot) : (s.setSnap k x).flashBlobs = s.flashBlobs := rfl
@[simp] theorem State.setSnap_stores (s : State) (k : Nat) (x : SnapSlot) : (s.setSnap k x).stores = s.stores := rfl
@[simp] theorem State.setSnap_journal (s : State) (k : Nat) (x : SnapSlot) : (s.setSnap k x).journal = s.journal := rfl
@[simp] theorem State.setSnap_seq (s : State) (k : Nat) (x : SnapSlot) : (s.setSnap k x).seq = s.seq := rfl
@[simp] theorem State.setSnap_ports (s : State) (k : Nat) (x : SnapSlot) : (s.setSnap k x).ports = s.ports := rfl
@[simp] theorem State.setSnap_ring (s : State) (k : Nat) (x : SnapSlot) : (s.setSnap k x).ring = s.ring := rfl
@[simp] theorem State.setSnap_time (s : State) (k : Nat) (x : SnapSlot) : (s.setSnap k x).time = s.time := rfl
@[simp] theorem State.setSnap_pawns (s : State) (k : Nat) (x : SnapSlot) : (s.setSnap k x).pawns = s.pawns := rfl
@[simp] theorem State.setSnap_pins (s : State) (k : Nat) (x : SnapSlot) : (s.setSnap k x).pins = s.pins := rfl
@[simp] theorem State.setSnap_od (s : State) (k : Nat) (x : SnapSlot) : (s.setSnap k x).od = s.od := rfl
@[simp] theorem State.setSnap_update (s : State) (k : Nat) (x : SnapSlot) : (s.setSnap k x).update = s.update := rfl
@[simp] theorem State.setSnap_repair (s : State) (k : Nat) (x : SnapSlot) : (s.setSnap k x).repair = s.repair := rfl
@[simp] theorem State.setSnap_modes (s : State) (k : Nat) (x : SnapSlot) : (s.setSnap k x).modes = s.modes := rfl
@[simp] theorem State.setSnap_bridge (s : State) (k : Nat) (x : SnapSlot) : (s.setSnap k x).bridge = s.bridge := rfl
@[simp] theorem State.setSnap_switch (s : State) (k : Nat) (x : SnapSlot) : (s.setSnap k x).switch = s.switch := rfl
@[simp] theorem State.setSnap_bus (s : State) (k : Nat) (x : SnapSlot) : (s.setSnap k x).bus = s.bus := rfl
@[simp] theorem State.setSnap_power (s : State) (k : Nat) (x : SnapSlot) : (s.setSnap k x).power = s.power := rfl
@[simp] theorem State.setSnap_sleep (s : State) (k : Nat) (x : SnapSlot) : (s.setSnap k x).sleep = s.sleep := rfl
@[simp] theorem State.setSnap_doze (s : State) (k : Nat) (x : SnapSlot) : (s.setSnap k x).doze = s.doze := rfl
@[simp] theorem State.setSnap_pair (s : State) (k : Nat) (x : SnapSlot) : (s.setSnap k x).pair = s.pair := rfl
@[simp] theorem State.setSnap_out (s : State) (k : Nat) (x : SnapSlot) : (s.setSnap k x).out = s.out := rfl
@[simp] theorem State.setSnap_free (s : State) (k : Nat) (x : SnapSlot) : (s.setSnap k x).free = s.free := rfl
@[simp] theorem State.setSnap_pending (s : State) (k : Nat) (x : SnapSlot) : (s.setSnap k x).pending = s.pending := rfl
@[simp] theorem State.setSnap_rd (s : State) (k : Nat) (x : SnapSlot) (n : Nat) : (s.setSnap k x).rd n = s.rd n := rfl
@[simp] theorem State.setSnap_rdB (s : State) (k : Nat) (x : SnapSlot) (n : Nat) : (s.setSnap k x).rdB n = s.rdB n := rfl

@[simp] theorem State.setImage_mode (s : State) (sel : ImageSel) (x : Image) : (s.setImage sel x).mode = s.mode := by cases sel <;> rfl
@[simp] theorem State.setImage_objs (s : State) (sel : ImageSel) (x : Image) : (s.setImage sel x).objs = s.objs := by cases sel <;> rfl
@[simp] theorem State.setImage_blobs (s : State) (sel : ImageSel) (x : Image) : (s.setImage sel x).blobs = s.blobs := by cases sel <;> rfl
@[simp] theorem State.setImage_flash (s : State) (sel : ImageSel) (x : Image) : (s.setImage sel x).flash = s.flash := by cases sel <;> rfl
@[simp] theorem State.setImage_flashBlobs (s : State) (sel : ImageSel) (x : Image) : (s.setImage sel x).flashBlobs = s.flashBlobs := by cases sel <;> rfl
@[simp] theorem State.setImage_stores (s : State) (sel : ImageSel) (x : Image) : (s.setImage sel x).stores = s.stores := by cases sel <;> rfl
@[simp] theorem State.setImage_journal (s : State) (sel : ImageSel) (x : Image) : (s.setImage sel x).journal = s.journal := by cases sel <;> rfl
@[simp] theorem State.setImage_ports (s : State) (sel : ImageSel) (x : Image) : (s.setImage sel x).ports = s.ports := by cases sel <;> rfl
@[simp] theorem State.setImage_ring (s : State) (sel : ImageSel) (x : Image) : (s.setImage sel x).ring = s.ring := by cases sel <;> rfl
@[simp] theorem State.setImage_time (s : State) (sel : ImageSel) (x : Image) : (s.setImage sel x).time = s.time := by cases sel <;> rfl
@[simp] theorem State.setImage_pawns (s : State) (sel : ImageSel) (x : Image) : (s.setImage sel x).pawns = s.pawns := by cases sel <;> rfl
@[simp] theorem State.setImage_pins (s : State) (sel : ImageSel) (x : Image) : (s.setImage sel x).pins = s.pins := by cases sel <;> rfl
@[simp] theorem State.setImage_od (s : State) (sel : ImageSel) (x : Image) : (s.setImage sel x).od = s.od := by cases sel <;> rfl
@[simp] theorem State.setImage_update (s : State) (sel : ImageSel) (x : Image) : (s.setImage sel x).update = s.update := by cases sel <;> rfl
@[simp] theorem State.setImage_repair (s : State) (sel : ImageSel) (x : Image) : (s.setImage sel x).repair = s.repair := by cases sel <;> rfl
@[simp] theorem State.setImage_modes (s : State) (sel : ImageSel) (x : Image) : (s.setImage sel x).modes = s.modes := by cases sel <;> rfl
@[simp] theorem State.setImage_bridge (s : State) (sel : ImageSel) (x : Image) : (s.setImage sel x).bridge = s.bridge := by cases sel <;> rfl
@[simp] theorem State.setImage_switch (s : State) (sel : ImageSel) (x : Image) : (s.setImage sel x).switch = s.switch := by cases sel <;> rfl
@[simp] theorem State.setImage_bus (s : State) (sel : ImageSel) (x : Image) : (s.setImage sel x).bus = s.bus := by cases sel <;> rfl
@[simp] theorem State.setImage_snaps (s : State) (sel : ImageSel) (x : Image) : (s.setImage sel x).snaps = s.snaps := by cases sel <;> rfl
@[simp] theorem State.setImage_power (s : State) (sel : ImageSel) (x : Image) : (s.setImage sel x).power = s.power := by cases sel <;> rfl
@[simp] theorem State.setImage_sleep (s : State) (sel : ImageSel) (x : Image) : (s.setImage sel x).sleep = s.sleep := by cases sel <;> rfl
@[simp] theorem State.setImage_doze (s : State) (sel : ImageSel) (x : Image) : (s.setImage sel x).doze = s.doze := by cases sel <;> rfl
@[simp] theorem State.setImage_pair (s : State) (sel : ImageSel) (x : Image) : (s.setImage sel x).pair = s.pair := by cases sel <;> rfl
@[simp] theorem State.setImage_out (s : State) (sel : ImageSel) (x : Image) : (s.setImage sel x).out = s.out := by cases sel <;> rfl
@[simp] theorem State.setImage_free (s : State) (sel : ImageSel) (x : Image) : (s.setImage sel x).free = s.free := by cases sel <;> rfl
@[simp] theorem State.setImage_pending (s : State) (sel : ImageSel) (x : Image) : (s.setImage sel x).pending = s.pending := by cases sel <;> rfl
@[simp] theorem State.setImage_rd (s : State) (sel : ImageSel) (x : Image) (n : Nat) : (s.setImage sel x).rd n = s.rd n := by cases sel <;> rfl
@[simp] theorem State.setImage_rdB (s : State) (sel : ImageSel) (x : Image) (n : Nat) : (s.setImage sel x).rdB n = s.rdB n := by cases sel <;> rfl

@[simp] theorem State.setTransmitter_mode (s : State) (p : Port) (on : Bool) : (s.setTransmitter p on).mode = s.mode := rfl
@[simp] theorem State.setTransmitter_objs (s : State) (p : Port) (on : Bool) : (s.setTransmitter p on).objs = s.objs := rfl
@[simp] theorem State.setTransmitter_blobs (s : State) (p : Port) (on : Bool) : (s.setTransmitter p on).blobs = s.blobs := rfl
@[simp] theorem State.setTransmitter_flash (s : State) (p : Port) (on : Bool) : (s.setTransmitter p on).flash = s.flash := rfl
@[simp] theorem State.setTransmitter_flashBlobs (s : State) (p : Port) (on : Bool) : (s.setTransmitter p on).flashBlobs = s.flashBlobs := rfl
@[simp] theorem State.setTransmitter_stores (s : State) (p : Port) (on : Bool) : (s.setTransmitter p on).stores = s.stores := rfl
@[simp] theorem State.setTransmitter_journal (s : State) (p : Port) (on : Bool) : (s.setTransmitter p on).journal = s.journal := rfl
@[simp] theorem State.setTransmitter_ports (s : State) (p : Port) (on : Bool) : (s.setTransmitter p on).ports = s.ports := rfl
@[simp] theorem State.setTransmitter_time (s : State) (p : Port) (on : Bool) : (s.setTransmitter p on).time = s.time := rfl
@[simp] theorem State.setTransmitter_pawns (s : State) (p : Port) (on : Bool) : (s.setTransmitter p on).pawns = s.pawns := rfl
@[simp] theorem State.setTransmitter_pins (s : State) (p : Port) (on : Bool) : (s.setTransmitter p on).pins = s.pins := rfl
@[simp] theorem State.setTransmitter_od (s : State) (p : Port) (on : Bool) : (s.setTransmitter p on).od = s.od := rfl
@[simp] theorem State.setTransmitter_update (s : State) (p : Port) (on : Bool) : (s.setTransmitter p on).update = s.update := rfl
@[simp] theorem State.setTransmitter_repair (s : State) (p : Port) (on : Bool) : (s.setTransmitter p on).repair = s.repair := rfl
@[simp] theorem State.setTransmitter_modes (s : State) (p : Port) (on : Bool) : (s.setTransmitter p on).modes = s.modes := rfl
@[simp] theorem State.setTransmitter_bridge (s : State) (p : Port) (on : Bool) : (s.setTransmitter p on).bridge = s.bridge := rfl
@[simp] theorem State.setTransmitter_switch (s : State) (p : Port) (on : Bool) : (s.setTransmitter p on).switch = s.switch := rfl
@[simp] theorem State.setTransmitter_bus (s : State) (p : Port) (on : Bool) : (s.setTransmitter p on).bus = s.bus := rfl
@[simp] theorem State.setTransmitter_snaps (s : State) (p : Port) (on : Bool) : (s.setTransmitter p on).snaps = s.snaps := rfl
@[simp] theorem State.setTransmitter_power (s : State) (p : Port) (on : Bool) : (s.setTransmitter p on).power = s.power := rfl
@[simp] theorem State.setTransmitter_sleep (s : State) (p : Port) (on : Bool) : (s.setTransmitter p on).sleep = s.sleep := rfl
@[simp] theorem State.setTransmitter_doze (s : State) (p : Port) (on : Bool) : (s.setTransmitter p on).doze = s.doze := rfl
@[simp] theorem State.setTransmitter_pair (s : State) (p : Port) (on : Bool) : (s.setTransmitter p on).pair = s.pair := rfl
@[simp] theorem State.setTransmitter_out (s : State) (p : Port) (on : Bool) : (s.setTransmitter p on).out = s.out := rfl
@[simp] theorem State.setTransmitter_free (s : State) (p : Port) (on : Bool) : (s.setTransmitter p on).free = s.free := rfl
@[simp] theorem State.setTransmitter_pending (s : State) (p : Port) (on : Bool) : (s.setTransmitter p on).pending = s.pending := rfl
@[simp] theorem State.setTransmitter_rd (s : State) (p : Port) (on : Bool) (n : Nat) : (s.setTransmitter p on).rd n = s.rd n := rfl
@[simp] theorem State.setTransmitter_rdB (s : State) (p : Port) (on : Bool) (n : Nat) : (s.setTransmitter p on).rdB n = s.rdB n := rfl
@[simp] theorem State.setTransmitter_seq (s : State) (p : Port) (on : Bool) : (s.setTransmitter p on).seq = s.seq := rfl

end Sys2Proof.Machine
end

