-- ==== Sys2Proof/Laws/Ops.lean ====
section
/-!
SUPPORT. What counting and raising a journal record can do, once for each: which parts of the state they write, and which registers they leave alone.
-/
namespace Sys2Proof.Machine

/-- Adding to a count writes the objects, and takes at most one free value. -/
theorem State.addTo_frame (s : State) (o n : Nat) : ∃ (objs : NMap Nat) (free : Nat), s.addTo o n = { s with objs := objs, free := free } := by
  unfold State.addTo
  split
  · exact ⟨_, _, rfl⟩
  · exact ⟨_, _, rfl⟩

/-- Adding to a count leaves every other register as it is. -/
theorem State.rd_addTo_ne (s : State) {o p : Nat} (n : Nat) (h : p ≠ o) : (s.addTo o n).rd p = s.rd p := by
  unfold State.addTo
  split
  · exact State.rd_wr_ne s _ h
  · exact State.rd_wr_ne s _ h

/-- Below the top of its width a count reads what was added. -/
theorem State.rd_addTo_self (s : State) {o n : Nat} (h : s.rd o + n < 2 ^ objBits o) : (s.addTo o n).rd o = s.rd o + n := by
  simp [State.addTo, h]

/-- A count that goes up by one leaves every other register as it is. -/
theorem State.rd_inc_ne (s : State) {o p : Nat} (h : p ≠ o) : (s.inc o).rd p = s.rd p := State.rd_addTo_ne s 1 h

/-- A count that saturates reads the sum, or the top of its width. -/
theorem State.rd_incSat (s : State) (o p : Nat) : (s.incSat o).rd p = if p = o then min (s.rd o + 1) (2 ^ objBits o - 1) else s.rd p :=
  State.rd_wr s o _ p

/-- Adding to a count that saturates writes the objects. -/
theorem State.incSat_frame (s : State) (o : Nat) : ∃ objs : NMap Nat, s.incSat o = { s with objs := objs } := ⟨_, rfl⟩

/-- A record that is lost writes objects only, and takes free values. -/
theorem State.recordLost_frame (s : State) (cls : Nat) : ∃ (objs : NMap Nat) (free : Nat), s.recordLost cls = { s with objs := objs, free := free } := by
  unfold State.recordLost
  split
  · obtain ⟨o1, f1, h1⟩ := s.addTo_frame (0xD00010 + cls) 1
    obtain ⟨o2, h2⟩ := (s.inc (0xD00010 + cls)).incSat_frame 0xD00007
    exact ⟨o2, f1, by rw [h2, State.inc, h1]⟩
  · obtain ⟨o2, h2⟩ := s.incSat_frame 0xD00007
    exact ⟨o2, s.free, h2⟩

/-- Posting a record writes the journal, or the objects that count what is lost. -/
theorem State.post_frame (s : State) (i : Island) (r : JRecord) :
    ∃ (objs : NMap Nat) (j : JournalSt) (free : Nat), s.post i r = { s with objs := objs, journal := j, free := free } := by
  unfold State.post
  dsimp only
  split
  · exact ⟨_, _, _, rfl⟩
  · obtain ⟨o, f, h⟩ := s.recordLost_frame r.cls
    exact ⟨o, s.journal, f, h⟩

/-- The power log takes a record, or counts it. -/
theorem State.powerLog_frame (s : State) (r : JRecord) :
    ∃ (objs : NMap Nat) (j : JournalSt) (free : Nat), s.powerLog r = { s with objs := objs, journal := j, free := free } := by
  unfold State.powerLog
  dsimp only
  split
  · exact ⟨_, _, _, rfl⟩
  · obtain ⟨o, f, h⟩ := State.addTo_frame { s with journal := { s.journal with plogLost := mupd 0 s.journal.plogLost r.cls (· + 1) } } 0xA00210 1
    exact ⟨o, _, f, h⟩

/-- Raising a journal record writes the counts of area D and the journal, and takes free values: everything else stays (R455, R460). -/
theorem State.raiseAt_frame (s : State) (at_ : Nat) (i : Island) (cls reason tag : Nat) :
    ∃ (objs : NMap Nat) (j : JournalSt) (free : Nat), s.raiseAt at_ i cls reason tag = { s with objs := objs, journal := j, free := free } := by
  have counted : ∀ t : State, ∃ (objs : NMap Nat) (j : JournalSt) (free : Nat),
      (t.inc (0xD00100 + reason)).post i (jrecordAt at_ i cls reason tag) = { t with objs := objs, journal := j, free := free } := by
    intro t
    obtain ⟨o1, f1, h1⟩ := t.addTo_frame (0xD00100 + reason) 1
    obtain ⟨o2, j2, f2, h2⟩ := (t.inc (0xD00100 + reason)).post_frame i (jrecordAt at_ i cls reason tag)
    exact ⟨o2, j2, f2, by rw [h2, State.inc, h1]⟩
  unfold State.raiseAt
  split
  · dsimp only
    split
    · obtain ⟨o, j, f, h⟩ := counted (s.incSat (0xD00300 + cls))
      exact ⟨o, j, f, h⟩
    · split
      · exact State.powerLog_frame _ _
      · obtain ⟨o, j, f, h⟩ := counted (s.incSat (0xD00300 + cls))
        exact ⟨o, j, f, h⟩
  · exact ⟨_, _, _, rfl⟩

/-- The same for a record of the beat. -/
theorem State.raise_frame (s : State) (i : Island) (cls reason tag : Nat) :
    ∃ (objs : NMap Nat) (j : JournalSt) (free : Nat), s.raise i cls reason tag = { s with objs := objs, journal := j, free := free } :=
  s.raiseAt_frame s.time.now i cls reason tag

/-- A register below area D is as it was after a record is lost. -/
theorem State.rd_recordLost (s : State) (cls : Nat) {o : Nat} (h : o < 0xD00000) : (s.recordLost cls).rd o = s.rd o := by
  unfold State.recordLost
  rw [State.rd_incSat, if_neg (by omega)]
  split
  · exact State.rd_inc_ne _ (by omega)
  · rfl

/-- A register below area D is as it was after a record is posted. -/
theorem State.rd_post (s : State) (i : Island) (r : JRecord) {o : Nat} (h : o < 0xD00000) : (s.post i r).rd o = s.rd o := by
  unfold State.post
  dsimp only
  split
  · rfl
  · exact s.rd_recordLost r.cls h

/-- A register below area D, other than the count of records lost from the power log, is as it was after a journal record is raised. -/
theorem State.rd_raiseAt (s : State) (at_ : Nat) (i : Island) (cls reason tag : Nat) {o : Nat} (h : o < 0xD00000) (ha : o ≠ 0xA00210) :
    (s.raiseAt at_ i cls reason tag).rd o = s.rd o := by
  have h1 : (s.incSat (0xD00300 + cls)).rd o = s.rd o := by rw [State.rd_incSat, if_neg (by omega)]
  unfold State.raiseAt
  split
  · dsimp only
    split
    · rw [State.rd_post _ _ _ h, State.rd_inc_ne _ (by omega), h1]
    · split
      · unfold State.powerLog
        dsimp only
        split
        · exact h1
        · rw [State.rd_inc_ne _ ha]
          exact h1
      · rw [State.rd_post _ _ _ h, State.rd_inc_ne _ (by omega), h1]
  · rfl

/-- The same for a record of the beat. -/
theorem State.rd_raise (s : State) (i : Island) (cls reason tag : Nat) {o : Nat} (h : o < 0xD00000) (ha : o ≠ 0xA00210) :
    (s.raise i cls reason tag).rd o = s.rd o := s.rd_raiseAt s.time.now i cls reason tag h ha

end Sys2Proof.Machine
end

