-- ==== Sys2Proof/Tests/Slice0.lean ====
section
/-!
SUPPORT. Tests: ill-formed commands, a state and operands that meet the hypotheses of each statement, and single steps on small states.
-/
set_option Elab.async false

namespace Sys2Proof.Tests

open Machine

/-- A hub in a mode with its islands released and its Keeper running, at the start of a cycle. -/
def hubIn (m : Mode) : State := { State.reset with mode := m, seq := { released := true }, modes := { keeperUp := true }, power := { State.reset.power with under := 0 } }

/-- A hub in Run. -/
def hub : State := hubIn .run

/-- A hub in Configure. -/
def cfg : State := hubIn .configure

/-- A hub in Test. -/
def lab : State := hubIn .test

/-- A hub in Hold. -/
def held : State := hubIn .hold

/-- The header of an OD request over UDP that carries no key. -/
def udp : OdHdr := ⟨.udp, 0, 0, 0, 0, false, none⟩

/-- The 16 bytes of a move (R51). -/
def moveBytes (beat grp act a b : Nat) : List Byte := natLE 16 (beat * 2 ^ 108 + grp * 2 ^ 104 + act * 2 ^ 96 + a * 2 ^ 64 + b)

/-- A hub in Run with bank 0 active, of 1,024 beats, its moves as given and one of them due. -/
def scheduled (moves : List Byte) (i : Nat) : State :=
  let s := (hub.wr 0x400000 0).wr 0x400002 1024
  { s with seq := { s.seq with bank0 := { Bank.empty with moves := moves }, due := [i] } }

/-- One move of each action: NOPM, SAMPLE, APPLY, COPY, GO, GATE, TXOBJ, RXLATCH, SEAL and MARK, by number. -/
def tenMoves : List Byte :=
  moveBytes 0 0 0 0 0 ++ moveBytes 0 1 1 0x00000000 0x0F ++ moveBytes 0 1 2 0x00000008 0xF0 ++ moveBytes 0 0 3 0x10000000 16 ++
    moveBytes 0 7 4 0x00020001 5 ++ moveBytes 0 6 5 0x00010300 100 ++ moveBytes 0 8 6 0x00200102 4 ++ moveBytes 0 8 7 0x00300202 4 ++
    moveBytes 0 0 8 1 7 ++ moveBytes 0 0 9 3 0

/-- The move of an index, due. -/
def due (i : Nat) : State := scheduled tenMoves i

/-- The same in Hold. -/
def dueHeld (i : Nat) : State := { due i with mode := .hold }

theorem wit_StepTakesFront : ({ hub with pending := [.beatStart, .cycleBoundary] } : State).pending = .beatStart :: [.cycleBoundary] := rfl

theorem wit_IdleCountsOnly : hub.pending = [] ∧ hub.mode ≠ .noPower ∧ State.reset.pending = [] ∧ State.reset.mode = .noPower := by decide

theorem wit_BeatsAndCyclesAdvance : (hub.ticking = true ∧ hub.beat + 1 < hub.cycleLen ∧ hub.seq.due = [] ∧ hub.sealDue = false) ∧
    (hub.wr 0x401001 1023).atCycleEnd = true ∧ (hub.wr 0x401001 1023).stepDue = none ∧ (hub.wr 0x401001 1023).warmDue = false ∧
    (hub.wr 0x401001 1023).time.setTo = none ∧ (hub.wr 0x401001 1023).pins.staged = [] := by decide +kernel

/-- Each move is due with its own action; NOPM runs normally in Run, and in hold in Hold. -/
theorem wit_MovesTakeEffect : (∀ i < 10, (due i).moveDue i i ≠ none) ∧
    (∀ m ∈ (due 0).moveDue 0 0, (due 0).plainDisp m = .normal) ∧ (∀ m ∈ (dueHeld 0).moveDue 0 0, (dueHeld 0).plainDisp m = .inHold .late 0x01) ∧
    (∀ m ∈ (due 1).moveDue 1 1, (due 1).moveDisp m = .normal ∧ bits m.a 23 20 = 0 ∧ (due 1).withheldAt 0x01 = false ∧
      (∀ p ∈ quadPins (bits m.a 19 16) m.b, (due 1).pins.disabled.testBit (p / 16) = false ∧ (due 1).pinViolates p (due 1).nowNs = false) ∧
      (∀ k < 8, (due 1).recordAt .input (bits m.a 15 0 + k) = none)) ∧
    (∀ m ∈ (due 3).moveDue 3 3, (due 3).copyDisp m = .normal ∧ (due 3).copyWithheld m = false ∧ bits m.a 31 30 = 0 ∧ bits m.a 29 28 = 1 ∧
      (∀ k < 4 * (bits m.a 27 16 + 1), (due 3).recordAt .output (bits m.b 15 0 + k) = none)) := by decide +kernel

/-- GO names one halted pawn; TXOBJ and RXLATCH name objects that can take them; a slot is free, and one is held. -/
theorem wit_MovesOnUnitsTakeEffect :
    (∀ m ∈ (due 4).moveDue 4 4, bits m.a 23 16 = 2 ^ 1 ∧ bits m.a 15 0 = 2 ^ 0 ∧ bit m.b 8 = false ∧ (due 4).clusterDisp m 1 = .normal ∧
      ((due 4).pawn 16).run = .halted ∧ ((due 4).pawn 16).sc = 0 ∧ ((due 4).pawn 16).inj = none ∧ (due 4).swapPending 16 = false) ∧
    (let s := (due 6).setMsg 2 1 { idw := 3 * 2 ^ 30 }
     ∀ m ∈ s.moveDue 6 6, s.controllerDisp m (bits m.a 2 0) = .normal ∧ s.speaksService = true ∧ s.serviceObj (bits m.a 2 0) (bits m.a 14 8) = false ∧
       bit (s.msg (bits m.a 2 0) (bits m.a 14 8)).idw 30 = true) ∧
    (let s := (due 7).setMsg 2 2 { stored := [⟨[1, 2, 3, 4], 0, 4, 0, 0, 1⟩] }
     let t := { s with time := { s.time with beats := 2 } }
     ∀ m ∈ t.moveDue 7 7, t.controllerDisp m (bits m.a 2 0) = .normal ∧ t.serviceObj 2 2 = false ∧ t.withheldAt 0x28 = false ∧
       t.latchFrame 2 2 = some ⟨[1, 2, 3, 4], 0, 4, 0, 0, 1⟩ ∧ (1 : Nat) ≠ (t.msg 2 2).latched ∧ bit m.b 8 = false ∧
       (∀ j < bits m.b 6 0, t.recordAt .input (bits m.a 31 16 + j) = none)) ∧
    (∀ m ∈ (dueHeld 6).moveDue 6 6, (dueHeld 6).controllerDisp m 2 = .inHold .late 0x01) ∧
    (∀ m ∈ (dueHeld 7).moveDue 7 7, (dueHeld 7).controllerDisp m 2 = .inHold .late 0x01) ∧
    (∀ m ∈ (due 8).moveDue 8 8, mfind (due 8).time.seals (bits m.a 1 0) = none ∧ (due 8).slotBusy (bits m.a 1 0) = false ∧
      ((due 8).setSnap 1 { state := 2 }).slotBusy (bits m.a 1 0) = true) := by decide +kernel

/-- The COPY stores four bytes at offset 16 of the output image; a byte beside them is not stored. -/
theorem wit_MovesStoreOnlyTheirBytes : ∃ m, (due 3).moveDue 3 3 = some m ∧ moveWrites m = some (ImageSel.output, 16, 4) ∧ (due 3).records = [] :=
  ⟨⟨0, 0, 3, 0x10000000, 16⟩, by decide +kernel, by decide +kernel, by decide +kernel⟩

/-- A bank that is staged and checked, in Configure. -/
def checked : State := (cfg.wr 0x400001 2).wr 0x001301 2

theorem wit_BankCommandsTakeEffect :
    (cfg.numPasses udp 0x400100 1 = true ∧ (cfg.odBegun udp).stagingMode = true ∧ (cfg.odBegun udp).bankState = 0) ∧
    ((cfg.wr 0x400001 4).numPasses udp 0x400100 1 = true ∧ ((cfg.wr 0x400001 4).odBegun udp).bankState = 4) ∧
    (checked.numPasses udp 0x400101 1 = true ∧ (checked.odBegun udp).bankState = 2) ∧
    (lab.numReaches udp 0x400100 1 = true ∧ lab.numReaches udp 0x400101 1 = true ∧ (lab.odBegun udp).stagingMode = false) ∧
    (let s := { cfg with seq := { cfg.seq with checking := true } }
     s.odServed = true ∧ s.update.autoSwitch = false ∧ loadCheck s s.stagedBank ≠ none ∧ s.hasBank = false ∧ (s.wr 0x400000 0).hasBank = true ∧
      ({ s with update := { s.update with autoSwitch := true } } : State).update.autoSwitch = true) ∧
    (checked.numPasses udp 0x400102 0 = true ∧ checked.numPasses udp 0x400102 2 = true ∧ (checked.odBegun udp).cycle + 2 ≤ 2 ∧
      checked.numPasses udp 0x400102 1 = true ∧ 1 < (checked.odBegun udp).cycle + 2 ∧ (checked.odBegun udp).seq.checking = false) ∧
    ((cfg.wr 0x400001 4).numPasses udp 0x400103 1 = true ∧ ((cfg.wr 0x400001 4).odBegun udp).switchNear = false) ∧
    cfg.numPasses udp 0x408003 1 = true := by decide +kernel

theorem wit_EnvelopeMonitorsTakeEffect :
    ((due 0).monitoring = true ∧ 0x20 ∈ dataIslands ∧ (due 0).ticking = true ∧ (due 0).powered = true ∧ (due 0).coreUp = true) ∧
    spread [1, 2, 3, 4, 5, 6, 7, 401] = 400 ∧ 400 < spread [1, 2, 3, 4, 5, 6, 7, 402] ∧ ((due 0).rd 0x408002).testBit 0x20 = false ∧
    (((due 0).wr 0x408002 (2 ^ 0x20)).rd 0x408002).testBit 0x20 = true ∧ ((due 0).wr 0x408002 (2 ^ 0x20)).monitoring = true ∧
    (let b : Bank := { Bank.empty with contract := zeros 0x060 ++ natLE 1 0x20 ++ zeros 3 ++ natLE 4 1000000 ++ zeros 152 }
     contractClock b 0x20 = some 1000000 ∧ 200 * (10240 * 100000) ≤ 201 * (1000000 * 1024) ∧ 199 * (1000000 * 1024) ≤ 200 * (10240 * 100000) ∧
      201 * (1000000 * 1024) < 200 * (10292 * 100000) ∧ 200 * (10188 * 100000) < 199 * (1000000 * 1024)) := by
  decide +kernel

/-- A hub in Configure with bank 0 active: what must wait for a cycle boundary is staged. -/
def banked : State := cfg.wr 0x400000 0

/-- A hub in bring-up whose Keeper runs. -/
def inMode0 : State := hubIn .bringUp

/-- A hub in Standby. -/
def standby : State := { State.reset with mode := .standby }

theorem wit_PinWritesTakeEffect :
    (cfg.numPasses udp (pinObj 0) 0x10 = true ∧ pinWordOk 0x10 = true ∧ (cfg.odBegun udp).hasBank = false ∧ (cfg.odBegun udp).outputMode 0 = 0) ∧
    (cfg.numPasses udp (pinObj 255) 0x10 = true ∧ (banked.numPasses udp (pinObj 255) 0x10 = true ∧ (banked.odBegun udp).hasBank = true)) ∧
    (cfg.numPasses udp (bankObj 0 2) 1 = true ∧ cfg.numPasses udp (bankObj 15 2) 1 = true ∧ banked.numPasses udp (bankObj 15 2) 1 = true) ∧
    (cfg.ticking = true ∧ (let s := { inMode0 with seq := {} }
      s.numPasses udp 0x610003 1 = true ∧ (s.odBegun udp).ticking = false)) ∧
    (cfg.numPasses udp 0x610003 1 = true ∧ cfg.numPasses udp (bankObj 0 3) 0xFFFF = true ∧ cfg.numPasses udp (bankObj 15 3) 0xFFFF = true ∧
      mfind (cfg.odBegun udp).pins.forced 255 = none ∧ mfind (cfg.odBegun udp).pins.frozen 255 = none ∧
      (let s := { cfg with pins := { cfg.pins with forced := [(240, ⟨0, 0, 0, true⟩)] } }
       s.numPasses udp (bankObj 15 3) 0xFFFF = true ∧ (mfind (s.odBegun udp).pins.forced 240).isSome = true)) := by decide +kernel

theorem wit_PinEventsTakeEffect :
    (hub.coreUp = true ∧ hub.pins.due = [] ∧ hub.pins.raw.testBit 255 = false ∧ hub.pins.filt.testBit 255 = false ∧ hub.pinFilter 255 = 1 ∧
      hub.pins.samples = [] ∧ hub.pinLines 255 true = [] ∧ (hub.wr (pinObj 255) 0x20000).pinFilter 255 ≠ 1) ∧
    (standby.coreUp = false ∧ standby.mode ≠ .noPower) ∧
    (hub.powered = true ∧ hub.power.under.testBit 0x20 = false ∧ hub.power.under.testBit 0x2F = false) := by decide +kernel

/-- A hub in Run whose port `p` is in a training state and holds `x`. -/
def ringAt (p : Port) (st : Nat) (x : PortSt) : State := (hub.setPort p x).wr (portObj p 0 0) st

/-- A HELLO of node 7, port W. -/
def hello7 : Hello := ⟨7, .w, 1, 0⟩

theorem wit_TrainingAdvances : ∀ p ∈ [Port.e, .w, .s0, .s1],
    (hub.portLive p = true ∧ hub.portState p = 0 ∧ (hub.wr (portObj p 0 5) 1).rd (portObj p 0 5) = 1 ∧ (hub.wr (portObj p 0 5) 1).portState p = 0 ∧
      (hub.wr (portObj p 0 5) 1).portLive p = true ∧ (hub.port p).waiting = false) ∧
    (∀ st < 8, (ringAt p st {}).portLive p = true ∧ (ringAt p st {}).portState p = st) ∧
    ((ringAt p 2 {}).port p).lock1 = false ∧ ((ringAt p 2 { lock0 := true }).port p).lock0 = true ∧
    hello7.major = 1 ∧ hello7.node ≠ (ringAt p 4 {}).node ∧ ((ringAt p 4 {}).port p).ackIn = false ∧ ((ringAt p 4 {}).port p).helloIn = false ∧
    (⟨7, .w, 2, 0⟩ : Hello).major ≠ 1 ∧ (⟨0, .w, 1, 0⟩ : Hello).node = (ringAt p 4 {}).node := by decide +kernel

/-- A measurement of `n` exchanges done, one more noted. -/
def measured (n : Nat) (hi : Int) : PortSt :=
  { meas := [(255, 1000)], measReqs := 1023, measN := n, measSum := 100000, measMin := 90, measMax := hi, path := none }

theorem wit_CableMeasured : ∀ p ∈ [Port.e, .w, .s0, .s1],
    ((ringAt p 5 (measured 1022 100)).portLive p = true ∧ (ringAt p 5 (measured 1022 100)).portState p = 5 ∧
      ((ringAt p 5 (measured 1022 100)).port p).measReqs < 1024 ∧ ((ringAt p 5 (measured 1022 100)).port p).measDone = false ∧
      ((ringAt p 5 (measured 1022 100)).port p).meas.find? (fun e => e.1 == 255) = some (255, 1000) ∧
      0 < ((ringAt p 5 (measured 1022 100)).port p).measN ∧ ((ringAt p 5 (measured 1022 100)).port p).measN < 1023) ∧
    (((ringAt p 5 (measured 1023 100)).port p).measN = 1023 ∧ ((ringAt p 5 (measured 1023 100)).port p).path = none ∧
      ((ringAt p 5 (measured 1023 100)).port p).meas.find? (fun e => e.1 == 255) = some (255, 1000) ∧
      max (measured 1023 100).measMax (2090 - 1000 - 0) - min (measured 1023 100).measMin (2090 - 1000 - 0) ≤ 2 * 1000 ∧
      max (measured 1023 100).measMax (3091 - 1000 - 0) - min (measured 1023 100).measMin (3091 - 1000 - 0) = 2 * 1000 + 1) ∧
    ((ringAt p 5 { measDone := true }).portLive p = true ∧ (ringAt p 5 { measDone := true }).portState p = 5 ∧
      ((ringAt p 5 { measDone := true }).port p).measDone = true ∧ ((ringAt p 5 { measDone := true }).port p).path = none ∧
      ((ringAt p 5 { measDone := true }).port p).wrapped = false) ∧
    (∀ st ∈ [4, 7], 4 ≤ (ringAt p st {}).portState p ∧ (ringAt p st {}).portState p ≤ 7 ∧ (ringAt p st {}).portLive p = true) := by decide +kernel

/-- A hub in Run, node 5, whose ports E and W are UP and in use. -/
def ring : State :=
  ((((hub.wr 0x000005 5).wr (portObj .e 0 0) 6).wr (portObj .w 0 0) 6).setPort .e { inUse := true }).setPort .w { inUse := true }

/-- The same with port E wrapped and broken by reason 2, in training state `st`. -/
def wrappedE (st : Nat) : State := (ring.setPort .e { broken := true, brkReason := 2, brkTag := 3, brkSeq := 1, wrapped := true }).wr (portObj .e 0 0) st

theorem wit_BreaksWrapThePort :
    (∀ p ∈ [Port.e, .w], ring.portLive p = true ∧ (ring.port p).inUse = true ∧ 2 ≤ ring.portState p ∧ ring.portState p ≤ 7 ∧
      (ring.port p).sent = [] ∧ (ring.port p).sentX = [] ∧ (ring.port p).sentSegs = [] ∧
      (∀ q ∈ [Port.e, .w, .s0, .s1], ∀ k < 8, ring.queueCopies (queueOf (portNum q) k) = [])) ∧
    (∀ p ∈ [Port.e, .s1], ∀ st ∈ [3, 4, 5], (ringAt p st {}).portLive p = true ∧ ((ringAt p st {}).port p).inUse = false ∧
      (ringAt p st {}).portState p = st) ∧
    (ringAt .e 1 {}).portState .e < 2 ∧
    ((wrappedE 0).ticking = true ∧ ((wrappedE 0).port .e).broken = true ∧ (wrappedE 0).portState .e ≠ 6 ∧ (wrappedE 0).portState .e ≠ 7 ∧
      (wrappedE 0).partIsolated (0x10 + portNum .e) = false ∧ (mget {} (wrappedE 0).switch.onAir (portNum .e)).stop ≤ (wrappedE 0).at10ps 0) ∧
    (ring.port .e).broken = false := by decide +kernel

/-- A report of node 7 on its port E. -/
def report7 : WrapBlock := ⟨7, .e, 3, 1, 2, 9⟩

theorem wit_WrapReportsAndUnwraps :
    (ring.ticking = true ∧ ring.ringUsable .w = true ∧ report7.node ≠ ring.node ∧ (report7.node, portNum report7.port, report7.seq) ∉ ring.ring.forwarded) ∧
    (ring.portUsable .e = true ∧ (mget {} ring.switch.onAir (portNum .e)).stop ≤ ring.at10ps 0) ∧
    ((ring.setPort .e { unwrapTag := some (3, 100) }).portLive .e = true ∧
      ((ring.setPort .e { unwrapTag := some (3, 100) }).port .e).unwrapTag = some (report7.tag, 100)) ∧
    (ring.numPasses udp 0x208004 1 = true ∧ (∀ q ∈ [Port.e, .w], ((ring.odBegun udp).port q).wrapped = false)) ∧
    (∀ st ∈ [6, 7], (wrappedE st).numPasses udp 0x208004 1 = true ∧ (((wrappedE st).odBegun udp).port .e).wrapped = true ∧
      ((wrappedE st).odBegun udp).portState .e = st ∧ (((wrappedE st).odBegun udp).port .w).wrapped = false ∧
      (mget {} ((wrappedE st).odBegun udp).switch.onAir 0).stop ≤ ((wrappedE st).odBegun udp).at10ps 0) ∧
    (∀ p ∈ [Port.e, .w, .s0, .s1], cfg.numPasses udp (portObj p 0 6) 1 = true ∧ cfg.numPasses udp (portObj p 1 0xC) 1 = true) := by decide +kernel

/-- A marker of a master, its check made. -/
def markerOf (master : Nat) (tag : Nat) : Marker :=
  let m : Marker := ⟨master, tag, 2, 1024, tag, ⟨100, 0, 0⟩, 0, 0, 0⟩
  { m with check := markerCheck m }

/-- A segment from one node to another, its check made. -/
def segOf (origin endNode tag : Nat) : Segment :=
  let g : Segment := ⟨1, tag, origin, 1, endNode, 0, [.fresh, .missing], [0, 0], 0, 1, 0⟩
  { g with check := segCheck g }

/-- An express event of node 7. -/
def event7 : Express := ⟨12, 7, 1000, 255⟩

/-- The ring with node 9 of rank 0. -/
def follower : State := ring.wr 0x800100 9

theorem wit_RingTrafficPasses :
    (ring.ticking = true ∧ ring.ringUsable .e = true ∧ (markerOf 5 0).check = markerCheck (markerOf 5 0) ∧ (markerOf 5 0).master = ring.node ∧
      bankRegions ring.activeBank (portNum (ringTx .e)) = none ∧ (markerOf 5 0).tag = ring.cycle % 256) ∧
    (follower.ringUsable .e = true ∧ (markerOf 9 0).master ≠ follower.node ∧ follower.endsForeign (markerOf 9 0) = false ∧
      (follower.onward .e).isSome = true ∧ follower.markerGood .e (markerOf 9 0) = true ∧ follower.markerGood .e (markerOf 8 0) = false ∧
      (markerOf 8 0).master ≠ follower.node ∧ follower.endsForeign (markerOf 8 0) = false ∧ (markerOf 8 0).check = markerCheck (markerOf 8 0)) ∧
    ((segOf 7 8 0).check = segCheck (segOf 7 8 0) ∧ ring.judging = false ∧ (segOf 7 8 0).tag = ring.cycle % 256 ∧ ring.isOwn 7 = false ∧
      ring.isOwn 8 = false ∧ ring.onward .e = some .w ∧ ring.ringUsable .w = true ∧ (ring.port .w).wrapped = false ∧
      ring.isOwn (segOf 5 8 0).origin = true ∧ (segOf 5 8 0).check = segCheck (segOf 5 8 0)) ∧
    (blockCrc (expressBits event7) ≠ blockCrc (expressBits event7) + 1 ∧ ([] : List ExpressSeen).any (sameExpress event7) = false) ∧
    ((wrappedE 6).ticking = true ∧ (wrappedE 6).txPort .e = some .w ∧ Port.w ≠ .e ∧
      (let s := ring.setPort .e { inUse := true, queue := [event7] }
       (s.port .e).queue = event7 :: [] ∧ s.txPort .e = some .e ∧ 0 < (s.port .e).tokens)) ∧
    (blockErrored 1 0 = false ∧ blockErrored 2 0xFF00000000000000 = true ∧ blockErrored 0 0 = true ∧ blockErrored 3 0 = true ∧ ring.monitoring = false) := by
  decide +kernel

/-- The state after a command. -/
def after (c : Instr) (s : State) : State :=
  match exec c s with
  | .next t => t
  | _ => s

/-- A frame of node 9 for a node, with its checks made. -/
def frameFor (dst type addr tag : Nat) (payload : List Byte) : Frame :=
  sealFrame ⟨dst, 9, 2, false, 0, type, 8, addr, tag, payload.length, 0, 0, payload, 0, 0⟩

/-- A posted write of four bytes for the ring's own node. -/
def postedFrame : Frame := frameFor 5 0 0x0001000000000000 1 [1, 2, 3, 4]

/-- The ring with that frame taken in at the HOST port: it waits for the local port that serves it. -/
def queued : State := after (.frameIngress 6 postedFrame) ring

/-- A failure report for all nodes, which has no route. -/
def lostReport : Frame := frameFor 0x3FF 9 0 1 (zeros 16)

/-- A frame of node 9 for node 8 whose hops are used up. -/
def spentFrame : Frame := { frameFor 8 0 0x0001000000000000 1 [1] with hops := 0 }

/-- A fence of node 5, before which the frames below a number went. -/
def fencedAt (first : Nat) : State := { queued with switch := { queued.switch with fences := [⟨5, first, 0⟩] } }

theorem wit_FramesEnterAndLeaveTheSwitch :
    (ring.ticking = true ∧ ring.portUsable (portOf 0) = true ∧ headerCheck { postedFrame with hcheck := 0 } ≠ 0) ∧
    (ring.quiet postedFrame = false ∧ headerCheck postedFrame = postedFrame.hcheck ∧ frameCheck postedFrame = postedFrame.fcheck ∧
      postedFrame.type < 0xA ∧ ring.lookup 6 postedFrame = .inr [localPort postedFrame] ∧ 4 ≤ localPort postedFrame ∧ ring.feature 5 = false ∧
      ring.feature 3 = false ∧ ring.egressIsolated (localPort postedFrame) = false ∧
      ring.admits (queueOf (localPort postedFrame) postedFrame.cls) (frameCells postedFrame.len) = true) ∧
    (ring.quiet lostReport = false ∧ lostReport.type = 0x9 ∧ lostReport.hops ≠ 0 ∧ ring.lookup 6 lostReport = .inl 8) ∧
    (ring.quiet spentFrame = false ∧ isJournalFwd spentFrame = false ∧ spentFrame.type ≠ 0x9 ∧ spentFrame.src ≠ 0 ∧ spentFrame.src ≠ 0x3FF ∧
      ring.destined spentFrame = false) ∧
    (let port := localPort postedFrame
     let u := queued.settleAir (queued.at10ps 0)
     queued.ticking = true ∧ port < 9 ∧ u.egressPort port = some port ∧ u.egressIsolated port = false ∧ u.sending port (queued.at10ps 0) = false ∧
      (∀ j < 8, 2 < j → u.findCandidate (queueOf port j) ((u.queueCopies (queueOf port j)).length + 1) = (u, none)) ∧
      (∃ x ∈ u.queueCopies (queueOf port 2), ∃ v ∈ [(u.findCandidate (queueOf port 2) ((u.queueCopies (queueOf port 2)).length + 1)).1],
        u.findCandidate (queueOf port 2) ((u.queueCopies (queueOf port 2)).length + 1) = (v, some x) ∧ v.eligible (queueOf port 2) port 0 x = true ∧
        mget [] v.switch.heldWraps port = [])) ∧
    (let t := after (.egressSelect (localPort postedFrame) 0) queued
     t.ticking = true ∧ (t.settleAir (t.at10ps 0)).egressPort (localPort postedFrame) = some (localPort postedFrame) ∧
      (t.settleAir (t.at10ps 0)).sending (localPort postedFrame) (t.at10ps 0) = true) ∧
    ((fencedAt 1).ticking = true ∧ (fencedAt 1).switch.fences.map (·.dst) = [5] ∧ (∀ f ∈ (fencedAt 1).switch.fences, (fencedAt 1).fenceOver f = false) ∧
      (let t := (fencedAt 0).wr 0x300005 0
       ∀ f ∈ t.switch.fences, (∀ q < 72, ∀ c ∈ t.chargedCopies q, c.frame.dst = 5 → f.first ≤ c.id) ∧ f.at_ + 1000 * t.cell 0x300005 ≤ t.nowNs)) := by (repeat' apply And.intro) <;> decide +kernel

theorem wit_TableUpdatesAdvanceTheEpoch :
    (epochObj 0x320009 = true ∧ 4 < 2 ^ objBits 0x320009 ∧ cfg.numPasses udp 0x320009 4 = true ∧ (cfg.odBegun udp).switch.batch = none ∧
      (cfg.odBegun udp).drainOf (((cfg.odBegun udp).epoch + 1) % 4) = 0 ∧ (cfg.odBegun udp).spareDrains 0x320009 = false) ∧
    (let s := { cfg with switch := { cfg.switch with batch := some (List.replicate 255 (0x320009, 4)) } }
     s.numPasses udp 0x320009 4 = true ∧ (s.odBegun udp).switch.batch = some (List.replicate 255 (0x320009, 4))) ∧
    (let s := { cfg with switch := { cfg.switch with drain := [(1, 3)] } }
     s.numPasses udp 0x3203FF 6 = true ∧ (s.odBegun udp).switch.batch = none ∧ (s.odBegun udp).drainOf (((s.odBegun udp).epoch + 1) % 4) ≠ 0) ∧
    (cfg.numPasses udp 0x300007 1 = true ∧ cfg.numPasses udp 0x300007 2 = true ∧ cfg.numPasses udp 0x300007 3 = true ∧ cfg.numPasses udp 0x300008 1 = true) ∧
    (let s := { cfg with switch := { cfg.switch with batch := some [] } }
     s.numPasses udp 0x300007 2 = true ∧ (s.odBegun udp).switch.batch = some []) ∧
    (let s := { cfg with switch := { cfg.switch with batch := some [(0x320009, 4)] } }
     s.numPasses udp 0x300007 2 = true ∧ (s.odBegun udp).switch.batch = some [(0x320009, 4)] ∧
      (s.odBegun udp).drainOf (((s.odBegun udp).epoch + 1) % 4) = 0 ∧ (s.odBegun udp).spareDrains 0x320009 = false) := by decide +kernel

/-- A fabric address: space and offset (R116). -/
def fab (space off : Nat) : Nat := space * 2 ^ 48 + off

/-- A request of a type and length for the ring's own node. -/
def request (type space off len : Nat) : Frame := frameFor 5 type (fab space off) 1 (zeros len)

/-- The ring with bank 0 active, which declares a record of one word at offset 8 of an image (0 input, 1 output, R495). -/
def recorded (img : Nat) : State :=
  { ring.wr 0x400000 0 with seq := { ring.seq with bank0 := { Bank.empty with
      contract := zeros 0x1C0 ++ natLE 4 1 ++ zeros 60
      records := [BitVec.ofNat 8 img, 0, 0, 0, 8, 0, 0, 0, 0, 0, 0, 0] } } }

set_option maxRecDepth 100000 in
theorem wit_FabricRequestsAreServed :
    (∀ n ∈ [1, 64], ring.serves (request 0 1 (0x10000 - n) n) 0 = true ∧ fabSpace (request 0 1 (0x10000 - n) n).addr = 0x01 ∧
      fabOff (request 0 1 (0x10000 - n) n).addr + (request 0 1 (0x10000 - n) n).len = 0x10000 ∧ (request 0 1 (0x10000 - n) n).len = n ∧
      ring.recordsIn .input (0x10000 - n) n = []) ∧
    (∀ n ∈ [1, 2048], ring.serves (request 1 2 (0x10000 - n) n) 1 = true ∧ fabSpace (request 1 2 (0x10000 - n) n).addr = 0x02) ∧
    (∀ n ∈ [1, 64], ring.serves (request 3 2 (0x10000 - n) n) 3 = true ∧ ring.recordsIn .output (0x10000 - n) n = []) ∧
    (∀ sp ∈ [1, 2], ring.serves (request 1 sp 0x11000 1) 1 = true ∧ fabSpace (request 1 sp 0x11000 1).addr = sp ∧
      0x11000 < fabOff (request 1 sp 0x11000 1).addr + (request 1 sp 0x11000 1).len) ∧
    (∀ sp ∈ [0x09, 0x3E], ∀ ty ∈ [0, 3], ring.serves (request ty sp 0 1) ty = true ∧ fabSpace (request ty sp 0 1).addr = sp) := by decide +kernel

/-- The space of an image (R116), which is also the code of its records. -/
def imageSpace (sel : ImageSel) : Nat := if sel = .input then 1 else 2

theorem wit_RecordWordsAreProtected : ∀ sel ∈ [ImageSel.input, .output],
    (∀ off ∈ [5, 8, 11], ∀ ty ∈ [0, 1, 3], (recorded (imageSpace sel - 1)).serves (request ty (imageSpace sel) off 4) ty = true ∧
      (recorded (imageSpace sel - 1)).recordsIn sel off 4 ≠ [] ∧ fabSpace (request ty (imageSpace sel) off 4).addr = imageSpace sel ∧
      fabOff (request ty (imageSpace sel) off 4).addr + 4 ≤ 0x10000) ∧
    (recorded (imageSpace sel - 1)).recordsIn sel 4 4 = [] ∧ (recorded (imageSpace sel - 1)).recordsIn sel 12 4 = [] := by decide +kernel

theorem wit_UndocumentedSpaceAnswers :
    (∀ ty ∈ [0, 1, 3], ∀ n ∈ [1, 64], ring.serves (request ty 0x3F 0 n) ty = true ∧ ({ ring with mode := .test } : State).serves (request ty 0x3F 0 n) ty = true ∧
      fabSpace (request ty 0x3F 0 n).addr = 0x3F ∧ (request ty 0x3F 0 n).len = n) ∧ ring.mode ≠ .test := by decide +kernel

/-- A write acknowledgement and a failure report with a tag. -/
def ackOf (tag : Nat) : Frame := frameFor 5 4 0 tag []

/-- A failure report for the ring's own node. -/
def failOf (tag : Nat) : Frame := frameFor 5 9 0 tag (zeros 16)

/-- The ring with one write piece of the bridge under way. -/
def writing : State := { ring with bridge := { ring.bridge with pieces := [⟨0x6001, 3, 0x40, true⟩] } }

theorem wit_AnswersReachTheirRequester :
    (writing.endsHere (ackOf 0x6001) 0x4 = true ∧ (ackOf 0x6001).tag / 4096 = 6 ∧
      writing.bridge.pieces.find? (fun p => p.tag == (ackOf 0x6001).tag && p.acked) = some ⟨0x6001, 3, 0x40, true⟩) ∧
    (writing.endsHere (ackOf 0x7001) 0x4 = true ∧ (ackOf 0x7001).tag / 4096 ≠ 6) ∧
    (writing.endsHere (failOf 0x6001) 0x9 = true ∧ (failOf 0x6001).tag / 4096 = 6 ∧
      writing.bridge.held.any (fun h => h.pieces.any (fun p => p.answer.isNone && p.tag == 0x6001)) = false ∧
      writing.bridge.pieces.find? (fun p => p.tag == (failOf 0x6001).tag) = some ⟨0x6001, 3, 0x40, true⟩) ∧
    (ring.endsHere (failOf 0x7D10) 0x9 = true ∧ (failOf 0x7D10).tag = 0x7D10) ∧
    beField (natBE 2 0x0630 ++ zeros 22) 0 2 = 0x0630 ∧ (0, 0) ∉ ring.switch.shorts ∧
    (0, 0) ∈ ({ ring with switch := { ring.switch with shorts := [(0, 0)] } } : State).switch.shorts ∧
    ring.endsHere (frameFor 5 8 0 0 [1, 2, 3]) 0x8 = true := by decide +kernel

theorem wit_PawnSpacesAreServed : ∀ q ∈ [0, 127],
    (ring.partIsolated (0x20 + q / 16) = false ∧ ring.endScheduled q false = false ∧ ring.endScheduled q true = false) ∧
    (∀ n ∈ [4, 8], ring.serves (request 1 3 (0x100 * q) n) 1 = true ∧ fabSpace (request 1 3 (0x100 * q) n).addr = 3 ∧
      fabOff (request 1 3 (0x100 * q) n).addr = 0x100 * q ∧ (request 1 3 (0x100 * q) n).len = n ∧ ring.serves (request 0 3 (0x100 * q) n) 0 = true) ∧
    (ring.serves (request 0 3 (0x100 * q + 4) 4) 0 = true ∧ (ring.pawn q).outF.full = false) ∧
    (∀ k ∈ [0, 127], ring.serves (request 0 5 (0x200 * q + 4 * k) 4) 0 = true ∧ fabSpace (request 0 5 (0x200 * q + 4 * k) 4).addr = 0x05 ∧
      fabOff (request 0 5 (0x200 * q + 4 * k) 4).addr = 0x200 * q + 4 * k) ∧
    (ring.setPawn q { ring.pawn q with inF := (ring.pawn q).inF.write ⟨7, .fresh, true, 0⟩ }).serves (request 1 3 (0x100 * q) 4) 1 = true := by
  decide +kernel

/-- The word with an opcode, a condition code and an operand; its side field is zero. -/
def word (op cond operand : Nat) : Nat := op * 2 ^ 27 + cond * 2 ^ 24 + operand

/-- A hub in Run whose pawn `q` is running, with `w` at PC. -/
def pawnAt (q w : Nat) (p : PawnSt) : State := hub.setPawn q { p with imem := [(0, BitVec.ofNat 32 w)], run := .running }

/-- A running pawn in cycle 2 that has executed its instruction twice. -/
def stalledTwice : PawnSt := { cyc := 2, execs := 2 }

theorem wit_PawnArithmeticCompletes : ∀ q ∈ [0, 127], ∀ op ∈ [0x00, 0x05, 0x06, 0x07, 0x0C, 0x10], ∀ cond ∈ [0, 1],
    (pawnAt q (word op (if op = 0 then 0 else cond) 0) {}).fetches q op = true := by decide +kernel

theorem wit_PawnJumpsComplete : ∀ q ∈ [0, 127],
    (∀ op ∈ [0x01, 0x03, 0x04], (pawnAt q (word op 0 63) {}).fetches q op = true) ∧
    (∀ cond < 8, (pawnAt q (word 0x02 cond 63) {}).fetches q 0x02 = true ∧ (pawnAt q (word 0x0F cond 63) {}).fetches q 0x0F = true) := by decide +kernel

/-- A word of a FIFO. -/
def fresh7 : FifoEntry := ⟨7, .fresh, false, 0⟩

/-- An IN FIFO of sixteen words. -/
def fullFifo : Fifo := (List.range 16).foldl (fun f _ => f.write fresh7) {}

theorem wit_PawnWaitsCompleteStallOrTimeOut : ∀ q ∈ [0, 127],
    (∀ op ∈ [0x08, 0x09, 0x0D, 0x0E, 0x11], (pawnAt q (word op 0 0) {}).fetches q op = true ∧
      ((pawnAt q (word op 0 0) {}).pawn q).execs < ((pawnAt q (word op 0 0) {}).pawn q).limit (toOf (word op 0 0))) ∧
    ((pawnAt q (word 0x0D 0 0) { inF := fullFifo }).fetches q 0x0D = true ∧ ((pawnAt q (word 0x0D 0 0) { inF := fullFifo }).pawn q).inF.full = true ∧
      ((pawnAt q (word 0x0D 0 0) {}).pawn q).inF.full = false ∧ (word 0x0D 0 0).testBit 0 = false ∧ (word 0x0D 0 1).testBit 0 = true ∧
      (pawnAt q (word 0x0D 0 1) {}).fetches q 0x0D = true) ∧
    (((pawnAt q (word 0x0E 0 0) {}).pawn q).outCount = 0 ∧
      (let f : Fifo := { (({} : Fifo).write fresh7) with vwp := 1 }
       (pawnAt q (word 0x0E 0 0) { outF := f }).fetches q 0x0E = true ∧ ((pawnAt q (word 0x0E 0 0) { outF := f }).pawn q).outCount ≠ 0)) ∧
    (((pawnAt q (word 0x11 0 0) { inF := fullFifo }).pawn q).inCount = 16 ∧ (pawnAt q (word 0x11 0 0) { inF := fullFifo }).fetches q 0x11 = true ∧
      ((pawnAt q (word 0x11 0 0) {}).pawn q).inCount < 16) ∧
    ((pawnAt q (word 0x13 0 0) { barrier := some 0 }).fetches q 0x13 = true ∧ (pawnAt q (word 0x13 0 0) {}).fetches q 0x13 = true ∧
      ((pawnAt q (word 0x13 0 0) {}).pawn q).barrier = none ∧
      (∀ m ∈ (pawnAt q (word 0x13 0 0) { prev := none }).groupOf q, m = q ∨ (pawnAt q (word 0x13 0 0) {}).atSync m 0 = true) ∧
      (let s := pawnAt q (word 0x13 0 0) { barrier := some 0 }
       ((s.meetBarrier (s.nextCycle q false none)).pawn q).barrier = some 0)) ∧
    ((pawnAt q (word 0x0A 1 100) stalledTwice).fetches q 0x0A = true ∧ ((pawnAt q (word 0x0A 1 100) stalledTwice).pawn q).execs ≠ 0 ∧
      condOf (word 0x0A 1 100) = 1) ∧
    ((pawnAt q (word 0x08 1 0) { stalledTwice with tos := [(0, 2)] }).timesOut q = true ∧
      (pawnAt q (word 0x08 1 0) { stalledTwice with tos := [(0, 2)] }).fetches q 0x08 = true ∧
      (pawnAt q (word 0x09 0 0) { stalledTwice with tos := [(0, 2)] }).timesOut q = true ∧
      (pawnAt q (word 0x09 0 0) { stalledTwice with tos := [(0, 2)] }).fetches q 0x09 = true) := by decide +kernel

theorem wit_PawnOutputsEventsSwapAndHalt : ∀ q ∈ [0, 127],
    ((pawnAt q (word 0x0B 0 0) {}).fetches q 0x0B = true ∧ (pawnAt q (word 0x12 0 0x107) {}).fetches q 0x12 = true ∧ (word 0x12 0 0x107).testBit 8 = true ∧
      (pawnAt q (word 0x12 0 0x3F) {}).fetches q 0x12 = true ∧ (word 0x12 0 0x3F).testBit 8 = false ∧ (pawnAt q (word 0x12 0 0x3F) {}).pins.coreLoss = false ∧
      (pawnAt q (word 0x12 0 0x3F) {}).partIsolated (0x20 + q / 16) = false ∧ ((pawnAt q (word 0x12 0 0x3F) {}).setIsolated (0x20 + q / 16) true).fetches q 0x12 = true ∧
      ((pawnAt q (word 0x12 0 0x3F) {}).setIsolated (0x20 + q / 16) true).partIsolated (0x20 + q / 16) = true) ∧
    (slotOut (({ slots := [(7, 0xC1)] } : PawnSt).slot 7) = true ∧ hub.partIsolated (0x20 + q / 16) = false) ∧
    ((pawnAt q (word 0x14 0 63) {}).fetches q 0x14 = true ∧ (pawnAt q (word 0x14 0 63) {}).swapPending q = false ∧
      (let s := (pawnAt q (word 0x14 0 63) {}).wr (pawnObj q 0x23) 2
       s.fetches q 0x14 = true ∧ s.swapPending q = true ∧ (s.pawn q).pendAt ≤ (s.nextCycle q false none).sj ∧ s.slotClash q (s.pawn q).nextSlots = false)) ∧
    ((pawnAt q (word 0x15 0 0) {}).fetches q 0x15 = true ∧ (pawnAt q (word 0x15 0 0) {}).swapPending q = false) ∧
    (pawnAt q (word 0x1F 0 0) {}).fetchesIllegal q = true := by decide +kernel

/-- A hub in Test with bank 0 active, whose one move is a GO of cluster `c`. -/
def goBank (m : Mode) (c : Nat) : State :=
  { (hubIn m).wr 0x400000 0 with seq := { released := true, bank0 := { Bank.empty with moves := moveBytes 0 0 4 (2 ^ (16 + c) + 1) 0 } } }

/-- A hub in Test with injection (feature 66). -/
def injecting : State := lab.wr 0x001302 4

/-- A swap asked for with no bank active, on a pawn whose staged slots clash and on one whose do not. -/
theorem wit_SwapsWithoutBank : ∀ q ∈ [0, 127],
    let s := cfg.setPawn q { stSlots := some [(0, 0xC1), (1, 0xC1)] }
    s.numPasses udp (pawnObj q 0x20) 0 = true ∧ (s.odBegun udp).hasBank = false ∧ ((s.odBegun udp).pawn q).run = .halted ∧
      (s.odBegun udp).slotClash q ((s.odBegun udp).pawn q).nextSlots = true ∧ (cfg.odBegun udp).slotClash q ((cfg.odBegun udp).pawn q).nextSlots = false := by
  decide +kernel

theorem wit_PawnServiceTakesEffect : ∀ q ∈ [0, 127],
    ((goBank .configure 0).numPasses udp (pawnObj q 0x20) 5 = true ∧ 5 < 2 ^ objBits (pawnObj q 0x20) ∧ ((goBank .configure 0).odBegun udp).hasBank = true ∧
      (∀ v ∈ [0, 1, 2], (hub.wr (pawnObj q 0x23) v).numPasses udp (pawnObj q 0x22) 1 = true)) ∧
    (let s := ((pawnAt q (word 0 0 0) {}).wr (pawnObj q 0x23) 2).wr (pawnObj q 0x21) 0x803F
     s.ticking = true ∧ s.swapPending q = true ∧ s.swapForced q = true ∧ (s.pawn q).goes = true ∧ (s.pawn q).pendAt ≤ s.sj q ∧
      s.slotClash q (s.pawn q).nextSlots = false) ∧
    (injecting.numPasses udp (pawnObj q 0x25) (word 5 0 7) = true ∧ illegalWord (word 5 0 7) = false ∧ ((injecting.odBegun udp).pawn q).inj = none ∧
      (lab.odBegun udp).mode = .test ∧ illegalWord (word 0x1F 0 0) = true ∧ injecting.numPasses udp (pawnObj q 0x25) (word 0x1F 0 0) = true) ∧
    (let s := ((goBank .run (q / 16)).wr 0x001302 4)
     s.numPasses udp (pawnObj q 0x25) (word 5 0 7) = true ∧ (s.odBegun udp).mode = .run ∧ (s.odBegun udp).clusterScheduled (q / 16) = true ∧
      (s.odBegun udp).partIsolated (0x20 + q / 16) = false ∧ ((s.odBegun udp).pawn q).inj = none) ∧
    (let s := injecting.setPawn q { inj := some (BitVec.ofNat 32 (word 5 0 7)) }
     s.numPasses udp (pawnObj q 0x25) (word 5 0 7) = true ∧ ((s.odBegun udp).pawn q).inj ≠ none ∧ s.numPasses udp (pawnObj q 0x25) (word 0x1F 0 0) = true ∧
      s.ticking = true ∧ (s.pawn q).inj = some (BitVec.ofNat 32 (word 5 0 7)) ∧ (s.alignCycle q).injects q = true ∧
      illegalWord (BitVec.ofNat 32 (word 5 0 7)).toNat = false ∧ opcodeOf (BitVec.ofNat 32 (word 5 0 7)).toNat = 0x05 ∧
      condOf (BitVec.ofNat 32 (word 5 0 7)).toNat = 0) ∧
    (∀ s ∈ [cfg, lab, held, hub], ∀ c ∈ [0, 7], s.numPasses udp (manualObj c) 0x00030005 = true) ∧ 0x00030005 < 2 ^ objBits (manualObj 0) ∧
    ((cfg.odBegun udp).mode = .configure ∧ (lab.odBegun udp).mode = .test ∧ (held.odBegun udp).mode = .hold ∧ (hub.odBegun udp).mode = .run) ∧
    (dividerOk (beNat (natBE 4 0x100)) = true ∧ cfg.odPasses udp (pawnObj q 0x09) (natBE 4 0x100) = true ∧ timeoutOk (beNat (natBE 4 0xF0001)) = true ∧
      (∀ i < 4, cfg.odPasses udp (pawnObj q (0x0A + i)) (natBE 4 0xF0001) = true)) ∧
    ((hub.setPawn q { vis := [(0, 4)] }).pawn q).vis = (0, 4) :: [] := by decide +kernel

/-- A hub in Run at the last beat of its cycle, with a jump of time due. -/
def jumping : State :=
  let s := hub.wr 0x401001 1023
  { s with time := { s.time with step := some ⟨0, 5000, 9, 7, 10 ^ 9⟩ } }

/-- A hub in Run that follows a master, with `n` cycles without a marker. -/
def unheard (servo n : Nat) : State := (hub.wr 0x801000 servo).wr 0x801007 n

/-- A closure window of `n` cycles, `g` of them good. -/
def window (servo n g : Nat) : State :=
  let s := hub.wr 0x801000 servo
  { s with time := { s.time with winN := n, winGood := g, winA := 4096, winB := -2048 } }

theorem wit_TimeCommandsTakeEffect :
    (jumping.stepDue = some ⟨0, 5000, 9, 7, 10 ^ 9⟩ ∧ jumping.atCycleEnd = true ∧ jumping.warmDue = false) ∧
    (∀ sv ∈ [0, 2, 3], (unheard sv (hub.lossCount)).ticking = true ∧ (unheard sv hub.lossCount).servo ≠ 5 ∧ (unheard sv hub.lossCount).time.lost = false ∧
      (unheard sv hub.lossCount).lossCount ≤ (unheard sv hub.lossCount).missing) ∧
    (∀ g ∈ [1023, 1024], (window 5 1024 g).ticking = true ∧ (window 5 1024 g).time.winN = 1024 ∧ (window 2 1024 g).time.winN = 1024) ∧
    ((window 5 1023 1023).ticking = true ∧ (window 5 1023 1023).time.winN < 1024) ∧
    (∀ p ∈ [Port.e, .w], mfind ({ hub with time := { hub.time with ownD := [(0, (100, 6)), (1, (90, 6))] } } : State).time.ownD (portNum p) ≠ none) ∧
    (let s := cfg.wr 0x801000 5
     (∀ v ∈ [0, 999999999 * 2 ^ 16], s.numPasses udp 0x800001 v = true ∧ v < 2 ^ objBits 0x800001 ∧ (s.odBegun udp).servo = 5 ∧
      (s.odBegun udp).hasBank = false ∧ cfg.numPasses udp 0x800001 v = true ∧ (cfg.odBegun udp).servo ≠ 5) ∧
      s.od.queue = [] ∧ udp.auth = none ∧ 1000000000 * 2 ^ 16 < 2 ^ objBits 0x800001) ∧
    (hub.numPasses udp 0x800104 1 = true ∧ hub.numPasses udp 0x80100A 1 = true) ∧
    (let s := (hub.wr 0x001301 8).wr 0x804000 1
     s.feature 35 = true ∧ s.rd 0x804000 = 1 ∧ s.ticking = true) := by decide +kernel

/-- The bytes of SEAL_ARM or SEAL_DISARM for slot 3, id 7, a time in seconds (R307). -/
def sealBytes (code sec nano : Nat) : List Byte :=
  natBE 2 code ++ zeros 10 ++ natBE 1 3 ++ zeros 1 ++ natBE 2 7 ++ natBE 12 (sec * 2 ^ 48 + nano * 2 ^ 16) ++ zeros 4

/-- A hub in Run with a seal of slot 3 pending for beat 5 of cycle 0, at that beat. -/
def sealing : State :=
  let s := hub.wr 0x401001 5
  { s with time := { s.time with seals := [(3, ⟨2 * 10 ^ 9 * 65536, 7, 1, some 5, false⟩)] } }

theorem wit_SealsArmAndLatch :
    (hub.ticking = true ∧ beField (sealBytes 0x0820 1 5) 0 2 = 0x0820 ∧ beField (sealBytes 0x0820 1 5) 12 1 % 4 = 3 ∧
      beField (sealBytes 0x0820 1 5) 14 2 = 7 ∧ natTime96 (beField (sealBytes 0x0820 1 5) 16 12) = ⟨1, 5, 0⟩ ∧
      ofTime96 ⟨1, 5, 0⟩ ≤ hub.time.now + 10000000000 * 65536 ∧ mfind hub.time.seals 3 = none ∧ hub.tooLate (ofTime96 ⟨1, 5, 0⟩) = false ∧
      ofTime96 ⟨10, 0, 0⟩ = hub.time.now + 10000000000 * 65536 ∧ hub.tooLate (ofTime96 ⟨0, 0, 0⟩) = true ∧
      (mfind sealing.time.seals 3).isSome = true) ∧
    (beField (sealBytes 0x0821 1 5) 0 2 = 0x0821 ∧ mfind sealing.time.seals 3 = some ⟨2 * 10 ^ 9 * 65536, 7, 1, some 5, false⟩ ∧
      sealing.tooLate (2 * 10 ^ 9 * 65536) = false) ∧
    (∀ v ∈ [1, 2, 3, 4], (hub.wr 0x001301 1).numPasses udp 0x802000 v = true) ∧
    (∀ s ∈ [hub, sealing], let t := (s.wr 0x001301 1).wr 0x802008 0x83
      t.feature 32 = true ∧ t.ticking = true ∧ (t.cell 0x802008).testBit 7 = true ∧ t.cell 0x802008 % 4 = 3) ∧
    (sealing.beat = 5 ∧ sealing.slotBusy 3 = false ∧ sealing.partIsolated 0x19 = false ∧ (sealing.setSnap 3 { state := 2 }).slotBusy 3 = true ∧
      mfind (sealing.setSnap 3 { state := 2 }).time.seals 3 = some ⟨2 * 10 ^ 9 * 65536, 7, 1, some 5, false⟩) := by decide +kernel

/-- A record of the journal. -/
def record7 : JRecord := ⟨1, 2, 0, 0x19, 2, 0x25, 7⟩

/-- A hub in Run with a posted record of SEQ, `n` records unread. -/
def posting (n : Nat) : State := { (hub.wr 0xD00000 n) with journal := { hub.journal with posted := [(0x19, [record7])] } }

theorem wit_SnapshotsAndJournal :
    (∀ k ∈ [0, 3], (hub.setSnap k { state := 1, latched := 1, header := zeros 64 }).coreUp = true ∧
      ((hub.setSnap k { state := 1, latched := 1, header := zeros 64 }).snap k).state = 1) ∧
    (∀ k ∈ [0, 3], ∀ st ∈ [0, 1, 2, 3], (cfg.setSnap k { state := st }).numPasses udp (releaseObj k) 1 = true ∧
      (((cfg.setSnap k { state := st }).odBegun udp).snap k).state = st ∧
      (((cfg.setSnap k { state := st }).wr 0x400000 0).odBegun udp).hasBank = true) ∧
    ((posting 1023).keeperStores = true ∧ mget [] (posting 1023).journal.posted 0x19 = record7 :: [] ∧ (posting 1023).rd 0xD00007 = 0 ∧
      (posting 1023).unread < 1024 ∧ (posting 1023).rd 0xD00006 ≠ 1 ∧ (posting 1023).rd 0xD01000 = 0 ∧ 1024 ≤ (posting 1024).unread ∧
      (posting 1024).rd 0xD00003 ≠ 1 ∧ ((posting 1024).wr 0xD00003 1).rd 0xD00003 = 1) ∧
    (let m := natBE 2 0x0D10 ++ natBE 2 9 ++ zeros 8 ++ natBE 2 1 ++ zeros 2 ++ zeros 16
     beField m 0 2 = 0x0D10 ∧ beField m 12 2 = 1 ∧ hub.keeperStores = true ∧ hub.rd 0xD00007 = 0 ∧ hub.unread < 1024 ∧
      ({ hub with modes := {} } : State).keeperStores = false ∧ ({ hub with modes := {} } : State).ticking = true) ∧
    (∀ v ∈ [0, 1024, 2047], hub.numPasses udp 0xD00001 v = true ∧ v < 2 ^ objBits 0xD00001) ∧ (2048 < 2 ^ objBits 0xD00001 ∧ hub.od.queue = []) ∧
    (((hub.odBegun udp).rd 0xD00000 + 2048 - 1024) % 2048 ≤ 1024 ∧ 1024 < ((hub.odBegun udp).rd 0xD00000 + 2048 - 1) % 2048) := by decide +kernel

/-- An enabled transmit object with a waiting identifier, and the frame that it builds. -/
def txObj : MsgObj := { idw := 3 * 2 ^ 30 + 5, ctrl := 0x00000004 }

/-- A request of that object with a policy. -/
def txReq (policy : Nat) : TxReq := ⟨txObj.build 4, policy, 0, 0, 0⟩

/-- A hub in Run whose controller `n` runs in a mode, with an object of number `m`. -/
def busAt (n mode m : Nat) (x : MsgObj) : State := ((hub.wr (busObj n 0 0) mode).setCtl n { mode := mode }).setMsg n m x

/-- The same with that object in transmission. -/
def sendingAt (n mode m : Nat) (x : MsgObj) : State :=
  let s := busAt n mode m x
  s.setCtl n { s.ctl n with sending := some m }

/-- A hub whose role keeps its controllers listening (R265). -/
def listener (s : State) : State := (s.wr 0x001300 4).wr 0x208100 100

theorem wit_BusTransmissionTakesEffect :
    (∀ n ∈ [2, 7], ∀ m ∈ [0, 127],
      ((busAt n 1 m txObj).commandsBus m 1 n = true ∧ (busAt n 1 m txObj).mismatch n ((busAt n 1 m txObj).msg n m) (bits ((busAt n 1 m txObj).msg n m).ctrl 6 0) = false ∧
        (busAt n 1 m txObj).mutes n = false ∧ ((busAt n 1 m txObj).ctl n).mode = 1 ∧ ((busAt n 1 m txObj).ctl n).sending ≠ some m ∧
        ((busAt n 1 m txObj).msg n m).req = none ∧ ((busAt n 1 m { txObj with req := some (txReq 0) }).msg n m).req = some (txReq 0) ∧
        (busAt n 1 m { txObj with req := some (txReq 0) }).commandsBus m 1 n = true) ∧
      ((busAt n 1 m { txObj with idw := 2 ^ 30 }).commandsBus m 1 n = true ∧ (busAt n 1 m { txObj with ctrl := 9 }).mismatch n { txObj with ctrl := 9 } 9 = true ∧
        (busAt n 1 m { txObj with ctrl := 9 }).commandsBus m 1 n = true) ∧
      (∀ mode ∈ [0, 2, 3], (busAt n mode m txObj).commandsBus m 1 n = true ∧ ((busAt n mode m txObj).ctl n).mode = mode) ∧
      ((busAt n 1 m { txObj with req := some (txReq 0) }).commandsBus m 2 n = true ∧ ((busAt n 1 m { txObj with req := some (txReq 0) }).msg n m).next = none ∧
        (sendingAt n 1 m { txObj with req := some (txReq 0) }).commandsBus m 2 n = true ∧
        ((sendingAt n 1 m { txObj with req := some (txReq 0) }).ctl n).sending = some m) ∧
      ((busAt n 1 m { txObj with req := some (txReq 0) }).sends n = true ∧ ((busAt n 1 m { txObj with req := some (txReq 0) }).ctl n).winner = some m ∧
        ((busAt n 1 m { txObj with req := some (txReq 0) }).ctl n).sending = none ∧ (busAt n 1 m txObj).sends n = true ∧
        (∀ k < 128, ((busAt n 1 m txObj).msg n k).req = none))) ∧
    (∀ p ∈ [0, 1], ((sendingAt 7 1 127 { txObj with req := some (txReq p) }).msg 7 127).req = some (txReq p) ∧ (txReq p).policy = p ∧
      ((sendingAt 7 1 127 { txObj with req := some (txReq p) }).ctl 7).mode ≠ 4 ∧
      (sendingAt 7 1 127 { txObj with req := some (txReq p) }).mutes 7 = false ∧ ((sendingAt 7 1 127 { txObj with req := some (txReq p) }).ctl 7).dropped = false ∧
      ((sendingAt 7 1 127 { txObj with req := some (txReq p) }).ctl 7).tec + 8 ≤ 255 ∧
      ((sendingAt 7 1 127 { txObj with req := some (txReq p), next := some (txReq 0) }).msg 7 127).next.isSome = true) ∧
    ((sendingAt 7 1 127 txObj).busDrives 7 = true ∧ (let s := sendingAt 0 1 127 { txObj with req := some (txReq 0) }
      (s.ctl 0).sending = some 127 ∧ (s.msg 0 127).req = some (txReq 0) ∧ (s.ctl 0).mode = 1 ∧ s.busDrives 0 = false ∧ s.mutes 0 = false)) ∧
    ((listener (busAt 7 1 127 txObj)).commandsBus 127 1 7 = true ∧ (listener (busAt 7 1 127 txObj)).mutes 7 = true) := by decide +kernel

/-- An enabled receive object for identifiers equal to 5 (R270). -/
def rxObj : MsgObj := { idw := 2 ^ 31 + 5, mask := 2 ^ 29 - 1 }

/-- A CAN frame of four bytes. -/
def canFrame (id : Nat) : CanFrame := ⟨true, id, false, false, false, false, [1, 2, 3, 4], 0⟩

/-- A hub whose service channel on MB0 is on, with identifier 5. -/
def serviceHub (m : Mode) : State :=
  ((((((hubIn m).wr 0x001303 2).wr 0x001302 1).wr 0x003100 1).wr 0x003101 (2 ^ 29 + 5)).wr (busObj 0 0 4) 1).setCtl 0 { mode := 1 }

theorem wit_BusReceptionTakesEffect :
    (∀ n ∈ [2, 7], ∀ m ∈ [0, 127, 128], (busAt n 1 m rxObj).canReceive n (canFrame 5) = true ∧ ((busAt n 1 m rxObj).ctl n).accepts (canFrame 5) = some m ∧
      ((busAt n 1 m rxObj).ctl n).accepts (canFrame 6) = none ∧ (busAt n 1 m rxObj).ctlReached n = true ∧
      (busAt n 1 m rxObj).rd (busObj n 1 5) + 1 < 2 ^ objBits (busObj n 1 5)) ∧
    (∀ n ∈ [2, 7], (busAt n 1 0 rxObj).ctlLive n = true ∧ (busAt n 1 0 rxObj).busHears n = true ∧ ((busAt n 1 0 rxObj).ctl n).mode = 1 ∧
      ((busAt n 1 0 rxObj).ctl n).conf < 2) ∧
    (hub.canReceive 0 (canFrame 5) = false) ∧
    ((serviceHub .run).serviceRequest ⟨true, 5, true, false, false, false, zeros 64, 0⟩ = true) := by decide +kernel

/-- A hub in Configure or Test whose controller is bus-off. -/
def busOff (s : State) (n conf : Nat) : State := s.setCtl n { mode := 1, conf := conf }

theorem wit_BusControllersAndTransceiversTakeEffect :
    (∀ n ∈ [0, 7], (∀ c ∈ [0, 1, 2, 3], ∀ v ∈ [1, 2], (busOff cfg n c).numPasses udp (busObj n 0 6) v = true ∧ (((busOff cfg n c).odBegun udp).ctl n).conf = c) ∧
      ((busOff hub n 3).ctlLive n = true ∧ ((busOff hub n 3).ctl n).conf = 3) ∧
      (cfg.numPasses udp (busObj n 0 0) 4 = true ∧ (cfg.odBegun udp).mode ≠ .test ∧ cfg.numPasses udp (busObj n 0 0) 3 = true ∧
        lab.numPasses udp (busObj n 0 0) 4 = true ∧ (lab.odBegun udp).mode = .test) ∧
      ((busAt n 1 0 {}).setCtl n { mode := 0 }).ticking = true ∧ (((busAt n 1 0 {}).setCtl n { mode := 0 }).ctl n).mode ≠ ((busAt n 1 0 {}).setCtl n { mode := 0 }).wantMode n ∧
      ((busAt n 0 0 {}).setCtl n { mode := 1 }).wantMode n = 0 ∧ (busAt n 1 0 {}).listening = false ∧
      ((listener (busAt n 1 0 {})).wantMode n = 2 ∧ (listener (busAt n 1 0 {})).listening = true ∧ ((listener (busAt n 1 0 {})).ctl n).mode ≠ 2 ∧
        ((listener (busAt n 1 0 {})).ctl n).sending = none) ∧
      ((busAt n 1 0 {}).ctl n).mode = (busAt n 1 0 {}).wantMode n ∧
      cfg.numPasses udp (busObj n 1 9) 1 = true) ∧
    (∀ x ∈ [0, 1], (∀ v < 4, cfg.numPasses udp (xcvrObj x 0) v = true) ∧ cfg.numPasses udp (xcvrObj x 4) 1 = true ∧
      (hub.wr (xcvrObj x 2) 0).rd (xcvrObj x 2) ≠ 1 ∧ (let s := (hub.wr (xcvrObj x 2) 1).wr (xcvrObj x 0) 3
        s.powered = true ∧ s.rd (xcvrObj x 2) = 1 ∧ 2 ≤ s.rd (xcvrObj x 0))) := by decide +kernel

/-- A window of 4 KiB at the start of the aperture that is not prefetchable, onto space 0x02 of node 9. -/
def window0 (ack : Bool) : Window := ⟨true, 12, 0, fab 0x02 0 + 9 * 2 ^ 54, 1, 0, ack⟩

/-- The ring with its bridge up and that window in force. -/
def bridged : State := { ring with bridge := { ring.bridge with linkUp := true, bme := true, wins := [(0, window0 false)] } }

/-- A read piece of eight bytes with tag 0x6000, and the host read that waits for it. -/
def piece0 : ReadPiece := ⟨0x6000, 0, fab 0x02 0 + 9 * 2 ^ 54, 8, 0, 8, 0, none⟩

/-- The host read of tag 3 that waits for that piece. -/
def heldRead0 : HeldRead := ⟨3, 0, 8, [piece0]⟩

/-- The bridge with that read held, and a write piece out. -/
def waitingBridge : State := { bridged with bridge := { bridged.bridge with held := [heldRead0], pieces := [⟨0x6001, 0, 64, true⟩] } }

/-- A prefetch entry of node 9's image. -/
def prefetch0 : Prefetch := ⟨0, fab 0x02 0 + 9 * 2 ^ 54, [1, 2, 3, 4], [false, false, false, false]⟩

theorem wit_HostAccessesReachTheFabric :
    (∀ a ∈ [0, 2048, 2047], bridged.bridgeUp = true ∧ bridged.isolated .hbr = false ∧ a % 2048 + 1 ≤ 2048 ∧ bridged.bridge.held.length < 64 ∧
      bridged.heldBytes + 1 ≤ 65536 ∧ bridged.bridge.held.any (fun h => h.hostTag == 3) = false ∧ bridged.windowAt true a = some (0, window0 false) ∧
      (bridged.windowAt true (a + 1 - 1)).map Prod.fst = some 0 ∧ bridged.takeTag.2 = 0x6000 ∧ bridged.tookFree.takeTag.2 = 0x6000 ∧
      (window0 false).aperN = true ∧ bridged.bridge.posted = [] ∧ bridged.busyTags < 4096) ∧
    ((bridged.setIsolated 0x29 true).bridgeUp = true ∧ (bridged.setIsolated 0x29 true).isolated .hbr = true ∧
      (bridged.setIsolated 0x29 true).windowAt true 0 = some (0, window0 false)) ∧
    (bridged.windowAt true 4096 = none ∧ bridged.windowAt false 0 = none) ∧
    (let f := frameFor 5 2 0 0x6000 (zeros 8)
     waitingBridge.ticking = true ∧ frameWhole f = true ∧ f.tag / 4096 = 6 ∧ f.outcome = 0 ∧
      waitingBridge.bridge.held.find? (fun h => h.pieces.any (fun p => p.answer.isNone && p.tag == f.tag && (f.outcome != 0 || p.len == f.payload.length))) =
        some heldRead0 ∧ heldRead0.pieces = [piece0] ∧ piece0.block = 0) ∧
    (waitingBridge.bridge.held.find? (fun h => h.hostTag == 3) = some heldRead0 ∧ heldRead0.pieces.find? (fun p => p.answer.isNone) = some piece0) ∧
    (bridged.bridge.fetch = [] ∧ (bridged.windowAt true (2048 + 2048 - 1)).map Prod.fst = some 0) ∧
    waitingBridge.bridge.pieces.find? (fun p => p.tag == 0x6001 && p.acked) = some ⟨0x6001, 0, 64, true⟩ ∧
    ({ bridged with bridge := { bridged.bridge with fetch := [prefetch0] } } : State).bridge.fetch[0]? = some prefetch0 ∧ fabSpace prefetch0.addr ≠ 0x08 ∧
    bridged.bridge.fetch[0]? = none := by decide +kernel

theorem wit_FastWindowReachesMailboxAndVectors :
    bridged.bridgeUp = true ∧ bridged.isolated .hbr = false ∧ 0x10017 + 1 ≤ 0x10018 ∧ fastRegion 0x10017 2 = none ∧ fastRegion 0x31018 4 = none ∧
      0x7FFF + ([1] : List Byte).length ≤ 0x8000 ∧ bridged.bridge.msixOn = false ∧ 0x30000 + 16 * 159 + 12 < 0x30A00 ∧
      (bridged.wr 0xC05100 (2 ^ islandCode .hbr)).isolated .hbr = true ∧ (bridged.wr 0xC05100 (2 ^ islandCode .hbr)).bridgeUp = true := by decide +kernel

/-- A request frame for slot 7 of the host. -/
def hostFrame (type : Nat) : Frame := frameFor 5 type (fab 0x08 (7 * 2 ^ 45)) 2 [1, 2, 3, 4]

/-- A read of four bytes of the host in progress, its one part with tag 9. -/
def hostPart9 : HostPart := ⟨some 9, 0x1000, 4, [1], false⟩

/-- The fabric request of that part. -/
def hostReq9 : HostReq := ⟨hostFrame 1, 7, [hostPart9], false, none⟩

theorem wit_BridgeServesTheHost :
    (let s := ((bridged.wr (slotObj 7 2) 5).wr (slotObj 7 1) 12).wr (slotObj 7 0) 0x1000
     s.ticking = true ∧ fabSpace (hostFrame 0).addr = 0x08 ∧ frameWhole (hostFrame 0) = true ∧ (hostFrame 0).len = (hostFrame 0).payload.length ∧
      bits (hostFrame 0).addr 47 45 = 7 ∧ s.isolated .hbr = false ∧ s.slotFlag 7 0 = true ∧ s.slotFlag 7 2 = true ∧
      bits (hostFrame 0).addr 44 0 + (hostFrame 0).len ≤ 2 ^ s.rd (slotObj 7 1) ∧ s.mastering = true ∧ s.bridge.reqs = []) ∧
    ((∀ ty ∈ [0, 1, 3], frameWhole (hostFrame ty) = true ∧ (hostFrame ty).type = ty) ∧ bridged.slotFlag 7 0 = false) ∧
    (let s := { bridged with bridge := { bridged.bridge with reqs := [hostReq9] } }
     s.reqOf 9 = some hostReq9 ∧ hostReq9.parts = [hostPart9] ∧ hostPart9.tag = some 9 ∧ hostPart9.done = false ∧ hostReq9.frame.type = 0x1 ∧
      hostPart9.len ≤ (hostPart9.got ++ [2, 3, 4]).length ∧ s.bridge.cplTime ≠ 0 ∧ s.reqOf 8 = none) ∧
    (hub.numReaches udp 0x901800 1 = true ∧ (hub.odBegun udp).mode ≠ .configure ∧ cfg.numPasses udp 0x901800 1 = true ∧ (cfg.odBegun udp).mode = .configure ∧
      (cfg.odBegun udp).windowCheck = 0 ∧ (cfg.wr (winObj 0 0) 1).numPasses udp 0x901800 1 = true ∧ ((cfg.wr (winObj 0 0) 1).odBegun udp).windowCheck ≠ 0) ∧
    (cfg.numPasses udp 0x907006 1 = true ∧ hub.ticking = true ∧ hub.bridge.pba = 0 ∧ (∀ v ∈ [0, 50000, 250000000], cplTimeOk v = true) ∧
      cplTimeOk 49999 = false) := by decide +kernel

/-- A hub in each mode that the Keeper serves. -/
def inMode (m : Mode) : State := hubIn m

/-- The same committed to a sleep. -/
def committed (m : Mode) : State := { hubIn m with sleep := { (hubIn m).sleep with back := some m } }

/-- The same in brace. -/
def braced (m : Mode) : State := { hubIn m with power := { (hubIn m).power with brace := some (0, 0) } }

theorem wit_ModeRequestsFollowTheTable :
    (∀ m ∈ [Mode.bringUp, .test, .configure, .run, .repair, .hold], ∀ code ∈ [1, 2, 3, 4, 6], (inMode m).numPasses udp 0x100100 code = true ∧
      ((inMode m).odBegun udp).mode = m ∧ ((inMode m).odBegun udp).sleep.back = none ∧ ((inMode m).odBegun udp).power.brace = none) ∧
    (∀ m ∈ [Mode.configure, .run, .repair, .hold], ∀ code ∈ [2, 3, 4, 6], (committed m).numPasses udp 0x100100 code = true ∧
      ((committed m).odBegun udp).sleep.back.isSome = true) ∧
    (let s := (inMode .bringUp).wr 0x104001 3
     s.numPasses udp 0x100100 3 = true ∧ (s.odBegun udp).rd 0x104001 ≠ 0 ∧ (s.odBegun udp).mode = .bringUp) ∧
    (∀ m ∈ [Mode.test, .configure, .run, .repair, .hold], (inMode m).numPasses udp 0x100200 1 = true) ∧
    (∀ code ∈ [1, 3], (braced .test).numPasses udp 0x100100 code = true) ∧
    (∀ m ∈ [Mode.test, .configure, .hold], (braced m).numPasses udp 0x100200 1 = true ∧ ((braced m).odBegun udp).power.brace.isSome = true) := by decide +kernel

theorem wit_ResetsLeaveStandby :
    (State.reset.mode = .noPower ∧ hub.mode ≠ .noPower ∧ standby.mode = .standby ∧ hub.coreUp = true ∧ standby.coreUp = false ∧ hub.modes.wrst = false) ∧
    (let s := { hub.wr 0x401001 1023 with modes := { hub.modes with wrst := true } }
     s.coreUp = true ∧ s.modes.wrst = true ∧ s.stores = [] ∧ s.ticking = true ∧ s.atCycleEnd = true) ∧
    (let s := { inMode .bringUp with seq := {}, modes := { wrst := true } }
     s.coreUp = true ∧ s.modes.wrst = true ∧ s.stores = [] ∧ s.ticking = false) ∧
    (∀ code ∈ [1, 3], let s := (lab.wr 0x401001 1023).wr 0x100101 code
     s.coreUp = true ∧ s.mode = .test ∧ s.rd 0x100101 = code ∧ s.inBrace = false ∧ s.stores = [] ∧ s.atCycleEnd = true) ∧
    hub.rd 0x100101 = 0xFF := by decide +kernel

/-- A hub in the first stage of bring-up. -/
def booting : State := { State.reset.wr 0x104000 1 with mode := .bringUp }

/-- What bring-up finds on a good hub. -/
def goodHub : BringUpFindings := ⟨true, true, true, [], [], 8⟩

theorem wit_BringUpEntersConfigure :
    (booting.mode = .bringUp ∧ booting.rd 0x104001 = 0 ∧ booting.rd 0x104000 = 1 ∧ booting.thirdWdr = false ∧ (bootChoice booting.bootNow).1 = false ∧
      (goodHub.sigA && booting.update.fwA.full) = true ∧ ({ goodHub with sigA := false } : BringUpFindings).flashOk = true ∧
      (({ goodHub with sigA := false } : BringUpFindings).sigA && booting.update.fwA.full) = false ∧ (goodHub.sigB && booting.update.fwB.full) = false) ∧
    (let s := { booting with update := { booting.update with bootA := BootRec.bytes { fwB := true }, fwB := { full := true } } }
     (bootChoice s.bootNow).1 = true ∧ (goodHub.sigB && s.update.fwB.full) = true ∧ s.rd 0x104000 = 1) ∧
    (∀ i ∈ [Island.seq, .swx, .mgt], [i].any (fun i => i = .seq || i = .swx || i = .mgt) = true) ∧
    (let s := (((booting.wr 0x102003 3).wr 0x101008 1).wrB 0x101000 [6])
     s.thirdWdr = true ∧ s.mode = .bringUp ∧ s.rd 0x104001 = 0 ∧ s.rd 0x104000 = 1) ∧
    (hub.mode ≠ .bringUp ∧ (booting.wr 0x104001 4).rd 0x104001 ≠ 0) ∧
    (goodHub.bistBad = [] ∧ goodHub.upTo = 8 ∧ (∀ k ∈ [1, 7], ({ goodHub with upTo := k } : BringUpFindings).upTo = k)) := by decide +kernel

/-- A hub in Configure whose channel `c` is in a state of R374, with the class-N parameters in force. -/
def chanAt (c st : Nat) : State := { (cfg.wr (chanObj c 1 0) st) with power := { cfg.power with copyLost := false, seated := true } }

/-- The binary32 numbers 25 and 2,000. -/
def warm25 : Nat := 0x41C80000

/-- See `warm25`. -/
def hot2000 : Nat := 0x44FA0000

theorem wit_PowerChannelsFollowTheirEvents : ∀ c ∈ [0, 7, 8],
    ((chanAt c 0).mode ≠ .noPower ∧ (∀ st < 8, (chanAt c st).chanRun c = st)) ∧
    ((chanAt c 3).gateOn c = true ∧ (chanAt c 3).pwrParam (chanObj c 0 0xE) = objDefault (chanObj c 0 0xE) ∧
      ((chanAt c 3).wr (chanObj c 0 0xE) 2).pwrParam (chanObj c 0 0xE) ≠ 1 ∧ ((chanAt c 3).wr (chanObj c 0 0xE) 2).pwrParam (chanObj c 0 0xE) ≠ 0 ∧
      f32Int ((chanAt c 3).pwrParam (chanObj c 0 0x14)) ≤ f32Int hot2000 ∧ f32Int ((chanAt c 3).pwrParam (chanObj c 0 0x16)) ≤ f32Int hot2000) ∧
    ((chanAt c 0).gateOn c = false ∧ (chanAt c 0).chanRun c ≠ 7) ∧
    (let s := { chanAt c 5 with power := { (chanAt c 5).power with retry := 2 ^ c } }
     s.power.retry.testBit c = true ∧ s.chanRun c = 5) ∧
    (let s := { chanAt c 3 with power := { (chanAt c 3).power with pg := 2 ^ c } }
     s.gateOn c = true ∧ s.power.pg.testBit c = true) ∧
    (let s := { (chanAt c 0).wr (chanObj c 0 7) 1 with power := { (chanAt c 0).power with pg := 2 ^ 8 } }
     s.mayStart c warm25 24000 false = true ∧ (s.wr (chanObj c 1 0) 7).mayStart c warm25 24000 false = true ∧
      (s.wr (chanObj c 1 0) 7).mayStart c warm25 24000 true = false) := by decide +kernel

theorem wit_PowerCommandsTakeEffect :
    (∀ c ∈ [0, 7, 8], ∀ st < 8, (chanAt c st).numPasses udp (chanObj c 1 0xA) 1 = true ∧ ((chanAt c st).odBegun udp).chanRun c = st) ∧
    (∀ c ∈ [0, 7, 8], ∀ v ∈ [0, 1], cfg.numPasses udp (chanObj c 1 0xB) v = true ∧ hub.numPasses udp (chanObj c 1 0xB) v = true) ∧
    ((cfg.odBegun udp).mode = .configure ∧ (hub.odBegun udp).mode ≠ .hold ∧ (hub.odBegun udp).mode ≠ .configure) ∧
    (∀ c ∈ [0, 7], (chanAt c 3).numPasses udp (chanObj c 1 0xB) 0 = true ∧ ((chanAt c 3).odBegun udp).gateOn c = true ∧
      ((chanAt c 0).odBegun udp).gateOn c = false) := by decide +kernel

theorem wit_SuppliesSeatingAndBrace :
    (hub.mode ≠ .noPower ∧ (∀ r ∈ [0x10, 0x15, 0x20, 0x2F], railOk r = true ∧ hub.power.warn.testBit r = false ∧
      ({ hub with power := { hub.power with warn := 2 ^ r } } : State).power.warn.testBit r = true)) ∧
    (hub.power.brace = none ∧ (braced .run).power.brace = some (0, 0)) ∧
    (∀ r ∈ [0x10, 0x12], coreRail r = true ∧ hub.power.under.testBit r = false) ∧ hub.coreUp = true ∧ hub.power.under.testBit 0x14 = false ∧
    (∀ k < 16, hub.power.under.testBit (0x20 + k) = false) ∧
    (hub.gateOn 8 = false ∧ (chanAt 8 3).gateOn 8 = true ∧ (chanAt 8 3).coreUp = true ∧ (chanAt 8 3).power.seated = true ∧ hub.power.seated = false ∧
      (chanAt 0 3).gateOn 8 = false ∧ (chanAt 0 3).power.seated = true) ∧
    ((braced .run).braceWarn = 0 ∧ (braced .run).update.bootDefer = none) := by decide +kernel

/-- The hub 5 of service 100 with partner 6 on S0, in a role. -/
def paired (role : Nat) : State :=
  (((((((hub.wr 0x000005 5).wr 0x001300 4).wr 0x208100 100).wr 0x208101 6).wr 0x208200 role).wr 0x208103 2).wr (portObj .s0 0 0) 6).wr 0x208102 9

/-- A HEARTBEAT of node 6 in cycle 0: active, with a grant sequence. -/
def heartbeatOf (seq : Nat) : List Byte := natBE 2 0x0510 ++ natBE 2 6 ++ natBE 8 0 ++ natBE 1 1 ++ zeros 3 ++ natBE 8 77 ++ zeros 4 ++ natBE 4 seq

/-- A MIRROR of node 6 with one entry, of one word at the end of an image. -/
def mirrorOf (img : Nat) : List Byte :=
  natBE 2 0x0511 ++ natBE 2 6 ++ natBE 8 0 ++ natBE 4 1 ++ natBE 2 1 ++ zeros 2 ++ natBE 4 (img * 2 ^ 30 + 0xFFFC) ++ [1, 2, 3, 4]

/-- An ARBITER_BEACON for a service that names a hub, with a sequence, under a key of zeros. -/
def beaconOf (svc node seq : Nat) : List Byte :=
  withCmac (zeros 16) (natBE 2 0x0513 ++ natBE 2 9 ++ natBE 8 0 ++ natBE 2 svc ++ natBE 2 node ++ natBE 4 seq)

/-- A GRANT of a sequence that names a hub and the one it releases, for a cycle. -/
def grantOf (svc node from_ take seq : Nat) : List Byte :=
  withCmac (zeros 16) (natBE 2 0x0514 ++ natBE 2 9 ++ natBE 8 0 ++ natBE 2 svc ++ natBE 2 node ++ natBE 2 from_ ++ zeros 2 ++ natBE 8 take ++ natBE 4 seq)

/-- The arbiter of service 100, of hubs 5 and 6, under a key of zeros. -/
def arbiter : State := hub.wrB 0x208400 (natBE 2 5 ++ natBE 2 6 ++ natBE 2 100 ++ zeros 16)

/-- A PAIR_STATUS of hub 6, and a GRANT_ACK with a result. -/
def statusOf : List Byte := withCmac (zeros 16) (natBE 2 0x0512 ++ natBE 2 6 ++ natBE 8 3 ++ natBE 1 1 ++ zeros 2 ++ natBE 1 1 ++ natBE 4 2)

/-- See `statusOf`. -/
def grantAckOf (svc r : Nat) : List Byte :=
  withCmac (zeros 16) (natBE 2 0x0515 ++ natBE 2 6 ++ natBE 8 3 ++ natBE 2 svc ++ natBE 1 r ++ zeros 1 ++ natBE 8 4 ++ natBE 4 0)

/-- The beacons and grants above, the status and the answers pass the check of the key that the hub, or the arbiter, holds. -/
theorem wit_PairMessagesAuthentic :
    (∀ svc node seq, cmacOk (paired 1).pairKey (beaconOf svc node seq) 20 = true) ∧
    (∀ svc node from_ take seq, cmacOk (paired 1).pairKey (grantOf svc node from_ take seq) 32 = true) ∧
    cmacOk (arbiter.pairEntry 0).key statusOf 20 = true ∧ (∀ svc r, cmacOk (arbiter.pairEntry 0).key (grantAckOf svc r) 28 = true) := by
  have h1 : (paired 1).pairKey = zeros 16 := by decide +kernel
  have h2 : (arbiter.pairEntry 0).key = zeros 16 := by decide +kernel
  rw [h1, h2]
  exact ⟨fun _ _ _ => cmacOk_withCmac _ _ rfl, fun _ _ _ _ _ => cmacOk_withCmac _ _ rfl, cmacOk_withCmac _ _ rfl, fun _ _ => cmacOk_withCmac _ _ rfl⟩

theorem wit_PairMessagesTakeEffect :
    (∃ p ∈ [Port.e, .w, .s0, .s1], ∀ role < 3, (paired role).fromPartner p (heartbeatOf 4) 0x0510 = true ∧
      (paired role).fromPartner p (mirrorOf 1) 0x0511 = true ∧ (paired role).rd 0x208200 = role) ∧
    ((heartbeatOf 4).length = 32 ∧ beField (heartbeatOf 4) 4 8 = (paired 1).cycle ∧ (paired 1).fromPartner .e (heartbeatOf 4) 0x0510 = false ∧
      (paired 1).fromPartner .e (mirrorOf 1) 0x0511 = false) ∧
    (∀ img ∈ [0, 1], beField (mirrorOf img) 16 2 = 1 ∧ 24 + 4 * (bits (beField (mirrorOf img) 20 4) 29 24 + 1) ≤ (mirrorOf img).length ∧
      bits (beField (mirrorOf img) 20 4) 31 30 = img) ∧
    (let s := (paired 0).wr 0x401001 768
     s.inPair = true ∧ s.ticking = true ∧ s.beat = s.heartBeat + 256 ∧ s.pair.judged = false ∧
      ({ s with pair := { s.pair with judged := true } } : State).pair.judged = true) ∧
    ((∀ role ∈ [1, 2], (paired role).fromArbiter (beaconOf 100 5 1) 0x0513 = true ∧ (paired role).pairKey = zeros 16 ∧ (paired role).rd 0x208203 = 0) ∧
      (paired 1).otherPair (beaconOf 100 5 1) = false ∧ (paired 1).otherPair (beaconOf 101 5 1) = true ∧
      beField (beaconOf 100 5 1) 14 2 = (paired 1).node ∧ beField (beaconOf 100 6 1) 14 2 = (paired 1).rd 0x208101 ∧
      cmacOk (zeros 16) (beaconOf 100 5 1 ++ [0]) 20 = false) ∧
    ((paired 0).fromArbiter (grantOf 100 5 6 2 1) 0x0514 = true ∧ 
      (paired 0).otherPair (grantOf 100 5 6 2 1) = false ∧ beField (grantOf 100 5 6 2 1) 14 2 = (paired 0).node ∧
      beField (grantOf 100 6 5 2 1) 14 2 ≠ (paired 1).node ∧
      beField (grantOf 100 6 5 2 1) 16 2 = (paired 1).node ∧ (paired 1).rd 0x208203 < beField (grantOf 100 6 5 2 1) 28 4) ∧
    (arbiter.ticking = true ∧ beField statusOf 2 2 % 1024 = 6 ∧ beField statusOf 0 2 = 0x0512 ∧
      arbiter.findEntry (fun e => e.hubA = 6 || e.hubB = 6) = some 0 ∧
      hub.findEntry (fun e => e.hubA = 6 || e.hubB = 6) = none ∧ hub.findEntry (fun e => e.service = 100) = none ∧
      beField (grantAckOf 100 0) 0 2 = 0x0515 ∧ arbiter.findEntry (fun e => e.service = beField (grantAckOf 100 0) 12 2) = some 0 ∧
      beField (grantAckOf 100 2) 14 1 ≠ 0 ∧ beField (grantAckOf 100 0) 24 4 = mget 0 arbiter.pair.grantSeq 0) ∧
    ((paired 1).numPasses udp 0x208205 1 = true ∧ arbiter.numPasses udp 0x208410 100 = true ∧ arbiter.numPasses udp 0x208410 99 = true ∧
      (arbiter.odBegun udp).findEntry (fun e => e.service = 100) = some 0 ∧ (arbiter.odBegun udp).findEntry (fun e => e.service = 99) = none) := by
  decide +kernel

/-- A proposal, its number, by master 9. -/
def prop9 (num : Nat) : Proposal := ⟨num, 100, 200, 9⟩

/-- A master of fabric time in Run with its proposal outstanding or none. -/
def sleepMaster (x : Option Proposal) (done : Bool) : State :=
  let s := (hub.wr 0x801000 5).wr 0x000005 5
  { s with sleep := { s.sleep with mine := x, done := done } }

/-- A member of master 9 in Run, in a sleep state, with a proposal. -/
def member (st : Nat) (x : Option Proposal) : State :=
  let s := ((hub.wr 0x801004 9).wr 0x000005 5).wr 0xB00007 st
  { s with sleep := { s.sleep with prop := x } }

/-- A sleep message of node 9 in cycle 0 about proposal `num`, of `n` bytes after the number. -/
def sleepMessage (code num : Nat) (rest : List Byte) : List Byte := natBE 2 code ++ natBE 2 9 ++ natBE 8 0 ++ natBE 4 num ++ rest

/-- SLEEP_PROPOSE of `prop9`. -/
def proposeOf (num : Nat) : List Byte := sleepMessage 0x0B10 num (natBE 8 100 ++ natBE 8 200)

theorem wit_SleepIsProposedVotedAndCommitted :
    (∀ v ∈ [1, 2], (sleepMaster none false).numPasses udp 0xB00001 v = true ∧ (sleepMaster (some (prop9 1)) false).numPasses udp 0xB00001 v = true ∧
      (sleepMaster (some (prop9 1)) true).numPasses udp 0xB00001 v = true ∧ hub.numPasses udp 0xB00001 v = true) ∧
    (((sleepMaster none false).odBegun udp).servo = 5 ∧ ((sleepMaster none false).odBegun udp).sleep.mine = none ∧
      ((sleepMaster (some (prop9 1)) false).odBegun udp).sleep.mine = some (prop9 1) ∧ ((sleepMaster (some (prop9 1)) false).odBegun udp).sleep.done = false ∧
      (hub.odBegun udp).servo ≠ 5) ∧
    ((member 0 none).ticking = true ∧ isMessage (proposeOf 1) 0x0B10 32 = true ∧ (member 0 none).fromMaster 9 = true ∧ 9 ≠ (member 0 none).node ∧
      beField (proposeOf 1) 2 2 % 1024 = 9 ∧
      (⟨beField (proposeOf 1) 12 4, beField (proposeOf 1) 16 8, beField (proposeOf 1) 24 8, 9⟩ : Proposal) = prop9 1 ∧
      (member 0 none).sleep.answered ≠ some (prop9 1) ∧ (member 0 none).sleep.back = none ∧ (member 0 none).vetoReason 100 false ≠ 0 ∧
      ((member 0 none).wr 0xB00000 1).vetoReason 100 false = 0 ∧ hub.fromMaster 9 = false) ∧
    (let x := prop9 1
     (sleepMaster (some x) false).sleep.mine = some x ∧ (sleepMaster (some x) false).ticking = true ∧
      (∀ r ∈ [0, 1], isMessage (sleepMessage 0x0B11 1 (natBE 1 r ++ natBE 1 2 ++ natBE 2 3)) 0x0B11 20 = true ∧
        beField (sleepMessage 0x0B11 1 (natBE 1 r ++ natBE 1 2 ++ natBE 2 3)) 12 4 = x.num ∧
        beField (sleepMessage 0x0B11 1 (natBE 1 r ++ natBE 1 2 ++ natBE 2 3)) 16 1 = r)) ∧
    (let x := prop9 1
     (member 2 (some x)).sleep.prop = some x ∧ (member 2 (some x)).rd 0xB00007 = 2 ∧ (member 2 (some x)).fromMaster 9 = true ∧
      isMessage (sleepMessage 0x0B12 1 (natBE 8 300)) 0x0B12 24 = true ∧ isMessage (sleepMessage 0x0B13 1 (zeros 4)) 0x0B13 20 = true ∧
      beField (sleepMessage 0x0B12 1 (natBE 8 300)) 12 4 = x.num ∧ beField (sleepMessage 0x0B13 1 (zeros 4)) 12 4 = x.num ∧
      (member 0 (some x)).rd 0xB00007 ≠ 2) ∧
    (∀ st ∈ [3, 4], (member st none).ticking = true ∧ (member st none).rd 0xB00007 = st) ∧
    ((sleepMaster (some (prop9 1)) false).rd 0xB00007 ≠ 3 ∧ (sleepMaster (some (prop9 1)) false).rd 0xB00007 ≠ 4 ∧ hub.sleep.mine = none ∧
      hub.sleep.back = none ∧ hub.ticking = true ∧ (sleepMaster (some (prop9 1)) false).sleep.back = none ∧
      { hub.sleep with back := some .run }.back ≠ none) ∧
    (let s := member 2 (some (prop9 1))
     s.sleep.woke = none ∧ s.sleep.toSend = false ∧ s.sleep.mine = none ∧ ({ s with sleep := { s.sleep with woke := some 1 } } : State).sleep.woke ≠ none ∧
      ({ s with sleep := { s.sleep with toSend := true } } : State).sleep.toSend = true ∧ (sleepMaster (some (prop9 1)) false).sleep.toSend = false ∧
      (∀ e ∈ ((sleepMaster (some (prop9 1)) false).odBegun udp).sleep.votes, e.2.1 = 0)) ∧
    hub.numPasses udp 0xB03201 1 = true := by decide +kernel

/-- A hub in Doze, with what its AON island holds. -/
def dozing (d : DozeSt) : State := { ((State.reset.wr 0xB01000 1).wr 0xB01003 5) with mode := .doze, doze := d }

theorem wit_DozeIsEnteredAndLeft :
    (let s := { member 4 (some ⟨1, 0, 0, 9⟩) with mode := .hold }
     s.sleep.prop = some ⟨1, 0, 0, 9⟩ ∧ s.ticking = true ∧ s.rd 0xB00007 = 4 ∧ s.mode = .hold ∧ (0 : Nat) ≤ s.cycle ∧ s.rd 0xB02002 + 1 < 2 ^ 32 ∧
      (member 3 (some ⟨1, 0, 0, 9⟩)).rd 0xB00007 ≠ 4) ∧
    ((dozing {}).mode = .doze ∧ hub.mode ≠ .doze) ∧
    (∀ code ∈ [1, 2, 3, 4, 5, 6, 7, 8], (dozing { armed := true, fell := 7 }).wakeEnabled code = true ∧ (dozing { armed := true, fell := 7 }).doze.woken = false ∧
      (dozing { armed := true, fell := 7 }).doze.inh = false ∧ (dozing { armed := true, fell := 7 }).doze.fell = 7) ∧
    ((dozing {}).wakeEnabled 4 = false ∧ (dozing {}).wakeEnabled 9 = false ∧ (dozing {}).doze.fell ≠ 7) ∧
    ((dozing { woken := true }).wakeEnabled 1 = true ∧ (dozing { woken := true }).doze.fell ≠ 7 ∧ (dozing { woken := true }).doze.woken = true ∧ (dozing { woken := true }).doze.inh = false ∧ (dozing { woken := true, fell := 7 }).doze.fell = 7) ∧
    (∀ st ∈ [0, 2, 3, 4], ((member st none).wr 0xB01000 1).wakeEnabled 1 = true ∧ ((member st none).wr 0xB01000 1).rd 0xB00007 = st ∧
      (member st none).wakeEnabled 2 = true ∧ (member st none).sleep.mine = none) := by decide +kernel

/-- A section table entry (R427). -/
def sectionBytes (kind node off len ver : Nat) : List Byte := natLE 2 kind ++ natLE 2 node ++ natLE 4 off ++ natLE 4 len ++ natLE 4 ver ++ zeros 16

/-- A container's header with a count of sections, its signature left zero. -/
def headerBytes (n total : Nat) : List Byte := natLE 4 0x52454F53 ++ [1, 1] ++ natLE 2 n ++ natLE 4 total ++ zeros 116

/-- A container with one section of a kind that holds `data`. -/
def container (kind node ver : Nat) (data : List Byte) : List Byte :=
  headerBytes 1 (160 + data.length) ++ sectionBytes kind node 160 data.length ver ++ data

/-- A hub in Configure with a container staged, in state `st` of C.020.04. -/
def staged (l : List Byte) (st : Nat) : State :=
  let s := (cfg.wr 0xC02004 st).wr 0x000005 5
  { s with update := { s.update with staging := l, total := l.length + 4 } }

/-- A configuration set of one entry: object 2.040.01 or one that does not exist. -/
def setBytes (o : Nat) : List Byte := natBE 3 o ++ natBE 2 1 ++ [7]

/-- A hub with that set staged and verified is asked to apply it: its one section, its one entry, and the index of the entry that fails. -/
def setMeets (o : Nat) (k : Option Nat) : Bool :=
  let l := container 3 0x3FF 0x100 (setBytes o)
  let b := (staged l 3).odBegun udp
  let e : SetEntry := ((o, [7]), false)
  (staged l 3).numPasses udp 0xC02100 3 && decide (b.configSections l = [⟨3, 0x3FF, 160, 6, 0x100, 0⟩]) &&
    decide ([(⟨3, 0x3FF, 160, 6, 0x100, 0⟩ : SectionRec)].filterMap b.sectionEntries = [([e], [])]) && decide ([e].findIdx? b.entryFails = k)

theorem wit_ContainersAreStagedVerifiedAndPromoted :
    (cfg.numPasses udp 0xC02000 128 = true ∧ (cfg.odBegun udp).inBrace = false ∧ (cfg.odBegun udp).update.promoting = 0 ∧
      (braced .configure).numPasses udp 0xC02000 128 = true ∧ ((braced .configure).odBegun udp).inBrace = true ∧
      (let s := { cfg with update := { cfg.update with promoting := 1 } }
       s.numPasses udp 0xC02000 128 = true ∧ (s.odBegun udp).update.promoting ≠ 0 ∧ s.numPasses udp 0xC02100 1 = true ∧ s.numPasses udp 0xC02100 2 = true)) ∧
    (let s := staged [1, 2, 3] 1
     s.odPasses udp 0xC02001 (natBE 4 3 ++ [4, 5, 6, 7]) = true ∧ beField (natBE 4 3 ++ [4, 5, 6, 7]) 0 4 = (s.odBegun udp).update.staging.length ∧
      (s.odBegun udp).update.staging.length + 4 ≤ (s.odBegun udp).update.total ∧ s.odPasses udp 0xC02001 (natBE 4 3 ++ [4, 5, 6, 7, 8]) = true ∧
      s.odPasses udp 0xC02001 (natBE 4 2 ++ [4]) = true ∧ (s.odBegun udp).inBrace = false) ∧
    (cfg.numPasses udp 0xC02003 1 = true ∧ (staged (container 1 0 1 [9]) 2).odServed = true ∧ (staged (container 1 0 1 [9]) 2).rd 0xC02004 = 2 ∧
      leField (container 1 0 1 [9]) 0 4 = 0x52454F53 ∧ cfg.rd 0xC02004 ≠ 2) ∧
    ((staged (container 1 0 1 [9]) 3).numPasses udp 0xC02100 1 = true ∧ firmwareSection (container 1 0 1 [9]) = some ⟨1, 0, 160, 1, 1, 0⟩ ∧
      ((staged (container 1 0 1 [9]) 3).odBegun udp).rd 0xC02004 = 3 ∧ firmwareSection (container 2 5 1 [9]) = none) ∧
    ((staged (container 2 5 1 [9]) 3).numPasses udp 0xC02100 2 = true ∧ ((staged (container 2 5 1 [9]) 3).odBegun udp).stagingMode = true ∧
      ((staged (container 2 5 1 [9]) 3).odBegun udp).scheduleSection (container 2 5 1 [9]) = some ⟨2, 5, 160, 1, 1, 0⟩ ∧
      ((staged (container 2 5 1 [9]) 3).odBegun udp).scheduleSection (container 1 0 1 [9]) = none ∧
      ((staged (container 2 5 1 [9]) 3).odBegun udp).rd 0x400001 ≠ 4 ∧ lab.numReaches udp 0xC02100 2 = true ∧ (lab.odBegun udp).stagingMode = false ∧
      ((staged (container 2 5 1 [9]) 3).wr 0x400001 4).numPasses udp 0xC02100 2 = true) ∧
    (∀ o ∈ [0x204001, 0xF00000], setMeets o (if o = 0x204001 then none else some 0) = true) ∧
    (let s := staged (container 3 0x3FF 0x100 (setBytes 0x204001)) 3
     (s.odBegun udp).storeBarred 0x204001 = false ∧ (s.odBegun udp).storeBarred 0xF00000 = false) ∧
    (let s := staged (container 3 0x3FF 0x100 (setBytes 0x204001)) 3
     let t := { s with sleep := { s.sleep with back := some .configure } }
     t.numPasses udp 0xC02100 3 = true ∧ (t.odBegun udp).mode = .configure ∧ (t.odBegun udp).storeBarred 0x204001 = true ∧
      (setEntries 7 (setBytes 0x204001)) = [(0x204001, [7])]) ∧
    (let s := staged (container 3 0x3FF 0xFF00 (setBytes 0x204001)) 3
     s.numPasses udp 0xC02100 3 = true ∧ (s.odBegun udp).configSections (container 3 0x3FF 0xFF00 (setBytes 0x204001)) ≠ [] ∧
      ((s.odBegun udp).configSections (container 3 0x3FF 0xFF00 (setBytes 0x204001))).filterMap (s.odBegun udp).sectionEntries = []) ∧
    (hub.numReaches udp 0xC02100 3 = true ∧ (hub.odBegun udp).mode ≠ .configure ∧ cfg.numPasses udp 0xC02100 3 = true ∧
      (cfg.odBegun udp).configSections (cfg.odBegun udp).update.staging = []) ∧
    (∀ k ∈ [0, 1, 2], (let s := { cfg with update := { cfg.update with promoting := k } }
      s.odServed = true ∧ s.inBrace = false ∧ s.update.promoting = k ∧ s.rd 0x400001 ≠ 4 ∧ s.update.governing.2.seq + 1 < 2 ^ 32)) := by (repeat' apply And.intro) <;> decide +kernel

/-- A hub in Configure with the Keeper handover (feature 96), its firmware on trial or not, in a state of the handover. -/
def trialOf (trial started : Bool) (x : Handover) : State :=
  let s := cfg.wr 0x001303 1
  { s with update := { s.update with bootA := BootRec.bytes { trial := trial, started := started }, handover := x } }

/-- A hub in Configure, node 5, that names a part in C.050.00, isolated or not. -/
def partAt (part : Nat) (iso : Bool) : State :=
  let s := cfg.wr 0xC05000 part
  if part < 0x80 then s.wr 0xC05100 (if iso then 2 ^ part else 0) else s.wr 0xC05101 (if iso then 2 ^ (part - 0x80) else 0)

theorem wit_TrialsHandoversIsolationAndTests :
    (cfg.numPasses udp 0xC03000 1 = true ∧ (cfg.odBegun udp).feature 96 = false ∧
      (∀ x ∈ [Handover.idle, .starting, .trial], (trialOf true false x).numPasses udp 0xC03000 1 = true ∧ ((trialOf true false x).odBegun udp).feature 96 = true ∧
        ((trialOf true false x).odBegun udp).update.handover = x ∧ ((trialOf true false x).odBegun udp).bootNow.trial = true ∧
        ((trialOf true false x).odBegun udp).bootNow.started = false ∧ ((trialOf true false x).odBegun udp).sleep.back = none) ∧
      ((trialOf false false .idle).odBegun udp).bootNow.trial = false ∧
      (let s := { trialOf true false .idle with sleep := { cfg.sleep with back := some .run } }
       s.numPasses udp 0xC03000 1 = true ∧ (s.odBegun udp).sleep.back ≠ none)) ∧
    ((trialOf true true .starting).odServed = true ∧ (trialOf true true .trial).update.handover = .trial ∧ (trialOf true true .starting).update.handover = .starting ∧
      (trialOf true true .starting).ticking = true ∧ ({ trialOf true true .starting with seq := {} } : State).ticking = false ∧
      ({ trialOf true true .trial with seq := {} } : State).odServed = true ∧ (trialOf true true .trial).update.governing.2.seq + 4 < 2 ^ 32 ∧
      (∀ u ∈ [0, 1], ∀ k ∈ [false, true], (trialOf true true (.paused u k)).update.handover = .paused u k) ∧ cfg.nowNs = 0) ∧
    ((trialOf true true .idle).numPasses udp 0xC03001 1 = true ∧ ((trialOf true true .idle).odBegun udp).bootNow.started = true ∧ ((trialOf true true .idle).odBegun udp).onTrial = true ∧ (trialOf true true .idle).onTrial = true ∧
      (let s := trialOf true true .starting
       ({ s with update := { s.update with runB := true } } : State).onTrial = false) ∧ cfg.onTrial = false ∧
      (trialOf true true .idle).stagingMode = true ∧ (trialOf true true .idle).bootNow.trial = true ∧ cfg.bootNow.trial = false) ∧
    (∀ part ∈ [0x10, 0x27, 0x29, 0x87], ∀ iso ∈ [true, false], (partAt part iso).numPasses udp 0xC05001 2 = true ∧ (partAt part iso).numPasses udp 0xC05002 0 = true ∧
      (partAt part iso).numPasses udp 0xC05001 1 = true ∧ ((partAt part iso).odBegun udp).rd 0xC05000 = part ∧ partCode part = true ∧
      ((partAt part iso).odBegun udp).stagingMode = true ∧ ((partAt part iso).odBegun udp).partIsolated part = iso ∧
      ((partAt part iso).odBegun udp).sleep.back = none ∧ part ∉ ((partAt part iso).odBegun udp).repair.owesBist ∧
      mfind ((partAt part iso).odBegun udp).repair.isolating part = none ∧ ((partAt part iso).odBegun udp).cycle + 2 ≤ 2 ∧
      (∀ v ∈ [1, 2], (partAt part iso).numPasses udp 0xC05003 v = true) ∧ part ∉ ((partAt part iso).odBegun udp).repair.testing) ∧
    (partCode 0x14 = false ∧ (partAt 0x14 false).numPasses udp 0xC05001 0 = true ∧ lab.numReaches udp 0xC05001 0 = true ∧ lab.numReaches udp 0xC05002 0 = true ∧
      (∀ v ∈ [1, 2], lab.numReaches udp 0xC05003 v = true ∧ (partAt 0x14 true).numPasses udp 0xC05003 v = true) ∧ (lab.odBegun udp).stagingMode = false) ∧
    (let s := { partAt 0x10 true with repair := { cfg.repair with owesBist := [0x10], testing := [0x10, 0x20] } }
     (0x10 : Nat) ∈ (s.odBegun udp).repair.owesBist ∧ (0x10 : Nat) ∈ (s.odBegun udp).repair.testing ∧ s.repair.testing = 0x10 :: [0x20] ∧ s.odServed = true ∧
      s.numPasses udp 0xC05002 0 = true ∧ s.numPasses udp 0xC05003 2 = true) ∧
    cfg.repair.testing = [] := by (repeat' apply And.intro) <;> decide +kernel

/-- A message that reads object 0.000.00, and one that writes 2.040.01. -/
def readMessage : List Byte := odHeader 1 0 0x000000 0 0 0

/-- See `readMessage`. -/
def writeMessage : List Byte := odHeader 2 0 0x204001 0 1 0 ++ [7]

/-- A waiting access of the ring. -/
def waiting : OdAccessReq := ⟨⟨.ring, 9, 1, 0, 0, false, none⟩, .read, 0, []⟩

/-- A hub in Configure with `n` accesses in its queue. -/
def busyOd (n : Nat) : State := { cfg with od := { cfg.od with queue := List.replicate n waiting } }

/-- The bridge up in Configure, with a request in the first slot of the mailbox, `k` responses not taken. -/
def mailed (k : Nat) : State :=
  { cfg with
    bridge := { cfg.bridge with linkUp := true }
    od := { cfg.od with reqMem := memWrite [] 0 (natBE 2 77 ++ zeros 2 ++ readMessage), rspWp := k } }

theorem wit_OdMessagesArrive :
    ((∀ n ∈ [0, 63, 64], (busyOd n).odServed = true ∧ (busyOd n).ticking = true ∧ (busyOd n).od.queue.length = n ∧ (busyOd n).odHeld = n ∧ (busyOd n).od.odd = []) ∧
      (∀ m ∈ [readMessage, writeMessage], frameWhole (frameFor 5 5 0 1 m) = true ∧ (frameFor 5 5 0 1 m).len = (frameFor 5 5 0 1 m).payload.length ∧
        odFormOk m = true ∧ (opOf (odParse m).op).isSome = true) ∧
      (∀ m ∈ [odHeader 9 0 0 0 0 0, odHeader 1 0 0 0 1 0], frameWhole (frameFor 5 5 0 1 m) = true ∧ m.length = 16 ∧ oddMessage m = true) ∧
      odFormOk (odHeader 1 0 0 0 1 0) = false) ∧
    ((mailed 0).odServed = true ∧ (mailed 0).hostReaches = true ∧ (mailed 0).od.reqRp = 0 ∧ odFormOk ((mailed 0).slotMessage 0) = true ∧
      opOf (odParse ((mailed 0).slotMessage 0)).op = some .read ∧ ((mailed 7).od.rspWp + 16 - (mailed 7).od.rspRp) % 16 + (mailed 7).windowQueued < 8) ∧
    (8 < (9 % 16 + 16 - (mailed 0).od.reqRp) % 16 ∧ ((mailed 7).od.rspWp + 16 - (mailed 7).od.rspRp) % 16 < (8 % 16 + 16 - (mailed 7).od.rspRp) % 16 ∧
      (7 % 16 + 16 - (mailed 7).od.rspRp) % 16 ≤ ((mailed 7).od.rspWp + 16 - (mailed 7).od.rspRp) % 16 ∧ (mailed 7).od.reqRp = (mailed 7).od.reqWp) ∧
    ((cfg.wr 0x003001 1).ipOn 5 = true ∧ (cfg.wr 0x003001 0).ipOn 5 = false ∧ cfg.rd 0x003000 ≠ 1) ∧
    ((natBE 4 0 ++ readMessage).length = 20 ∧ odFormOk ((natBE 4 0 ++ readMessage).drop 4) = true ∧
      opOf (odParse ((natBE 4 0 ++ readMessage).drop 4)).op = some .read ∧ ([1, 2, 3] : List Byte).length < 20) ∧
    (let f (b : Byte) : CanFrame := ⟨true, 5, true, false, false, false, b :: zeros 63, 0⟩
     let s := serviceHub .run
     s.odServed = true ∧ s.storesFrames 0 = false ∧ (s.wr (xcvrObj 0 0) 0).storesFrames 0 = true ∧ (s.wr (xcvrObj 0 0) 0).serviceRequest (f 0x40) = true ∧
      (beField (f 0x40).data 0 1).testBit 7 = false ∧ (beField (f 0x40).data 0 1).testBit 6 = true ∧ (beField (f 0x01).data 0 1).testBit 6 = false ∧
      ({ s with od := { s.od with asm := some (1, [1]) } } : State).od.asm = some (1, [1])) ∧
    (cfg.od.asm = none ∧ ({ cfg with od := { cfg.od with asm := some (1, [1]) } } : State).od.asm ≠ none) ∧
    (let s := { cfg with stores := [(0x204001, [7])] }
     mfind s.stores 0x204001 = some [7] ∧ ((objRow 0x204001).map (fun r => r.type.isBytes)) = some false ∧ s.inBrace = false ∧ (braced .configure).inBrace = true ∧
      0x204001 ∉ s.update.setStores ∧ 0x204001 ∈ ({ s with update := { s.update with setStores := [0x204001] } } : State).update.setStores) := by
  decide +kernel

theorem wit_OdAccessesAreExecuted :
    (cfg.odReady ⟨udp, .read, 0x204001, []⟩ = true ∧ cfg.odTaken.authError udp.route 1 0x204001 udp.auth [] = 0 ∧ cfg.mode ≠ .test ∧
      (cfg.odBegun udp).accessError .read 0x204001 [] = 0 ∧ (cfg.odBegun udp).accessError .read 0x0FFFFF [] ≠ 0) ∧
    (cfg.odReady ⟨udp, .describe, 0x204001, []⟩ = true ∧ cfg.odTaken.authError udp.route 3 0x204001 udp.auth [] = 0 ∧
      (cfg.odBegun udp).accessError .describe 0x204001 [] = 0 ∧ (objRow 0x204001).isSome = true ∧ (cfg.odBegun udp).accessError .describe 0x0FFFFF [] ≠ 0) ∧
    (cfg.odReady ⟨udp, .next, 0x0FFFFF, []⟩ = true ∧ cfg.odTaken.authError udp.route 4 0x0FFFFF udp.auth [] = 0 ∧
      (cfg.odBegun udp).accessError .next 0x204001 [] = 0) ∧
    (∀ e ∈ [(0x204001, [7]), (0x102000, natBE 2 3000), (0x208100, natBE 2 100)], ∃ o ∈ [e.1], (cfg.wr 0x001300 4).odPasses udp o e.2 = true ∧
      ((objRow o).map (fun r => r.type.isBytes)) = some false ∧ ownRow o = false ∧ o &&& 0xFF0FFF ≠ 0x200005 ∧ o &&& 0xFFF0FF ≠ 0x803001 ∧
      o ≠ 0x610000 ∧ o / 2 ^ 12 ≠ 0xA18 ∧ dataCell o = decide (o = 0x204001)) ∧
    ((cfg.wr 0x002000 0xFF).odReady ⟨udp, .write, 0x204001, [7]⟩ = true ∧ (cfg.wr 0x002000 0xFF).odTaken.authNeeded udp.route 2 0x204001 = true) ∧
    ((busyOd 1).odReady ⟨udp, .read, 0x204001, []⟩ = false ∧ (busyOd 1).odReady waiting = true ∧ lab.odReady ⟨udp, .read, 0xF00000, []⟩ = true ∧
      lab.mode = .test ∧ lab.odTaken.authError udp.route (opCode .read) 0xF00000 udp.auth [] = 0) := by decide +kernel

/-- Some CMAC is not that of an access, and one is: then the access passes. -/
theorem wit_AuthenticatedAccess (s : State) (o : Nat) (v : List Byte) :
    (∃ c ∈ [0, 1], s.odMac 0 0 (odHeader 2 1 o 0 v.length 1 ++ v) ≠ c) ∧
    (let t := (cfg.wrB 0x002100 (natBE 16 1)).odTaken
     t.authError .udp 2 o (some ⟨0, 1, t.odMac 0 0 (odHeader 2 1 o 0 v.length 1 ++ v)⟩) v = 0) := by
  refine ⟨?_, ?_⟩
  · by_cases h : s.odMac 0 0 (odHeader 2 1 o 0 v.length 1 ++ v) = 0
    · exact ⟨1, by simp, by simp [h]⟩
    · exact ⟨0, by simp, h⟩
  · have h1 : (1 : Byte) ∈ (cfg.wrB 0x002100 (natBE 16 1)).odTaken.rdB 0x002100 := by decide +kernel
    have h2 : (cfg.wrB 0x002100 (natBE 16 1)).odTaken.rd 0x002110 = 0 := by decide +kernel
    simp [State.authError, h2]
    exact ⟨1, h1, by decide⟩

theorem wit_KeysAreNeverRead : ∀ k < 4, cfg.odReady ⟨udp, .read, 0x002100 + k, []⟩ = true ∧ cfg.odTaken.authError udp.route 1 (0x002100 + k) udp.auth [] = 0 := by
  decide +kernel

theorem wit_FeatureCommitDecides :
    (∀ s ∈ [(cfg.wr 0x001103 (2 ^ 31)).wr 0x001003 0, (cfg.wr 0x001103 (2 ^ 31)).wr 0x001003 (2 ^ 31)], s.numPasses udp 0x001200 1 = true ∧
      (s.odBegun udp).mode = .configure ∧ ((s.odBegun udp).rd 0x001103).testBit 31 = true) ∧
    (hub.numReaches udp 0x001200 1 = true ∧ (hub.odBegun udp).mode ≠ .configure) ∧
    ((((cfg.wr 0x001103 (2 ^ 31)).wr 0x001003 0).odBegun udp).rd 0x001003).testBit 31 = false ∧
    (∀ w < 4, ((((cfg.wr 0x001103 (2 ^ 31)).wr 0x001003 (2 ^ 31)).odBegun udp).rd (0x001100 + w)) &&&
      ((((cfg.wr 0x001103 (2 ^ 31)).wr 0x001003 (2 ^ 31)).odBegun udp).rd (0x001000 + w)) =
        (((cfg.wr 0x001103 (2 ^ 31)).wr 0x001003 (2 ^ 31)).odBegun udp).rd (0x001100 + w)) := by decide +kernel

theorem wit_SwapsAreWithdrawn : ∀ q ∈ [0, 127], ∀ v ∈ [1, 2], (hub.wr (pawnObj q 0x23) v).numPasses udp (pawnObj q 0x22) 1 = true ∧
    ((hub.wr (pawnObj q 0x23) v).odBegun udp).rd (pawnObj q 0x23) = v := by decide +kernel

/-- A legal word is taken in a bank that names the cluster in a GO, in Run and in Test; the named clause of the statement holds of cluster 7 and of no other. -/
theorem wit_InjectionIsRefusedInService : ∀ m ∈ [Mode.run, .test],
    (let s := (goBank m 7).wr 0x001302 4
     s.numPasses udp (pawnObj 127 0x25) (word 5 0 7) = true ∧ (s.odBegun udp).mode = m ∧ illegalWord (word 5 0 7) = false ∧ ((s.odBegun udp).pawn 127).inj = none ∧
      (∃ x ∈ (s.odBegun udp).moves, x.act = 0x04 ∧ x.a.testBit (16 + 127 / 16) = true) ∧ (s.odBegun udp).partIsolated (0x20 + 127 / 16) = false ∧
      ∀ x ∈ (s.odBegun udp).moves, x.a.testBit (16 + 0) = false) := by decide +kernel

theorem wit_InvalidStoresTakeDefaults :
    booting.mode = .bringUp ∧ booting.rd 0x104001 = 0 ∧ booting.rd 0x104000 = 1 ∧ booting.thirdWdr = false ∧ goodHub.flashOk = true ∧
      (if (bootChoice booting.bootNow).1 then goodHub.sigB && booting.update.fwB.full else goodHub.sigA && booting.update.fwA.full) = true ∧ goodHub.bistBad = [] ∧ 8 ≤ goodHub.upTo ∧
      ({ goodHub with storeBad := [0x204001] } : BringUpFindings).storeBad ≠ [] ∧ objPersist 0x204001 = .n := by decide +kernel

theorem wit_ChannelCommandsTurnChannelsOnAndOff : ∀ c ∈ [0, 7, 8], ∀ v ∈ [0, 1],
    cfg.numPasses udp (chanObj c 1 0xB) v = true ∧ hub.numPasses udp (chanObj c 1 0xB) v = true ∧ (cfg.odBegun udp).mode = .configure ∧
      (hub.odBegun udp).mode ≠ .hold ∧ (hub.odBegun udp).mode ≠ .configure ∧ ((chanAt c 3).odBegun udp).gateOn c = true := by decide +kernel

/-- A step from a queue of one command, with images and buffers in their forms. -/
theorem wit_StoresKeepTheirForms : (∃ t, step ({ hub with pending := [.beatStart] } : State) = .next t) ∧ queueOk ({ hub with pending := [.beatStart] } : State) = true ∧
    imagesOk ({ hub with pending := [.beatStart] } : State) = true ∧ recordsOk ({ hub with pending := [.beatStart] } : State) = true := by
  exact ⟨⟨_, rfl⟩, by decide +kernel, by decide +kernel, by decide +kernel⟩

/-- A queue of well-formed commands from which a step takes the first. -/
theorem wit_CommandsAreTakenInOrder : (∃ t, step ({ hub with pending := [.halt 3, .nop 3] } : State) = .next t) ∧
    queueOk ({ hub with pending := [.halt 3, .nop 3] } : State) = true := ⟨⟨_, rfl⟩, by decide +kernel⟩

/-! ## Ill-formed commands: one for each check -/

/-- A well-formed frame. -/
def okFrame : Frame := ⟨1, 2, 3, false, 4, 0, 8, 0, 1, 0, 0, 0, [], 0, 0⟩
/-- A well-formed segment of one payload block. -/
def okSegment : Segment := ⟨1, 2, 3, 1, 4, 0, [.fresh, .late], [0, 1], 0, 8, 0⟩
/-- A well-formed marker. -/
def okMarker : Marker := ⟨1, 2, 1, 1000, 5, ⟨6, 7, 0⟩, 8, -9, 10⟩
/-- A well-formed express event. -/
def okExpress : Express := ⟨1, 2, 3, 4⟩
/-- A well-formed WRAP block. -/
def okWrap : WrapBlock := ⟨1, .e, 2, 3, 4, 5⟩
/-- What a host configures. -/
def okPcie : PcieCommand := ⟨true, false, false⟩
/-- See `okPcie`. -/
def okMsix : MsixControl := ⟨true, false⟩
/-- A well-formed CAN frame. -/
def okCan : CanFrame := ⟨true, 5, false, false, false, false, [1], 0⟩

theorem test_well_formed :
    okFrame.wf = true ∧ okSegment.wf = true ∧ okMarker.wf = true ∧ okExpress.wf = true ∧ okWrap.wf = true ∧ okCan.wf = true ∧ udp.wf = true := by decide

theorem test_ill_formed_frames :
    ([{ okFrame with dst := 1024 }, { okFrame with src := 1024 }, { okFrame with cls := 8 }, { okFrame with flow := 2 ^ 20 }, { okFrame with type := 16 },
      { okFrame with hops := 256 }, { okFrame with addr := 2 ^ 64 }, { okFrame with tag := 65536 }, { okFrame with len := 2049 },
      { okFrame with outcome := 16 }, { okFrame with fork := 4096 }, { okFrame with payload := zeros 2049 }, { okFrame with hcheck := 65536 },
      { okFrame with fcheck := 2 ^ 32 }] : List Frame).all (fun f => !f.wf) = true := by decide +kernel

theorem test_ill_formed_segments :
    ([{ okSegment with num := 4096 }, { okSegment with tag := 256 }, { okSegment with origin := 1024 }, { okSegment with plen := 0, states := [], words := [] },
      { okSegment with plen := 1025, states := List.replicate 2050 .fresh, words := List.replicate 2050 0 },
      { okSegment with endNode := 1024 }, { okSegment with expected := 256 }, { okSegment with states := [.fresh] }, { okSegment with words := [0] },
      { okSegment with check := 2 ^ 32 }, { okSegment with hops := 256 }, { okSegment with consumed := 256 }] : List Segment).all (fun g => !g.wf) = true := by
  decide +kernel

theorem test_ill_formed_markers :
    ([{ okMarker with master := 1024 }, { okMarker with tag := 256 }, { okMarker with timeState := 4 }, { okMarker with cycleLen := 2 ^ 21 },
      { okMarker with cycle := 2 ^ 64 }, { okMarker with btime := ⟨2 ^ 48, 0, 0⟩ }, { okMarker with btime := ⟨0, 2 ^ 32, 0⟩ },
      { okMarker with btime := ⟨0, 0, 65536⟩ }, { okMarker with origin := 2 ^ 32 }, { okMarker with corr := -(2 ^ 63) - 1 },
      { okMarker with corr := 2 ^ 63 }, { okMarker with check := 2 ^ 32 }] : List Marker).all (fun m => !m.wf) = true := by decide +kernel

/-- The marker with nanoseconds out of range is well formed: its field holds it, and R288 counts it. -/
theorem test_marker_nanoseconds : ({ okMarker with btime := ⟨0, 1000000000, 0⟩ } : Marker).wf = true := by decide

theorem test_ill_formed_blocks :
    ([{ okExpress with event := 4096 }, { okExpress with source := 1024 }, { okExpress with time := 2 ^ 18 }, { okExpress with hops := 256 }] : List Express).all
      (fun x => !x.wf) = true ∧
    ([{ okWrap with node := 1024 }, { okWrap with tag := 256 }, { okWrap with reason := 256 }, { okWrap with hops := 256 }, { okWrap with seq := 256 }] :
      List WrapBlock).all (fun b => !b.wf) = true ∧
    ([⟨1024, .e, 0, 0⟩, ⟨0, .e, 16, 0⟩, ⟨0, .e, 0, 16⟩] : List Hello).all (fun b => !b.wf) = true ∧
    ([{ okCan with id := 2 ^ 29 }, { okCan with ide := false }, { okCan with data := zeros 9 }, { okCan with fdf := true, data := zeros 65 },
      { okCan with rtr := true, data := [1] }, { okCan with rtr := true, fdf := true, data := [] }, { okCan with rtr := true, data := [], rlen := 9 },
      { okCan with rlen := 1 }] : List CanFrame).all (fun f => !f.wf) = true ∧
    ([{ udp with peer := 2 ^ 144 }, { udp with tag := 65536 }, { udp with cls := 8 }, { udp with flow := 2 ^ 20 },
      { udp with auth := some ⟨0, 2 ^ 32, 0⟩ }, { udp with auth := some ⟨0, 0, 2 ^ 64⟩ }] : List OdHdr).all (fun h => !h.wf) = true ∧
    ([some (.frame { okFrame with dst := 1024 }), some (.segment 4096 0), some (.segment 0 256)] : List (Option Cut)).all (fun c => !cutWf c) = true ∧
    dataOptWf (some (zeros 4097)) = false := by decide +kernel

/-- A header that is not well formed. -/
def badHdr : OdHdr := { udp with tag := 65536 }
/-- A frame that is not. -/
def badFrame : Frame := { okFrame with dst := 1024 }
/-- A WRAP block that is not. -/
def badWrap : WrapBlock := { okWrap with node := 1024 }
/-- A cut segment that is not. -/
def badCut : Option Cut := some (.segment 4096 0)
/-- A payload longer than a frame's. -/
def badValue : List Byte := zeros 2049

theorem test_ill_formed_moves_and_events :
    ([.nopm 4096, .sample 4096, .apply 4096, .copy 4096, .go 4096, .gate 4096, .txobj 4096, .rxlatch 4096, .seal 4096, .mark 4096,
      .clockMonitorWindow 256 0 true, .clockMonitorWindow 0 65536 true, .vddcComparatorTrip 256, .temperatureRead false [], .blockLockLost .e 0 badCut,
      .alignReceived .e (2 ^ 32), .hello .e ⟨1024, .e, 0, 0⟩, .helloAck .e ⟨1024, .e, 0, 0⟩, .measureReq .e 256 0, .measureReq .e 0 (2 ^ 36),
      .measureRep .e 256 0 0, .measureRep .e 0 (2 ^ 36) 0, .path .e 65536 0, .path .e 0 65536, .idleTimeout .e badCut, .notice .e ⟨badWrap, none⟩,
      .notice .e ⟨okWrap, badCut⟩, .report .e badWrap, .unwrapReq .e badWrap, .unwrapAck .e badWrap, .markerReceived .e { okMarker with tag := 256 } 0 0,
      .markerReceived .e okMarker 2097152 0, .segmentReceived .e { okSegment with tag := 256 } 0,
      .expressReceived .e ⟨0, { okExpress with hops := 256 }, 0⟩ 0, .expressReceived .e ⟨0, okExpress, 0⟩ 256, .expressReceived .e ⟨0, okExpress, 13⟩ 0, .erroredBlock .e ⟨0, 4, 0⟩,
      .erroredBlock .e ⟨0, 0, 2 ^ 64⟩] :
      List Instr).all (fun c => !c.wf) = true := by decide +kernel

theorem test_ill_formed_od_commands :
    ([.beginStaging badHdr Bank.empty, .startLoadCheck badHdr, .switchAtCycle badHdr 0, .switchAtCycle udp (2 ^ 64), .withdrawSwitch badHdr,
      .clearLatchedFailures badHdr, .retrain badHdr .e, .clearCounters badHdr .e, .retryUnwrap badHdr, .epochTableUpdate badHdr 0 0,
      .epochTableUpdate udp (2 ^ 24) 0, .epochTableUpdate udp 0 (2 ^ 64), .tableBatchBegin badHdr, .tableBatchCommit badHdr, .tableBatchAbandon badHdr,
      .clearSwitchCounters badHdr, .requestCastling badHdr, .commandCastling badHdr 0, .commandCastling udp (2 ^ 16), .armSwap badHdr 0 0,
      .armSwap udp 0 (2 ^ 64), .withdrawSwap badHdr 0, .inject badHdr 0 0, .inject udp 0 (2 ^ 32), .manualGo badHdr 0 0, .manualGo udp 0 (2 ^ 32),
      .slotMapWrite badHdr 0 0 [], .slotMapWrite udp 0 256 [], .slotMapWrite udp 0 0 badValue, .pinConfigWrite badHdr 0 0,
      .pinConfigWrite udp 0 (2 ^ 32), .holdLatchesWrite badHdr 0 0, .holdLatchesWrite udp 0 (2 ^ 16), .reEnableBank badHdr 0, .releaseAll badHdr,
      .busOffRecover badHdr 0, .busOffRecoverAbandon badHdr 0, .controllerModeWrite badHdr 0 0, .controllerModeWrite udp 0 256,
      .clearBusCounters badHdr 0, .transceiverStateWrite badHdr 0 0, .transceiverStateWrite udp 0 256, .clearWakeFlag badHdr 0,
      .setFabricTime badHdr 0, .setFabricTime udp (2 ^ 96), .acceptNextJump badHdr, .candidateReturn badHdr 0, .candidateReturn udp 256,
      .sealArmLocal badHdr, .sealArmFabric badHdr, .sealDisarmLocal badHdr, .sealDisarmFabric badHdr] : List Instr).all (fun c => !c.wf) = true ∧
    ([.odRead badHdr 0 [], .odRead udp (2 ^ 24) [], .odRead udp 0 badValue, .odWrite badHdr 0 [], .odWrite udp (2 ^ 24) [], .odWrite udp 0 badValue,
      .odDescribe badHdr 0 [], .odDescribe udp (2 ^ 24) [], .odDescribe udp 0 badValue, .odNext badHdr 0 [], .odNext udp (2 ^ 24) [],
      .odNext udp 0 badValue, .featureCommit badHdr, .windowCommit badHdr, .clearBridgeCounters badHdr, .clearFault badHdr 0 false, .channelOn badHdr 0,
      .channelOff badHdr 0, .proposeSleep badHdr, .cancelSleepProposal badHdr, .clearFlags badHdr, .modeRequestBringUp badHdr, .modeRequestTest badHdr,
      .modeRequestConfigure badHdr, .modeRequestRun badHdr, .modeRequestHold badHdr, .warmReset badHdr, .beginContainerStaging badHdr 0,
      .beginContainerStaging udp (2 ^ 32), .stagingChunk badHdr [], .stagingChunk udp badValue, .verify badHdr, .promoteFirmware badHdr,
      .promoteSchedule badHdr, .promoteConfiguration badHdr, .keeperHandover badHdr, .confirmFirmware badHdr, .isolateAtCycle badHdr 0,
      .isolateAtCycle udp (2 ^ 64), .returnAtCycle badHdr 0, .returnAtCycle udp (2 ^ 64), .testBist badHdr, .testIrstBist badHdr,
      .journalTailWrite badHdr 0, .journalTailWrite udp (2 ^ 32), .releaseSlot badHdr 0] : List Instr).all (fun c => !c.wf) = true := by decide +kernel

theorem test_ill_formed_traffic :
    ([.frameIngress 9 okFrame, .frameIngress 0 badFrame, .egressSelect 9 0, .egressSelect 0 32, .fenceEnd 1024, .failureReport badFrame, .segShort badValue,
      .fabricPostedWrite badFrame, .fabricReadRequest badFrame, .fabricAcknowledgedWrite badFrame, .writeAcknowledgement badFrame, .ethernetTunnel badFrame,
      .heartbeat .e badValue, .mirror .e badValue, .pairStatus badValue, .arbiterBeacon badValue, .grant badValue, .grantAck badValue, .fifoPortPop badFrame,
      .fifoPortWrite badFrame, .fifoPortWriteEnd badFrame, .instructionShadowWrite badFrame, .pinEdge 0 32 true, .vioMeasure 0 65536,
      .requestTransmission 0 129, .abortTransmission 0 129, .statusReadClear 0 129, .frameStored 0 { okCan with rlen := 1 } 0 0,
      .frameStored 0 okCan 0 32, .sealArm badValue, .sealDisarm badValue, .sealInEdge 32, .ptpEventMessage true 2097152, .odRequestFrame badFrame,
      .mailboxRequest 16, .mailboxResponseRelease 16, .odDatagram ⟨65536, 0⟩ [], .odDatagram ⟨0, 2 ^ 144⟩ [], .odDatagram ⟨0, 0⟩ (zeros 2053), .serviceChannelFrame { okCan with rlen := 1 },
      .flashStore (2 ^ 24), .frameNotAccepted 0 { okCan with rlen := 1 }] : List Instr).all (fun c => !c.wf) = true ∧
    ([.hostRead false (2 ^ 64) 0 0, .hostRead false 0 4097 0, .hostRead false 0 0 65536, .readResponse badFrame, .readHoldTimeout 65536, .hostWrite false (2 ^ 64) [],
      .hostWrite false 0 (zeros 4097), .fastWindowAccess (2 ^ 64) 0 0 none, .fastWindowAccess 0 4097 0 none, .fastWindowAccess 0 0 65536 none,
      .fastWindowAccess 0 0 0 (some (zeros 4097)), .fabricHostRequest badFrame, .hostCompletion 65536 0 false [], .hostCompletion 0 8 false [],
      .hostCompletion 0 0 false badValue, .prefetchLifeExpiry 16, .acknowledgementTimeout 65536, .completionTimeout 65536,
      .pcieLinkUp 5 0 okPcie okMsix 0 0 0, .pcieLinkUp 0 5 okPcie okMsix 0 0 0, .pcieLinkUp 0 0 okPcie okMsix 4097 0 0,
      .pcieLinkUp 0 0 okPcie okMsix 0 4097 0, .pcieLinkUp 0 0 okPcie okMsix 0 0 250000001, .bringUp { goodHub with upTo := 9 }] : List Instr).all (fun c => !c.wf) = true ∧
    ([.supplyWarning 256, .warningLeft 256, .supplyResetLevel 256, .resetLevelLeft 256, .vddcComparatorRecovery 256, .channelStart 0 (2 ^ 32) ⟨0, false⟩,
      .channelStart 0 0 ⟨2 ^ 32, false⟩, .thermalModelTrip 0 (2 ^ 32), .diodeOverTemperature 0 (2 ^ 32), .sleepPropose badValue false, .sleepVote badValue,
      .sleepCommit badValue, .sleepCancel badValue, .wakeSource 256 false, .braceEnd (2 ^ 32), .journalRecordPosted 256, .journalFwd badValue,
      .snapshotCollectionTimeout 0 (2 ^ 32), .incomingCoreReady true 65536] : List Instr).all (fun c => !c.wf) = true := by decide +kernel

/-! ## Values: single steps whose result the spec states -/

/-- The pawn after a word of it. -/
def ran (c : Fin 128 → Instr) (op cond operand : Nat) (p : PawnSt) : PawnSt := (after (c 3) (pawnAt 3 (word op cond operand) p)).pawn 3

/-- Check values of the three CRCs for the nine ASCII digits 1 to 9 (R90, R101, R110): polynomials 0x07, 0x1021 and the Castagnoli one. -/
theorem test_crc_check_values :
    crc8 [0x31, 0x32, 0x33, 0x34, 0x35, 0x36, 0x37, 0x38, 0x39] = 0xF4 ∧ crc16 [0x31, 0x32, 0x33, 0x34, 0x35, 0x36, 0x37, 0x38, 0x39] = 0x29B1 ∧
      crc32c [0x31, 0x32, 0x33, 0x34, 0x35, 0x36, 0x37, 0x38, 0x39] = 0xE3069283 := by decide +kernel

/-- R204: LDA takes the immediate, and the upper half of SH. -/
theorem test_lda : (ran .lda 0x05 0 0xBEEF {}).ca = 0xBEEF ∧ (ran .lda 0x05 2 0 { sh := 0x12345678 }).ca = 0x1234 := by decide +kernel

/-- R204: LDC into the upper half of CMP keeps the lower one. -/
theorem test_ldc : (ran .ldc 0x07 1 0xABCD { cmp := 0x11112222 }).cmp = 0xABCD2222 := by decide +kernel

/-- R203: DJA wraps below zero and jumps; from 1 it goes on and sets Z. -/
theorem test_dja_wraps : (ran .dja 0x03 0 9 { ca := 0 }).ca = 0xFFFF ∧ (ran .dja 0x03 0 9 { ca := 0 }).pc = 9 ∧ (ran .dja 0x03 0 9 { ca := 1 }).pc = 1 ∧
    (ran .dja 0x03 0 9 { ca := 1 }).z = true := by decide +kernel

/-- R203: the PC of a full program wraps from 63 to 0. -/
theorem test_nop_wraps : ((after (.nop 3) (hub.setPawn 3 { imem := [(63, 0)], pc := 63, run := .running })).pawn 3).pc = 0 := by decide +kernel

/-- R199, R203: CMPJ compares without sign. -/
theorem test_cmpj_unsigned : (ran .cmpj 0x0F 2 9 { sh := 0x80000000, cmp := 1 }).pc = 1 ∧ (ran .cmpj 0x0F 4 9 { sh := 0x80000000, cmp := 1 }).pc = 9 := by
  decide +kernel

/-- R203: SHO shifts left MSB first, right LSB first, and SC wraps at 32. -/
theorem test_sho : (ran .sho 0x0B 0 0 { sh := 0x80000001 }).sh = 2 ∧ (ran .sho 0x0B 1 0 { sh := 0x80000001 }).sh = 0x40000000 ∧
    (ran .sho 0x0B 0 0 { sc := 31 }).sc = 0 := by decide +kernel

/-- R203: PUSH writes SH and clears SC. -/
theorem test_push : (ran .push 0x0D 0 0 { sh := 5, sc := 7 }).inCount = 1 ∧ (ran .push 0x0D 0 0 { sh := 5, sc := 7 }).sc = 0 := by decide +kernel

/-- R205: one bit of CRC-16 of polynomial 0x1021. -/
theorem test_crcs : (ran .crcs 0x10 0 0x1021 { sh := 0x80000000, cmp := 0xAAAA0000 }).cmp = 0xAAAA1021 ∧
    (ran .crcs 0x10 0 0x1021 { sh := 0x80000000, cmp := 0xAAAA0000 }).z = false := by decide +kernel

/-- R211: a reserved opcode leaves PC at the word and faults the pawn. -/
theorem test_illegal : (ran .illegalInstruction 0x16 0 0 { sh := 5 }).run = .faulted ∧ (ran .illegalInstruction 0x16 0 0 { sh := 5 }).pc = 0 := by decide +kernel

/-- R195, R202, R212: the memory of a pawn holds HALT at reset, and its timeout registers their reset value. -/
theorem test_reset_pawn : (List.range 64).all (fun i => (State.reset.pawn 0).word i = BitVec.ofNat 32 (0x15 * 2 ^ 27)) = true ∧
    State.reset.rd (pawnObj 0 0x0A) = 0xFFFF := by decide +kernel

/-- The model's own queue (log entries 3 and 4): an empty one idles; the first command of the queue is taken. -/
theorem test_queue : (match step { hub with pending := [.halt 3, .nop 3] } with | .next t => t.pending == [.nop 3] | _ => false) = true ∧
    (match step State.reset with | .next t => t.pending == [] | _ => false) = true := by decide +kernel

end Sys2Proof.Tests
end

section
/-!
PROOFS. Single bits of a number set and cleared.
-/
namespace Sys2Proof.Machine

/-- Taking away a power of two that a number holds clears that bit and no other. -/
theorem testBit_sub_two_pow {v n : Nat} (h : v.testBit n = true) (j : Nat) :
    (v - 2 ^ n).testBit j = if j = n then false else v.testBit j := by
  have hr : v % 2 ^ n < 2 ^ n := Nat.mod_lt _ (Nat.two_pow_pos n)
  have hodd : v / 2 ^ n % 2 = 1 := by simpa [Nat.testBit_eq_decide_div_mod_eq] using h
  obtain ⟨q, hq⟩ : ∃ q, v / 2 ^ n = 2 * q + 1 := ⟨v / 2 ^ n / 2, by omega⟩
  have hv : v = 2 ^ n * (2 * q + 1) + v % 2 ^ n := by rw [← hq]; exact (Nat.div_add_mod v _).symm
  have hw : v - 2 ^ n = 2 ^ n * (2 * q) + v % 2 ^ n := by rw [Nat.mul_add, Nat.mul_one] at hv; omega
  have ev := Nat.testBit_two_pow_mul_add (2 * q + 1) hr j
  rw [← hv] at ev
  rw [hw, Nat.testBit_two_pow_mul_add _ hr, ev]
  rcases Nat.lt_trichotomy j n with hj | rfl | hj
  · simp [hj, Nat.ne_of_lt hj]
  · simp
  · obtain ⟨k, rfl⟩ : ∃ k, j = n + (k + 1) := ⟨j - n - 1, by omega⟩
    simp [Nat.testBit_succ, Nat.mul_add_div]

/-- The bits of a number after one of them was written. -/
theorem testBit_setBit (v n j : Nat) (b : Bool) : (setBit v n b).testBit j = if j = n then b else v.testBit j := by
  unfold setBit
  split
  next hb =>
    by_cases hj : j = n
    · simp [hj, hb]
    · simp [hj, Ne.symm hj]
  next hb =>
    split
    next hv => simp [testBit_sub_two_pow hv, hb]
    next hv =>
      by_cases hj : j = n
      · simp [hj, hb, hv]
      · simp [hj]

@[simp] theorem testBit_setBit_self (v n : Nat) (b : Bool) : (setBit v n b).testBit n = b := by simp [testBit_setBit]

/-- Setting a bit takes none away. -/
theorem testBit_setBit_true {v j : Nat} (n : Nat) (h : v.testBit j = true) : (setBit v n true).testBit j = true := by
  simp [testBit_setBit, h]

/-- The number with the listed bits cleared, but for those that `p` holds up. -/
def clearUnless (p : Nat → Bool) (l : List Nat) (v : Nat) : Nat :=
  l.foldl (fun m n => if m.testBit n && !(p n) then setBit m n false else m) v

theorem testBit_clearUnless (p : Nat → Bool) (l : List Nat) (v n : Nat) :
    (clearUnless p l v).testBit n = (v.testBit n && (decide (n ∉ l) || p n)) := by
  induction l generalizing v with
  | nil => simp [clearUnless]
  | cons k l ih =>
    have hstep : (if v.testBit k && !(p k) then setBit v k false else v).testBit n = (v.testBit n && (decide (n ≠ k) || p n)) := by
      by_cases hn : n = k
      · subst hn; cases hv : v.testBit n <;> cases hp : p n <;> simp [hv]
      · split <;> simp [testBit_setBit, hn]
    change (clearUnless p l _).testBit n = _
    rw [ih, hstep]
    by_cases hn : n = k <;> by_cases hl : n ∈ l <;> cases p n <;> simp [hn, hl]

end Sys2Proof.Machine
end

section
/-!
PROOFS. An island's excursion from the envelope (R27, R28, R31, R496): what noting a cause, flagging the island and ending a cause write, and what
they leave as it is.
-/
namespace Sys2Proof.Machine

@[simp] theorem State.raise_seq (s : State) (i : Island) (cls reason tag : Nat) : (s.raise i cls reason tag).seq = s.seq := by
  obtain ⟨_, _, _, h⟩ := s.raise_frame i cls reason tag
  rw [h]

@[simp] theorem State.raise_mode (s : State) (i : Island) (cls reason tag : Nat) : (s.raise i cls reason tag).mode = s.mode := by
  obtain ⟨_, _, _, h⟩ := s.raise_frame i cls reason tag
  rw [h]

@[simp] theorem State.latchFailure_seq (s : State) (n : Nat) : (s.latchFailure n).seq = s.seq := rfl
@[simp] theorem State.latchFailure_journal (s : State) (n : Nat) : (s.latchFailure n).journal = s.journal := rfl

/-- A failure that latches writes its bit of 4.080.01 (R40) and no other register. -/
theorem State.rd_latchFailure (s : State) (n o : Nat) :
    (s.latchFailure n).rd o = if o = 0x408001 then setBit (s.rd 0x408001) n true else s.rd o := s.rd_wr _ _ _

/-- Monitoring depends on the mode and the active bank (R24). -/
theorem State.monitoring_congr {s t : State} (hm : t.mode = s.mode) (hb : t.rd 0x400000 = s.rd 0x400000) : t.monitoring = s.monitoring := by
  simp only [State.monitoring, State.hasBank, State.activeNum, hm, hb]

/-- A cause of an excursion is noted (R27), and nothing is said of it yet. -/
def State.envCaused (s : State) (code cause : Nat) : State :=
  { s with seq := { s.seq with
    envBad := mset 0 s.seq.envBad code (setBit (mget 0 s.seq.envBad code) cause true)
    envGood := merase s.seq.envGood code } }

/-- An island is marked as out of the envelope (R31, R40), before the journal hears of it. -/
def State.envMarked (s : State) (code cause : Nat) : State :=
  let s1 := { s with seq := { s.seq with withheld := if cause = 0 then s.seq.withheld else setBit s.seq.withheld code true } }
  (s1.latchFailure (1 + cause)).wr 0x408002 (setBit (s1.rd 0x408002) code true)

@[simp] theorem State.envCaused_rd (s : State) (code cause o : Nat) : (s.envCaused code cause).rd o = s.rd o := rfl

theorem State.rd_envMarked (s : State) (code cause o : Nat) : (s.envMarked code cause).rd o =
    if o = 0x408002 then setBit (s.rd 0x408002) code true
    else if o = 0x408001 then setBit (s.rd 0x408001) (1 + cause) true else s.rd o := by
  rw [State.envMarked, State.rd_wr, State.rd_latchFailure]
  rfl

/-- Flagging an island marks it, and journals the event where it was not flagged (R496). -/
theorem State.envFlag_eq (s : State) (code cause : Nat) : s.envFlag code cause =
    if (s.rd 0x408002).testBit code then s.envMarked code cause
    else (s.envMarked code cause).raise (islandOf code) 0x00 0x04 (s.eventTag 2 code (2 ^ cause)) := by
  have hc : (s.envMarked code cause).cycle = s.cycle := by simp [State.cycle, State.rd_envMarked]
  have ht : (s.envMarked code cause).eventTag 2 code (2 ^ cause) = s.eventTag 2 code (2 ^ cause) := by simp only [State.eventTag, hc]
  rw [← ht]
  rfl

theorem State.envFlag_seq (s : State) (code cause : Nat) : (s.envFlag code cause).seq = (s.envMarked code cause).seq := by
  rw [State.envFlag_eq]; split <;> simp

theorem State.envFlag_mode (s : State) (code cause : Nat) : (s.envFlag code cause).mode = s.mode := by
  rw [State.envFlag_eq]
  split
  · rfl
  · exact State.raise_mode _ _ _ _ _

theorem State.rd_envFlag (s : State) (code cause : Nat) {o : Nat} (h : o < 0xD00000) (ha : o ≠ 0xA00210) :
    (s.envFlag code cause).rd o = (s.envMarked code cause).rd o := by
  rw [State.envFlag_eq]
  split
  · rfl
  · exact State.rd_raise _ _ _ _ _ h ha

/-- A cause that begins to hold is noted, and flags the island while the conditions are monitored (R24, R27). -/
theorem State.envFail_eq {s : State} {code : Nat} (hd : code ∈ dataIslands) (cause : Nat) : s.envFail code cause =
    if s.monitoring then (s.envCaused code cause).envFlag code cause else s.envCaused code cause := by
  rw [State.envFail, if_pos (List.contains_iff_mem.mpr hd)]
  rfl

/-- The causes noted after one began to hold are those before it and that one. -/
theorem State.envFail_envBad {s : State} {code : Nat} (hd : code ∈ dataIslands) (cause : Nat) :
    (s.envFail code cause).seq.envBad = mset 0 s.seq.envBad code (setBit (mget 0 s.seq.envBad code) cause true) := by
  rw [State.envFail_eq hd]
  split
  · rw [State.envFlag_seq]; rfl
  · rfl

/-- A cause that begins to hold writes no register below area D but the failures and the flags, and A.002.10 where records are lost. -/
theorem State.rd_envFail_ne (s : State) (code cause : Nat) {o : Nat} (h : o < 0xD00000) (ha : o ≠ 0xA00210) (h1 : o ≠ 0x408001) (h2 : o ≠ 0x408002) :
    (s.envFail code cause).rd o = s.rd o := by
  by_cases hd : code ∈ dataIslands
  · rw [State.envFail_eq hd]
    split
    · rw [State.rd_envFlag _ _ _ h ha, State.rd_envMarked, if_neg h2, if_neg h1, State.envCaused_rd]
    · rfl
  · simp [State.envFail, hd]

theorem State.envFail_monitoring {s : State} {code : Nat} (hd : code ∈ dataIslands) (cause : Nat) :
    (s.envFail code cause).monitoring = s.monitoring := by
  refine State.monitoring_congr ?_ (s.rd_envFail_ne code cause (by decide) (by decide) (by decide) (by decide))
  rw [State.envFail_eq hd]
  split
  · exact State.envFlag_mode _ _ _
  · rfl

/-- The failures, flags and withheld records after a monitored cause began to hold (R27, R31, R40). -/
theorem State.envFail_marks {s : State} {code : Nat} (hd : code ∈ dataIslands) (cause : Nat) (hm : s.monitoring = true) :
    (s.envFail code cause).rd 0x408001 = setBit (s.rd 0x408001) (1 + cause) true ∧
    (s.envFail code cause).rd 0x408002 = setBit (s.rd 0x408002) code true ∧
    (s.envFail code cause).seq.withheld = if cause = 0 then s.seq.withheld else setBit s.seq.withheld code true := by
  rw [State.envFail_eq hd, if_pos hm, State.envFlag_seq]
  refine ⟨?_, ?_, rfl⟩ <;> rw [State.rd_envFlag _ _ _ (by decide) (by decide)] <;> simp [State.rd_envMarked]

/-- A monitored cause that begins to hold changes neither image. -/
theorem State.envFail_images {s : State} {code : Nat} (hd : code ∈ dataIslands) (cause : Nat) (hm : s.monitoring = true) :
    (s.envFail code cause).seq.input = s.seq.input ∧ (s.envFail code cause).seq.output = s.seq.output := by
  rw [State.envFail_eq hd, if_pos hm, State.envFlag_seq]
  exact ⟨rfl, rfl⟩

/-- A monitored cause of an island that is flagged leaves the journal as it is; that of an island that is not flagged raises one record (R496). -/
theorem State.envFail_journal {s : State} {code : Nat} (hd : code ∈ dataIslands) (cause : Nat) (hm : s.monitoring = true) :
    ((s.rd 0x408002).testBit code = true → (s.envFail code cause).journal = s.journal) ∧
    ((s.rd 0x408002).testBit code = false → ∃ u : State,
      s.envFail code cause = u.raise (islandOf code) 0x00 0x04 (s.eventTag 2 code (2 ^ cause)) ∧ u.journal = s.journal) := by
  rw [State.envFail_eq hd, if_pos hm, State.envFlag_eq, State.envCaused_rd]
  constructor <;> intro hf <;> rw [hf]
  · rfl
  · exact ⟨_, rfl, rfl⟩

/-- An island is out of the envelope by a cause: the cause is noted, and while the conditions are monitored its bit of the failures is set, the island
is flagged, and its records are withheld unless its clock is the cause (R27, R31, R40). -/
structure State.EnvFailed (s : State) (cause code : Nat) : Prop where
  noted : (mget 0 s.seq.envBad code).testBit cause = true
  latched : s.monitoring = true → (s.rd 0x408001).testBit (1 + cause) = true
  flagged : s.monitoring = true → (s.rd 0x408002).testBit code = true
  withheld : s.monitoring = true → cause ≠ 0 → s.seq.withheld.testBit code = true

/-- A cause that begins to hold puts its island out of the envelope. -/
theorem State.envFail_fails {s : State} {code : Nat} (hd : code ∈ dataIslands) (cause : Nat) : (s.envFail code cause).EnvFailed cause code := by
  have marks := State.envFail_marks (s := s) hd cause
  rw [← State.envFail_monitoring hd cause] at marks
  constructor
  case noted => simp [State.envFail_envBad hd]
  case latched =>
    intro hm
    obtain ⟨hlatched, -, -⟩ := marks hm
    simp [hlatched]
  case flagged =>
    intro hm
    obtain ⟨-, hflagged, -⟩ := marks hm
    simp [hflagged]
  case withheld =>
    intro hm hc
    obtain ⟨-, -, hwithheld⟩ := marks hm
    simp [hwithheld, hc]

/-- A cause that begins to hold brings no island back into the envelope. -/
theorem State.EnvFailed.envFail {s : State} {c code cause : Nat} (h : s.EnvFailed cause code) (hd : c ∈ dataIslands) :
    (s.envFail c cause).EnvFailed cause code := by
  have marks := State.envFail_marks (s := s) hd cause
  have hmon := State.envFail_monitoring (s := s) hd cause
  rw [← hmon] at marks
  constructor
  case noted =>
    rw [State.envFail_envBad hd, mget_mset]
    split
    · simp
    · exact h.noted
  case latched =>
    intro hm
    obtain ⟨hlatched, -, -⟩ := marks hm
    simp [hlatched]
  case flagged =>
    intro hm
    obtain ⟨-, hflagged, -⟩ := marks hm
    rw [hflagged]
    exact testBit_setBit_true _ (h.flagged (hmon ▸ hm))
  case withheld =>
    intro hm hc
    obtain ⟨-, -, hwithheld⟩ := marks hm
    rw [hwithheld, if_neg hc]
    exact testBit_setBit_true _ (h.withheld (hmon ▸ hm) hc)

/-- A cause that begins to hold for several islands puts each of them out of the envelope, and brings none back. -/
theorem State.foldl_envFail_fails {l : List Nat} (hl : ∀ c ∈ l, c ∈ dataIslands) (cause code : Nat) (s : State)
    (h : code ∈ l ∨ s.EnvFailed cause code) : (l.foldl (fun t c => t.envFail c cause) s).EnvFailed cause code := by
  induction l generalizing s with
  | nil => simpa using h
  | cons c l ih =>
    obtain ⟨hc, hrest⟩ := List.forall_mem_cons.mp hl
    refine ih hrest (s.envFail c cause) ?_
    rcases h with hmem | hfail
    · rcases List.mem_cons.mp hmem with rfl | hmem
      · exact .inr (State.envFail_fails hc cause)
      · exact .inl hmem
    · exact .inr (hfail.envFail hc)

theorem State.rd_foldl_envFail_ne (l : List Nat) (cause : Nat) (s : State) {o : Nat} (h : o < 0xD00000) (ha : o ≠ 0xA00210) (h1 : o ≠ 0x408001)
    (h2 : o ≠ 0x408002) : (l.foldl (fun t c => t.envFail c cause) s).rd o = s.rd o := by
  induction l generalizing s with
  | nil => rfl
  | cons c l ih => exact (ih _).trans (s.rd_envFail_ne c cause h ha h1 h2)

theorem State.foldl_envFail_monitoring {l : List Nat} (hl : ∀ c ∈ l, c ∈ dataIslands) (cause : Nat) (s : State) :
    (l.foldl (fun t c => t.envFail c cause) s).monitoring = s.monitoring := by
  induction l generalizing s with
  | nil => rfl
  | cons c l ih =>
    obtain ⟨hc, hrest⟩ := List.forall_mem_cons.mp hl
    exact (ih hrest _).trans (State.envFail_monitoring hc cause)

@[simp] theorem State.envRecover_rd (s : State) (code cause o : Nat) : (s.envRecover code cause).rd o = s.rd o := rfl

/-- A cause that is over for several islands is noted for none of them, and for every other as before. -/
theorem State.foldl_envRecover_noted (l : List Nat) (cause code : Nat) (s : State) :
    (mget 0 (l.foldl (fun t c => t.envRecover c cause) s).seq.envBad code).testBit cause =
      (decide (code ∉ l) && (mget 0 s.seq.envBad code).testBit cause) := by
  induction l generalizing s with
  | nil => simp
  | cons c l ih =>
    rw [List.foldl_cons, ih, State.envRecover, mget_mset]
    by_cases hc : code = c <;> simp [hc]

theorem State.rd_foldl_envRecover (l : List Nat) (cause o : Nat) (s : State) : (l.foldl (fun t c => t.envRecover c cause) s).rd o = s.rd o := by
  induction l generalizing s with
  | nil => rfl
  | cons c l ih => exact ih _

end Sys2Proof.Machine
end

section
/-!
PROOFS. The monitors of the clocks, supplies and temperatures (R27, R28): the statement about them.
-/
namespace Sys2Proof.Machine

/-- A clock within its bound ends the clock cause (R27). -/
theorem State.clockWindow_good {s : State} {code count f : Nat} (hf : contractClock s.activeBank code = some f)
    (hw : clockWithin count f = true) : s.clockWindow code count true = s.envRecover code 0 := by
  simp [State.clockWindow, hf, hw]

/-- A clock that is not locked, or outside its bound, is a cause to leave the envelope (R27). -/
theorem State.clockWindow_bad {s : State} {code count f : Nat} {locked : Bool} (hf : contractClock s.activeBank code = some f)
    (hw : locked = false ∨ clockWithin count f = false) : s.clockWindow code count locked = s.envFail code 0 := by
  have : (locked && clockWithin count f) = false := by rwa [Bool.and_eq_false_iff]
  simp [State.clockWindow, hf, this]

theorem clockWithin_eq_true {count f : Nat} (h1 : 200 * (count * 100000) ≤ 201 * (f * 1024)) (h2 : 199 * (f * 1024) ≤ 200 * (count * 100000)) :
    clockWithin count f = true := by
  simp [clockWithin, h1, h2]

theorem clockWithin_eq_false {count f : Nat} (h : 201 * (f * 1024) < 200 * (count * 100000) ∨ 200 * (count * 100000) < 199 * (f * 1024)) :
    clockWithin count f = false := by
  simp only [clockWithin, Bool.and_eq_false_iff, decide_eq_false_iff_not]
  omega

/-- The register that keeps the spread of a die's readings (R46). -/
def gradientObj (portDie : Bool) : Nat := if portDie then 0x408007 else 0x408006

/-- The islands of the data hierarchy on a die (R10, R27). -/
def dieIslands (portDie : Bool) : List Nat := dataIslands.filter (fun c => (c == 0x01) == portDie)

theorem mem_dieIslands {portDie : Bool} {code : Nat} : code ∈ dieIslands portDie ↔ code ∈ dataIslands ∧ (code = 1 ↔ portDie = true) := by
  rw [dieIslands, List.mem_filter]
  cases portDie <;> simp

/-- A die whose readings lie within 25 K has no temperature cause. -/
theorem State.temperatureRead_good (s : State) (portDie : Bool) {l : List Nat} (h : spread l ≤ 400) : s.temperatureRead portDie l =
    (dieIslands portDie).foldl (fun t c => t.envRecover c 2) (s.wr (gradientObj portDie) (f32Ratio (spread l) 16)) := by
  simp only [State.temperatureRead, if_neg (Nat.not_lt.mpr h)]
  rfl

/-- A die whose readings lie more than 25 K apart takes its islands out of the envelope. -/
theorem State.temperatureRead_bad (s : State) (portDie : Bool) {l : List Nat} (h : 400 < spread l) : s.temperatureRead portDie l =
    (dieIslands portDie).foldl (fun t c => t.envFail c 2) (s.wr (gradientObj portDie) (f32Ratio (spread l) 16)) := by
  simp only [State.temperatureRead, if_pos h]
  rfl

/-- Readings within 25 K: the spread is stored, the cause ends on the whole die, and no other register is written. -/
theorem State.temperatureRead_good_takes (s : State) (portDie : Bool) {l : List Nat} (h : spread l ≤ 400) :
    (s.temperatureRead portDie l).rd (gradientObj portDie) = f32Ratio (spread l) 16 ∧
    (∀ code ∈ dieIslands portDie, (mget 0 (s.temperatureRead portDie l).seq.envBad code).testBit 2 = false) ∧
    ∀ o, o ≠ gradientObj portDie → (s.temperatureRead portDie l).rd o = s.rd o := by
  rw [s.temperatureRead_good portDie h]
  refine ⟨?_, fun code hc => ?_, fun o ho => ?_⟩
  · rw [State.rd_foldl_envRecover, State.rd_wr_self]
  · simp [State.foldl_envRecover_noted, hc]
  · rw [State.rd_foldl_envRecover, State.rd_wr_ne _ _ ho]

/-- Readings more than 25 K apart: the spread is stored, every island of the die is out of the envelope, and monitoring goes on as before. -/
theorem State.temperatureRead_bad_takes (s : State) (portDie : Bool) {l : List Nat} (h : 400 < spread l) :
    (s.temperatureRead portDie l).rd (gradientObj portDie) = f32Ratio (spread l) 16 ∧
    (∀ code ∈ dieIslands portDie, (s.temperatureRead portDie l).EnvFailed 2 code) ∧
    (s.temperatureRead portDie l).monitoring = s.monitoring := by
  have hdie : ∀ c ∈ dieIslands portDie, c ∈ dataIslands := fun c hc => (mem_dieIslands.mp hc).1
  rw [s.temperatureRead_bad portDie h]
  refine ⟨?_, fun code hc => State.foldl_envFail_fails hdie 2 code _ (.inl hc), ?_⟩
  · rw [State.rd_foldl_envFail_ne, State.rd_wr_self] <;> cases portDie <;> decide
  · rw [State.foldl_envFail_monitoring hdie]
    exact State.monitoring_congr rfl (State.rd_wr_ne _ _ (by cases portDie <;> decide))

/-- The clock monitor judges a window while beats exist (R28). -/
theorem exec_clockMonitorWindow {s : State} (code count : Nat) (locked : Bool) (h : s.ticking = true) :
    exec (.clockMonitorWindow code count locked) s = .next (s.clockWindow code count locked) := congrArg Host.Outcome.next (if_pos h)

/-- The sensors of a die are read while it is powered (R28). -/
theorem exec_temperatureRead {s : State} {portDie : Bool} (l : List Nat) (h : (if portDie then s.powered else s.coreUp) = true) :
    exec (.temperatureRead portDie l) s = .next (s.temperatureRead portDie l) := congrArg Host.Outcome.next (if_pos h)

/-- Settles O8: a trip or a window outside its bound is `State.envFail` of the island, a die above 25 K is `State.envFail` of each of its islands, and
the ends of these causes are `State.envRecover`. -/
theorem envelopeMonitorsTakeEffect : Obligations.EnvelopeMonitorsTakeEffect := by
  unfold Obligations.EnvelopeMonitorsTakeEffect
  intro s
  refine ⟨?vddcTrip, fun code => rfl, ?clock, ?portDieGood, ?coreDieGood, ?dieBad⟩
  case vddcTrip =>
    intro code hm hd
    have hfail := State.envFail_fails (s := s) hd 1
    have hm' := (State.envFail_monitoring (s := s) hd 1).trans hm
    obtain ⟨hin, hout⟩ := State.envFail_images hd 1 hm
    obtain ⟨hsaid, hnew⟩ := State.envFail_journal hd 1 hm
    exact ⟨_, rfl, hfail.noted, hfail.withheld hm' (by decide), hfail.latched hm', hfail.flagged hm', hin, hout, hsaid, hnew⟩
  case clock =>
    intro code count f locked htick hf
    rw [exec_clockMonitorWindow code count locked htick]
    refine ⟨?_, ?_⟩
    · rintro rfl h1 h2
      rw [State.clockWindow_good hf (clockWithin_eq_true h1 h2)]
      rfl
    · intro hw hm hd
      have hfail := State.envFail_fails (s := s) hd 0
      have hm' := (State.envFail_monitoring (s := s) hd 0).trans hm
      obtain ⟨hsaid, hnew⟩ := State.envFail_journal hd 0 hm
      rw [State.clockWindow_bad hf (hw.imp_right clockWithin_eq_false)]
      exact ⟨_, rfl, hfail.noted, hfail.latched hm', hfail.flagged hm', hsaid, hnew⟩
  case portDieGood =>
    intro l hp hs
    obtain ⟨hspread, hcause, hrest⟩ := s.temperatureRead_good_takes true hs
    exact ⟨_, exec_temperatureRead l hp, hspread, hcause 1 (by decide), hrest⟩
  case coreDieGood =>
    intro l hp hs
    obtain ⟨hspread, hcause, hrest⟩ := s.temperatureRead_good_takes false hs
    exact ⟨_, exec_temperatureRead l hp, hspread, fun code hd hne => hcause code (mem_dieIslands.mpr ⟨hd, by simp [hne]⟩), hrest⟩
  case dieBad =>
    intro portDie l hp hs
    obtain ⟨hspread, hfail, hmon⟩ := s.temperatureRead_bad_takes portDie hs
    refine ⟨_, exec_temperatureRead l hp, hspread, fun code hd hc => ?_⟩
    have hcode := hfail code (mem_dieIslands.mpr ⟨hd, hc⟩)
    refine ⟨hcode.noted, fun hm => ?_⟩
    rw [← hmon] at hm
    exact ⟨hcode.latched hm, hcode.flagged hm, hcode.withheld hm (by decide)⟩

end Sys2Proof.Machine
end

section
/-!
PROOFS. The table banks (R75 to R83): what a command of a bank does in each case, and the statement about them.
-/
namespace Sys2Proof.Machine

/-- A write that passes every check passes checks 4 to 9 of R335. -/
theorem State.accessError_of_numPasses {s : State} {h : OdHdr} {o v : Nat} (hp : s.numPasses h o v = true) :
    (s.odBegun h).accessError .write o (numBytes o v) = 0 := by
  simp only [State.numPasses, State.odPasses, Bool.and_eq_true, decide_eq_true_eq] at hp
  obtain ⟨⟨-, hacc⟩, -⟩ := hp
  exact hacc

/-- The rows of the commands that begin staging and start the load check (R82). -/
theorem objRow_staging {o : Nat} (ho : o = 0x400100 ∨ o = 0x400101) :
    objRow o = some ⟨0xFFFFFF, o, [], .u8, .cmd, .v, 0, .between 1 1, none, false⟩ := by
  rcases ho with rfl | rfl <;> decide +kernel

theorem objBits_switchAtCycle : objBits 0x400102 = 64 := by decide +kernel

/-- In a mode without staging those commands fail the check of the mode (R75, R335 check 7). -/
theorem State.accessError_staging {s : State} {o : Nat} (ho : o = 0x400100 ∨ o = 0x400101) (hm : s.stagingMode = false) (v : List Byte) :
    s.accessError .write o v = 0x03 := by
  have hrow := objRow_staging ho
  have hmode : s.commandMode o v = false := by rcases ho with rfl | rfl <;> simp [State.commandMode, hm]
  have hobj : o / 2 ^ 20 ≠ 0xF ∧ s.absentObj o = false ∧ refusedObj o = false := by
    rcases ho with rfl | rfl <;> simp [State.absentObj, refusedObj]
  obtain ⟨harea, habsent, hrefused⟩ := hobj
  rw [State.accessError, if_neg harea, habsent, hrow]
  simp [State.rowError, hrefused, State.modeAllows, hmode]

/-- A staging command that passes its checks runs in a mode with staging. -/
theorem State.stagingMode_of_numPasses {s : State} {h : OdHdr} {o v : Nat} (ho : o = 0x400100 ∨ o = 0x400101) (hp : s.numPasses h o v = true) :
    (s.odBegun h).stagingMode = true := by
  cases hm : (s.odBegun h).stagingMode
  case false =>
    have hbarred := State.accessError_staging ho hm (numBytes o v)
    rw [State.accessError_of_numPasses hp] at hbarred
    exact absurd hbarred (by decide)
  case true => rfl

/-- With no switch pending, staging loads the contents (R75). -/
theorem State.beginStaging_loads {s : State} (hm : s.stagingMode = true) (hb : s.bankState ≠ 4) (img : Bank) :
    s.beginStaging img = okRes (s.loadStaged { img with migrated := false, slot := none }) := by
  simp [State.beginStaging, hm, hb]

/-- With a switch pending, staging is refused (R83). -/
theorem State.beginStaging_pending {s : State} (hm : s.stagingMode = true) (hb : s.bankState = 4) (img : Bank) :
    s.beginStaging img = refusedRes s 0x32 := by
  simp [State.beginStaging, hm, hb]

/-- The load check of a bank that holds something starts (R76). -/
theorem State.startCheck_starts {s : State} (hm : s.stagingMode = true) (h4 : s.bankState ≠ 4) (h0 : s.bankState ≠ 0) :
    s.startCheck = okRes { s with seq := { s.seq with checking := true } } := by
  simp [State.startCheck, hm, h4, h0]

/-- A load check is over (R76), and with it the wish to switch to its bank (R436). -/
def State.checkOver (s : State) : State := { s with seq := { s.seq with checking := false }, update := { s.update with autoSwitch := false } }

@[simp] theorem State.checkOver_rd (s : State) (o : Nat) : s.checkOver.rd o = s.rd o := rfl

/-- The state and the report of the staged bank after a load check (R76, R81). -/
def State.reportCheck (s : State) (bank code move entry : Nat) : State :=
  (((s.wr 0x400001 bank).wr 0x400200 code).wr 0x400201 move).wr 0x207000 entry

/-- A check that passes leaves the bank checked, and one of a bank loaded at bring-up asks for the switch (R436). -/
theorem State.checkComplete_passes {s : State} (hs : s.odServed = true) (hc : s.seq.checking = true)
    (hl : loadCheck s.checkOver s.checkOver.stagedBank = none) : s.checkComplete =
      if s.update.autoSwitch then ((s.checkOver.reportCheck 2 0 0 0).switchAtCycle 0).st else s.checkOver.reportCheck 2 0 0 0 := by
  simp only [State.checkOver] at hl
  simp only [State.checkComplete, hs, hc, hl, Bool.and_self, if_true]
  rfl

/-- A check that fails leaves the bank rejected with the error reported, latches bit 0 where no bank is active (R40), and is journalled. -/
theorem State.checkComplete_fails {s : State} {e : CheckError} (hs : s.odServed = true) (hc : s.seq.checking = true)
    (hl : loadCheck s.checkOver s.checkOver.stagedBank = some e) : s.checkComplete =
      (if s.hasBank then s.checkOver.reportCheck 3 e.code e.move e.entry
        else (s.checkOver.reportCheck 3 e.code e.move e.entry).latchFailure 0).raise .mgt 0x06 0x60 (e.code * 2 ^ 24 + e.move % 2 ^ 16) := by
  simp only [State.checkOver] at hl
  simp only [State.checkComplete, hs, hc, hl, Bool.and_self, if_true]
  rfl

/-- What a failed check leaves in the registers and in the sequencer. -/
theorem State.checkComplete_fails_takes {s : State} {e : CheckError} (hs : s.odServed = true) (hc : s.seq.checking = true)
    (hl : loadCheck s.checkOver s.checkOver.stagedBank = some e) :
    s.checkComplete.rd 0x400001 = 3 ∧ s.checkComplete.rd 0x400200 = e.code ∧ s.checkComplete.rd 0x400201 = e.move ∧
    s.checkComplete.rd 0x207000 = e.entry ∧ s.checkComplete.seq = s.checkOver.seq ∧
    (s.hasBank = true → s.checkComplete.rd 0x408001 = s.rd 0x408001) ∧ (s.hasBank = false → (s.checkComplete.rd 0x408001).testBit 0 = true) := by
  rw [State.checkComplete_fails hs hc hl, State.raise_seq]
  simp (disch := decide) only [State.rd_raise]
  cases s.hasBank <;> simp [State.reportCheck, State.rd_latchFailure, State.rd_wr, -Nat.testBit_zero]

/-- The cycle that a switch request names (R78): the one asked for, or the first eligible one, where boundaries with service go on; none in a mode
without service, where the request waits for Run (R79). -/
def State.switchNamed (s : State) (v : Nat) : Option Nat :=
  if s.mode = .run ∨ s.mode = .repair ∨ s.mode = .hold then some (if v = 0 then s.cycle + 2 else v) else none

/-- The staged bank waits for its switch, the swaps of its pawns armed (R78, R223). -/
def State.switchArmed (s : State) : State :=
  ((if s.seq.shadowed then s else s.loadShadows s.stagedBank).armPrograms s.stagedBank).wr 0x400001 4

/-- A switch to a checked bank at an eligible boundary is pending (R78). -/
theorem State.switchAtCycle_pends {s : State} {v : Nat} (hb : s.bankState = 2) (hc : s.seq.checking = false) (hv : v = 0 ∨ s.cycle + 2 ≤ v) :
    s.switchAtCycle v = stagedRes { s.switchArmed with seq := { s.switchArmed.seq with switchAt := s.switchNamed v } } := by
  have hnear : (v != 0 && decide (v < s.nearest)) = false := by
    rcases hv with rfl | hv
    · rfl
    · rw [decide_eq_false (Nat.not_lt.mpr hv : ¬ v < s.nearest), Bool.and_false]
  have hnamed : (if (decide (s.mode = .run) || decide (s.mode = .repair) || decide (s.mode = .hold)) = true
      then some (if v = 0 then s.nearest else v) else none) = s.switchNamed v := by
    simp only [State.switchNamed, State.nearest, Bool.or_eq_true, decide_eq_true_eq, or_assoc]
  simp only [State.switchAtCycle, hb, hc, hnear, hnamed]
  rfl

/-- A boundary too near is refused and counted (R78). -/
theorem State.switchAtCycle_near {s : State} {v : Nat} (hb : s.bankState = 2) (hc : s.seq.checking = false) (h0 : v ≠ 0) (hv : v < s.cycle + 2) :
    s.switchAtCycle v = refusedRes (s.inc 0x401004) 0x30 := by
  simp [State.switchAtCycle, hb, hc, h0, State.nearest, hv]

/-- The switch command takes the whole of its operand: 64 bits (R82). -/
theorem exec_switchAtCycle {v : Nat} (hv : v < 2 ^ 64) (h : OdHdr) (s : State) :
    exec (.switchAtCycle h v) s = .next (s.odSet h 0x400102 v (fun t => t.switchAtCycle v)) := by
  change Host.Outcome.next (s.odSet h 0x400102 v (fun t => t.switchAtCycle (v % 2 ^ objBits 0x400102))) = _
  rw [objBits_switchAtCycle, Nat.mod_eq_of_lt hv]

/-- The withdrawal of a switch (R83): nothing where none is pending, refused where it is near, the bank checked again otherwise. -/
theorem State.withdrawSwitch_eq (s : State) : s.withdrawSwitch =
    if s.bankState = 4 then if s.switchNear then refusedRes s 0x32 else okRes s.dropSwitch else okRes s := by
  by_cases h : s.bankState = 4 <;> simp [State.withdrawSwitch, h]

/-- The command that clears the latched failures clears the bits whose condition `p` holds again (R47); the last three conditions are a segment check
failure, a bad time and a setup violation. -/
theorem State.clearFailures_eq (s : State) : ∃ p : Nat → Bool, s.clearFailures = s.wr 0x408001 (clearUnless p (List.range 8) (s.rd 0x408001)) ∧
    p 5 = s.seq.segFail ∧ p 6 = s.seq.timeBad ∧ p 7 = s.seq.setupFail := by
  refine ⟨_, rfl, ?_, ?_, ?_⟩ <;> rfl

/-- Settles O7: each command is an OD write whose effect is one case of the bank's operation, or is barred or refused; the end of a load check is
its two outcomes. -/
theorem bankCommandsTakeEffect : Obligations.BankCommandsTakeEffect := by
  unfold Obligations.BankCommandsTakeEffect
  intro s b h hb
  refine ⟨?stage, ?stagePending, ?noStaging, ?startCheck, ?checkOver, ?switch, ?switchTooNear, ?withdraw, ?clear⟩
  case stage =>
    intro img hp h4
    have hm := hb ▸ State.stagingMode_of_numPasses (.inl rfl) hp
    exact State.odSet_done hb hp (State.beginStaging_loads hm h4 img)
  case stagePending =>
    intro img hp h4
    have hm := hb ▸ State.stagingMode_of_numPasses (.inl rfl) hp
    exact State.odSet_refuses hb hp (State.beginStaging_pending hm h4 img)
  case noStaging =>
    intro hm
    refine ⟨fun img hr => ?_, fun hr => ?_⟩
    · exact State.odSet_barred hb hr (State.accessError_staging (.inl rfl) hm _) (by decide)
    · exact State.odSet_barred hb hr (State.accessError_staging (.inr rfl) hm _) (by decide)
  case startCheck =>
    intro hp h4 h0
    have hm := hb ▸ State.stagingMode_of_numPasses (.inr rfl) hp
    exact State.odSet_done hb hp (State.startCheck_starts hm h4 h0)
  case checkOver =>
    intro hs hc
    exact ⟨s.checkComplete, s.checkOver, rfl, rfl, State.checkComplete_passes hs hc, fun e => State.checkComplete_fails_takes hs hc⟩
  case switch =>
    rintro v u hv hp h2 hc hnear rfl
    rw [exec_switchAtCycle hv]
    exact State.odSet_staged hb hp (State.switchAtCycle_pends h2 hc hnear)
  case switchTooNear =>
    intro v hv hp h2 hc h0 hnear
    rw [exec_switchAtCycle hv]
    exact State.odSet_refuses hb hp (State.switchAtCycle_near h2 hc h0 hnear)
  case withdraw =>
    intro hp
    have hw := State.withdrawSwitch_eq b
    split
    next h4 =>
      rw [if_pos h4] at hw
      split
      next hn => exact State.odSet_refuses hb hp (hw.trans (if_pos hn))
      next hn => exact State.odSet_done hb hp (hw.trans (if_neg hn))
    next h4 => exact State.odSet_done hb hp (hw.trans (if_neg h4))
  case clear =>
    intro hp
    obtain ⟨p, hclear, h5, h6, h7⟩ := b.clearFailures_eq
    refine ⟨_, State.odSet_done hb hp (congrArg okRes hclear), ?_⟩
    simp only [testBit_clearUnless, List.mem_range, ← h5, ← h6, ← h7]
    refine ⟨fun n hn => (Bool.and_eq_true_iff.mp hn).1, fun n hn => ?_, ?_, ?_, ?_⟩
    · simp [Nat.not_lt.mpr hn]
    all_goals simp

end Sys2Proof.Machine
end

section
/-!
PROOFS. A frame that enters the switch (R161): what of the state its admission, its discard and its report can write.
-/
namespace Sys2Proof.Machine

/-- The work of the switch between two states: it writes the switch, the journal, registers of area 3 and above, and takes free values. -/
structure State.SwitchWork (s t : State) : Prop where
  only : ∃ (objs : NMap Nat) (sw : SwitchSt) (j : JournalSt) (free : Nat), t = { s with objs := objs, switch := sw, journal := j, free := free }
  rd   : ∀ o < 0x300000, t.rd o = s.rd o

namespace State.SwitchWork

theorem refl (s : State) : s.SwitchWork s := ⟨⟨_, _, _, _, rfl⟩, fun _ _ => rfl⟩

theorem trans {s t u : State} (h : s.SwitchWork t) (h' : t.SwitchWork u) : s.SwitchWork u := by
  obtain ⟨⟨_, _, _, _, rfl⟩, hrd⟩ := h
  obtain ⟨⟨_, _, _, _, rfl⟩, hrd'⟩ := h'
  exact ⟨⟨_, _, _, _, rfl⟩, fun o ho => (hrd' o ho).trans (hrd o ho)⟩

/-- Any write of the switch's own state. -/
theorem switch (s : State) (sw : SwitchSt) : s.SwitchWork { s with switch := sw } := ⟨⟨_, _, _, _, rfl⟩, fun _ _ => rfl⟩

/-- A register of area 3 or above is written. -/
theorem wr (s : State) {o : Nat} (v : Nat) (h : 0x300000 ≤ o) : s.SwitchWork (s.wr o v) :=
  ⟨⟨_, _, _, _, rfl⟩, fun p hp => s.rd_wr_ne v (by omega)⟩

/-- A count of area 3 or above goes up. -/
theorem inc (s : State) {o : Nat} (h : 0x300000 ≤ o) : s.SwitchWork (s.inc o) := by
  obtain ⟨_, _, hframe⟩ := s.addTo_frame o 1
  exact ⟨⟨_, _, _, _, hframe⟩, fun p hp => s.rd_inc_ne (by omega)⟩

/-- A record is raised. -/
theorem raise (s : State) (i : Island) (cls reason tag : Nat) : s.SwitchWork (s.raise i cls reason tag) := by
  obtain ⟨_, _, _, hframe⟩ := s.raise_frame i cls reason tag
  exact ⟨⟨_, _, _, _, hframe⟩, fun o ho => s.rd_raise i cls reason tag (by omega) (by omega)⟩

/-- A pair hub's own state is as it was. -/
theorem pair {s t : State} (h : s.SwitchWork t) : t.pair = s.pair := by
  obtain ⟨⟨_, _, _, _, rfl⟩, _⟩ := h
  rfl

end State.SwitchWork

theorem queueObj_area (q sub : Nat) : 0x300000 ≤ queueObj q sub := by
  unfold queueObj
  omega

theorem State.noteCells_work (s : State) : s.SwitchWork s.noteCells := by
  unfold State.noteCells
  split
  · exact .wr s _ (by decide)
  · exact .refl s

theorem State.markOn_work (s : State) (q : Nat) (f : Frame) : s.SwitchWork (s.markOn q f).1 := by
  unfold State.markOn
  split
  · exact .inc s (queueObj_area q 8)
  · exact .refl s

theorem State.admitCopy_work (s : State) (ing egress id : Nat) (col : Colour) (f : Frame) : s.SwitchWork (s.admitCopy ing egress id col f) :=
  (s.markOn_work _ f).trans (.switch _ _)

theorem State.police_work (s : State) (ing : Nat) (f : Frame) : s.SwitchWork (s.police ing f).1 := by
  unfold State.police
  dsimp only
  split
  · exact .refl s
  split
  · exact .inc s (by omega)
  split
  · exact (SwitchWork.switch s _).trans (.inc _ (by omega))
  · exact (SwitchWork.switch s _).trans (.inc _ (by omega))

section
variable {report : State → Frame → State} (hreport : ∀ (s : State) (f : Frame), s.SwitchWork (report s f))
include hreport

theorem State.discardWith_work (s : State) (f : Frame) (egress outcome reason : Nat) :
    s.SwitchWork (s.discardWith report f egress outcome reason) := by
  have hj : s.SwitchWork (if isJournalFwd f then s else s.journalDrop f egress reason) := by
    split
    · exact .refl s
    · exact .raise s _ _ _ _
  unfold State.discardWith
  dsimp only
  split
  · exact hj
  · exact hj.trans (hreport _ _)

theorem State.admitAll_work (ing id : Nat) (col : Colour) (f : Frame) (ps : List Nat) (s : State) :
    s.SwitchWork (s.admitAll report ing id col f ps) := by
  have drop := fun (t : State) (p oc reason : Nat) => t.discardWith_work hreport f p oc reason
  induction ps generalizing s with
  | nil => exact .refl s
  | cons p ps ih =>
    refine SwitchWork.trans ?_ (ih _)
    dsimp only
    split
    · exact drop s p _ _
    split
    · exact drop s p _ _
    split
    · exact (drop s p _ _).trans (.inc _ (queueObj_area _ _))
    split
    · exact s.admitCopy_work ing p id col f
    · exact (drop s p _ _).trans (.inc _ (queueObj_area _ _))

theorem State.storeFrame_work (s : State) (ing : Nat) (col : Colour) (f : Frame) (ps : List Nat) :
    s.SwitchWork (s.storeFrame report ing col f ps) := by
  unfold State.storeFrame
  refine SwitchWork.trans ?_ (State.noteCells_work _)
  have hadmit := (SwitchWork.switch s { s.switch with nextId := s.switch.nextId + 1 }).trans
    (State.admitAll_work hreport ing s.switch.nextId col f ps _)
  dsimp only
  split
  · exact hadmit.trans (.switch _ _)
  · exact hadmit

theorem State.storeJudged_work (s : State) (ing : Nat) (col : Colour) (f f1 : Frame) (ps : List Nat) :
    s.SwitchWork (s.storeJudged report ing col f f1 ps) := by
  unfold State.storeJudged
  split
  · exact s.storeFrame_work hreport ing col f1 ps
  · exact .raise s _ _ _ _

theorem State.takeFrame_work (s : State) (ing : Nat) (f : Frame) (ps : List Nat) : s.SwitchWork (s.takeFrame report ing f ps) := by
  unfold State.takeFrame
  refine (s.police_work ing f).trans ?_
  dsimp only
  split
  · exact State.discardWith_work hreport _ f _ _ _
  · exact State.storeJudged_work hreport _ ing _ f _ ps

/-- Ingress in the order of R161: what it drops is journalled, what it discards also reported, and what it takes is stored. -/
theorem State.ingressWith_work (s : State) (ing : Nat) (f : Frame) : s.SwitchWork (s.ingressWith report ing f) := by
  unfold State.ingressWith
  split
  · exact .raise s _ _ _ _
  split
  · exact .raise s _ _ _ _
  split
  · exact s.discardWith_work hreport f _ _ _
  split
  · exact .raise s _ _ _ _
  split
  · exact s.discardWith_work hreport f _ _ _
  · exact s.takeFrame_work hreport ing f _

end

theorem State.sendReport_work (s : State) (f : Frame) : s.SwitchWork (s.sendReport f) := by
  unfold State.sendReport
  split
  · exact .refl s
  · exact s.ingressWith_work (fun s _ => .refl s) 4 f

theorem State.ingress_work (s : State) (ing : Nat) (f : Frame) : s.SwitchWork (s.ingress ing f) := by
  unfold State.ingress
  split
  · exact .refl s
  · exact s.ingressWith_work State.sendReport_work ing f

/-- A control message that the hub sends is the work of its switch. -/
theorem State.sendControl_work (s : State) (dst : Nat) (payload : List Byte) : s.SwitchWork (s.sendControl dst payload) :=
  s.ingress_work 7 _

end Sys2Proof.Machine
end

section
/-!
PROOFS. Redundant pairs (R140 to R155): what a message of the partner, of the arbiter and of a pair's hub does in each case, and the statement about them.
-/
namespace Sys2Proof.Machine

/-- A heartbeat is heard (R144): its hash, whether its sender is synchronized, and from an active sender the mirror sequence, are noted. -/
def State.hearPartner (s : State) (m : List Byte) : State :=
  let t : State := { s with pair := { s.pair with heard := true, hash := some (beField m 16 8), peerSync := bit (beField m 13 1) 1 } }
  if beField m 12 1 = 1 && t.role = 0 then t.mirrorGap (beField m 24 4) else t

/-- An active hub yields to a partner that says it is active, under a higher grant sequence, or at the lower node number under the same (R151). -/
def State.yieldsTo (s : State) (m : List Byte) : Bool :=
  beField m 12 1 = 1 && s.role = 1 && (s.rd 0x208203 < beField m 28 4 || (s.rd 0x208203 = beField m 28 4 && s.rd 0x208101 < s.node))

theorem State.yieldsTo_iff {s : State} {m : List Byte} : s.yieldsTo m = true ↔
    beField m 12 1 = 1 ∧ s.rd 0x208200 = 1 ∧ (s.rd 0x208203 < beField m 28 4 ∨ s.rd 0x208203 = beField m 28 4 ∧ s.rd 0x208101 < s.node) := by
  simp only [State.yieldsTo, Bool.and_eq_true, Bool.or_eq_true, decide_eq_true_eq, and_assoc]
  rfl

/-- Hearing the partner writes what is noted of it, and the mirrors counted, only. -/
theorem State.hearPartner_frame (s : State) (m : List Byte) : ∃ (mirSeq : Nat) (got : List Nat), s.hearPartner m = { s with pair := { s.pair with
    heard := true, hash := some (beField m 16 8), peerSync := bit (beField m 13 1) 1, mirSeq := mirSeq, got := got } } := by
  unfold State.hearPartner State.mirrorGap
  dsimp only
  split
  · split
    · exact ⟨s.pair.mirSeq, s.pair.got, rfl⟩
    · exact ⟨beField m 24 4, [], rfl⟩
  · exact ⟨s.pair.mirSeq, s.pair.got, rfl⟩

/-- A heartbeat of this cycle is heard, settles which of two active hubs holds, and synchronization is judged again (R144, R146, R151). -/
theorem State.heartbeatIn_eq {s : State} {p : Port} {m : List Byte} (hp : s.fromPartner p m 0x0510 = true) (hl : m.length = 32)
    (hc : beField m 4 8 = s.cycle) :
    s.heartbeatIn p m = (if (s.hearPartner m).yieldsTo m then (s.hearPartner m).nextRole 2 else s.hearPartner m).judgeSync := by
  rw [State.heartbeatIn, if_pos (by simp [hp, hl, hc])]
  rfl

/-- What comes not from the partner is not heard (R144). -/
theorem State.heartbeatIn_ignored {s : State} {p : Port} {m : List Byte} (h : s.fromPartner p m 0x0510 = false) : s.heartbeatIn p m = s := by
  simp [State.heartbeatIn, h]

theorem State.heartbeatIn_takes {s : State} {p : Port} {m : List Byte} (hp : s.fromPartner p m 0x0510 = true) (hl : m.length = 32)
    (hc : beField m 4 8 = s.cycle) : (s.heartbeatIn p m).pair.heard = true ∧ (s.heartbeatIn p m).pair.hash = some (beField m 16 8) ∧
    (s.heartbeatIn p m).pair.roleNext = if s.yieldsTo m then some 2 else s.pair.roleNext := by
  obtain ⟨_, _, hframe⟩ := s.hearPartner_frame m
  have hyield : (s.hearPartner m).yieldsTo m = s.yieldsTo m := by rw [hframe]; rfl
  rw [State.heartbeatIn_eq hp hl hc, hyield, hframe]
  cases s.yieldsTo m <;> exact ⟨rfl, rfl, rfl⟩

/-- One entry of an image is written into the mirror store of that image (R145). -/
theorem State.mirrorEntry_image (put : State → Nat → List Byte → State) (s : State) {d : Nat} (v : List Byte) (h : bits d 31 30 ≤ 1) :
    ∃ got : List Nat, s.mirrorEntry put d v = { s with pair := { s.pair with
      storeIn := if bits d 31 30 = 0 then memWrite s.pair.storeIn (d % 2 ^ 24) (wireWords v) else s.pair.storeIn
      storeOut := if bits d 31 30 = 1 then memWrite s.pair.storeOut (d % 2 ^ 24) (wireWords v) else s.pair.storeOut
      got := got } } := by
  rcases Nat.le_one_iff_eq_zero_or_eq_one.mp h with h | h
  · simp only [State.mirrorEntry, h]
    exact ⟨_, rfl⟩
  · simp only [State.mirrorEntry, h]
    exact ⟨_, rfl⟩

/-- The one entry of a MIRROR message is taken (R147). -/
theorem State.mirrorEntries_one (put : State → Nat → List Byte → State) (s : State) {m : List Byte} {d words : Nat} (hd : d = beField m 20 4)
    (hw : words = bits d 29 24 + 1) (hm : 24 + 4 * words ≤ m.length) :
    s.mirrorEntries put 1 (m.drop 20) = s.mirrorEntry put d (slice m 24 (4 * words)) := by
  have hdesc : beField (m.drop 20) 0 4 = d := by rw [hd]; simp [beField, slice]
  have hbytes : slice (m.drop 20) 4 (4 * words) = slice m 24 (4 * words) := by simp [slice]
  have hroom : ¬ (m.drop 20).length < 4 + 4 * words := by rw [List.length_drop]; omega
  simp only [State.mirrorEntries, hdesc, ← hw, hbytes, if_neg hroom]

/-- A standby takes a MIRROR of one entry of an image under its sequence, and judges its synchronization (R145, R146). -/
theorem State.mirrorIn_image (put : State → Nat → List Byte → State) {s : State} {p : Port} {m : List Byte} {d words : Nat}
    (hp : s.fromPartner p m 0x0511 = true) (hr : s.rd 0x208200 = 0) (h1 : beField m 16 2 = 1) (hd : d = beField m 20 4)
    (hw : words = bits d 29 24 + 1) (hm : 24 + 4 * words ≤ m.length) (hk : bits d 31 30 ≤ 1) :
    ∃ (got : List Nat) (t : State), s.mirrorIn put p m = t.judgeSync ∧ t = { s with pair := { s.pair with
      mirSeq := beField m 12 4
      storeIn := if bits d 31 30 = 0 then memWrite s.pair.storeIn (d % 2 ^ 24) (wireWords (slice m 24 (4 * words))) else s.pair.storeIn
      storeOut := if bits d 31 30 = 1 then memWrite s.pair.storeOut (d % 2 ^ 24) (wireWords (slice m 24 (4 * words))) else s.pair.storeOut
      got := got } } := by
  have hlen : 20 ≤ m.length := by omega
  simp only [State.mirrorIn, State.role, hp, hr, hlen, h1, decide_true, Bool.and_self, if_true, State.mirrorEntries_one put _ hd hw hm]
  split
  all_goals
    obtain ⟨got, hentry⟩ := State.mirrorEntry_image put _ (slice m 24 (4 * words)) hk
    exact ⟨got, _, congrArg State.judgeSync hentry, rfl⟩

/-- A MIRROR that comes not from the partner, or to a hub that is not standby, is not taken (R145). -/
theorem State.mirrorIn_ignored (put : State → Nat → List Byte → State) {s : State} {p : Port} {m : List Byte}
    (h : s.fromPartner p m 0x0511 = false ∨ s.role ≠ 0) : s.mirrorIn put p m = s := by
  rcases h with h | h
  · simp [State.mirrorIn, h]
  · simp [State.mirrorIn, h]

/-- A record whose tag is a free value is raised. -/
theorem State.raiseOpen_work (s : State) (i : Island) (cls reason : Nat) : s.SwitchWork (s.raiseOpen i cls reason) :=
  SwitchWork.trans (t := s.tookFree) ⟨⟨_, _, _, _, rfl⟩, fun _ _ => rfl⟩ (.raise _ _ _ _ _)

/-- The report of a failed pair link leaves the registers of the pair. -/
theorem State.rd_pairFault (s : State) {o : Nat} (h : o < 0x300000) : s.pairFault.rd o = s.rd o := by
  change (if s.pair.linkWas && !s.pairLinkUp && s.rd 0x208202 = 0 then s.raiseOpen .mgt 0x00 0x78 else s).rd o = s.rd o
  split
  · exact (s.raiseOpen_work _ _ _).rd o h
  · rfl

/-- At the deadline the partner's heartbeat is judged for this cycle: the missed count is cleared, or goes up (R144). -/
theorem State.heartbeatDeadline_judges {s : State} (hin : s.inPair = true) (ht : s.ticking = true) (hb : s.beat = s.heartBeat + 256)
    (hj : s.pair.judged = false) : s.heartbeatDeadline.pair.judged = true ∧
    s.heartbeatDeadline.rd 0x208201 = if s.pair.heard then 0 else min (s.rd 0x208201 + 1) (2 ^ objBits 0x208201 - 1) := by
  simp only [State.heartbeatDeadline, hin, ht, hb, hj, decide_true, Bool.and_self, Bool.not_false, if_true]
  refine ⟨?_, ?_⟩
  · rw [(State.sendControl_work _ _ _).pair]
  · rw [(State.sendControl_work _ _ _).rd _ (by decide)]
    refine (State.rd_pairFault _ (by decide)).trans ?_
    split
    · exact s.rd_wr_self _ _
    · rw [State.rd_incSat, if_pos rfl]

/-- A cycle is judged once (R144). -/
theorem State.heartbeatDeadline_once {s : State} (hj : s.pair.judged = true) : s.heartbeatDeadline = s := by
  simp [State.heartbeatDeadline, hj]

/-- A message of the arbiter whose CMAC fails is journalled (R148). -/
theorem State.beaconIn_unsigned {s : State} {m : List Byte} (hf : s.fromArbiter m 0x0513 = true) (hc : cmacOk s.pairKey m 20 = false) :
    s.beaconIn m = s.cmacFailed m := by
  simp [State.beaconIn, hf, hc]

/-- A beacon of another pair, or under a grant sequence behind the hub's own, does nothing (R147, R151). -/
theorem State.beaconIn_passes {s : State} {m : List Byte} (hf : s.fromArbiter m 0x0513 = true) (hc : cmacOk s.pairKey m 20 = true)
    (ho : s.otherPair m = true ∨ beField m 16 4 < s.rd 0x208203) : s.beaconIn m = s := by
  simp [State.beaconIn, hf, hc, ho]

section
variable {s : State} {m : List Byte} (hf : s.fromArbiter m 0x0513 = true) (hc : cmacOk s.pairKey m 20 = true) (ho : s.otherPair m = false)
  (hq : s.rd 0x208203 ≤ beField m 16 4)
include hf hc ho hq

/-- A beacon that names a holding hub makes it active next (R151, R154). -/
theorem State.beaconIn_named (hn : beField m 14 2 = s.node) (hr : s.role = 2) :
    s.beaconIn m = { s with pair := { s.pair with beacon := true, roleNext := some 1 } } := by
  rw [State.beaconIn, if_pos hf, if_neg (by simp [hc]), if_neg (by simp [ho, hq])]
  exact (if_pos hn).trans (if_pos hr)

/-- A beacon that names the partner makes an active hub hold next (R151). -/
theorem State.beaconIn_partner (hn : beField m 14 2 ≠ s.node) (hp : beField m 14 2 = s.rd 0x208101) (hr : s.role = 1) :
    s.beaconIn m = { s with pair := { s.pair with beacon := true, roleNext := some 2 } } := by
  rw [State.beaconIn, if_pos hf, if_neg (by simp [hc]), if_neg (by simp [ho, hq])]
  exact (if_neg hn).trans ((if_pos hp).trans (if_pos hr))

end

/-- A hub that accepts a grant takes its sequence and waits for its cycle (R150). -/
def State.grantTaken (s : State) (r take seq : Nat) : State :=
  if r = 0 then { (s.wr 0x208203 seq) with pair := { s.pair with takeAt := some (take, seq), releaseAt := none } } else s

/-- The answer to a grant goes to the arbiter (R147). -/
def State.answerGrant (s : State) (r take seq : Nat) : State :=
  s.sendControl (s.rd 0x208102) (withCmac s.pairKey (controlHead 0x0515 s.node s.cycle ++
    natBE 2 (s.rd 0x208100) ++ natBE 1 r ++ zeros 1 ++ natBE 8 take ++ natBE 4 seq))

theorem State.grantResult_eq (s : State) (seq take : Nat) : s.grantResult seq take =
    if seq ≤ s.rd 0x208203 then 3 else if s.rd 0x208200 = 0 ∧ s.rd 0x208206 = 0 then 2 else if s.beatsTo take < 64 then 1 else 0 := by
  simp only [State.grantResult, Bool.and_eq_true, decide_eq_true_eq]
  rfl

theorem State.grantIn_unsigned {s : State} {m : List Byte} (hf : s.fromArbiter m 0x0514 = true) (hc : cmacOk s.pairKey m 32 = false) :
    s.grantIn m = s.cmacFailed m := by
  simp [State.grantIn, hf, hc]

section
variable {s : State} {m : List Byte} (hf : s.fromArbiter m 0x0514 = true) (hc : cmacOk s.pairKey m 32 = true)
include hf hc

/-- A grant of another pair does nothing (R147). -/
theorem State.grantIn_passes (ho : s.otherPair m = true) : s.grantIn m = s := by
  simp [State.grantIn, hf, hc, ho]

/-- A grant to this hub is judged, taken where it is accepted, and answered (R150). -/
theorem State.grantIn_answers (ho : s.otherPair m = false) (hn : beField m 14 2 = s.node) {r : Nat}
    (hr : s.grantResult (beField m 28 4) (beField m 20 8) = r) :
    s.grantIn m = (s.grantTaken r (beField m 20 8) (beField m 28 4)).answerGrant r (beField m 20 8) (beField m 28 4) := by
  subst hr
  rw [State.grantIn, if_pos hf, if_neg (by simp [hc]), if_neg (by simp [ho])]
  exact if_pos hn

/-- A newer grant that releases this hub is noted (R150). -/
theorem State.grantIn_releases (ho : s.otherPair m = false) (hn : beField m 14 2 ≠ s.node) (hs : beField m 16 2 = s.node)
    (hq : s.rd 0x208203 < beField m 28 4) : s.grantIn m =
      { (s.wr 0x208203 (beField m 28 4)) with pair := { s.pair with releaseAt := some (beField m 20 8), takeAt := none } } := by
  rw [State.grantIn, if_pos hf, if_neg (by simp [hc]), if_neg (by simp [ho])]
  exact (if_neg hn).trans (if_pos (by simp [hs, hq]))

end

/-- The sender of a control message (R147). -/
def senderOf (m : List Byte) : Nat := beField m 2 2 % 1024

/-- The entry of the pair table that names the sender of a message as one of its hubs. -/
def State.senderEntry (s : State) (m : List Byte) : Option Nat :=
  s.findEntry (fun e => e.hubA = beField m 2 2 % 1024 || e.hubB = beField m 2 2 % 1024)

/-- The report that a PAIR_STATUS carries (R147). -/
def statusReport (m : List Byte) : PairReport := ⟨beField m 4 8, beField m 12 1, beField m 15 1, beField m 16 4⟩

/-- The reports of a status's sender once the status is kept: this one, and the last three of other cycles (R149). -/
def State.reportsWith (s : State) (m : List Byte) : List PairReport :=
  (statusReport m :: (mget [] s.pair.reports (senderOf m)).filter (fun x => x.cycle != (statusReport m).cycle)).take 4

section
variable {s : State} {m : List Byte} (ht : s.ticking = true) (hm : beField m 0 2 = 0x0512)
include ht hm

/-- A status of no known pair is journalled (R148). -/
theorem State.statusIn_unknown (hk : s.senderEntry m = none) : s.statusIn m = s.cmacFailed m := by
  rw [State.senderEntry] at hk
  simp only [State.statusIn, ht, hm, hk, decide_true, Bool.and_self, if_true]

variable {k : Nat} (hk : s.senderEntry m = some k)
include hk

theorem State.statusIn_unsigned (hc : cmacOk (s.pairEntry k).key m 20 = false) : s.statusIn m = s.cmacFailed m := by
  rw [State.senderEntry] at hk
  simp only [State.statusIn, ht, hm, hk, hc, decide_true, Bool.and_self, Bool.not_false, if_true]

/-- A status is kept under its sender, with the highest grant sequence, and names its sender active where it says so and no hub is (R149). -/
theorem State.statusIn_keeps (hc : cmacOk (s.pairEntry k).key m 20 = true) : s.statusIn m = { s with pair := { s.pair with
    reports := mset [] s.pair.reports (senderOf m) (s.reportsWith m)
    grantSeq := mset 0 s.pair.grantSeq k (max (statusReport m).grant (mget 0 s.pair.grantSeq k))
    named := if beField m 12 1 = 1 ∧ mget 0 s.pair.named k = 0 then mset 0 s.pair.named k (senderOf m) else s.pair.named } } := by
  rw [State.senderEntry] at hk
  simp only [State.statusIn, ht, hm, hk, hc, decide_true, Bool.and_self, Bool.not_true, if_true, Bool.and_eq_true, decide_eq_true_eq]
  by_cases hn : beField m 12 1 = 1 ∧ mget 0 s.pair.named k = 0
  · simp only [if_pos hn]
    rfl
  · simp only [if_neg hn]
    rfl

/-- So its report of that cycle is read back, other hubs' reports stay, and its pair has a hub named active where it says that it is. -/
theorem State.statusIn_takes (hc : cmacOk (s.pairEntry k).key m 20 = true) :
    (s.statusIn m).reportOf (senderOf m) (beField m 4 8) = some (statusReport m) ∧
    (∀ n, n ≠ senderOf m → mget [] (s.statusIn m).pair.reports n = mget [] s.pair.reports n) ∧
    mget 0 (s.statusIn m).pair.named k =
      if beField m 12 1 = 1 ∧ mget 0 s.pair.named k = 0 then senderOf m else mget 0 s.pair.named k := by
  rw [State.statusIn_keeps ht hm hk hc]
  refine ⟨?_, fun n hn => mget_mset_ne [] s.pair.reports (s.reportsWith m) hn, ?_⟩
  · simp [State.reportOf, State.reportsWith, statusReport]
  · dsimp only
    split
    · exact mget_mset_self 0 s.pair.named k _
    · rfl

end

section
variable {s : State} {m : List Byte} (ht : s.ticking = true) (hm : beField m 0 2 = 0x0515)
include ht hm

/-- An answer of no known pair is journalled (R148). -/
theorem State.ackIn_unknown (hk : s.findEntry (fun e => e.service = beField m 12 2) = none) : s.ackIn m = s.cmacFailed m := by
  simp only [State.ackIn, ht, hm, hk, decide_true, Bool.and_self, if_true]

variable {k : Nat} (hk : s.findEntry (fun e => e.service = beField m 12 2) = some k)
include hk

theorem State.ackIn_unsigned (hc : cmacOk (s.pairEntry k).key m 28 = false) : s.ackIn m = s.cmacFailed m := by
  simp only [State.ackIn, ht, hm, hk, hc, decide_true, Bool.and_self, Bool.not_false, if_true]

/-- A refusal of a grant does nothing at the arbiter (R150). -/
theorem State.ackIn_refusal (hc : cmacOk (s.pairEntry k).key m 28 = true) (hr : beField m 14 1 ≠ 0) : s.ackIn m = s := by
  simp [State.ackIn, ht, hm, hk, hc, hr]

/-- The acceptance of the last grant is noted with its takeover cycle, and the castling commanded is over (R150). -/
theorem State.ackIn_accepts (hc : cmacOk (s.pairEntry k).key m 28 = true) (hr : beField m 14 1 = 0)
    (hq : beField m 24 4 = mget 0 s.pair.grantSeq k) : s.ackIn m = { s with pair := { s.pair with
      granted := minsert s.pair.granted k (senderOf m, beField m 16 8), commanded := s.pair.commanded.filter (fun x => x != k) } } := by
  simp [State.ackIn, ht, hm, hk, hc, hr, hq, senderOf]

end

/-- A castling request is noted on the active hub of a pair (R155). -/
theorem State.requestCastling_eq (s : State) : s.requestCastling =
    okRes (if s.inPair = true ∧ s.rd 0x208200 = 1 then { s with pair := { s.pair with askCastle := true } } else s) := by
  simp only [State.requestCastling, Bool.and_eq_true, decide_eq_true_eq]
  rfl

/-- A castling command takes an operand of its object's width. -/
theorem exec_commandCastling {v : Nat} (hv : v < 2 ^ objBits 0x208410) (h : OdHdr) (s : State) :
    exec (.commandCastling h v) s = .next (s.odSet h 0x208410 v (fun t => t.commandCastling v)) := by
  change Host.Outcome.next (s.odSet h 0x208410 v (fun t => t.commandCastling (v % 2 ^ objBits 0x208410))) = _
  rw [Nat.mod_eq_of_lt hv]

/-- A castling command of a known service is noted (R149). -/
theorem State.commandCastling_known {s : State} {v k : Nat} (hk : s.findEntry (fun e => e.service = v) = some k) :
    ∃ t : State, s.commandCastling v = okRes t ∧ k ∈ t.pair.commanded ∧ t.pair.granted = s.pair.granted := by
  refine ⟨{ s with pair := { s.pair with commanded := if s.pair.commanded.contains k then s.pair.commanded else k :: s.pair.commanded } }, ?_, ?_, rfl⟩
  · simp only [State.commandCastling, hk]
  · dsimp only
    split
    next h => simpa using h
    next => exact List.mem_cons_self

theorem State.commandCastling_unknown {s : State} {v : Nat} (hk : s.findEntry (fun e => e.service = v) = none) :
    s.commandCastling v = errRes s 0x04 := by
  simp only [State.commandCastling, hk]

/-- Settles O43: each message is one case of its reception, each command one case of its OD write. -/
theorem pairMessagesTakeEffect : Obligations.PairMessagesTakeEffect := by
  unfold Obligations.PairMessagesTakeEffect
  intro s b h m hb
  refine ⟨fun p => ⟨?heard, ?notHeard, ?mirror, ?noMirror⟩, ?deadline, ?beacon, ?grant, ?arbiter, ?request, ?command⟩
  case heard =>
    intro hp hl hc
    obtain ⟨hheard, hhash, hrole⟩ := State.heartbeatIn_takes hp hl hc
    exact ⟨_, rfl, hheard, hhash, hrole.trans (ite_congr (propext State.yieldsTo_iff) (fun _ => rfl) (fun _ => rfl))⟩
  case notHeard =>
    intro hp
    exact congrArg Host.Outcome.next (State.heartbeatIn_ignored hp)
  case mirror =>
    intro d words hp hr h1 hd hw hlen hk
    obtain ⟨got, t, htaken, rfl⟩ := State.mirrorIn_image State.mirrorPut hp hr h1 hd hw hlen hk
    exact ⟨_, congrArg Host.Outcome.next htaken, rfl, rfl, rfl, rfl⟩
  case noMirror =>
    intro hno
    exact congrArg Host.Outcome.next (State.mirrorIn_ignored State.mirrorPut hno)
  case deadline =>
    intro hin ht hbeat
    refine ⟨fun hj => ?_, fun hj => ?_⟩
    · exact ⟨_, rfl, State.heartbeatDeadline_judges hin ht hbeat hj⟩
    · exact congrArg Host.Outcome.next (State.heartbeatDeadline_once hj)
  case beacon =>
    intro hf
    refine ⟨fun hc => ?_, fun hc ho => ?_, fun hc ho hq => ⟨fun hn hr => ?_, fun hn hp hr => ?_⟩⟩
    · exact congrArg Host.Outcome.next (State.beaconIn_unsigned hf hc)
    · exact congrArg Host.Outcome.next (State.beaconIn_passes hf hc ho)
    · exact congrArg Host.Outcome.next (State.beaconIn_named hf hc ho hq hn hr)
    · exact congrArg Host.Outcome.next (State.beaconIn_partner hf hc ho hq hn hp hr)
  case grant =>
    rintro _ _ r _ hf rfl rfl hr rfl
    refine ⟨fun hc => ?_, fun hc ho => ?_, fun hc ho hn => ?_, fun hc ho hn hs hq => ?_⟩
    · exact congrArg Host.Outcome.next (State.grantIn_unsigned hf hc)
    · exact congrArg Host.Outcome.next (State.grantIn_passes hf hc ho)
    · exact congrArg Host.Outcome.next (State.grantIn_answers hf hc ho hn ((s.grantResult_eq _ _).trans hr.symm))
    · exact congrArg Host.Outcome.next (State.grantIn_releases hf hc ho hn hs hq)
  case arbiter =>
    rintro k _ ht rfl
    refine ⟨fun hm hk => ?_, fun hm hk => ?_, fun hm hk => ⟨fun hc => ?_, fun hc => ?_⟩,
      fun hm hk => ⟨fun hc => ?_, fun hc hr => ?_, fun hc hr hq => ?_⟩⟩
    · exact congrArg Host.Outcome.next (State.statusIn_unknown ht hm hk)
    · exact congrArg Host.Outcome.next (State.ackIn_unknown ht hm hk)
    · exact congrArg Host.Outcome.next (State.statusIn_unsigned ht hm hk hc)
    · exact ⟨_, rfl, State.statusIn_takes ht hm hk hc⟩
    · exact congrArg Host.Outcome.next (State.ackIn_unsigned ht hm hk hc)
    · exact congrArg Host.Outcome.next (State.ackIn_refusal ht hm hk hc hr)
    · refine ⟨_, congrArg Host.Outcome.next (State.ackIn_accepts ht hm hk hc hr hq), ?_, by simp⟩
      exact (mfind_minsert _ k k _).trans (if_pos rfl)
  case request =>
    intro hp
    exact State.odSet_done hb hp (State.requestCastling_eq b)
  case command =>
    intro v hv hp
    rw [exec_commandCastling hv]
    refine ⟨fun k hk => ?_, fun hk => ?_⟩
    · obtain ⟨t, hdone, hin, hgranted⟩ := State.commandCastling_known hk
      exact ⟨t, State.odSet_done hb hp hdone, hin, hgranted⟩
    · exact State.odSet_errs hb hp (State.commandCastling_unknown hk) (by decide) (by decide)

end Sys2Proof.Machine
end

section
/-!
PROOFS. The open batch of the switch (R170): a frame that enters, and the end of an OD access, leave it as it is.
-/
namespace Sys2Proof.Machine

@[simp] theorem State.raise_switch (s : State) (i : Island) (cls reason tag : Nat) : (s.raise i cls reason tag).switch = s.switch := by
  obtain ⟨_, _, _, hframe⟩ := s.raise_frame i cls reason tag
  rw [hframe]

@[simp] theorem State.inc_switch (s : State) (o : Nat) : (s.inc o).switch = s.switch := by
  obtain ⟨_, _, hframe⟩ := s.addTo_frame o 1
  rw [State.inc, hframe]

@[simp] theorem State.noteCells_switch (s : State) : s.noteCells.switch = s.switch := by
  unfold State.noteCells
  split <;> rfl

@[simp] theorem State.markOn_switch (s : State) (q : Nat) (f : Frame) : (s.markOn q f).1.switch = s.switch := by
  unfold State.markOn
  split
  · exact s.inc_switch _
  · rfl

/-- A copy that is admitted fills its feed and the buffer only. -/
theorem State.admitCopy_batch (s : State) (ing egress id : Nat) (col : Colour) (f : Frame) :
    (s.admitCopy ing egress id col f).switch.batch = s.switch.batch := by
  change (s.markOn (queueOf egress f.cls) f).1.switch.batch = s.switch.batch
  rw [State.markOn_switch]

/-- A policer takes tokens only (R183). -/
theorem State.police_batch (s : State) (ing : Nat) (f : Frame) : (s.police ing f).1.switch.batch = s.switch.batch := by
  unfold State.police
  dsimp only
  split
  · rfl
  split
  · rw [State.inc_switch]
  split
  · rw [State.inc_switch]
  · rw [State.inc_switch]

section
variable {report : State → Frame → State} (hreport : ∀ (s : State) (f : Frame), (report s f).switch.batch = s.switch.batch)
include hreport

theorem State.discardWith_batch (s : State) (f : Frame) (egress outcome reason : Nat) :
    (s.discardWith report f egress outcome reason).switch.batch = s.switch.batch := by
  have hj : (if isJournalFwd f then s else s.journalDrop f egress reason).switch.batch = s.switch.batch := by
    split
    · rfl
    · exact congrArg _ (s.raise_switch _ _ _ _)
  unfold State.discardWith
  dsimp only
  split
  · exact hj
  · exact (hreport _ _).trans hj

theorem State.admitAll_batch (ing id : Nat) (col : Colour) (f : Frame) (ps : List Nat) (s : State) :
    (s.admitAll report ing id col f ps).switch.batch = s.switch.batch := by
  have drop := fun (t : State) (p oc reason : Nat) => t.discardWith_batch hreport f p oc reason
  induction ps generalizing s with
  | nil => rfl
  | cons p ps ih =>
    refine (ih _).trans ?_
    dsimp only
    split
    · exact drop s p _ _
    split
    · exact drop s p _ _
    split
    · rw [State.inc_switch, drop]
    split
    · exact s.admitCopy_batch ing p id col f
    · rw [State.inc_switch, drop]

theorem State.storeFrame_batch (s : State) (ing : Nat) (col : Colour) (f : Frame) (ps : List Nat) :
    (s.storeFrame report ing col f ps).switch.batch = s.switch.batch := by
  have hadmit := State.admitAll_batch hreport ing s.switch.nextId col f ps { s with switch := { s.switch with nextId := s.switch.nextId + 1 } }
  unfold State.storeFrame
  rw [State.noteCells_switch]
  split
  · exact hadmit
  · exact hadmit

theorem State.storeJudged_batch (s : State) (ing : Nat) (col : Colour) (f f1 : Frame) (ps : List Nat) :
    (s.storeJudged report ing col f f1 ps).switch.batch = s.switch.batch := by
  unfold State.storeJudged
  split
  · exact s.storeFrame_batch hreport ing col f1 ps
  · exact congrArg _ (s.raise_switch _ _ _ _)

theorem State.takeFrame_batch (s : State) (ing : Nat) (f : Frame) (ps : List Nat) :
    (s.takeFrame report ing f ps).switch.batch = s.switch.batch := by
  unfold State.takeFrame
  refine Eq.trans ?_ (s.police_batch ing f)
  dsimp only
  split
  · exact State.discardWith_batch hreport _ f _ _ _
  · exact State.storeJudged_batch hreport _ ing _ f _ ps

/-- Ingress in the order of R161 writes no table slot that a batch holds. -/
theorem State.ingressWith_batch (s : State) (ing : Nat) (f : Frame) : (s.ingressWith report ing f).switch.batch = s.switch.batch := by
  have drop : (s.journalDrop f 0 0x20).switch.batch = s.switch.batch := congrArg _ (s.raise_switch _ _ _ _)
  unfold State.ingressWith
  split
  · exact drop
  split
  · exact drop
  split
  · exact s.discardWith_batch hreport f _ _ _
  split
  · exact drop
  split
  · exact s.discardWith_batch hreport f _ _ _
  · exact s.takeFrame_batch hreport ing f _

end

theorem State.sendReport_batch (s : State) (f : Frame) : (s.sendReport f).switch.batch = s.switch.batch := by
  unfold State.sendReport
  split
  · rfl
  · exact s.ingressWith_batch (fun _ _ => rfl) 4 f

@[simp] theorem State.sendFrame_batch (s : State) (port : Nat) (f : Frame) : (s.sendFrame port f).switch.batch = s.switch.batch := by
  unfold State.sendFrame State.ingress
  split
  · rfl
  · exact s.ingressWith_batch State.sendReport_batch port f

@[simp] theorem State.odJournal_switch (s : State) (reason err obj : Nat) : (s.odJournal reason err obj).switch = s.switch :=
  s.raise_switch _ _ _ _

@[simp] theorem State.responseLost_switch (s : State) (m : List Byte) : (s.responseLost m).switch = s.switch := s.odJournal_switch _ _ _

@[simp] theorem State.notice_switch (s : State) (v : Nat) : (s.notice v).switch = s.switch := by
  unfold State.notice
  split
  · rfl
  split
  · rfl
  · rfl

@[simp] theorem State.queueRequest_switch (s : State) (n m : Nat) (r : TxReq) : (s.queueRequest n m r).switch = s.switch := by
  have hbus (t : State) (attempts reason : Nat) : (t.busJournal n m attempts reason).switch = t.switch := t.raise_switch _ _ _ _
  unfold State.queueRequest
  dsimp only
  split
  · split
    · rw [hbus, State.setMsg_switch]
    · exact s.setMsg_switch _ _ _
  · split
    · rw [hbus, State.setMsg_switch]
    · exact s.setMsg_switch _ _ _

/-- Records raised one after the other leave the switch as it is. -/
theorem State.foldl_raise_switch {α : Type} (i : Island) (cls reason : Nat) (tag : α → Nat) (l : List α) (s : State) :
    (l.foldl (fun s x => s.raise i cls reason (tag x)) s).switch = s.switch := by
  induction l generalizing s with
  | nil => rfl
  | cons x l ih => exact (ih _).trans (s.raise_switch _ _ _ _)

@[simp] theorem State.feedService_switch (s : State) : s.feedService.switch = s.switch := by
  unfold State.feedService
  split
  · rfl
  split
  · exact State.foldl_raise_switch _ _ _ _ _ _
  split
  · rfl
  · exact State.queueRequest_switch _ _ _ _

/-- A response leaves the batch as it is, on every route (R328 to R331). -/
@[simp] theorem State.sendResponse_batch (s : State) (h : OdHdr) (m : List Byte) : (s.sendResponse h m).switch.batch = s.switch.batch := by
  unfold State.sendResponse
  split
  next => exact s.sendFrame_batch _ _
  next =>
    split
    · rw [State.responseLost_switch]
    dsimp only
    split
    · rw [State.notice_switch]
    · rfl
  next =>
    split
    · rw [State.responseLost_switch, State.tookFree_switch]
    · rfl
  next => exact congrArg _ (State.feedService_switch _)

@[simp] theorem State.answer_batch (s : State) (h : OdHdr) (op obj : Nat) (passed : Bool) (err : Nat) (val : List Byte) (late staged : Bool) :
    (s.answer h op obj passed err val late staged).switch.batch = s.switch.batch := by
  unfold State.answer
  dsimp only
  split
  · exact s.sendResponse_batch _ _
  · exact s.sendResponse_batch _ _

@[simp] theorem State.storeCounter_switch (s : State) (a : Option OdAuth) : (s.storeCounter a).switch = s.switch := by
  cases a <;> rfl

@[simp] theorem State.authenticate_switch (s : State) (h : OdHdr) (op obj : Nat) (val : List Byte) :
    (s.authenticate h op obj val).1.switch = s.switch := by
  unfold State.authenticate
  dsimp only
  split
  · exact s.storeCounter_switch _
  split
  · rfl
  · exact s.odJournal_switch _ _ _

@[simp] theorem State.answerOdd_batch (s : State) (h : OdHdr) (l : List Byte) : (s.answerOdd h l).switch.batch = s.switch.batch := by
  unfold State.answerOdd
  dsimp only
  split
  · rw [State.answer_batch, State.authenticate_switch]
  · exact State.sendResponse_batch _ _ _

theorem State.answerFirst_batch (s : State) : s.answerFirst.switch.batch = s.switch.batch := by
  have hall (l : List (Nat × OdHdr × List Byte)) (t : State) :
      (l.foldl (fun t e => t.answerOdd e.2.1 e.2.2) t).switch.batch = t.switch.batch := by
    induction l generalizing t with
    | nil => rfl
    | cons e l ih => exact (ih _).trans (t.answerOdd_batch _ _)
  exact hall _ _

/-- A message that arrives is queued or answered, and takes no part in the batch. -/
theorem State.arrive_batch (s : State) (h : OdHdr) (l : List Byte) : (s.arrive h l).switch.batch = s.switch.batch := by
  unfold State.arrive
  split
  · rw [State.odJournal_switch]
  dsimp only
  split
  · exact s.sendResponse_batch _ _
  split
  · split
    · exact s.answerOdd_batch _ _
    · rfl
  · rfl

theorem State.takeSlots_batch (n : Nat) (s : State) : (s.takeSlots n).switch.batch = s.switch.batch := by
  induction n generalizing s with
  | zero => rfl
  | succ n ih =>
    unfold State.takeSlots
    dsimp only
    split
    · rfl
    · exact (ih _).trans (State.arrive_batch _ _ _)

@[simp] theorem State.takeMail_batch (s : State) (n : Nat) : (s.takeMail n).switch.batch = s.switch.batch :=
  (State.takeSlots_batch n _).trans s.answerFirst_batch

@[simp] theorem State.noteStore_switch (s : State) (o : Nat) (v : List Byte) : (s.noteStore o v).switch = s.switch := by
  have hcopy : (s.copyWritten o (beNat v)).switch = s.switch := by
    unfold State.copyWritten
    split <;> rfl
  unfold State.noteStore
  dsimp only
  split
  · exact hcopy
  · exact hcopy

/-- The end of an accepted write leaves the batch that its effect left. -/
theorem State.numDone_batch (t b : State) (h : OdHdr) (o v : Nat) (staged : Bool) :
    (t.numDone b h o v staged).switch.batch = t.switch.batch := by
  unfold State.numDone State.odDone
  rw [State.takeMail_batch, State.answer_batch]
  split
  · rfl
  · rw [State.noteStore_switch]

/-- The end of a refused write leaves the batch that its effect left. -/
theorem State.odRefused_batch (t : State) (h : OdHdr) (o err : Nat) (detail : Option Nat) :
    (t.odRefused h o err detail).switch.batch = t.switch.batch := by
  unfold State.odRefused
  rw [State.takeMail_batch, State.answer_batch]

end Sys2Proof.Machine
end

section
/-!
PROOFS. Batches of table writes (R170) at a hub that is committed to a sleep (R395): the statement about epoch-governed tables fails there.
-/
namespace Sys2Proof.Machine

/-- The commit of a batch that writes an object that the hub may not store is refused as busy, and nothing else happens (R395). -/
theorem State.commitBatch_barred {s : State} {l : List (Nat × Nat)} (hl : s.switch.batch = some l)
    (hbar : l.any (fun e => s.storeBarred e.1) = true) : s.commitBatch = errRes s 0x06 := by
  simp [State.commitBatch, hl, hbar, errRes]

/-- A write that begins leaves the switch as it is. -/
theorem State.odBegun_switch (s : State) (h : OdHdr) : (s.odBegun h).switch = s.switch := State.storeCounter_switch _ _

/-- The commit of such a batch leaves it open. -/
theorem exec_tableBatchCommit_barred {s : State} {h : OdHdr} {l : List (Nat × Nat)} (hp : s.numPasses h 0x300007 2 = true)
    (hl : s.switch.batch = some l) (hbar : l.any (fun e => (s.odBegun h).storeBarred e.1) = true) :
    ∃ u : State, exec (.tableBatchCommit h) s = .next u ∧ u.switch.batch = some l := by
  have hb : (s.odBegun h).switch.batch = some l := by rw [State.odBegun_switch, hl]
  refine ⟨_, State.odSet_errs rfl hp (State.commitBatch_barred hb hbar) (by decide) (by decide), ?_⟩
  rw [State.odRefused_batch, hb]

/-- A hub in Run whose sleep state is committed (R395) while a batch is open with one write in it: route code 1 for node 9 (R163, R170). -/
def sleepyBatch : State :=
  State.wr { State.reset with
    mode := .run, seq := { released := true }, modes := { keeperUp := true }
    sleep := { State.reset.sleep with back := some .run }
    switch := { State.reset.switch with batch := some [(0x320009, 1)] } } 0xB00007 3

/-- The header of an OD request over UDP that carries no key. -/
def udpPlain : OdHdr := ⟨.udp, 0, 0, 0, 0, false, none⟩

/-- The write of 2 to 3.000.07 passes every check at that hub, and the write that the batch holds could be made under the next epoch, but it is one of a
class-N object. -/
theorem sleepyBatch_passes : sleepyBatch.numPasses udpPlain 0x300007 2 = true ∧ epochObj 0x320009 = true ∧
    (sleepyBatch.odBegun udpPlain).drainOf (((sleepyBatch.odBegun udpPlain).epoch + 1) % 4) = 0 ∧
    (sleepyBatch.odBegun udpPlain).spareDrains 0x320009 = false ∧ (sleepyBatch.odBegun udpPlain).storeBarred 0x320009 = true := by
  decide +kernel

/-- Refutes O17: the clause about the commit of a single entry leaves out the sleep commit. A hub that is committed to a sleep refuses writes to class-N
objects (R395), and so the commit of a batch that holds one; at `sleepyBatch` that batch stays open, where the clause has it closed. -/
theorem not_tableUpdatesAdvanceTheEpoch : ¬ Obligations.TableUpdatesAdvanceTheEpoch := by
  unfold Obligations.TableUpdatesAdvanceTheEpoch
  intro hall
  obtain ⟨hpass, hepoch, hdrain, hspare, hbar⟩ := sleepyBatch_passes
  obtain ⟨-, -, -, -, -, hcommit, -⟩ := hall sleepyBatch _ udpPlain rfl
  obtain ⟨t, hdone, hclosed, -⟩ := hcommit 0x320009 1 hpass rfl hepoch hdrain hspare
  obtain ⟨u, hrefused, hopen⟩ := exec_tableBatchCommit_barred hpass rfl (by simp [hbar])
  have hu : t.numDone (sleepyBatch.odBegun udpPlain) udpPlain 0x300007 2 false = u := Host.Outcome.next.inj (hdone.symm.trans hrefused)
  rw [← hu, State.numDone_batch, hclosed] at hopen
  exact absurd hopen (by simp)

end Sys2Proof.Machine
end

section
/-!
PROOFS. Swaps of pawns in service (R223 to R227): one pawn after a write to it or to another, and the statement about a swap that is withdrawn.
-/
namespace Sys2Proof.Machine

/-- One pawn after a write to one of them. -/
theorem State.pawn_setPawn (s : State) (q k : Nat) (p : PawnSt) : (s.setPawn q p).pawn k = if k = q then p else s.pawn k :=
  mget_mset _ _ _ _ _

@[simp] theorem State.pawn_setPawn_self (s : State) (q : Nat) (p : PawnSt) : (s.setPawn q p).pawn q = p := by simp [State.pawn_setPawn]

theorem State.pawn_setPawn_ne (s : State) {q k : Nat} (p : PawnSt) (h : k ≠ q) : (s.setPawn q p).pawn k = s.pawn k := by
  simp [State.pawn_setPawn, h]

@[simp] theorem State.pawn_wr (s : State) (o v q : Nat) : (s.wr o v).pawn q = s.pawn q := rfl

/-- A swap that is armed or pending, as 5.0pp.23 reads 1 or 2, loses its boundary and its state, and nothing else (R227). -/
theorem State.withdrawSwap_waiting {s : State} {q : Nat} (h : s.rd (pawnObj q 0x23) = 1 ∨ s.rd (pawnObj q 0x23) = 2) :
    s.withdrawSwap q = (s.setPawn q { s.pawn q with swapAt := none, swapBank := false }).wr (pawnObj q 0x23) 0 := by
  simp [State.withdrawSwap, h]

/-- The pawn of a withdrawn swap has no boundary named for one, and is otherwise as it was. -/
theorem State.withdrawSwap_pawn {s : State} {q : Nat} (h : s.rd (pawnObj q 0x23) = 1 ∨ s.rd (pawnObj q 0x23) = 2) :
    (s.withdrawSwap q).pawn q = { s.pawn q with swapAt := none, swapBank := false } := by
  simp [State.withdrawSwap_waiting h]

/-- Every other pawn is as it was. -/
theorem State.withdrawSwap_pawn_ne {s : State} {q k : Nat} (h : s.rd (pawnObj q 0x23) = 1 ∨ s.rd (pawnObj q 0x23) = 2) (hk : k ≠ q) :
    (s.withdrawSwap q).pawn k = s.pawn k := by
  rw [State.withdrawSwap_waiting h, State.pawn_wr, State.pawn_setPawn_ne _ _ hk]

/-- A withdrawn swap writes 5.0pp.23 and no other register. -/
theorem State.rd_withdrawSwap {s : State} {q : Nat} (h : s.rd (pawnObj q 0x23) = 1 ∨ s.rd (pawnObj q 0x23) = 2) (o : Nat) :
    (s.withdrawSwap q).rd o = if o = pawnObj q 0x23 then 0 else s.rd o := by
  rw [State.withdrawSwap_waiting h, State.rd_wr, State.setPawn_rd]

/-- Settles O52: the write leaves what `State.withdrawSwap` leaves, which is one pawn without its boundary and 5.0pp.23 at 0. -/
theorem swapsAreWithdrawn : Obligations.SwapsAreWithdrawn := by
  unfold Obligations.SwapsAreWithdrawn
  intro s b h q hb hpass hwaits
  have hstate : (b.withdrawSwap q).rd (pawnObj q 0x23) = 0 := by simp [State.rd_withdrawSwap hwaits]
  have hcount : (b.withdrawSwap q).rd (pawnObj q 0x24) = b.rd (pawnObj q 0x24) := by simp [State.rd_withdrawSwap hwaits, pawnObj]
  refine ⟨b.withdrawSwap q, State.odSet_done hb hpass rfl, hstate, by simp [State.swapPending, hstate], ?pawn⟩
  rw [State.withdrawSwap_pawn hwaits]
  exact ⟨rfl, rfl, rfl, rfl, rfl, rfl, hcount, fun k hk => State.withdrawSwap_pawn_ne hwaits hk⟩

end Sys2Proof.Machine
end

section
/-!
PROOFS. The bystanders of an OD access: a frame that enters the switch, a response on any route (R328 to R331) and the look at the mailbox (R329) write
registers, the journal, the OD's own queues and the units that carry responses, and leave every other unit of the hub as it is.
-/
namespace Sys2Proof.Machine

/-- A state without what the end of an OD access may write: registers, free values, outputs, the journal, the writes that wait for flash, the copies
that the power islands keep, the OD's queues, and the bridge, the switch and the buses, which carry responses. -/
def State.bystanders (s : State) : State := { s with
  objs := [], free := 0, out := [], journal := {}, stores := [], power := State.reset.power, od := {}, bridge := {}, switch := {}, bus := {} }

/-- Pawns are bystanders. -/
theorem State.pawns_of_bystanders {s t : State} (h : t.bystanders = s.bystanders) : t.pawns = s.pawns :=
  show t.bystanders.pawns = s.bystanders.pawns from congrArg State.pawns h

@[simp] theorem State.raise_bystanders (s : State) (i : Island) (cls reason tag : Nat) : (s.raise i cls reason tag).bystanders = s.bystanders := by
  obtain ⟨_, _, _, hframe⟩ := s.raise_frame i cls reason tag
  rw [hframe]
  rfl

@[simp] theorem State.inc_bystanders (s : State) (o : Nat) : (s.inc o).bystanders = s.bystanders := by
  obtain ⟨_, _, hframe⟩ := s.addTo_frame o 1
  rw [State.inc, hframe]
  rfl

theorem State.noteCells_bystanders (s : State) : s.noteCells.bystanders = s.bystanders := by
  unfold State.noteCells
  split <;> rfl

theorem State.markOn_bystanders (s : State) (q : Nat) (f : Frame) : (s.markOn q f).1.bystanders = s.bystanders := by
  unfold State.markOn
  split
  · exact s.inc_bystanders _
  · rfl

theorem State.admitCopy_bystanders (s : State) (ing egress id : Nat) (col : Colour) (f : Frame) :
    (s.admitCopy ing egress id col f).bystanders = s.bystanders := by
  have hmark := s.markOn_bystanders (queueOf egress f.cls) f
  unfold State.admitCopy
  dsimp only
  generalize s.markOn (queueOf egress f.cls) f = marked at hmark ⊢
  exact hmark

/-- A policer takes tokens and counts (R183). -/
theorem State.police_bystanders (s : State) (ing : Nat) (f : Frame) : (s.police ing f).1.bystanders = s.bystanders := by
  unfold State.police
  dsimp only
  split
  · rfl
  split
  · exact State.inc_bystanders _ _
  split
  · exact State.inc_bystanders _ _
  · exact State.inc_bystanders _ _

section
variable {report : State → Frame → State} (hreport : ∀ (s : State) (f : Frame), (report s f).bystanders = s.bystanders)
include hreport

theorem State.discardWith_bystanders (s : State) (f : Frame) (egress outcome reason : Nat) :
    (s.discardWith report f egress outcome reason).bystanders = s.bystanders := by
  have hjournal : (if isJournalFwd f then s else s.journalDrop f egress reason).bystanders = s.bystanders := by
    split
    · rfl
    · exact s.raise_bystanders _ _ _ _
  unfold State.discardWith
  dsimp only
  split
  · exact hjournal
  · exact (hreport _ _).trans hjournal

theorem State.admitAll_bystanders (ing id : Nat) (col : Colour) (f : Frame) (ps : List Nat) (s : State) :
    (s.admitAll report ing id col f ps).bystanders = s.bystanders := by
  have hdrop := fun (t : State) (p outcome reason : Nat) => t.discardWith_bystanders hreport f p outcome reason
  induction ps generalizing s with
  | nil => rfl
  | cons p ps ih =>
    refine (ih _).trans ?_
    dsimp only
    split
    · exact hdrop s p _ _
    split
    · exact hdrop s p _ _
    split
    · rw [State.inc_bystanders, hdrop]
    split
    · exact s.admitCopy_bystanders ing p id col f
    · rw [State.inc_bystanders, hdrop]

theorem State.storeFrame_bystanders (s : State) (ing : Nat) (col : Colour) (f : Frame) (ps : List Nat) :
    (s.storeFrame report ing col f ps).bystanders = s.bystanders := by
  have hadmit := State.admitAll_bystanders hreport ing s.switch.nextId col f ps { s with switch := { s.switch with nextId := s.switch.nextId + 1 } }
  unfold State.storeFrame
  rw [State.noteCells_bystanders]
  split
  · exact hadmit
  · exact hadmit

theorem State.takeFrame_bystanders (s : State) (ing : Nat) (f : Frame) (ps : List Nat) :
    (s.takeFrame report ing f ps).bystanders = s.bystanders := by
  unfold State.takeFrame
  refine Eq.trans ?_ (s.police_bystanders ing f)
  dsimp only
  split
  · exact State.discardWith_bystanders hreport _ f _ _ _
  unfold State.storeJudged
  split
  · exact State.storeFrame_bystanders hreport _ ing _ _ ps
  · exact State.raise_bystanders _ _ _ _ _

/-- Ingress in the order of R161. -/
theorem State.ingressWith_bystanders (s : State) (ing : Nat) (f : Frame) : (s.ingressWith report ing f).bystanders = s.bystanders := by
  have hdrop : (s.journalDrop f 0 0x20).bystanders = s.bystanders := s.raise_bystanders _ _ _ _
  unfold State.ingressWith
  split
  · exact hdrop
  split
  · exact hdrop
  split
  · exact s.discardWith_bystanders hreport f _ _ _
  split
  · exact hdrop
  split
  · exact s.discardWith_bystanders hreport f _ _ _
  · exact s.takeFrame_bystanders hreport ing f _

end

theorem State.sendReport_bystanders (s : State) (f : Frame) : (s.sendReport f).bystanders = s.bystanders := by
  unfold State.sendReport
  split
  · rfl
  · exact s.ingressWith_bystanders (fun _ _ => rfl) 4 f

theorem State.sendFrame_bystanders (s : State) (port : Nat) (f : Frame) : (s.sendFrame port f).bystanders = s.bystanders := by
  unfold State.sendFrame State.ingress
  split
  · rfl
  · exact s.ingressWith_bystanders State.sendReport_bystanders port f

theorem State.notice_bystanders (s : State) (v : Nat) : (s.notice v).bystanders = s.bystanders := by
  unfold State.notice
  split
  · rfl
  split
  · rfl
  · rfl

theorem State.queueRequest_bystanders (s : State) (n m : Nat) (r : TxReq) : (s.queueRequest n m r).bystanders = s.bystanders := by
  unfold State.queueRequest
  dsimp only
  split
  · split
    · exact State.raise_bystanders _ _ _ _ _
    · rfl
  · split
    · exact State.raise_bystanders _ _ _ _ _
    · rfl

/-- Records raised one after the other. -/
theorem State.foldl_raise_bystanders {α : Type} (i : Island) (cls reason : Nat) (tag : α → Nat) (l : List α) (s : State) :
    (l.foldl (fun s x => s.raise i cls reason (tag x)) s).bystanders = s.bystanders := by
  induction l generalizing s with
  | nil => rfl
  | cons x l ih => exact (ih _).trans (s.raise_bystanders _ _ _ _)

theorem State.feedService_bystanders (s : State) : s.feedService.bystanders = s.bystanders := by
  unfold State.feedService
  split
  · rfl
  split
  · exact State.foldl_raise_bystanders _ _ _ _ _ _
  split
  · rfl
  · exact State.queueRequest_bystanders _ _ _ _

/-- A response, on every route (R328 to R331). -/
theorem State.sendResponse_bystanders (s : State) (h : OdHdr) (m : List Byte) : (s.sendResponse h m).bystanders = s.bystanders := by
  unfold State.sendResponse
  split
  next => exact s.sendFrame_bystanders _ _
  next =>
    split
    · exact s.raise_bystanders _ _ _ _
    dsimp only
    split
    · exact State.notice_bystanders _ _
    · rfl
  next =>
    split
    · exact State.raise_bystanders _ _ _ _ _
    · rfl
  next => exact State.feedService_bystanders _

theorem State.answer_bystanders (s : State) (h : OdHdr) (op obj : Nat) (passed : Bool) (err : Nat) (val : List Byte) (late staged : Bool) :
    (s.answer h op obj passed err val late staged).bystanders = s.bystanders := by
  unfold State.answer
  dsimp only
  split
  · exact s.sendResponse_bystanders _ _
  · exact s.sendResponse_bystanders _ _

theorem State.storeCounter_bystanders (s : State) (a : Option OdAuth) : (s.storeCounter a).bystanders = s.bystanders := by
  cases a <;> rfl

theorem State.authenticate_bystanders (s : State) (h : OdHdr) (op obj : Nat) (val : List Byte) :
    (s.authenticate h op obj val).1.bystanders = s.bystanders := by
  unfold State.authenticate
  dsimp only
  split
  · exact s.storeCounter_bystanders _
  split
  · rfl
  · exact s.raise_bystanders _ _ _ _

theorem State.answerOdd_bystanders (s : State) (h : OdHdr) (l : List Byte) : (s.answerOdd h l).bystanders = s.bystanders := by
  unfold State.answerOdd
  dsimp only
  split
  · exact (State.answer_bystanders _ _ _ _ _ _ _ _ _).trans (State.authenticate_bystanders _ _ _ _ _)
  · exact State.sendResponse_bystanders _ _ _

theorem State.answerFirst_bystanders (s : State) : s.answerFirst.bystanders = s.bystanders := by
  have hall (l : List (Nat × OdHdr × List Byte)) (t : State) :
      (l.foldl (fun t e => t.answerOdd e.2.1 e.2.2) t).bystanders = t.bystanders := by
    induction l generalizing t with
    | nil => rfl
    | cons e l ih => exact (ih _).trans (t.answerOdd_bystanders _ _)
  exact hall _ _

/-- A message that arrives is queued or answered. -/
theorem State.arrive_bystanders (s : State) (h : OdHdr) (l : List Byte) : (s.arrive h l).bystanders = s.bystanders := by
  unfold State.arrive
  split
  · exact s.raise_bystanders _ _ _ _
  dsimp only
  split
  · exact s.sendResponse_bystanders _ _
  split
  · split
    · exact s.answerOdd_bystanders _ _
    · rfl
  · rfl

theorem State.takeSlots_bystanders (n : Nat) (s : State) : (s.takeSlots n).bystanders = s.bystanders := by
  induction n generalizing s with
  | zero => rfl
  | succ n ih =>
    unfold State.takeSlots
    dsimp only
    split
    · rfl
    · exact (ih _).trans (State.arrive_bystanders _ _ _)

theorem State.takeMail_bystanders (s : State) (n : Nat) : (s.takeMail n).bystanders = s.bystanders :=
  (State.takeSlots_bystanders n _).trans s.answerFirst_bystanders

theorem State.noteStore_bystanders (s : State) (o : Nat) (v : List Byte) : (s.noteStore o v).bystanders = s.bystanders := by
  have hcopy : (s.copyWritten o (beNat v)).bystanders = s.bystanders := by
    unfold State.copyWritten
    split <;> rfl
  unfold State.noteStore
  dsimp only
  split
  · exact hcopy
  · exact hcopy

/-- The end of an accepted write. -/
theorem State.numDone_bystanders (t b : State) (h : OdHdr) (o v : Nat) (staged : Bool) :
    (t.numDone b h o v staged).bystanders = t.bystanders := by
  unfold State.numDone State.odDone
  rw [State.takeMail_bystanders, State.answer_bystanders]
  split
  · rfl
  · exact t.noteStore_bystanders _ _

/-- The end of a refused write. -/
theorem State.odRefused_bystanders (t : State) (h : OdHdr) (o err : Nat) (detail : Option Nat) :
    (t.odRefused h o err detail).bystanders = t.bystanders := by
  unfold State.odRefused
  rw [State.takeMail_bystanders, State.answer_bystanders]

/-- So a pawn is as the effect of an accepted write left it. -/
@[simp] theorem State.numDone_pawn (t b : State) (h : OdHdr) (o v : Nat) (staged : Bool) (q : Nat) :
    (t.numDone b h o v staged).pawn q = t.pawn q := by
  unfold State.pawn
  rw [State.pawns_of_bystanders (t.numDone_bystanders b h o v staged)]

/-- So a pawn is as the effect of a refused write left it. -/
@[simp] theorem State.odRefused_pawn (t : State) (h : OdHdr) (o err : Nat) (detail : Option Nat) (q : Nat) :
    (t.odRefused h o err detail).pawn q = t.pawn q := by
  unfold State.pawn
  rw [State.pawns_of_bystanders (t.odRefused_bystanders h o err detail)]

end Sys2Proof.Machine
end

section
/-!
PROOFS. Injection (R232 to R234) into a cluster that the active bank names: the statement about it fails at a bank that no load check accepts.
-/
namespace Sys2Proof.Machine

theorem objBits_inject : ∀ q : Fin 128, objBits (pawnObj q.val 0x25) = 32 := by decide +kernel

/-- An injection takes a word of 32 bits. -/
theorem exec_inject {v : Nat} (hv : v < 2 ^ 32) (h : OdHdr) (q : Fin 128) (s : State) :
    exec (.inject h q v) s = .next (s.odSet h (pawnObj q.val 0x25) v (fun t => t.inject q.val v)) := by
  change Host.Outcome.next (s.odSet h (pawnObj q.val 0x25) v (fun t => t.inject q.val (v % 2 ^ objBits (pawnObj q.val 0x25)))) = _
  rw [objBits_inject, Nat.mod_eq_of_lt hv]

/-- In Run and Repair a legal word for a pawn of a cluster that the active bank names is refused while the cluster is in service (R234). -/
theorem State.inject_refused {s : State} {q w : Nat} (hw : illegalWord w = false) (hnone : (s.pawn q).inj = none)
    (hmode : s.mode = .run ∨ s.mode = .repair) (hnamed : s.clusterScheduled (q / 16) = true) (hin : s.partIsolated (0x20 + q / 16) = false) :
    s.inject q w = errRes (s.wr (pawnObj q 0x26) 5) 0x02 := by
  simp [State.inject, hw, hnone, hmode, hnamed, hin]

/-- A hub in Run with injection (feature 66) whose active bank holds one move: a COPY in group SEQ from the IN FIFO of pawn 0 (R54). The load check
refuses that group with that source (R57), but the state can be written. -/
def strayCopy : State :=
  State.wr (State.wr { State.reset with
    mode := .run, modes := { keeperUp := true }
    seq := { released := true, bank0 := { Bank.empty with moves := natLE 16 (3 * 2 ^ 96 + 2 * 2 ^ 30 * 2 ^ 64) } } } 0x400000 0) 0x001302 4

/-- NOP may be injected there into pawn 0, whose cluster is in service. -/
theorem strayCopy_passes : strayCopy.numPasses udpPlain (pawnObj 0 0x25) 0 = true ∧ (strayCopy.odBegun udpPlain).mode = .run ∧
    ((strayCopy.odBegun udpPlain).pawn 0).inj = none ∧ (strayCopy.odBegun udpPlain).partIsolated 0x20 = false := by
  decide +kernel

/-- The bank holds that one move. -/
theorem strayCopy_moves : (strayCopy.odBegun udpPlain).moves = [⟨0, 0, 0x03, 2 * 2 ^ 30, 0⟩] := by decide +kernel

/-- The model has the COPY name cluster 0: an IN FIFO is a source in every group (`copyFifoCluster`). -/
theorem strayCopy_scheduled : (strayCopy.odBegun udpPlain).clusterScheduled 0 = true := by
  rw [State.clusterScheduled, strayCopy_moves]
  decide

/-- Refutes O53: the statement counts a COPY from a pawn FIFO in group PWN only, while the model takes one of any group to name the pawn's cluster. At
`strayCopy` the model refuses the word, where the statement has it queued. -/
theorem not_injectionIsRefusedInService : ¬ Obligations.InjectionIsRefusedInService := by
  unfold Obligations.InjectionIsRefusedInService
  intro hall
  obtain ⟨hpass, hrun, hnone, hin⟩ := strayCopy_passes
  have hlegal : illegalWord 0 = false := by decide
  obtain ⟨-, haccept⟩ := hall strayCopy _ udpPlain 0 0 rfl (by decide) hpass hlegal hnone _ Iff.rfl
  obtain ⟨t, hdone, hqueued, -, -⟩ := haccept (by simp [strayCopy_moves])
  have hrefused := (exec_inject (by decide) udpPlain 0 strayCopy).trans
    (State.odSet_errs rfl hpass (State.inject_refused hlegal hnone (.inl hrun) strayCopy_scheduled hin) (by decide) (by decide))
  have hsame := congrArg (fun u => (u.pawn 0).inj) (Host.Outcome.next.inj (hdone.symm.trans hrefused))
  simp only [State.numDone_pawn, State.odRefused_pawn, State.pawn_wr] at hsame
  exact Option.some_ne_none _ (hqueued.symm.trans (hsame.trans hnone))

end Sys2Proof.Machine
end

section
/-!
PROOFS. What counting, raising a record and repeating an operation leave as it is, for the units that the pin and the power statements speak of.
-/
namespace Sys2Proof.Machine

/-- What an operation leaves as it is stays so when the operation is done for each of a list. -/
theorem State.foldl_keeps {α β : Type} (g : State → β) {f : State → α → State} (hf : ∀ s a, g (f s a) = g s) (l : List α) (s : State) :
    g (l.foldl f s) = g s := by
  induction l generalizing s with
  | nil => rfl
  | cons a l ih => rw [List.foldl_cons, ih, hf]

/-- So does a register that the operation leaves as it is. -/
theorem State.rd_foldl_keeps {α : Type} {f : State → α → State} {o : Nat} (hf : ∀ s a, (f s a).rd o = s.rd o) (l : List α) (s : State) :
    (l.foldl f s).rd o = s.rd o := State.foldl_keeps (State.rd · o) hf l s

/-- A register reads what the objects hold. -/
theorem State.rd_of_objs {s t : State} (h : t.objs = s.objs) (o : Nat) : t.rd o = s.rd o := by rw [State.rd, h]; rfl

@[simp] theorem State.inc_pins (s : State) (o : Nat) : (s.inc o).pins = s.pins := by
  obtain ⟨_, _, h⟩ := s.addTo_frame o 1
  rw [State.inc, h]

@[simp] theorem State.raise_power (s : State) (i : Island) (cls reason tag : Nat) : (s.raise i cls reason tag).power = s.power := by
  obtain ⟨_, _, _, h⟩ := s.raise_frame i cls reason tag
  rw [h]

@[simp] theorem State.inc_power (s : State) (o : Nat) : (s.inc o).power = s.power := by
  obtain ⟨_, _, h⟩ := s.addTo_frame o 1
  rw [State.inc, h]

@[simp] theorem State.inc_mode (s : State) (o : Nat) : (s.inc o).mode = s.mode := by
  obtain ⟨_, _, h⟩ := s.addTo_frame o 1
  rw [State.inc, h]

@[simp] theorem State.recordLost_power (s : State) (cls : Nat) : (s.recordLost cls).power = s.power := by
  obtain ⟨_, _, h⟩ := s.recordLost_frame cls
  rw [h]

@[simp] theorem State.powerLog_power (s : State) (r : JRecord) : (s.powerLog r).power = s.power := by
  obtain ⟨_, _, _, h⟩ := s.powerLog_frame r
  rw [h]

@[simp] theorem State.raise_update (s : State) (i : Island) (cls reason tag : Nat) : (s.raise i cls reason tag).update = s.update := by
  obtain ⟨_, _, _, h⟩ := s.raise_frame i cls reason tag
  rw [h]

@[simp] theorem State.raise_pins (s : State) (i : Island) (cls reason tag : Nat) : (s.raise i cls reason tag).pins = s.pins := by
  obtain ⟨_, _, _, h⟩ := s.raise_frame i cls reason tag
  rw [h]

@[simp] theorem State.raiseAt_pins (s : State) (at_ : Nat) (i : Island) (cls reason tag : Nat) : (s.raiseAt at_ i cls reason tag).pins = s.pins := by
  obtain ⟨_, _, _, h⟩ := s.raiseAt_frame at_ i cls reason tag
  rw [h]

@[simp] theorem State.incSat_pins (s : State) (o : Nat) : (s.incSat o).pins = s.pins := rfl

end Sys2Proof.Machine
end

section
/-!
PROOFS. The release of all holds (R256) in a PIN clock in which a force line was raised: the statement about pin writes fails there.
-/
namespace Sys2Proof.Machine

/-- Writing a latch leaves what the pin banks hold. -/
@[simp] theorem State.syncLatch_pins (s : State) (pin : Nat) : (s.syncLatch pin).pins = s.pins := rfl

/-- What the crossbar writes of the pin banks in a PIN clock (R257): the forces, the freezes, the clock and the levels that core loss gave. -/
theorem State.settleClock_pins (s : State) (c : PinClock) : (s.settleClock c).pins = { s.pins with
    forced := (s.clockForces c).1
    frozen := (s.clockFreezes c (s.clockForces c).1).1
    clock := some { c with conf := (s.clockForces c).2.2 }
    loss := ((s.clockForces c).2.1 ++ (s.clockFreezes c (s.clockForces c).1).2).foldl (fun m p => merase m p) s.pins.loss } := by
  unfold State.settleClock
  rw [State.foldl_keeps State.pins State.syncLatch_pins, State.foldl_keeps State.pins (fun t _ => t.inc_pins 0x610201)]

/-- The forces that a boundary release leaves are those of its PIN clock: releases come first there, and then the force rules (R257). -/
theorem State.boundaryReleases_forced (s : State) : s.boundaryReleases.pins.forced =
    (s.clockForces { s.pinClock s.nowNs with bound := true, all := s.pins.relAll }).1 := by
  rw [State.boundaryReleases, State.settleClock_pins]

/-- What a force rule does to one pin of its mask, given the forces so far, the pins forced in this PIN clock and the conflicts (R257). -/
def forcePin (r : Nat × RuleRec) (a : NMap PinHold × List Nat × Nat) (pin : Nat) : NMap PinHold × List Nat × Nat :=
  if a.2.1.contains pin then (a.1, a.2.1, a.2.2 + 1)
  else (minsert a.1 pin ⟨r.1, r.2.mode, r.2.relLine, r.2.value.testBit (pin % 16)⟩, pin :: a.2.1, a.2.2)

theorem State.clockForces_eq (s : State) (c : PinClock) : s.clockForces c =
    (s.clockRules c 1).foldl (fun a r => (rulePins r.2).foldl (forcePin r) a) (c.forced.filter (fun e => !(s.clockEnds c e)), [], 0) := rfl

/-- Every pin noted as forced in the PIN clock is forced. -/
def ForcesNoted (a : NMap PinHold × List Nat × Nat) : Prop := ∀ p ∈ a.2.1, (mfind a.1 p).isSome = true

theorem ForcesNoted.forcePin {a : NMap PinHold × List Nat × Nat} (h : ForcesNoted a) (r : Nat × RuleRec) (pin : Nat) :
    ForcesNoted (forcePin r a pin) := by
  unfold Machine.forcePin
  split
  · exact h
  · intro p hp
    rw [mfind_minsert]
    split
    · rfl
    · rename_i hne
      exact h p ((List.mem_cons.mp hp).resolve_left hne)

/-- A pin that a force rule was applied to is noted, and none is forgotten. -/
theorem mem_forcePin {a : NMap PinHold × List Nat × Nat} {p : Nat} (r : Nat × RuleRec) (pin : Nat) (h : p = pin ∨ p ∈ a.2.1) :
    p ∈ (forcePin r a pin).2.1 := by
  unfold forcePin
  split
  next hc =>
    rcases h with rfl | h
    · exact List.contains_iff_mem.mp hc
    · exact h
  next => exact List.mem_cons.mpr h

theorem foldl_forcePin (r : Nat × RuleRec) (l : List Nat) {a : NMap PinHold × List Nat × Nat} (h : ForcesNoted a) :
    ForcesNoted (l.foldl (forcePin r) a) ∧ ∀ p, p ∈ l ∨ p ∈ a.2.1 → p ∈ (l.foldl (forcePin r) a).2.1 := by
  induction l generalizing a with
  | nil => exact ⟨h, fun p hp => hp.resolve_left List.not_mem_nil⟩
  | cons pin l ih =>
    obtain ⟨hnoted, hmem⟩ := ih (h.forcePin r pin)
    refine ⟨hnoted, fun p hp => hmem p ?_⟩
    rw [List.mem_cons, or_assoc, or_left_comm] at hp
    exact hp.imp_right (mem_forcePin r pin)

theorem foldl_forceRules (rules : List (Nat × RuleRec)) {a : NMap PinHold × List Nat × Nat} (h : ForcesNoted a) :
    ForcesNoted (rules.foldl (fun a r => (rulePins r.2).foldl (forcePin r) a) a) ∧
      ∀ p, (∃ r ∈ rules, p ∈ rulePins r.2) ∨ p ∈ a.2.1 → p ∈ (rules.foldl (fun a r => (rulePins r.2).foldl (forcePin r) a) a).2.1 := by
  induction rules generalizing a with
  | nil => exact ⟨h, fun p hp => hp.resolve_left (by simp)⟩
  | cons r rules ih =>
    obtain ⟨hone, hpins⟩ := foldl_forcePin r (rulePins r.2) h
    obtain ⟨hnoted, hmem⟩ := ih hone
    refine ⟨hnoted, fun p hp => hmem p ?_⟩
    rcases hp with ⟨q, hq, hp⟩ | hp
    · rcases List.mem_cons.mp hq with rfl | hq
      · exact .inr (hpins p (.inl hp))
      · exact .inl ⟨q, hq, hp⟩
    · exact .inr (hpins p (.inr hp))

/-- An acting force rule forces every pin of its mask, whatever is released in the same PIN clock (R257). -/
theorem State.clockForces_forced {s : State} {c : PinClock} {r : Nat × RuleRec} {pin : Nat} (hr : r ∈ s.clockRules c 1)
    (hp : pin ∈ rulePins r.2) : (mfind (s.clockForces c).1 pin).isSome = true := by
  rw [State.clockForces_eq]
  obtain ⟨hnoted, hmem⟩ := foldl_forceRules (s.clockRules c 1) (a := (c.forced.filter (fun e => !(s.clockEnds c e)), [], 0))
    (fun p hp => absurd hp List.not_mem_nil)
  exact hnoted pin (hmem pin (.inl ⟨r, hr, hp⟩))

/-- The crossbar section of a bank with one rule (R254, R255): rule 0 forces pin 0 low when line 0 is raised. -/
def forceOnLine0 : List Byte := zeros 0x1080 ++ natLE 8 (2 ^ 63 + 2 ^ 54 + 2 ^ 16) ++ zeros (6272 - 0x1080 - 8)

/-- Rule 0 of that section. -/
def forceRule : RuleRec := ⟨true, 0, 1, 0, 0, 0, 1, 0⟩

theorem forceOnLine0_forceRule :
    ¬ forceOnLine0.length < 6272 ∧ parseRule (leField forceOnLine0 (0x1080 + 8 * 0) 8) = forceRule := by decide +kernel

/-- A hub in bring-up, before the release of SEQ, with that section in its active bank and line 0 enabled and raised in this PIN clock. No run need lead
there, but the state can be written. -/
def raisedLine : State :=
  State.wr (State.wr { State.reset with
    mode := .bringUp, modes := { keeperUp := true }
    seq := { bank0 := { Bank.empty with crossbar := forceOnLine0 } }
    pins := { clock := some { ns := 0, owner := 0, forced := [], frozen := [], lines := [0] } } } 0x400000 0) 0x610000 1

/-- A release of all holds passes every check there, and there are no cycle boundaries. -/
theorem raisedLine_passes : raisedLine.numPasses udpPlain 0x610003 1 = true ∧ (raisedLine.odBegun udpPlain).ticking = false := by
  decide +kernel

/-- A release of all holds is asked for, and not yet carried out (R256). -/
def State.releaseAsked (s : State) : State := { s with pins := { s.pins with relAll := true } }

/-- The state in which the release is carried out there. -/
def raisedRelease : State := (raisedLine.odBegun udpPlain).releaseAsked

/-- Its active bank and the PIN clock of the release. -/
theorem raisedRelease_clock : raisedRelease.activeBank = { Bank.empty with crossbar := forceOnLine0 } ∧ raisedRelease.lineOn 0 = true ∧
    (raisedRelease.pinClock raisedRelease.nowNs).lines = [0] := ⟨rfl, rfl, rfl⟩

/-- The release leaves pin 0 forced there. -/
theorem raisedRelease_forced : (mfind raisedRelease.boundaryReleases.pins.forced 0).isSome = true := by
  obtain ⟨hbank, hon, hlines⟩ := raisedRelease_clock
  obtain ⟨hlen, hrule⟩ := forceOnLine0_forceRule
  have hmem : (0, forceRule) ∈ raisedRelease.rules := by
    rw [State.rules, hbank]
    simp only [hlen, if_false, List.mem_map, List.mem_range]
    exact ⟨0, by decide, by rw [hrule]⟩
  rw [State.boundaryReleases_forced]
  refine State.clockForces_forced (r := (0, forceRule)) (List.mem_filter.mpr ⟨hmem, ?acts⟩) (by decide)
  simp [forceRule, hlines, hon]

/-- Refutes O9: the clause about RELEASE_ALL without cycle boundaries leaves out the lines raised in the same PIN clock. The crossbar releases first and
forces then, so a force wins over a release (R257): at `raisedLine` the release leaves pin 0 forced, where the clause has no force left. -/
theorem not_pinWritesTakeEffect : ¬ Obligations.PinWritesTakeEffect := by
  unfold Obligations.PinWritesTakeEffect
  intro hall
  have hends : ∀ (s : State) (h : OdHdr), s.numPasses h 0x610003 1 = true → (s.odBegun h).ticking = false →
      (s.odBegun h).releaseAsked.boundaryReleases.pins.forced = [] := by
    intro s h hpass hticking
    obtain ⟨-, -, hrelease, -⟩ := hall s _ h rfl
    obtain ⟨-, hends⟩ := hrelease hpass
    exact (hends hticking).1
  obtain ⟨hpass, hticking⟩ := raisedLine_passes
  have hforced := raisedRelease_forced
  rw [raisedRelease, hends raisedLine udpPlain hpass hticking] at hforced
  exact absurd hforced (by decide)

end Sys2Proof.Machine
end

section
/-!
PROOFS. The reset of the core die that a CPR makes (R407, R415, R419): what it keeps of the power islands, and the class-A registers of area A.
-/
namespace Sys2Proof.Machine

/-- The power log counts the records that it has no room for in A.002.10 (R387), and writes no other register. -/
theorem State.rd_powerLog (s : State) (r : JRecord) {o : Nat} (h : o ≠ 0xA00210) : (s.powerLog r).rd o = s.rd o := by
  unfold State.powerLog
  dsimp only
  split
  · rfl
  · exact State.rd_inc_ne _ h

/-- The Keeper stops, and the power islands stay as they are. -/
theorem State.keeperStops_power (s : State) : s.keeperStops.power = s.power := by
  unfold State.keeperStops
  rw [State.foldl_keeps State.power, State.foldl_keeps State.power]
  · exact fun t e => State.foldl_keeps State.power (fun u r => u.recordLost_power r.cls) e.2 t
  · exact fun t e => State.foldl_keeps State.power (fun u r => u.powerLog_power _) e.2 t

/-- A register below area D, other than the count of records lost from the power log, is as it was after the Keeper stops. -/
theorem State.rd_keeperStops (s : State) {o : Nat} (h : o < 0xD00000) (ha : o ≠ 0xA00210) : s.keeperStops.rd o = s.rd o := by
  unfold State.keeperStops
  rw [State.rd_foldl_keeps, State.rd_foldl_keeps]
  · rfl
  · refine fun t e => State.rd_foldl_keeps (fun u r => ?_) e.2 t
    rw [State.rd_recordLost _ _ h]
  · refine fun t e => State.rd_foldl_keeps (fun u r => ?_) e.2 t
    rw [State.rd_powerLog _ _ ha]

theorem mfind_filter {α : Type} (m : NMap α) (p : Nat → Bool) (k : Nat) :
    mfind (m.filter (fun e => p e.1)) k = if p k then mfind m k else none := by
  induction m with
  | nil => simp [mfind]
  | cons e m ih =>
    obtain ⟨a, v⟩ := e
    by_cases hk : k = a
    · subst hk
      cases hp : p k <;> simp [hp, mfind, ih]
    · cases hp : p a <;> simp [hp, mfind, ih, hk]

theorem mfind_foldl_minsert {α : Type} {l m : NMap α} {k : Nat} (h : ∀ e ∈ l, e.1 ≠ k) :
    mfind (l.foldl (fun m e => minsert m e.1 e.2) m) k = mfind m k := by
  induction l generalizing m with
  | nil => rfl
  | cons e l ih =>
    obtain ⟨he, hl⟩ := List.forall_mem_cons.mp h
    rw [List.foldl_cons, ih hl, mfind_minsert, if_neg (Ne.symm he)]

/-- An object that a reset keeps reads what it did, whatever the flash holds (R419). -/
theorem State.rd_persist {s : State} {kept : Nat → Bool} {o : Nat} (h : kept o = true) : (s.persist kept).rd o = s.rd o := by
  change (mfind (persistObjs kept s.objs s.flash) o).getD _ = _
  rw [persistObjs, mfind_foldl_minsert, mfind_filter, if_pos h]
  · rfl
  · intro e he heq
    simp [heq, h] at he

/-- The reset cause of a CPR is stored (R424). -/
def State.cprCaused (s : State) (source : Nat) : State := s.resetCause .cpr source (modeCode s.mode) (b2n s.inBrace) 0xFFFF 0xFFFF

/-- A CPR stores its cause, clears the core die and leaves the hub in Standby (R407 row 16, R417). -/
theorem State.coreReset_cpr (s : State) (source : Nat) : s.coreReset .cpr source =
    { (s.cprCaused source).clearCore false false with
      mode := .standby, update := ((s.cprCaused source).clearCore false false).update.afterReset } := by
  simp [State.coreReset, ResetKind.warm, State.cprCaused]

theorem State.rd_cprCaused (s : State) (source : Nat) {o : Nat} (h : 0x102000 ≤ o) : (s.cprCaused source).rd o = s.rd o := by
  have hcode : o ≠ 0x101100 + ResetKind.cpr.code := by simp only [ResetKind.code]; omega
  rw [State.cprCaused, State.resetCause, State.rd_inc_ne _ hcode, State.rd_wr_ne _ _ (by omega), State.wrB_rd]

/-- The power islands outlast the clearing of the core die, but for the copy of the parameters (R388, R415). -/
theorem State.clearCore_cold_power (s : State) : (s.clearCore false false).power = { s.power with copy := s.copyKept } :=
  congrArg (fun p : PowerSt => { p with copy := s.copyKept }) (State.keeperStops_power _)

/-- So does every register of class A (R419). -/
theorem State.rd_clearCore_cold (s : State) {o : Nat} (hkept : objPersist o = .a) (h : o < 0xD00000) (ha : o ≠ 0xA00210) :
    (s.clearCore false false).rd o = s.rd o :=
  (State.rd_persist (by simp [keptBy, hkept])).trans (State.rd_keeperStops (s.resetSnaps false) h ha)

/-- A CPR leaves the power islands as they were, but for the copy of the parameters. -/
theorem State.coreReset_cpr_power (s : State) (source : Nat) : ∃ copy, (s.coreReset .cpr source).power = { s.power with copy := copy } := by
  have h : (s.cprCaused source).power = s.power := State.inc_power _ _
  rw [State.coreReset_cpr, State.clearCore_cold_power, h]
  exact ⟨_, rfl⟩

/-- A register of area A and class A reads over a CPR what it did. -/
theorem State.rd_coreReset_cpr (s : State) (source : Nat) {o : Nat} (hkept : objPersist o = .a) (hlo : 0xA10000 ≤ o) (hhi : o < 0xD00000) :
    (s.coreReset .cpr source).rd o = s.rd o := by
  have hobjs : (s.coreReset .cpr source).objs = ((s.cprCaused source).clearCore false false).objs := by rw [State.coreReset_cpr]
  rw [State.rd_of_objs hobjs, State.rd_clearCore_cold _ hkept hhi (by omega), s.rd_cprCaused source (by omega)]

/-- A core die that is up is in none of the modes without one (R407). -/
theorem State.mode_of_coreUp {s : State} (h : s.coreUp = true) : s.mode ≠ .noPower ∧ s.mode ≠ .standby ∧ s.mode ≠ .doze := by
  refine ⟨?_, ?_, ?_⟩ <;> intro hm <;> simp [State.coreUp, hm] at h

theorem State.powered_of_mode {s : State} (h : s.mode ≠ .noPower) : s.powered = true := by simp [State.powered, h]

/-- A CPR starts wherever the core is up (R407 row 16). -/
theorem State.startCpr_of_coreUp {s : State} (h : s.coreUp = true) (source : Nat) : s.startCpr source = s.coreReset .cpr source := by
  obtain ⟨hpower, hstandby, hdoze⟩ := State.mode_of_coreUp h
  exact if_pos (by simp [State.powered, hpower, hstandby, hdoze])

/-- A CPR starts, or nothing happens. -/
theorem State.startCpr_cases (s : State) (source : Nat) : s.startCpr source = s.coreReset .cpr source ∨ s.startCpr source = s := by
  unfold State.startCpr
  split
  · exact .inl rfl
  · exact .inr rfl

theorem State.startCpr_power (s : State) (source : Nat) : ∃ copy, (s.startCpr source).power = { s.power with copy := copy } := by
  rcases s.startCpr_cases source with h | h <;> rw [h]
  · exact s.coreReset_cpr_power source
  · exact ⟨_, rfl⟩

theorem State.rd_startCpr (s : State) (source : Nat) {o : Nat} (hkept : objPersist o = .a) (hlo : 0xA10000 ≤ o) (hhi : o < 0xD00000) :
    (s.startCpr source).rd o = s.rd o := by
  rcases s.startCpr_cases source with h | h <;> rw [h]
  exact s.rd_coreReset_cpr source hkept hlo hhi

end Sys2Proof.Machine
end

section
/-!
PROOFS. Supplies, gates, seating and brace (R367 to R387, R420, R421): what a crossing of a level writes, which gates are on after others turned off, and
the statement about them.
-/
namespace Sys2Proof.Machine

theorem State.coreUp_congr {s t : State} (h : t.mode = s.mode) : t.coreUp = s.coreUp := by rw [State.coreUp, h]; rfl

/-- A record about a rail writes registers, the journal and free values (R387). -/
theorem State.railJournal_frame (s : State) (reason rail code : Nat) :
    ∃ (objs : NMap Nat) (j : JournalSt) (free : Nat), s.railJournal reason rail code = { s with objs := objs, journal := j, free := free } := by
  unfold State.railJournal
  split
  · exact ⟨s.objs, s.journal, s.free, rfl⟩
  · exact s.raise_frame _ _ _ _

@[simp] theorem State.railJournal_power (s : State) (reason rail code : Nat) : (s.railJournal reason rail code).power = s.power := by
  obtain ⟨_, _, _, h⟩ := s.railJournal_frame reason rail code
  rw [h]

@[simp] theorem State.railJournal_mode (s : State) (reason rail code : Nat) : (s.railJournal reason rail code).mode = s.mode := by
  obtain ⟨_, _, _, h⟩ := s.railJournal_frame reason rail code
  rw [h]

@[simp] theorem State.railJournal_pins (s : State) (reason rail code : Nat) : (s.railJournal reason rail code).pins = s.pins := by
  obtain ⟨_, _, _, h⟩ := s.railJournal_frame reason rail code
  rw [h]

theorem State.rd_railJournal (s : State) (reason rail code : Nat) {o : Nat} (h : o < 0xD00000) (ha : o ≠ 0xA00210) :
    (s.railJournal reason rail code).rd o = s.rd o := by
  unfold State.railJournal
  split
  · rfl
  · exact s.rd_raise _ _ _ _ h ha

/-- The brace that a warning of a rail leaves (R420, R421). -/
def State.braceAfter (s : State) (rail : Nat) : Option (Nat × Nat) :=
  match s.power.brace with
  | some (first, n) => some (first, n + 1)
  | none => if s.startsBrace rail then some (rail, 1) else none

theorem State.braceAfter_some {s : State} {first n : Nat} (h : s.power.brace = some (first, n)) (rail : Nat) :
    s.braceAfter rail = some (first, n + 1) := by simp [State.braceAfter, h]

theorem State.braceAfter_none {s : State} (h : s.power.brace = none) (rail : Nat) :
    s.braceAfter rail = if s.startsBrace rail then some (rail, 1) else none := by simp [State.braceAfter, h]

theorem State.startsBrace_congr {s t : State} (h : t.mode = s.mode) (rail : Nat) : t.startsBrace rail = s.startsBrace rail := by
  rw [State.startsBrace, State.coreRailsQuiet, h]; rfl

theorem State.braceAfter_congr {s t : State} (hm : t.mode = s.mode) (hb : t.power.brace = s.power.brace) (rail : Nat) :
    t.braceAfter rail = s.braceAfter rail := by
  simp only [State.braceAfter, hb, State.startsBrace_congr hm]

theorem State.noteBrace_power (s : State) (rail : Nat) : (s.noteBrace rail).power = { s.power with brace := s.braceAfter rail } := by
  cases h : s.power.brace with
  | some e => simp [State.noteBrace, h, State.braceAfter_some h]
  | none =>
    rw [State.braceAfter_none h, State.noteBrace, h]
    dsimp only
    split
    · simp
    · exact congrArg (fun b => ({ s.power with brace := b } : PowerSt)) h

@[simp] theorem State.noteBrace_mode (s : State) (rail : Nat) : (s.noteBrace rail).mode = s.mode := by
  unfold State.noteBrace
  split
  · rfl
  · split
    · simp
    · rfl

/-- A rail that falls below its warning is remembered and may begin or prolong a brace; the mode stays (R367, R420). -/
theorem State.supplyWarning_takes {s : State} {rail : Nat} (hp : s.powered = true) (hr : railOk rail = true) (hw : s.power.warn.testBit rail = false) :
    (s.supplyWarning rail).power.warn = setBit s.power.warn rail true ∧ (s.supplyWarning rail).mode = s.mode ∧
      (s.supplyWarning rail).power.brace = s.braceAfter rail := by
  rw [State.supplyWarning, if_pos (by simp [hp, hr, hw])]
  simp only [State.railJournal_power, State.railJournal_mode, State.noteBrace_mode, State.noteBrace_power]
  split
  · exact ⟨by simp, by simp, State.braceAfter_congr (by simp) (by simp) rail⟩
  · exact ⟨rfl, rfl, rfl⟩

theorem State.warningLeft_eq {s : State} {rail : Nat} (hp : s.powered = true) (hr : railOk rail = true) (hw : s.power.warn.testBit rail = true) :
    s.warningLeft rail = ({ s with power := { s.power with warn := setBit s.power.warn rail false } }).railJournal 0x71 rail 2 := by
  rw [State.warningLeft, if_pos (by simp [hp, hr, hw])]

/-- A rail is noted as below its reset level. -/
def State.railUnder (s : State) (rail : Nat) : State := { s with power := { s.power with under := setBit s.power.under rail true } }

/-- What follows as a rail that was not below it falls to its reset level (R367), the loss of VAON aside: the crossing is journalled, then its action. -/
theorem State.resetLevel_eq {s : State} {rail : Nat} (hp : s.powered = true) (hr : railOk rail = true) (hu : s.power.under.testBit rail = false)
    (hv : rail ≠ 0x13) : s.resetLevel rail =
      if coreRail rail then
        if s.mode = .doze then
          ({ s.railJournal 0x72 rail 3 with
            doze := { (s.railJournal 0x72 rail 3).doze with fell := setBit (s.railJournal 0x72 rail 3).doze.fell (rail - 0x10) true } }).railUnder rail
        else ((s.railJournal 0x72 rail 3).startCpr rail).railUnder rail
      else if rail = 0x14 then ((s.railJournal 0x72 rail 3).railUnder rail).vcanLow
      else if rail = 0x15 then ((s.railJournal 0x72 rail 3).railUnder rail).powerOff 8 0x07
      else ((s.railJournal 0x72 rail 3).railUnder rail).bankLost (rail - 0x20) := by
  rw [State.resetLevel, if_neg (by simp [hp]), if_pos (by simp [hp, hr, hu]), if_neg hv]
  rfl

theorem railOk_of_coreRail {rail : Nat} (h : coreRail rail = true) : railOk rail = true := by
  simp [coreRail, railOk] at h ⊢; omega

/-- The reset level of a bank's supply journals the crossing, and the bank has no supply and is disabled (R242). -/
theorem State.resetLevel_bank {s : State} {k : Nat} (hk : k < 16) (hp : s.powered = true) (hu : s.power.under.testBit (0x20 + k) = false) :
    s.resetLevel (0x20 + k) = ((s.raise .aon 0x00 0x72 (powerTag (0x20 + k) 3 0 0)).railUnder (0x20 + k)).bankLost k := by
  have hcore : coreRail (0x20 + k) = false := by simp [coreRail]; omega
  rw [State.resetLevel_eq hp (by simp [railOk]; omega) hu (by omega), if_neg (by simp [hcore]), if_neg (by omega), if_neg (by omega)]
  simp [State.railJournal, hcore]

/-- The reset level of a core rail resets a core die that is up (R407 row 16). -/
theorem State.resetLevel_core {s : State} {rail : Nat} (hr : coreRail rail = true) (hu : s.power.under.testBit rail = false) (hup : s.coreUp = true) :
    s.resetLevel rail = ((s.railJournal 0x72 rail 3).coreReset .cpr rail).railUnder rail := by
  obtain ⟨hpower, -, hd⟩ := State.mode_of_coreUp hup
  have hv : rail ≠ 0x13 := by rintro rfl; exact absurd hr (by decide)
  have hup' : (s.railJournal 0x72 rail 3).coreUp = true := by rw [State.coreUp_congr (s.railJournal_mode _ _ _), hup]
  rw [State.resetLevel_eq (State.powered_of_mode hpower) (railOk_of_coreRail hr) hu hv, if_pos hr, if_neg hd, State.startCpr_of_coreUp hup']

theorem State.resetLevel_vcan {s : State} (hp : s.powered = true) (hu : s.power.under.testBit 0x14 = false) :
    s.resetLevel 0x14 = ((s.railJournal 0x72 0x14 3).railUnder 0x14).vcanLow :=
  State.resetLevel_eq hp rfl hu (by decide)

/-- One transceiver as VCAN falls below its reset level (R280, R283). -/
def State.xcvrLow (s : State) (x : Nat) : State :=
  let t := s.wr (xcvrObj x 5) (setBit (s.rd (xcvrObj x 5)) 1 true)
  if t.rd (xcvrObj x 0) ≤ 1 then t.setXcvr x 2 else t

theorem State.vcanLow_eq (s : State) : s.vcanLow = (s.xcvrLow 0).xcvrLow 1 := rfl

/-- A transceiver moves to a state (R279): its register and the level of INH. -/
theorem State.rd_setXcvr (s : State) (x v : Nat) {o : Nat} (h : o ≠ 0x712000) : (s.setXcvr x v).rd o = if o = xcvrObj x 0 then v else s.rd o := by
  rw [State.setXcvr, State.syncInh, State.rd_wr_ne _ _ h, State.rd_wr]

/-- It leaves Normal and Listen-only for Standby and notes the loss; no other register is written but INH's. -/
theorem State.rd_xcvrLow (s : State) (x : Nat) {o : Nat} (h : o ≠ 0x712000) : (s.xcvrLow x).rd o =
    if o = xcvrObj x 5 then setBit (s.rd (xcvrObj x 5)) 1 true
    else if o = xcvrObj x 0 ∧ s.rd (xcvrObj x 0) ≤ 1 then 2 else s.rd o := by
  have h05 : xcvrObj x 0 ≠ xcvrObj x 5 := by simp [xcvrObj]
  rw [State.xcvrLow]
  simp only [State.rd_wr_ne _ _ h05]
  split
  next hlow =>
    rw [State.rd_setXcvr _ _ _ h, State.rd_wr]
    by_cases ho : o = xcvrObj x 0
    · simp [ho, h05, hlow]
    · simp [ho]
  next hhigh => simp [State.rd_wr, hhigh]

@[simp] theorem State.xcvrLow_power (s : State) (x : Nat) : (s.xcvrLow x).power = s.power := by unfold State.xcvrLow; dsimp only; split <;> rfl

@[simp] theorem State.xcvrLow_mode (s : State) (x : Nat) : (s.xcvrLow x).mode = s.mode := by unfold State.xcvrLow; dsimp only; split <;> rfl

/-- The other transceiver stays as it is. -/
theorem State.rd_xcvrLow_other (s : State) {x y sub : Nat} (hy : y < 2) (hne : y ≠ x) (hsub : sub < 0x1000) :
    (s.xcvrLow x).rd (xcvrObj y sub) = s.rd (xcvrObj y sub) := by
  have hinh : xcvrObj y sub ≠ 0x712000 := by simp only [xcvrObj]; omega
  have h5 : xcvrObj y sub ≠ xcvrObj x 5 := by simp only [xcvrObj]; omega
  have h0 : xcvrObj y sub ≠ xcvrObj x 0 := by simp only [xcvrObj]; omega
  rw [State.rd_xcvrLow s x hinh, if_neg h5, if_neg (fun h => h0 h.1)]

/-- The transceiver's own state, and its note of the loss. -/
theorem State.rd_xcvrLow_own (s : State) {x : Nat} (hx : x < 2) :
    (s.xcvrLow x).rd (xcvrObj x 0) = (if s.rd (xcvrObj x 0) ≤ 1 then 2 else s.rd (xcvrObj x 0)) ∧
      ((s.xcvrLow x).rd (xcvrObj x 5)).testBit 1 = true := by
  have hinh0 : xcvrObj x 0 ≠ 0x712000 := by simp only [xcvrObj]; omega
  have hinh5 : xcvrObj x 5 ≠ 0x712000 := by simp only [xcvrObj]; omega
  have h05 : xcvrObj x 0 ≠ xcvrObj x 5 := by simp only [xcvrObj]; omega
  rw [State.rd_xcvrLow s x hinh0, State.rd_xcvrLow s x hinh5, if_neg h05, if_pos rfl, testBit_setBit_self]
  refine ⟨?_, rfl⟩
  by_cases hlow : s.rd (xcvrObj x 0) ≤ 1
  · rw [if_pos hlow, if_pos ⟨rfl, hlow⟩]
  · rw [if_neg hlow, if_neg (fun h => hlow h.2)]

/-- Both transceivers of a hub whose VCAN is low. -/
theorem State.rd_vcanLow (s : State) {x : Nat} (hx : x < 2) :
    s.vcanLow.rd (xcvrObj x 0) = (if s.rd (xcvrObj x 0) ≤ 1 then 2 else s.rd (xcvrObj x 0)) ∧ (s.vcanLow.rd (xcvrObj x 5)).testBit 1 = true := by
  rw [State.vcanLow_eq]
  obtain rfl | rfl : x = 0 ∨ x = 1 := by omega
  · have hother : ∀ sub < 0x1000, ((s.xcvrLow 0).xcvrLow 1).rd (xcvrObj 0 sub) = (s.xcvrLow 0).rd (xcvrObj 0 sub) :=
      fun sub hsub => State.rd_xcvrLow_other _ (by decide) (by decide) hsub
    rw [hother 0 (by decide), hother 5 (by decide)]
    exact s.rd_xcvrLow_own (by decide)
  · have hfirst : (s.xcvrLow 0).rd (xcvrObj 1 0) = s.rd (xcvrObj 1 0) :=
      State.rd_xcvrLow_other s (by decide) (by decide) (by decide)
    rw [← hfirst]
    exact (s.xcvrLow 0).rd_xcvrLow_own (by decide)

theorem State.resetLevelLeft_eq {s : State} {rail : Nat} (h : (s.powered && railOk rail || coreRail rail) = true) (hv : rail ≠ 0x14) :
    s.resetLevelLeft rail =
      let t : State := { s with power := { s.power with under := setBit s.power.under rail false } }
      if 0x20 ≤ rail then t.bankPresent (rail - 0x20) else t := by
  rw [State.resetLevelLeft, if_pos h]
  simp only [if_neg hv]

/-- The gate of a channel is on where its run state is 2, 3 or 4 (R374), and depends on no other register. -/
theorem State.gateOn_congr {s t : State} {c : Nat} (h : t.rd (chanObj c 1 0) = s.rd (chanObj c 1 0)) : t.gateOn c = s.gateOn c := by
  have hrun : t.chanRun c = s.chanRun c := h
  rw [State.gateOn, hrun]; rfl

theorem objPersist_chanRun : ∀ c < 9, objPersist (chanObj c 1 0) = .a := by decide +kernel

theorem State.gateOn_startCpr (s : State) (source : Nat) {c : Nat} (hc : c < 9) : (s.startCpr source).gateOn c = s.gateOn c :=
  State.gateOn_congr (s.rd_startCpr source (objPersist_chanRun c hc) (by simp [chanObj]; omega) (by simp [chanObj]; omega))

theorem State.gateOn_raise (s : State) (i : Island) (cls reason tag : Nat) {c : Nat} (hc : c < 9) : (s.raise i cls reason tag).gateOn c = s.gateOn c :=
  State.gateOn_congr (s.rd_raise i cls reason tag (by simp [chanObj]; omega) (by simp [chanObj]; omega))

/-- A gate that turns off with a fault that enters no retry policy leaves the channel off (R381). -/
theorem State.gateOn_gateOff (s : State) {c code d : Nat} (hcode : countingFault code = false) :
    (s.gateOff c code).gateOn d = (s.gateOn d && decide (d ≠ c)) := by
  rw [State.gateOff]
  simp only [hcode, Bool.false_eq_true, if_false]
  by_cases hd : d = c
  · subst hd
    simp [State.gateOn, State.chanRun]
  · have h0 : chanObj d 1 0 ≠ chanObj c 1 0 := by simp [chanObj]; omega
    have h1 : chanObj d 1 0 ≠ chanObj c 1 1 := by simp [chanObj]; omega
    rw [State.gateOn_congr (s := s) (by rw [State.rd_wr_ne _ _ h0, State.rd_wr_ne _ _ h1]; rfl)]
    simp [hd]

theorem State.gateOn_chanOff (s : State) {c code d : Nat} (hcode : countingFault code = false) (hd : d < 9) :
    (s.chanOff c code).gateOn d = (s.gateOn d && decide (d ≠ c)) := by
  unfold State.chanOff
  split
  next => rw [State.chanJournal, State.gateOn_raise _ _ _ _ _ hd, State.gateOn_gateOff s hcode]
  next h =>
    by_cases hdc : d = c
    · simp [hdc, h]
    · simp [hdc]

/-- After the channels of a list turned off, the gates that are on are those of the others. -/
theorem State.gateOn_foldl_chanOff (s : State) (l : List Nat) {code d : Nat} (hcode : countingFault code = false) (hd : d < 9) :
    (l.foldl (fun t c => t.chanOff c code) s).gateOn d = (s.gateOn d && decide (d ∉ l)) := by
  induction l generalizing s with
  | nil => simp
  | cons c l ih => rw [List.foldl_cons, ih, State.gateOn_chanOff s hcode hd]; simp [Bool.and_assoc]

/-- A channel that turns off with such a fault leaves the mode as it is. -/
theorem State.chanOff_mode (s : State) (c : Nat) {code : Nat} (hcode : countingFault code = false) : (s.chanOff c code).mode = s.mode := by
  unfold State.chanOff
  split
  · simp [State.chanJournal, State.gateOff, hcode]
  · rfl

theorem State.fusesOff_mode (s : State) : s.fusesOff.mode = s.mode :=
  State.foldl_keeps State.mode (fun t c => t.chanOff_mode c rfl) _ s

/-- The inlet turns off, and with it every e-fuse; and a core die that is up goes to reset (R386, R407 row 16). -/
theorem State.powerOff_inlet {s : State} {code : Nat} (hon : s.gateOn 8 = true) (hcode : countingFault code = false) :
    (∀ c < 9, (s.powerOff 8 code).gateOn c = false) ∧ (s.coreUp = true → (s.powerOff 8 code).mode = .standby) := by
  have heq : s.powerOff 8 code = (s.chanOff 8 code).fusesOff.startCpr 0x08 := by simp [State.powerOff, hon]
  rw [heq]
  refine ⟨fun c hc => ?gates, fun hup => ?mode⟩
  case gates =>
    rw [State.gateOn_startCpr _ _ hc, State.fusesOff, State.gateOn_foldl_chanOff _ _ rfl hc, State.gateOn_chanOff s hcode hc]
    by_cases h8 : c = 8
    · simp [h8]
    · have : c < 8 := by omega
      simp [this]
  case mode =>
    have hmode : (s.chanOff 8 code).fusesOff.mode = s.mode := by rw [State.fusesOff_mode, State.chanOff_mode s 8 hcode]
    rw [State.startCpr_of_coreUp (by rw [State.coreUp_congr hmode, hup])]
    rfl

/-- Seating is noted as lost, and the event counted (R376). -/
def State.seatGone (s : State) : State := ({ s with power := { s.power with seated := false } }).inc 0xA00105

theorem State.unseat_eq (s : State) : s.unseat = ((List.range 9).foldl (fun t c => t.chanOff c 0x09) s).seatGone := rfl

theorem State.seatGone_seated (s : State) : s.seatGone.power.seated = false := by rw [State.seatGone, State.inc_power]

theorem State.seatGone_mode (s : State) : s.seatGone.mode = s.mode := by rw [State.seatGone, State.inc_mode]

theorem State.gateOn_seatGone (s : State) (c : Nat) : s.seatGone.gateOn c = s.gateOn c :=
  State.gateOn_congr (State.rd_inc_ne _ (by simp [chanObj]; omega))

/-- As seating is lost every gate turns off (R376). -/
theorem State.unseat_takes (s : State) : s.unseat.power.seated = false ∧ s.unseat.mode = s.mode ∧ ∀ c < 9, s.unseat.gateOn c = false := by
  rw [State.unseat_eq]
  refine ⟨State.seatGone_seated _, ?mode, fun c hc => ?gates⟩
  case mode => rw [State.seatGone_mode, State.foldl_keeps State.mode (fun t c => t.chanOff_mode c rfl)]
  case gates => rw [State.gateOn_seatGone, State.gateOn_foldl_chanOff s _ rfl hc]; simp [hc]

/-- Lost seating is journalled, and resets a core die that is up where the inlet was on (R376, R387). -/
theorem State.seatingLost_takes {s : State} (hp : s.powered = true) (hs : s.power.seated = true) :
    s.seatingLost.power.seated = false ∧ (∀ c < 9, s.seatingLost.gateOn c = false) ∧
      (s.gateOn 8 = true → s.coreUp = true → s.seatingLost.mode = .standby) ∧ (s.gateOn 8 = false → s.seatingLost.mode = s.mode) := by
  obtain ⟨hseated, hmode, hgates⟩ := s.unseat_takes
  obtain ⟨u, hu⟩ : ∃ u, u = s.unseat.raise .pwr 0x00 0x73 (powerTag 0x09 0x09 0 0) := ⟨_, rfl⟩
  have heq : s.seatingLost = if s.gateOn 8 then u.startCpr 0x08 else u := by rw [State.seatingLost, if_pos (by simp [hp, hs]), hu]
  have hupower : u.power.seated = false := by rw [hu, State.raise_power, hseated]
  have humode : u.mode = s.mode := by rw [hu, State.raise_mode, hmode]
  have hugates : ∀ c < 9, u.gateOn c = false := fun c hc => by rw [hu, State.gateOn_raise _ _ _ _ _ hc, hgates c hc]
  rw [heq]
  split
  next hon =>
    obtain ⟨copy, hpower⟩ := u.startCpr_power 0x08
    refine ⟨by rw [hpower, hupower], fun c hc => by rw [State.gateOn_startCpr _ _ hc, hugates c hc], fun _ hup => ?_, by simp [hon]⟩
    rw [State.startCpr_of_coreUp (by rw [State.coreUp_congr humode, hup])]
    rfl
  next hoff => exact ⟨hupower, hugates, fun hon => absurd hon hoff, fun _ => humode⟩

/-- Brace ends once no rail holds the hub in it, and nothing was deferred to its end (R421, R436). -/
theorem State.braceEnd_eq {s : State} {first n : Nat} (hp : s.powered = true) (hb : s.power.brace = some (first, n)) (hw : s.braceWarn = 0)
    (hd : s.update.bootDefer = none) (ms : Nat) : (s.braceEnd ms).bootAfterBrace =
      ({ s with power := { s.power with brace := none, again := 0 } }).raise (if s.modes.keeperUp then .mgt else .aon) 0x00 0x74
        (first * 2 ^ 24 + min n 255 * 2 ^ 16 + min ms 65535) := by
  simp [State.braceEnd, State.bootAfterBrace, hp, hb, hw, hd]

/-- Settles O42, a clause of it from what each crossing leaves. -/
theorem suppliesSeatingAndBrace : Obligations.SuppliesSeatingAndBrace := by
  unfold Obligations.SuppliesSeatingAndBrace
  intro s hmode
  have hp := State.powered_of_mode hmode
  refine ⟨fun rail hr hw => ?warning, fun rail hr hw => congrArg Host.Outcome.next (State.warningLeft_eq hp hr hw),
    fun rail hr hu hup => ?core, fun hu => ?vcan, fun k hk hu => ?bank, fun rail hr => ?left, fun k hk => ?bankBack, fun hoff => ?noInlet,
    fun hon => ?overvoltage, fun hs => ⟨_, rfl, State.seatingLost_takes hp hs⟩, fun hs => ?unseated, congrArg Host.Outcome.next (if_pos hp),
    fun first n ms hb hw hd => congrArg Host.Outcome.next (State.braceEnd_eq hp hb hw hd ms)⟩
  case warning =>
    obtain ⟨hwarn, hm, hbrace⟩ := State.supplyWarning_takes hp hr hw
    exact ⟨_, rfl, hwarn, hm, fun first n h => by rw [hbrace, State.braceAfter_some h], fun h => by rw [hbrace, State.braceAfter_none h]⟩
  case core =>
    obtain ⟨copy, hpower⟩ := (s.railJournal 0x72 rail 3).coreReset_cpr_power rail
    refine ⟨_, congrArg Host.Outcome.next (State.resetLevel_core hr hu hup), rfl, rfl, ?_⟩
    simp [State.railUnder, hpower]
  case vcan =>
    refine ⟨_, congrArg Host.Outcome.next (State.resetLevel_vcan hp hu), by simp [State.vcanLow_eq, State.railUnder],
      by simp [State.vcanLow_eq, State.railUnder], fun x hx => ?_⟩
    obtain ⟨hstate, hflag⟩ := State.rd_vcanLow ((s.railJournal 0x72 0x14 3).railUnder 0x14) hx
    have hrd : ((s.railJournal 0x72 0x14 3).railUnder 0x14).rd (xcvrObj x 0) = s.rd (xcvrObj x 0) :=
      s.rd_railJournal _ _ _ (by simp [xcvrObj]; omega) (by simp [xcvrObj]; omega)
    rw [hrd] at hstate
    exact ⟨fun h => by rw [hstate, if_pos h], fun h => by rw [hstate, if_neg (by omega)], hflag⟩
  case bank =>
    exact ⟨_, congrArg Host.Outcome.next (State.resetLevel_bank hk hp hu), by simp [State.bankLost, State.railUnder]⟩
  case left =>
    have hv : rail < 0x20 ∧ rail ≠ 0x14 ∧ railOk rail = true := by
      rcases hr with hr | rfl
      · refine ⟨?_, ?_, railOk_of_coreRail hr⟩ <;> simp [coreRail] at hr <;> omega
      · decide
    obtain ⟨hlow, hne, hok⟩ := hv
    exact congrArg Host.Outcome.next ((State.resetLevelLeft_eq (by simp [hp, hok]) hne).trans (if_neg (by omega)))
  case bankBack =>
    have heq := State.resetLevelLeft_eq (s := s) (rail := 0x20 + k) (by simp [hp, railOk]; omega) (by omega)
    simp only [Nat.le_add_right, if_true, Nat.add_sub_cancel_left] at heq
    exact congrArg Host.Outcome.next heq
  case noInlet =>
    have heq : s.overvoltage = s := by simp [State.overvoltage, State.powerOff, hoff]
    exact congrArg Host.Outcome.next heq
  case overvoltage =>
    obtain ⟨hgates, hstandby⟩ := State.powerOff_inlet (code := 0x08) hon rfl
    have heq : s.overvoltage = s.powerOff 8 0x08 := by simp [State.overvoltage, hp]
    exact ⟨_, congrArg Host.Outcome.next heq, hgates 8 (by decide), fun c hc => hgates c (by omega), hstandby⟩
  case unseated => exact congrArg Host.Outcome.next (if_neg (by simp [hs]))

end Sys2Proof.Machine
end

section
/-!
PROOFS. What an edge leaves of the edge sampler (R246 to R248): the checks of samples just taken (R26) and the lines that it raises (R253 to R261) leave
the levels and the edge flags as they are.
-/
namespace Sys2Proof.Machine

/-- What the edge sampler holds: the raw and the filtered levels, and the edge flags. -/
def State.sampler (s : State) : Nat × Nat × NMap Nat := (s.pins.raw, s.pins.filt, s.pins.flagAt)

theorem State.sampler_of_pins {s t : State} (h : t.pins = s.pins) : t.sampler = s.sampler := by rw [State.sampler, h]; rfl

@[simp] theorem State.setupFailed_pins (s : State) : s.setupFailed.pins = s.pins := rfl

theorem State.arriveByte_pins (s : State) (sel : ImageSel) (a : Nat) (v : Byte) : (s.arriveByte sel a v).pins = s.pins := by
  unfold State.arriveByte
  dsimp only
  split
  · split <;> simp
  · simp

@[simp] theorem State.arriveBytes_pins (s : State) (sel : ImageSel) (o : Nat) (l : List Byte) : (s.arriveBytes sel o l).pins = s.pins := by
  induction l generalizing s o with
  | nil => rfl
  | cons v l ih => rw [State.arriveBytes, ih, State.arriveByte_pins]

@[simp] theorem State.depart_pins (s : State) (i reason : Nat) : (s.depart i reason).pins = s.pins := by
  unfold State.depart
  dsimp only
  split
  · rfl
  · split
    · split <;> simp
    · simp

/-- A record in setup violation is counted, journalled and judged (R26, R37); the pin banks stay. -/
theorem State.violateRecord_pins (s : State) (t : SampleTaken) (e : Nat × RecDecl) : (s.violateRecord t e).pins = s.pins := by
  unfold State.violateRecord
  dsimp only
  split
  · simp
  · split
    · simp
    · split <;> simp

theorem State.violateSample_pins (s : State) (t : SampleTaken) (hit : Nat → Bool) : (s.violateSample t hit).1.pins = s.pins :=
  State.foldl_keeps State.pins (fun u e => u.violateRecord_pins t e) _ s

theorem State.lateHold_sampler (s : State) (pin ns : Nat) (l : List SampleTaken) : (s.lateHold pin ns l).sampler = s.sampler := by
  induction l with
  | nil => rfl
  | cons t l ih =>
    rw [← ih, State.lateHold]
    dsimp only
    split
    · have hpins := State.violateSample_pins (s.lateHold pin ns l).setupFailed t (fun p => p == pin)
      rw [State.sampler, hpins]; rfl
    · rfl

theorem State.settleClock_sampler (s : State) (c : PinClock) : (s.settleClock c).sampler = s.sampler := by
  rw [State.sampler, State.settleClock_pins]; rfl

theorem State.resetPhase_pins (s : State) (q edge : Nat) : (s.resetPhase q edge).pins = s.pins := rfl

theorem State.wakePawn_pins (s : State) (q ns : Nat) : (s.wakePawn q ns).pins = s.pins := by
  unfold State.wakePawn
  dsimp only
  split
  · rfl
  · split
    · rw [State.resetPhase_pins, State.setPawn_pins]
    · simp

theorem State.sendExpressAt_pins (s : State) (at_ : Nat) (p : Port) (x : Express) : (s.sendExpressAt at_ p x).pins = s.pins := by
  unfold State.sendExpressAt
  dsimp only
  split
  · simp
  · split <;> simp

theorem State.offerExpress_pins (s : State) (p : Port) (rank clk : Nat) (x : Express) : (s.offerExpress p rank clk x).pins = s.pins := by
  unfold State.offerExpress
  simp only [State.setPort_pins, State.sendExpressAt_pins]

theorem State.sendExpressAll_pins (s : State) (rank clk : Nat) (x : Express) (ps : List Port) : (s.sendExpressAll rank clk x ps).pins = s.pins :=
  State.foldl_keeps State.pins (fun t q => t.offerExpress_pins q rank clk x) _ s

/-- An emitted event is noted for the own crossbar (R122), and the edge sampler does not see it. -/
theorem State.emitExpress_sampler (s : State) (event ns : Nat) : (s.emitExpress event ns).sampler = s.sampler := by
  unfold State.emitExpress
  dsimp only
  split
  · split
    · exact State.sampler_of_pins (State.sendExpressAll_pins _ _ _ _ _)
    · simp [State.sampler, State.sendExpressAll_pins]
  · rfl

/-- The wakes and emissions of a line leave the edge sampler as it is. -/
theorem State.lineActs_sampler (s : State) (l ns : Nat) : (s.lineActs l ns).sampler = s.sampler := by
  unfold State.lineActs
  split
  · rfl
  · refine State.foldl_keeps State.sampler (fun t e => ?_) _ s
    split
    · refine State.foldl_keeps State.sampler (fun u p => ?_) _ t
      split
      · exact State.sampler_of_pins (u.wakePawn_pins _ ns)
      · rfl
    · exact t.emitExpress_sampler _ ns

theorem State.raiseLine_sampler (s : State) (l ns : Nat) : (s.raiseLine l ns).sampler = s.sampler := by
  have hcount : (s.inc (0x610100 + l)).sampler = s.sampler := State.sampler_of_pins (State.inc_pins _ _)
  unfold State.raiseLine
  dsimp only
  split
  · rfl
  · split
    · rw [State.lineActs_sampler, State.settleClock_sampler, hcount]
    · exact hcount

/-- The filtered levels, the edge flags and the history of the pins take new values. -/
def State.edgeView (s : State) (filt : Nat) (flagAt : NMap Nat) (hist : NMap (List EdgeRec)) : State :=
  { s with pins := { s.pins with filt := filt, flagAt := flagAt, hist := hist } }

@[simp] theorem State.edgeView_rd (s : State) (f : Nat) (g : NMap Nat) (h : NMap (List EdgeRec)) (o : Nat) : (s.edgeView f g h).rd o = s.rd o := rfl
@[simp] theorem State.edgeView_seq (s : State) (f : Nat) (g : NMap Nat) (h : NMap (List EdgeRec)) : (s.edgeView f g h).seq = s.seq := rfl
@[simp] theorem State.edgeView_samples (s : State) (f : Nat) (g : NMap Nat) (h : NMap (List EdgeRec)) :
    (s.edgeView f g h).pins.samples = s.pins.samples := rfl

/-- A filtered edge at the PIN clock `ns`, the first raw sample having been at `raw`: the level, the flag and the history (R246 to R248). -/
def State.edgeNoted (s : State) (pin raw ns : Nat) (lvl : Bool) : State :=
  s.edgeView (setBit s.pins.filt pin lvl) (if (mfind s.pins.flagAt pin).isSome then s.pins.flagAt else minsert s.pins.flagAt pin ns)
    (mset [] s.pins.hist pin (recentEdges (⟨ns, lvl, s.edgeStamp raw lvl⟩ :: mget [] s.pins.hist pin) ns))

/-- A filtered edge is noted and stamped (R248). -/
def State.edgeStamped (s : State) (pin raw ns : Nat) (lvl : Bool) : State :=
  (s.edgeNoted pin raw ns lvl).wr (lastEdgeObj pin) (s.edgeStamp raw lvl)

/-- The lines of an edge are raised (R253). -/
def State.edgeRaised (s : State) (pin ns : Nat) (lvl : Bool) : State := (s.pinLines pin lvl).foldl (fun t l => t.raiseLine l ns) s

/-- A filtered edge is noted and stamped, then the samples just taken are checked and its lines are raised. -/
theorem State.filteredEdge_eq (s : State) (pin raw ns : Nat) (lvl : Bool) : s.filteredEdge pin raw ns lvl =
    ((s.edgeStamped pin raw ns lvl).lateHold pin ns (s.edgeStamped pin raw ns lvl).pins.samples).edgeRaised pin ns lvl := rfl

theorem State.edgeRaised_sampler (s : State) (pin ns : Nat) (lvl : Bool) : (s.edgeRaised pin ns lvl).sampler = s.sampler :=
  State.foldl_keeps State.sampler (fun t l => t.raiseLine_sampler l ns) _ s

theorem State.filteredEdge_sampler (s : State) (pin raw ns : Nat) (lvl : Bool) :
    (s.filteredEdge pin raw ns lvl).sampler = (s.edgeNoted pin raw ns lvl).sampler := by
  rw [State.filteredEdge_eq, State.edgeRaised_sampler, State.lateHold_sampler]
  exact State.sampler_of_pins (State.wr_pins _ _ _)

/-- The lines whose source is a pin depend on the active bank only (R254). -/
theorem State.pinLines_congr {s t : State} (h : t.activeBank = s.activeBank) (pin : Nat) (lvl : Bool) : t.pinLines pin lvl = s.pinLines pin lvl := by
  have hsource : t.lineSource = s.lineSource := funext fun l => by rw [State.lineSource, h]; rfl
  rw [State.pinLines, hsource]; rfl

theorem State.activeBank_congr {s t : State} (hnum : t.rd 0x400000 = s.rd 0x400000) (hseq : t.seq = s.seq) : t.activeBank = s.activeBank := by
  have hactive : t.activeNum = s.activeNum := hnum
  rw [State.activeBank, hactive, hseq]; rfl

theorem State.edgeStamped_activeBank (s : State) (pin raw ns : Nat) (lvl : Bool) : (s.edgeStamped pin raw ns lvl).activeBank = s.activeBank := by
  have hne : 0x400000 ≠ lastEdgeObj pin := by simp only [lastEdgeObj]; omega
  refine State.activeBank_congr ?_ ?_
  · rw [State.edgeStamped, State.rd_wr_ne _ _ hne, State.edgeNoted, State.edgeView_rd]
  · rw [State.edgeStamped, State.wr_seq, State.edgeNoted, State.edgeView_seq]

/-- Without a sample to check, the check leaves the state as it is. -/
theorem State.lateHold_nil {s : State} (h : s.pins.samples = []) (pin ns : Nat) : s.lateHold pin ns s.pins.samples = s := by
  rw [h]
  exact congrArg (fun l => ({ s with pins := { s.pins with samples := l } } : State)) h.symm

/-- Where no sample is kept and no line has the edge as its source, nothing follows. -/
theorem State.filteredEdge_quiet {s : State} {pin : Nat} {lvl : Bool} (hs : s.pins.samples = []) (hl : s.pinLines pin lvl = []) (raw ns : Nat) :
    s.filteredEdge pin raw ns lvl = s.edgeStamped pin raw ns lvl := by
  have hsamples : (s.edgeStamped pin raw ns lvl).pins.samples = [] := by
    rw [State.edgeStamped, State.wr_pins, State.edgeNoted, State.edgeView_samples, hs]
  rw [State.filteredEdge_eq, State.lateHold_nil hsamples, State.edgeRaised, State.pinLines_congr (s.edgeStamped_activeBank pin raw ns lvl), hl,
    List.foldl_nil]

end Sys2Proof.Machine
end

section
/-!
PROOFS. Pin events (R241, R242, R246, R251): an edge at a PIN island at which nothing is due, core loss pin by pin, and the statement about them.
-/
namespace Sys2Proof.Machine

/-- The raw level of a pin is `lvl` from here on. -/
def State.rawSet (s : State) (pin : Nat) (lvl : Bool) : State := { s with pins := { s.pins with raw := setBit s.pins.raw pin lvl } }

/-- Nothing is due, and the PIN island does nothing. -/
theorem State.pinsThrough_idle {s : State} (h : s.pins.due = []) (ns : Nat) : s.pinsThrough ns = s := by
  rw [State.pinsThrough, h]
  exact congrArg (fun l => ({ s with pins := { s.pins with due := l } } : State)) h.symm

/-- Nothing is due, and there is no pulse to break. -/
theorem State.breakPulse_idle {s : State} (h : s.pins.due = []) (pin ns : Nat) : s.breakPulse pin ns = s := by
  rw [State.breakPulse, h]
  exact congrArg (fun l => ({ s with pins := { s.pins with due := l } } : State)) h.symm

theorem State.pinEdge_same {s : State} {pin : Nat} {lvl : Bool} (hpin : pin < 256) (hup : s.coreUp = true) (hdue : s.pins.due = [])
    (hraw : s.pins.raw.testBit pin = lvl) (off : Nat) : s.pinEdge pin off lvl = s := by
  rw [State.pinEdge, if_neg (by omega), if_pos hup]
  simp [hraw, State.pinsThrough_idle hdue]

/-- A raw edge away from the filtered level (R246): in bypass the filtered edge, otherwise one that is due. -/
theorem State.pinEdge_new {s : State} {pin : Nat} {lvl : Bool} (hpin : pin < 256) (hup : s.coreUp = true) (hdue : s.pins.due = [])
    (hraw : s.pins.raw.testBit pin ≠ lvl) (hfilt : s.pins.filt.testBit pin ≠ lvl) (off : Nat) : s.pinEdge pin off lvl =
      if s.pinFilter pin = 1 then (s.rawSet pin lvl).filteredEdge pin (s.nowNs + off) (s.nowNs + off) lvl
      else (s.rawSet pin lvl).pinLater (s.nowNs + off + (s.pinFilter pin - 1)) (.filtered pin lvl (s.nowNs + off)) := by
  rw [State.pinEdge, if_neg (by omega), if_pos hup]
  dsimp only
  rw [if_neg (by simpa using hraw), State.breakPulse_idle hdue, State.pinsThrough_idle hdue]
  exact if_neg (by simpa using hfilt)

theorem State.pinEdge_unsampled {s : State} {pin : Nat} (hpin : pin < 256) (hup : s.coreUp = false) (hm : s.mode ≠ .noPower) (off : Nat) (lvl : Bool) :
    s.pinEdge pin off lvl =
      { s with pins := { s.pins with raw := setBit s.pins.raw pin lvl, filt := setBit s.pins.filt pin lvl } } := by
  rw [State.pinEdge, if_neg (by omega), if_neg (by simp [hup]), if_pos (by simp [hm])]

/-- The pins of a list take their core-loss actions (R251). -/
theorem State.mget_foldl_loss (s : State) (l : List Nat) (m : NMap LossAction) (p : Nat) :
    mget .keep (l.foldl (fun m q => if s.outputMode q = 0 then m else mset .keep m q (s.lossOf q)) m) p =
      if p ∈ l ∧ s.outputMode p ≠ 0 then s.lossOf p else mget .keep m p := by
  induction l generalizing m with
  | nil => simp
  | cons q l ih =>
    rw [List.foldl_cons, ih]
    by_cases hp : p = q
    · subst hp
      by_cases ho : s.outputMode p = 0 <;> simp [ho]
    · by_cases ho : s.outputMode q = 0 <;> simp [ho, hp, mget_mset]

/-- Core loss gives every output pin its action and leaves the pins that are inputs only. -/
theorem State.mget_lossActions (s : State) {p : Nat} (hp : p < 256) :
    mget .keep s.lossActions p = if s.outputMode p = 0 then mget .keep s.pins.loss p else s.lossOf p := by
  rw [State.lossActions, State.mget_foldl_loss]
  by_cases ho : s.outputMode p = 0 <;> simp [ho, hp]

/-- Settles O10, a clause of it from what each event leaves. -/
theorem pinEventsTakeEffect : Obligations.PinEventsTakeEffect := by
  unfold Obligations.PinEventsTakeEffect
  intro s
  refine ⟨fun pin off ns lvl hup hdue hns => ⟨fun hraw => ?same, fun hraw hfilt hF => ?filtered, fun hraw hfilt hF => ?bypass⟩,
    fun pin off lvl hup hm => congrArg Host.Outcome.next (State.pinEdge_unsampled pin.isLt hup hm off lvl), fun k mv out hp hout => ?vio,
    fun k hp hu => ⟨_, rfl, congrArg Host.Outcome.next (State.resetLevel_bank k.isLt hp hu)⟩, fun hp => ?loss⟩
  case same => exact congrArg Host.Outcome.next (State.pinEdge_same pin.isLt hup hdue hraw off)
  case filtered =>
    have hedge := State.pinEdge_new pin.isLt hup hdue hraw hfilt off
    rw [if_neg hF, ← hns, State.pinLater] at hedge
    have hone : dueInsert (s.rawSet pin.val lvl).pins.due (ns + (s.pinFilter pin.val - 1), .filtered pin.val lvl ns) =
        [(ns + (s.pinFilter pin.val - 1), .filtered pin.val lvl ns)] := congrArg (fun l => dueInsert l _) hdue
    rw [hone] at hedge
    exact congrArg Host.Outcome.next hedge
  case bypass =>
    have hedge := State.pinEdge_new pin.isLt hup hdue hraw hfilt off
    rw [if_pos hF, ← hns] at hedge
    have hsampler := (s.rawSet pin.val lvl).filteredEdge_sampler pin.val ns ns lvl
    simp only [State.sampler, Prod.mk.injEq] at hsampler
    obtain ⟨hr, hf, hflag⟩ := hsampler
    refine ⟨_, congrArg Host.Outcome.next hedge, hr, hf, hflag, fun hsamples hlines => ?_⟩
    exact State.filteredEdge_quiet (s := s.rawSet pin.val lvl) hsamples hlines ns ns
  case vio =>
    have hdecl : bankObj k.val 1 = 0x600101 + 0x1000 * k.val := by simp only [bankObj]; omega
    have hread : bankObj k.val 4 = 0x600104 + 0x1000 * k.val := by simp only [bankObj]; omega
    rw [hout, hdecl, hread]
    exact congrArg Host.Outcome.next (if_pos hp)
  case loss =>
    exact ⟨s.lossActions, _, congrArg Host.Outcome.next (if_pos hp), rfl, fun p h => s.mget_lossActions h⟩

end Sys2Proof.Machine
end

section
/-!
PROOFS. Controllers and message objects (R263 to R278): what a read gives after a write to the same one or to another, and the operations that leave the
buses as they are.
-/
namespace Sys2Proof.Machine

theorem BusCtl.obj_setObj (c : BusCtl) (m k : Nat) (x : MsgObj) : (c.setObj m x).obj k = if k = m then x else c.obj k := mget_mset _ _ _ _ _

theorem State.ctl_setCtl (s : State) (n k : Nat) (c : BusCtl) : (s.setCtl n c).ctl k = if k = n then c else s.ctl k := mget_mset _ _ _ _ _

@[simp] theorem State.ctl_setCtl_self (s : State) (n : Nat) (c : BusCtl) : (s.setCtl n c).ctl n = c := by simp [State.ctl_setCtl]

@[simp] theorem State.msg_setCtl_self (s : State) (n m : Nat) (c : BusCtl) : (s.setCtl n c).msg n m = c.obj m := by simp [State.msg]

@[simp] theorem State.ctl_setMsg_self (s : State) (n m : Nat) (x : MsgObj) : (s.setMsg n m x).ctl n = (s.ctl n).setObj m x := s.ctl_setCtl_self _ _

theorem State.msg_setMsg (s : State) (n m k : Nat) (x : MsgObj) : (s.setMsg n m x).msg n k = if k = m then x else s.msg n k := by
  rw [State.msg, State.ctl_setMsg_self, BusCtl.obj_setObj]
  rfl

@[simp] theorem State.msg_setMsg_self (s : State) (n m : Nat) (x : MsgObj) : (s.setMsg n m x).msg n m = x := by simp [State.msg_setMsg]

@[simp] theorem BusCtl.setObj_sending (c : BusCtl) (m : Nat) (x : MsgObj) : (c.setObj m x).sending = c.sending := rfl

/-- Confinement judges the error counters and writes nothing but its own state (R263). -/
theorem BusCtl.confine_frame (c : BusCtl) : ∃ conf : Nat, c.confine = { c with conf := conf } := by
  unfold BusCtl.confine
  split
  · exact ⟨c.conf, rfl⟩
  · exact ⟨_, rfl⟩

@[simp] theorem BusCtl.confine_obj (c : BusCtl) (m : Nat) : c.confine.obj m = c.obj m := by
  obtain ⟨_, hframe⟩ := c.confine_frame
  rw [hframe]
  rfl

@[simp] theorem BusCtl.confine_sending (c : BusCtl) : c.confine.sending = c.sending := by
  obtain ⟨_, hframe⟩ := c.confine_frame
  rw [hframe]

@[simp] theorem BusCtl.confine_dropped (c : BusCtl) : c.confine.dropped = c.dropped := by
  obtain ⟨_, hframe⟩ := c.confine_frame
  rw [hframe]

@[simp] theorem BusCtl.confine_lastErr (c : BusCtl) : c.confine.lastErr = c.lastErr := by
  obtain ⟨_, hframe⟩ := c.confine_frame
  rw [hframe]

@[simp] theorem BusCtl.confine_lonely (c : BusCtl) : c.confine.lonely = c.lonely := by
  obtain ⟨_, hframe⟩ := c.confine_frame
  rw [hframe]

@[simp] theorem State.raiseAt_bus (s : State) (at_ : Nat) (i : Island) (cls reason tag : Nat) : (s.raiseAt at_ i cls reason tag).bus = s.bus := by
  obtain ⟨_, _, _, hframe⟩ := s.raiseAt_frame at_ i cls reason tag
  rw [hframe]

@[simp] theorem State.busJournal_bus (s : State) (n m attempts reason : Nat) : (s.busJournal n m attempts reason).bus = s.bus :=
  s.raiseAt_bus _ _ _ _ _

@[simp] theorem State.inc_bus (s : State) (o : Nat) : (s.inc o).bus = s.bus := by
  obtain ⟨_, _, hframe⟩ := s.addTo_frame o 1
  rw [State.inc, hframe]

/-- A notice sends a message or sets its pending bit (R360), and writes no register. -/
theorem State.notice_frame (s : State) (v : Nat) : ∃ (out : List Out) (bridge : BridgeSt), s.notice v = { s with out := out, bridge := bridge } := by
  unfold State.notice
  split
  · exact ⟨_, _, rfl⟩
  split
  · exact ⟨_, _, rfl⟩
  · exact ⟨_, _, rfl⟩

/-- So does the notice of a controller (R272, R277). -/
theorem State.busNotice_frame (s : State) (n k vector : Nat) :
    ∃ (out : List Out) (bridge : BridgeSt), s.busNotice n k vector = { s with out := out, bridge := bridge } := by
  unfold State.busNotice
  split
  · exact s.notice_frame _
  · exact ⟨_, _, rfl⟩

@[simp] theorem State.busNotice_bus (s : State) (n k vector : Nat) : (s.busNotice n k vector).bus = s.bus := by
  obtain ⟨_, _, hframe⟩ := s.busNotice_frame n k vector
  rw [hframe]

@[simp] theorem State.busNotice_rd (s : State) (n k vector o : Nat) : (s.busNotice n k vector).rd o = s.rd o := by
  obtain ⟨_, _, hframe⟩ := s.busNotice_frame n k vector
  rw [hframe]
  rfl

/-- A record of a bus leaves the registers below area D, other than the count of records lost from the power log. -/
theorem State.rd_busJournal (s : State) (n m attempts reason : Nat) {o : Nat} (h : o < 0xD00000) (ha : o ≠ 0xA00210) :
    (s.busJournal n m attempts reason).rd o = s.rd o := s.rd_raise _ _ _ _ h ha

theorem State.ctl_of_bus {s t : State} (h : t.bus = s.bus) (n : Nat) : t.ctl n = s.ctl n := by rw [State.ctl, h]; rfl

theorem State.msg_of_bus {s t : State} (h : t.bus = s.bus) (n m : Nat) : t.msg n m = s.msg n m := by rw [State.msg, State.ctl_of_bus h]; rfl

@[simp] theorem State.busJournal_ctl (s : State) (n m attempts reason k : Nat) : (s.busJournal n m attempts reason).ctl k = s.ctl k :=
  State.ctl_of_bus (s.busJournal_bus n m attempts reason) k

@[simp] theorem State.busJournal_msg (s : State) (n m attempts reason k j : Nat) : (s.busJournal n m attempts reason).msg k j = s.msg k j :=
  State.msg_of_bus (s.busJournal_bus n m attempts reason) k j

/-- Two objects of one controller's dictionary are the same only at the same subindex (R286). -/
theorem busObj_inj {n grp a b : Nat} : busObj n grp a = busObj n grp b ↔ a = b := by simp only [busObj]; omega

end Sys2Proof.Machine
end

section
/-!
PROOFS. Requests and arbitration on a message bus (R273, R274, R278): what a request and an abort do in each case, and the frame that wins.
-/
namespace Sys2Proof.Machine

/-- A request for a frame that its object cannot make ends as mismatched (R278). -/
theorem State.request_mismatched {s : State} {n m count : Nat} (h : s.mismatch n (s.msg n m) count = true) : s.request n m count =
    (s.setMsg n m { s.msg n m with outcome := 7, attempts := if (s.msg n m).req.isSome then (s.msg n m).attempts else 0 }).busJournal n m 0 0x45 := by
  simp [State.request, h]

/-- A request on a controller that its role keeps listening ends as abandoned (R265). -/
theorem State.request_muted {s : State} {n m count : Nat} (h : s.mismatch n (s.msg n m) count = false) (hm : s.mutes n = true) : s.request n m count =
    (s.setMsg n m { s.msg n m with outcome := 6, attempts := if (s.msg n m).req.isSome then (s.msg n m).attempts else 0 }).busJournal n m 0 0x44 := by
  simp [State.request, h, hm]

/-- A request on a controller that does not send in its mode is journalled (R264, R278). -/
theorem State.request_unsent {s : State} {n m count : Nat} (h : s.mismatch n (s.msg n m) count = false) (hm : s.mutes n = false)
    (h1 : (s.ctl n).mode ≠ 1) (h4 : (s.ctl n).mode ≠ 4) : s.request n m count = s.busJournal n m 0 0x46 := by
  simp [State.request, h, hm, h1, h4]

/-- Any other request is put to its object (R273). -/
theorem State.request_queued {s : State} {n m count : Nat} (h : s.mismatch n (s.msg n m) count = false) (hm : s.mutes n = false)
    (h14 : (s.ctl n).mode = 1 ∨ (s.ctl n).mode = 4) : s.request n m count =
      s.queueRequest n m ⟨(s.msg n m).build count, bits (s.msg n m).ctrl 28 27, bits (s.msg n m).ctrl 23 16, 0, 0⟩ := by
  have hmode : ((s.ctl n).mode != 1 && (s.ctl n).mode != 4) = false := by
    rcases h14 with h1 | h4
    · simp [h1]
    · simp [h4]
  simp [State.request, h, hm, hmode]

/-- A free object takes the request. -/
theorem State.queueRequest_first {s : State} {n m : Nat} (r : TxReq) (hs : (s.ctl n).sending ≠ some m) (h : (s.msg n m).req = none) :
    s.queueRequest n m r = s.setMsg n m { s.msg n m with req := some r, attempts := 0 } := by
  simp [State.queueRequest, hs, h]

/-- A request that is pending and not being sent is replaced (R273). -/
theorem State.queueRequest_replaces {s : State} {n m : Nat} {old : TxReq} (r : TxReq) (hs : (s.ctl n).sending ≠ some m)
    (h : (s.msg n m).req = some old) : s.queueRequest n m r =
      (s.setMsg n m { s.msg n m with req := some r, outcome := 5, attempts := 0 }).busJournal n m old.attempts 0x43 := by
  simp [State.queueRequest, hs, h]

/-- An abort ends a request that is not being sent (R273). -/
theorem State.abortObj_ends {s : State} {n m : Nat} {r : TxReq} (hn : (s.msg n m).next = none) (hs : (s.ctl n).sending ≠ some m)
    (h : (s.msg n m).req = some r) :
    s.abortObj n m = (s.setMsg n m { s.msg n m with req := none, outcome := 6 }).busJournal n m r.attempts 0x44 := by
  simp [State.abortObj, hn, hs, h]

/-- The abort of the frame in transmission bars its retry (R273). -/
theorem State.abortObj_drops {s : State} {n m : Nat} (hn : (s.msg n m).next = none) (hs : (s.ctl n).sending = some m) :
    s.abortObj n m = s.setCtl n { s.ctl n with dropped := true } := by
  simp [State.abortObj, hn, hs]

theorem exec_requestTransmission {s : State} {n : Fin 8} {m : Nat} (h : s.commandsBus m 1 n.val = true) :
    exec (.requestTransmission n m) s = .next (s.request n.val m (bits (s.msg n.val m).ctrl 6 0)) := congrArg Host.Outcome.next (if_pos h)

theorem exec_abortTransmission {s : State} {n : Fin 8} {m : Nat} (h : s.commandsBus m 2 n.val = true) :
    exec (.abortTransmission n m) s = .next (s.abortObj n.val m) := congrArg Host.Outcome.next (if_pos h)

/-- Of the best frame so far and that of object `m`, which comes after it, the one that wins on the bus (R274). -/
def BusCtl.stronger (c : BusCtl) (best : Option Nat) (m : Nat) : Option Nat :=
  match best, (c.obj m).req with
  | some b, some r => match (c.obj b).req with
    | some q => if arbKey r.frame < arbKey q.frame then some m else some b
    | none => some m
  | none, some _ => some m
  | a, none => a

theorem BusCtl.winner_eq (c : BusCtl) : c.winner = ((List.range 128).filter (fun m => (c.obj m).req.isSome)).foldl c.stronger none := rfl

/-- What wins among the objects below `n` (R274): none where no request is pending, else the object whose frame goes before every other, equal ones in
ascending object number. -/
def BusCtl.Leads (c : BusCtl) (n : Nat) : Option Nat → Prop
  | none => ∀ k < n, (c.obj k).req = none
  | some b => ∃ r, (c.obj b).req = some r ∧ b < n ∧ ∀ (k : Nat) (q : TxReq), k < n → (c.obj k).req = some q →
      arbKey r.frame < arbKey q.frame ∨ arbKey r.frame = arbKey q.frame ∧ b ≤ k

/-- An object without a request leaves the best frame as it is. -/
theorem BusCtl.Leads.skip {c : BusCtl} {n : Nat} {best : Option Nat} (h : c.Leads n best) (hn : (c.obj n).req = none) : c.Leads (n + 1) best := by
  cases best with
  | none =>
    intro k hk
    rcases Nat.lt_succ_iff_lt_or_eq.mp hk with hk | rfl
    · exact h k hk
    · exact hn
  | some b =>
    obtain ⟨r, hr, hb, hbest⟩ := h
    refine ⟨r, hr, by omega, fun k q hk hq => ?_⟩
    rcases Nat.lt_succ_iff_lt_or_eq.mp hk with hk | rfl
    · exact hbest k q hk hq
    · simp [hn] at hq

/-- An object with a request takes the lead where its frame goes before the best one. -/
theorem BusCtl.Leads.next {c : BusCtl} {n : Nat} {best : Option Nat} {r : TxReq} (h : c.Leads n best) (hn : (c.obj n).req = some r) :
    c.Leads (n + 1) (c.stronger best n) := by
  cases best with
  | none =>
    have hfirst : c.stronger none n = some n := by simp [BusCtl.stronger, hn]
    rw [hfirst]
    refine ⟨r, hn, by omega, fun k q hk hq => ?_⟩
    rcases Nat.lt_succ_iff_lt_or_eq.mp hk with hk | rfl
    · simp [h k hk] at hq
    · obtain rfl := Option.some.inj (hn.symm.trans hq)
      exact .inr ⟨rfl, Nat.le_refl k⟩
  | some b =>
    obtain ⟨p, hp, hb, hbest⟩ := h
    have hpick : c.stronger (some b) n = if arbKey r.frame < arbKey p.frame then some n else some b := by simp [BusCtl.stronger, hn, hp]
    rw [hpick]
    split
    next hless =>
      refine ⟨r, hn, by omega, fun k q hk hq => ?_⟩
      rcases Nat.lt_succ_iff_lt_or_eq.mp hk with hk | rfl
      · have := hbest k q hk hq
        omega
      · obtain rfl := Option.some.inj (hn.symm.trans hq)
        exact .inr ⟨rfl, Nat.le_refl k⟩
    next hless =>
      refine ⟨p, hp, by omega, fun k q hk hq => ?_⟩
      rcases Nat.lt_succ_iff_lt_or_eq.mp hk with hk | rfl
      · exact hbest k q hk hq
      · obtain rfl := Option.some.inj (hn.symm.trans hq)
        omega

/-- The winner leads (R274). -/
theorem BusCtl.winner_leads (c : BusCtl) : c.Leads 128 c.winner := by
  rw [BusCtl.winner_eq]
  generalize 128 = n
  induction n with
  | zero => exact fun k hk => absurd hk (Nat.not_lt_zero k)
  | succ n ih =>
    rw [List.range_succ, List.filter_append, List.foldl_append]
    cases hn : (c.obj n).req with
    | none => simpa [hn] using ih.skip hn
    | some r => simpa [hn] using ih.next hn

/-- With no request pending, nothing wins. -/
theorem BusCtl.winner_none {c : BusCtl} (h : ∀ k < 128, (c.obj k).req = none) : c.winner = none := by
  have hlead := c.winner_leads
  cases hw : c.winner with
  | none => rfl
  | some b =>
    rw [hw] at hlead
    obtain ⟨r, hr, hb, -⟩ := hlead
    simp [h b hb] at hr

/-- The controller in arbitration with an object's frame, an attempt more on it (R274). -/
def State.entered (s : State) (n m : Nat) (r : TxReq) : State :=
  s.setCtl n { (s.ctl n).setObj m { s.msg n m with req := some { r with attempts := r.attempts + 1 }, attempts := min (r.attempts + 1) 255 } with
    sending := some m }

/-- The winner enters arbitration; on a bus that the controller drives, its frame goes out (R274, R279). -/
theorem State.arbitrate_enters {s : State} {n m : Nat} {r : TxReq} (hs : s.sends n = true) (hidle : (s.ctl n).sending = none)
    (hw : (s.ctl n).winner = some m) (hr : (s.msg n m).req = some r) : s.arbitrate n =
      if (s.ctl n).mode = 1 ∧ s.busDrives n = true then (s.entered n m r).emit (.can n ((s.ctl n).onBus r.frame)) else s.entered n m r := by
  have hr' : ((s.ctl n).obj m).req = some r := hr
  simp only [State.arbitrate, hs, hidle, hw, hr', Option.isNone_none, Bool.and_self, if_true, Bool.and_eq_true, decide_eq_true_eq]
  rfl

/-- With nothing to send, the controller stays out of arbitration. -/
theorem State.arbitrate_none {s : State} {n : Nat} (hidle : (s.ctl n).sending = none) (hw : (s.ctl n).winner = none) : s.arbitrate n = s := by
  simp [State.arbitrate, hidle, hw]

theorem State.entered_sending (s : State) (n m : Nat) (r : TxReq) : ((s.entered n m r).ctl n).sending = some m := by
  rw [State.entered, State.ctl_setCtl_self]

theorem State.entered_msg (s : State) (n m k : Nat) (r : TxReq) : (s.entered n m r).msg n k =
    if k = m then { s.msg n m with req := some { r with attempts := r.attempts + 1 }, attempts := min (r.attempts + 1) 255 } else s.msg n k := by
  rw [State.entered, State.msg_setCtl_self]
  exact BusCtl.obj_setObj _ _ _ _

end Sys2Proof.Machine
end

section
/-!
PROOFS. The end of a transmission attempt (R264, R265, R273 to R277): what its cases come to, and the statement about requests, aborts, arbitration and
attempts.
-/
namespace Sys2Proof.Machine

/-- Whether the role keeps a controller listening depends on registers that are none of its counters (R265). -/
theorem State.mutes_of_rd {s t : State} {n : Nat} (hn : n < 8)
    (h : ∀ o < 0x710000, (∀ sub, o ≠ busObj n 1 sub) → t.rd o = s.rd o) : t.mutes n = s.mutes n := by
  have hfeature : t.feature 2 = s.feature 2 := congrArg (Nat.testBit · 2) (h 0x001300 (by decide) (fun sub => by simp only [busObj]; omega))
  have hservice := h 0x208100 (by decide) (fun sub => by simp only [busObj]; omega)
  have hrole := h 0x208200 (by decide) (fun sub => by simp only [busObj]; omega)
  have hmode := h (busObj n 0 0) (by simp only [busObj]; omega) (fun sub => by simp only [busObj]; omega)
  simp only [State.mutes, State.listening, State.inPair, hfeature, hservice, hrole, hmode]

@[simp] theorem State.setCtl_mutes (s : State) (n k : Nat) (c : BusCtl) : (s.setCtl n c).mutes k = s.mutes k := rfl

@[simp] theorem State.setMsg_mutes (s : State) (n m k : Nat) (x : MsgObj) : (s.setMsg n m x).mutes k = s.mutes k := rfl
@[simp] theorem State.tookFree_mutes (s : State) (k : Nat) : s.tookFree.mutes k = s.mutes k := rfl

/-- A count of a controller that is written leaves it listening or not. -/
theorem State.wr_mutes (s : State) {n : Nat} (hn : n < 8) (sub v : Nat) : (s.wr (busObj n 1 sub) v).mutes n = s.mutes n :=
  State.mutes_of_rd hn (fun _ _ hsub => s.rd_wr_ne v (hsub sub))

/-- So does one that goes up. -/
theorem State.inc_mutes (s : State) {n : Nat} (hn : n < 8) (sub : Nat) : (s.inc (busObj n 1 sub)).mutes n = s.mutes n :=
  State.mutes_of_rd hn (fun _ _ hsub => s.rd_inc_ne (hsub sub))

theorem State.failRequest_mutes (s : State) {n : Nat} (hn : n < 8) (m attempts outcome reason : Nat) :
    (s.failRequest n m attempts outcome reason).mutes n = s.mutes n :=
  State.mutes_of_rd hn (fun _ ho _ => (s.endRequest n m outcome).rd_busJournal _ _ _ _ (by omega) (by omega))

/-- A request that fails leaves its object as `MsgObj.endRequest` says; the record of it is no matter of the buses. -/
theorem State.failRequest_msg (s : State) (n m attempts outcome reason : Nat) :
    (s.failRequest n m attempts outcome reason).msg n m = (s.msg n m).endRequest outcome := by
  rw [State.failRequest, State.busJournal_msg, State.endRequest, State.msg_setCtl_self]
  exact s.msg_setMsg_self n m _

section
variable {s : State} {n m : Nat} (ha : s.abandons n = false)
include ha

/-- A waiting request replaces one that did not succeed (R273). -/
theorem State.judgePolicy_replaced (h : (s.msg n m).next.isSome = true) (r : TxReq) (failed : Bool) :
    s.judgePolicy n m r failed = s.failRequest n m r.attempts 5 0x43 := by
  simp [State.judgePolicy, ha, h]

/-- Under the one-shot policy the first attempt is the last (R275). -/
theorem State.judgePolicy_oneShot {r : TxReq} (h : (s.msg n m).next = none) (hp : r.policy = 1) (failed : Bool) :
    s.judgePolicy n m r failed = s.failRequest n m r.attempts 4 0x42 := by
  simp [State.judgePolicy, ha, h, hp]

/-- Under the other policies a lost arbitration leaves the request pending (R275). -/
theorem State.judgePolicy_lost {r : TxReq} (h : (s.msg n m).next = none) (hp : r.policy ≠ 1) :
    s.judgePolicy n m r false = s.setMsg n m { s.msg n m with req := some r } := by
  simp [State.judgePolicy, ha, h, hp]

/-- Under the unlimited policy an error leaves the request pending, with one failure more (R275). -/
theorem State.judgePolicy_unlimited {r : TxReq} (h : (s.msg n m).next = none) (hp : r.policy = 0) :
    s.judgePolicy n m r true = s.setMsg n m { s.msg n m with req := some { r with fails := r.fails + 1 } } := by
  simp [State.judgePolicy, ha, h, hp]

end

section
variable {s : State} {n m : Nat} {r : TxReq} (hs : (s.ctl n).sending = some m) (hr : (s.msg n m).req = some r)
include hs hr

/-- A transmission of a controller whose transmitter is on succeeds; without a measured delay there is none to judge (R267, R273). -/
theorem State.attemptResult_sent (hd : (s.ctl n).mode ≠ 1 ∨ s.busDrives n = true) (ago : Nat) :
    s.attemptResult n (.sent ago none) = s.attemptSent n m ago r := by
  have hdriven : (decide ((s.ctl n).mode = 1) && !(s.busDrives n)) = false := by
    rcases hd with hmode | hdrives
    · simp [hmode]
    · simp [hdrives]
  simp [State.attemptResult, hs, hr, hdriven, State.delayTooLong, State.noteDelay]

/-- One whose transmitter is off ends in a bit or an acknowledgement error (R283). -/
theorem State.attemptResult_undriven (h1 : (s.ctl n).mode = 1) (hd : s.busDrives n = false) (ago : Nat) : ∃ code : Fin 8,
    (code.val = 3 ∨ code.val = 5) ∧ s.attemptResult n (.sent ago none) = s.tookFree.attemptFailed n m r code := by
  refine ⟨if s.freeNat 1 = 0 then 5 else 3, ?_, ?_⟩
  · split
    · exact .inr rfl
    · exact .inl rfl
  · simp [State.attemptResult, hs, hr, h1, hd]

theorem State.attemptResult_error (code : Fin 8) : s.attemptResult n (.error code none) = s.attemptFailed n m r code := by
  simp [State.attemptResult, hs, hr, State.noteDelay]

theorem State.attemptResult_lost : s.attemptResult n .lost =
    ((s.setCtl n { s.ctl n with sending := none }).inc (busObj n 1 7)).judgePolicy n m r false := by
  simp [State.attemptResult, hs, hr]

end

/-- A success outside loopback (R273, R276): the counts, and the object with its outcome and its stamp. -/
theorem State.attemptSent_eq {s : State} {n : Nat} (h4 : (s.ctl n).mode ≠ 4) (m ago : Nat) (r : TxReq) : s.attemptSent n m ago r =
    (((s.setCtl n ({ s.ctl n with sending := none, tec := (s.ctl n).tec - 1, lonely := false, dropped := false }).confine).wr
      (busObj n 1 1) 0).setMsg n m { (s.msg n m).endRequest 1 with ts := s.busStamp ago }).inc (busObj n 1 3) := if_neg (by simpa using h4)

/-- An error that is none of acknowledgement and does not turn the controller off raises its transmit error count by 8 and leaves the request to its
policy (R275, R277). -/
theorem State.attemptFailed_judged {s : State} {n : Nat} {code : Fin 8} (h3 : code.val ≠ 3) (htec : (s.ctl n).tec + 8 ≤ 255) (m : Nat) (r : TxReq) :
    s.attemptFailed n m r code =
      (s.setCtl n ({ s.ctl n with sending := none, lastErr := code.val, tec := (s.ctl n).tec + 8 }).confine).judgePolicy n m r true := by
  have hmin : min ((s.ctl n).tec + 8) 256 = (s.ctl n).tec + 8 := by omega
  have hon : ¬ 255 < (s.ctl n).tec + 8 := by omega
  simp [State.attemptFailed, h3, hmin, hon]

/-- What follows an error keeps of a controller that it sends nothing, and the code of the error; of the registers it writes the counts of lonely attempts
and of times off the bus (R276, R277). -/
structure State.AttemptKeeps (n : Nat) (s t : State) : Prop where
  sending : (t.ctl n).sending = (s.ctl n).sending
  lastErr : (t.ctl n).lastErr = (s.ctl n).lastErr
  rd : ∀ o < 0xA00000, o ≠ busObj n 1 1 → o ≠ busObj n 1 2 → t.rd o = s.rd o

namespace State.AttemptKeeps

theorem refl (n : Nat) (s : State) : s.AttemptKeeps n s := ⟨rfl, rfl, fun _ _ _ _ => rfl⟩

theorem trans {n : Nat} {s t u : State} (h : s.AttemptKeeps n t) (h' : t.AttemptKeeps n u) : s.AttemptKeeps n u :=
  ⟨h'.sending.trans h.sending, h'.lastErr.trans h.lastErr, fun o ho h1 h2 => (h'.rd o ho h1 h2).trans (h.rd o ho h1 h2)⟩

/-- Buses left as they are. -/
theorem of_bus {n : Nat} {s t : State} (h : t.bus = s.bus) (hrd : ∀ o < 0xA00000, o ≠ busObj n 1 1 → o ≠ busObj n 1 2 → t.rd o = s.rd o) :
    s.AttemptKeeps n t := ⟨by rw [State.ctl_of_bus h], by rw [State.ctl_of_bus h], hrd⟩

theorem setCtl {n : Nat} (s : State) {c : BusCtl} (hs : c.sending = (s.ctl n).sending) (he : c.lastErr = (s.ctl n).lastErr) :
    s.AttemptKeeps n (s.setCtl n c) := ⟨by simp [hs], by simp [he], fun _ _ _ _ => rfl⟩

theorem setMsg (n : Nat) (s : State) (m : Nat) (x : MsgObj) : s.AttemptKeeps n (s.setMsg n m x) := setCtl s rfl rfl

theorem raise (n : Nat) (s : State) (i : Island) (cls reason tag : Nat) : s.AttemptKeeps n (s.raise i cls reason tag) :=
  of_bus (s.raiseAt_bus _ _ _ _ _) (fun _ ho _ _ => s.rd_raise _ _ _ _ (by omega) (by omega))

theorem busJournal (n : Nat) (s : State) (m attempts reason : Nat) : s.AttemptKeeps n (s.busJournal n m attempts reason) := raise n s _ _ _ _

theorem failRequest (n : Nat) (s : State) (m attempts outcome reason : Nat) : s.AttemptKeeps n (s.failRequest n m attempts outcome reason) := by
  have hended : s.AttemptKeeps n (s.endRequest n m outcome) := (setMsg n s m ((s.msg n m).endRequest outcome)).trans
    (setCtl (c := { (s.setMsg n m ((s.msg n m).endRequest outcome)).ctl n with dropped := false }) _ rfl rfl)
  exact hended.trans (busJournal n _ m attempts reason)

theorem judgePolicy (n : Nat) (s : State) (m : Nat) (r : TxReq) (failed : Bool) : s.AttemptKeeps n (s.judgePolicy n m r failed) := by
  unfold State.judgePolicy
  dsimp only
  generalize (if failed = true then { r with fails := r.fails + 1 } else r) = judged
  split
  · exact failRequest n s _ _ _ _
  split
  · exact failRequest n s _ _ _ _
  split
  · exact failRequest n s _ _ _ _
  split
  · exact failRequest n s _ _ _ _
  · exact setMsg n s _ _

theorem goBusOff (n : Nat) (s : State) (m attempts : Nat) : s.AttemptKeeps n (s.goBusOff n m attempts) :=
  (((setCtl (c := { s.ctl n with conf := 2, tec := 256 }) s rfl rfl).trans (of_bus (State.inc_bus _ _) (fun _ _ _ h2 => State.rd_inc_ne _ h2))).trans
    (busJournal n _ m attempts 0x48)).trans (of_bus (State.busNotice_bus _ _ _ _) (fun _ _ _ _ => State.busNotice_rd _ _ _ _ _))

theorem countLonely (n : Nat) (s : State) (m attempts : Nat) : s.AttemptKeeps n (s.countLonely n m attempts).1 := by
  have hcount (v : Nat) : s.AttemptKeeps n (s.wr (busObj n 1 1) v) := of_bus rfl (fun _ _ h1 _ => s.rd_wr_ne v h1)
  have hlonely := (hcount 0).trans (setCtl (c := { (s.wr (busObj n 1 1) 0).ctl n with lonely := true }) _ rfl rfl)
  unfold State.countLonely
  split
  · dsimp only
    split
    · dsimp only
      split
      · exact hlonely.trans (failRequest n _ _ _ _ _)
      · exact hlonely.trans (failRequest n _ _ _ _ _)
    · exact hcount _
  · exact refl n s

theorem queueRequest (n : Nat) (s : State) (m : Nat) (r : TxReq) : s.AttemptKeeps n (s.queueRequest n m r) := by
  unfold State.queueRequest
  dsimp only
  split
  · split
    · exact (setMsg n s m _).trans (busJournal n _ _ _ _)
    · exact setMsg n s m _
  · split
    · exact (setMsg n s m _).trans (busJournal n _ _ _ _)
    · exact setMsg n s m _

/-- The service channel sends on from MB0 (R331). -/
theorem feedService (s : State) : s.AttemptKeeps 0 s.feedService := by
  have hlost (l : List (Nat × CanFrame)) (t : State) : t.AttemptKeeps 0 (l.foldl (fun u x => u.raise .mgt 0x06 0x62 x.1) t) := by
    induction l generalizing t with
    | nil => exact refl 0 t
    | cons x l ih => exact (raise 0 t _ _ _ _).trans (ih _)
  have hwaits (l : List (Nat × CanFrame)) : s.AttemptKeeps 0 { s with od := { s.od with mbOut := l } } := of_bus rfl (fun _ _ _ _ => rfl)
  unfold State.feedService
  split
  · exact refl 0 s
  next _ f rest _ =>
    split
    · exact (hwaits []).trans (hlost _ _)
    split
    · exact refl 0 s
    · exact (hwaits rest).trans (queueRequest 0 _ 127 ⟨f, 0, 0, 0, 0⟩)

/-- So does the end of an attempt on any controller. -/
theorem feeds {n : Nat} (s : State) : s.AttemptKeeps n (if n = 0 then s.feedService else s) := by
  split
  next h => exact h ▸ feedService s
  next h => exact refl n s

end State.AttemptKeeps

/-- After an error the controller sends nothing and holds its code (R275). -/
theorem State.attemptFailed_keeps (s : State) (n m : Nat) (r : TxReq) (code : Fin 8) : ∃ tec : Nat,
    (s.setCtl n ({ s.ctl n with sending := none, lastErr := code.val, tec := tec }).confine).AttemptKeeps n (s.attemptFailed n m r code) := by
  refine ⟨min (if code.val = 3 ∧ (s.ctl n).conf = 1 then (s.ctl n).tec else (s.ctl n).tec + 8) 256, ?_⟩
  unfold State.attemptFailed
  simp only [Bool.and_eq_true, decide_eq_true_eq]
  generalize (if code.val = 3 ∧ (s.ctl n).conf = 1 then (s.ctl n).tec else (s.ctl n).tec + 8) = tec
  generalize s.setCtl n ({ s.ctl n with sending := none, lastErr := code.val, tec := min tec 256 }).confine = s1
  have hlonely : s1.AttemptKeeps n (if code.val = 3 then s1.countLonely n m r.attempts else (s1, false)).1 := by
    split
    · exact .countLonely n s1 m r.attempts
    · exact .refl n s1
  generalize (if code.val = 3 then s1.countLonely n m r.attempts else (s1, false)) = counted at hlonely ⊢
  obtain ⟨s2, ended⟩ := counted
  have hoff : s1.AttemptKeeps n (if 255 < tec then s2.goBusOff n m r.attempts else s2) := by
    split
    · exact hlonely.trans (.goBusOff n s2 _ _)
    · exact hlonely
  dsimp only
  split
  · exact hoff
  · exact hoff.trans (.judgePolicy n _ _ _ _)

theorem State.attemptFailed_mutes (s : State) {n : Nat} (hn : n < 8) (m : Nat) (r : TxReq) (code : Fin 8) :
    (s.attemptFailed n m r code).mutes n = s.mutes n := by
  obtain ⟨tec, hkeeps⟩ := s.attemptFailed_keeps n m r code
  rw [State.mutes_of_rd hn (fun o ho hsub => hkeeps.rd o (by omega) (hsub 1) (hsub 2)), State.setCtl_mutes]

/-- An attempt is over, and no controller begins to listen. -/
theorem exec_transmissionAttemptEnd {s t : State} {n : Fin 8} {e : AttemptEnd} (ht : s.attemptResult n.val e = t) (hm : t.mutes n.val = false) :
    exec (.transmissionAttemptEnd n e) s = .next (if n.val = 0 then t.feedService else t) := by
  have hend : s.attemptEnd n.val e = t := by
    rw [State.attemptEnd, ht]
    exact if_neg (by simp [hm])
  have hover : s.attemptOver n.val e = if n.val = 0 then t.feedService else t := by rw [State.attemptOver, hend]
  exact congrArg Host.Outcome.next hover

/-- A lost arbitration is counted, and its controller sends nothing (R274). -/
def State.arbitrationLost (s : State) (n : Nat) : State := (s.setCtl n { s.ctl n with sending := none }).inc (busObj n 1 7)

theorem State.arbitrationLost_ctl (s : State) (n : Nat) : (s.arbitrationLost n).ctl n = { s.ctl n with sending := none } := by
  rw [State.arbitrationLost, State.ctl_of_bus (State.inc_bus _ _), State.ctl_setCtl_self]

theorem State.arbitrationLost_msg (s : State) (n m : Nat) : (s.arbitrationLost n).msg n m = s.msg n m := by
  rw [State.arbitrationLost, State.msg_of_bus (State.inc_bus _ _), State.msg_setCtl_self]
  rfl

theorem State.arbitrationLost_mutes (s : State) {n : Nat} (hn : n < 8) : (s.arbitrationLost n).mutes n = s.mutes n := by
  rw [State.arbitrationLost, State.inc_mutes _ hn, State.setCtl_mutes]

theorem State.arbitrationLost_abandons {s : State} {n : Nat} (hn : n < 8) (hd : (s.ctl n).dropped = false) (hm : s.mutes n = false) :
    (s.arbitrationLost n).abandons n = false := by
  rw [State.abandons, s.arbitrationLost_ctl, s.arbitrationLost_mutes hn, hd, hm, Bool.or_self]

theorem State.failRequest_outcome (s : State) (n m attempts outcome reason : Nat) :
    ((s.failRequest n m attempts outcome reason).msg n m).outcome = outcome := by
  rw [State.failRequest_msg]
  rfl

theorem State.failRequest_req (s : State) (n m attempts outcome reason : Nat) :
    ((s.failRequest n m attempts outcome reason).msg n m).req = (s.msg n m).next := by
  rw [State.failRequest_msg]
  rfl

/-- After a lost arbitration the policy judges the request (R275). -/
theorem exec_attemptLost {s t : State} {n : Fin 8} {m : Nat} {r : TxReq} (hs : (s.ctl n.val).sending = some m) (hr : (s.msg n.val m).req = some r)
    (ht : (s.arbitrationLost n.val).judgePolicy n.val m r false = t) (hm : t.mutes n.val = false) :
    exec (.transmissionAttemptEnd n .lost) s = .next (if n.val = 0 then t.feedService else t) :=
  exec_transmissionAttemptEnd ((State.attemptResult_lost hs hr).trans ht) hm

/-- Settles O31: requests and aborts by what stands in the object, arbitration by the winner that leads, and the end of an attempt by its policy. -/
theorem busTransmissionTakesEffect : Obligations.BusTransmissionTakesEffect := by
  unfold Obligations.BusTransmissionTakesEffect
  intro s n m hm128
  refine ⟨?request, ?abort, ?arbitration, ?sent, ?undriven, ?lost, ?error⟩
  case request =>
    intro hc
    rw [exec_requestTransmission hc]
    refine ⟨fun hx => congrArg Host.Outcome.next (State.request_mismatched hx),
      fun hx hm => congrArg Host.Outcome.next (State.request_muted hx hm), ?_,
      fun hx hm h1 h4 => congrArg Host.Outcome.next (State.request_unsent hx hm h1 h4)⟩
    rintro r hx hm h14 hs rfl
    rw [State.request_queued hx hm h14]
    exact ⟨fun hfree => congrArg Host.Outcome.next (State.queueRequest_first _ hs hfree),
      fun old hold => congrArg Host.Outcome.next (State.queueRequest_replaces _ hs hold)⟩
  case abort =>
    intro hc hnext
    rw [exec_abortTransmission hc]
    exact ⟨fun r hs hr => congrArg Host.Outcome.next (State.abortObj_ends hnext hs hr),
      fun hs => congrArg Host.Outcome.next (State.abortObj_drops hnext hs)⟩
  case arbitration =>
    intro hsends hidle
    refine ⟨fun r hw hr => ?_, fun hnone => congrArg Host.Outcome.next (State.arbitrate_none hidle (BusCtl.winner_none hnone))⟩
    have hlead := (s.ctl n.val).winner_leads
    rw [hw] at hlead
    obtain ⟨p, hp, -, hbest⟩ := hlead
    obtain rfl := Option.some.inj (hp.symm.trans hr)
    have henter := State.arbitrate_enters hsends hidle hw hr
    have hmsg := fun k => s.entered_msg n.val m k p
    have hobj := (hmsg m).trans (if_pos rfl)
    refine ⟨hbest, _, congrArg Host.Outcome.next henter, ?_⟩
    split
    · exact ⟨s.entered_sending _ _ _, congrArg MsgObj.req hobj, congrArg MsgObj.attempts hobj, rfl, fun k hk => (hmsg k).trans (if_neg hk)⟩
    · exact ⟨s.entered_sending _ _ _, congrArg MsgObj.req hobj, congrArg MsgObj.attempts hobj, rfl, fun k hk => (hmsg k).trans (if_neg hk)⟩
  case sent =>
    rintro r ago t hs hr h4 hm hd rfl
    refine exec_transmissionAttemptEnd ((State.attemptResult_sent hs hr hd ago).trans (State.attemptSent_eq h4 m ago r)) ?_
    rw [State.inc_mutes _ n.isLt, State.setMsg_mutes, State.wr_mutes _ n.isLt, State.setCtl_mutes, hm]
  case undriven =>
    intro r ago hs hr h1 hd hm
    obtain ⟨code, hcode, hresult⟩ := State.attemptResult_undriven hs hr h1 hd ago
    obtain ⟨tec, hkeeps⟩ := s.tookFree.attemptFailed_keeps n.val m r code
    have hall := hkeeps.trans (.feeds _)
    have hmute : (s.tookFree.attemptFailed n.val m r code).mutes n.val = false := by
      rw [State.attemptFailed_mutes _ n.isLt, State.tookFree_mutes, hm]
    refine ⟨_, exec_transmissionAttemptEnd hresult hmute, ?_, ?_, ?_⟩
    · rw [hall.sending, State.ctl_setCtl_self, BusCtl.confine_sending]
    · rw [hall.lastErr, State.ctl_setCtl_self, BusCtl.confine_lastErr]
      exact hcode
    · exact hall.rd _ (by simp only [busObj]; omega) (by simp [busObj_inj]) (by simp [busObj_inj])
  case lost =>
    rintro r t hs hr hdrop hm ht
    change t = s.arbitrationLost n.val at ht
    subst ht
    have habandons := State.arbitrationLost_abandons n.isLt hdrop hm
    have hmute := (s.arbitrationLost_mutes n.isLt).trans hm
    have hfails (outcome reason : Nat) : ((s.arbitrationLost n.val).failRequest n.val m r.attempts outcome reason).mutes n.val = false :=
      (State.failRequest_mutes _ n.isLt _ _ _ _).trans hmute
    have hwaits : ((s.arbitrationLost n.val).msg n.val m).next = (s.msg n.val m).next := congrArg MsgObj.next (s.arbitrationLost_msg n.val m)
    refine ⟨fun hp hnext => ?_, fun hp hnext => ?_, fun hnext => ?_⟩
    · have hjudged := State.judgePolicy_oneShot habandons (hwaits.trans hnext) hp false
      exact ⟨(s.arbitrationLost n.val).failRequest n.val m r.attempts 4 0x42, rfl, State.failRequest_outcome _ _ _ _ _ _,
        exec_attemptLost hs hr hjudged (hfails 4 0x42)⟩
    · have hjudged := State.judgePolicy_lost habandons (hwaits.trans hnext) hp
      refine ⟨_, exec_attemptLost hs hr hjudged ((State.setMsg_mutes _ _ _ _ _).trans hmute), ?_, ?_⟩
      · rw [State.msg_setMsg_self]
      · rw [State.ctl_setMsg_self, BusCtl.setObj_sending, s.arbitrationLost_ctl]
    · have hjudged := State.judgePolicy_replaced habandons ((congrArg Option.isSome hwaits).trans hnext) r false
      exact ⟨(s.arbitrationLost n.val).failRequest n.val m r.attempts 5 0x43, rfl, State.failRequest_outcome _ _ _ _ _ _,
        (State.failRequest_req _ _ _ _ _ _).trans hwaits, exec_attemptLost hs hr hjudged (hfails 5 0x43)⟩
  case error =>
    rintro r code t hs hr hdrop hm hnext h3 htec hp rfl
    have hjudged := State.attemptFailed_judged h3 htec m r
    have hmsg : (s.setCtl n.val ({ s.ctl n.val with sending := none, lastErr := code.val, tec := (s.ctl n.val).tec + 8 }).confine).msg n.val m =
        s.msg n.val m := by
      rw [State.msg_setCtl_self, BusCtl.confine_obj]
      rfl
    rw [State.judgePolicy_unlimited (by simp [State.abandons, hdrop, hm]) (hmsg ▸ hnext) hp, hmsg] at hjudged
    exact exec_transmissionAttemptEnd ((State.attemptResult_error hs hr code).trans hjudged) (by rw [State.setMsg_mutes, State.setCtl_mutes, hm])

end Sys2Proof.Machine
end

section
/-!
PROOFS. Reception on a message bus (R263, R268 to R276): acceptance, storing, refusal, errors and the read-clear status word, and the statement about them.
-/
namespace Sys2Proof.Machine

/-- The high-priority filter accepts before the others, and of those the lowest (R270). -/
theorem BusCtl.accepts_some {c : BusCtl} {f : CanFrame} {m : Nat} (h : c.accepts f = some m) : (c.obj m).matches_ f = true ∧
    (m = 128 ∨ (m < 128 ∧ (c.obj 128).matches_ f = false ∧ ∀ k < m, (c.obj k).matches_ f = false)) := by
  rw [BusCtl.accepts, highPriority] at h
  split at h
  next hhigh =>
    obtain rfl := Option.some.inj h
    exact ⟨hhigh, .inl rfl⟩
  next hhigh =>
    obtain ⟨hmatch, hrange, hbelow⟩ := List.find?_range_eq_some.mp h
    exact ⟨hmatch, .inr ⟨List.mem_range.mp hrange, by simpa using hhigh, by simpa using hbelow⟩⟩

/-- Bytes written one after the other at rising keys are bytes written to a memory. -/
theorem foldl_zipIdx_memWrite (l : List Byte) (m : Memory) (o : Nat) : (l.zipIdx o).foldl (fun d e => mset 0 d e.2 e.1) m = memWrite m o l := by
  induction l generalizing m o with
  | nil => rfl
  | cons b l ih => exact ih _ _

/-- The object after a frame is stored in it (R271), its SOF stamped `ts`, its storage at `at2` half nanoseconds. -/
def MsgObj.taken (x : MsgObj) (f : CanFrame) (ts at2 : Nat) : MsgObj := { x with
  isNew := true
  overrun := x.overrun || x.isNew
  ts := ts
  data := memWrite [] 0 f.data
  count := x.count + 1
  stored := (⟨f.data, (if f.ide then 2 ^ 29 else 0) + f.id,
    b2n f.fdf * 2 ^ 15 + b2n f.brs * 2 ^ 14 + b2n f.esi * 2 ^ 13 + b2n f.rtr * 2 ^ 12 + f.data.length, ts, at2, x.count + 1⟩ :: x.stored).take 2 }

/-- Storing a frame writes one object; counts, the overrun record and the notice leave the buses as they are. -/
theorem State.storeIn_bus (s : State) (n m : Nat) (f : CanFrame) (ago off : Nat) : (s.storeIn n m f ago off).bus =
    (s.setMsg n m ((s.msg n m).taken f (s.busStamp ago) (64 * s.time.beats + 2 * off))).bus := by
  have hrecord (t : State) : (if (s.msg n m).isNew then
      (t.inc (busObj n 1 6)).raiseAt (s.time.now + off * 65536) .mbus 0x04 0x47 (busTag n m 0) else t).bus = t.bus := by
    split
    · rw [State.raiseAt_bus, State.inc_bus]
    · rfl
  have hnotice (t : State) : (if m = highPriority then t.busNotice n 0 16 else t).bus = t.bus := by
    split
    · exact t.busNotice_bus _ _ _
    · rfl
  unfold State.storeIn MsgObj.taken
  dsimp only
  rw [foldl_zipIdx_memWrite, hnotice, hrecord, State.inc_bus]

/-- A valid frame received writes its controller (R276): no longer lonely, and with another receive error count. -/
theorem State.validReceived_bus (s : State) (n : Nat) :
    ∃ rxe : Nat, (s.validReceived n).bus = (s.setCtl n ({ s.ctl n with lonely := false, rxe := rxe }).confine).bus := by
  unfold State.validReceived
  dsimp only
  split
  · exact ⟨_, rfl⟩
  · exact ⟨_, rfl⟩

theorem State.validReceived_time (s : State) (n : Nat) : (s.validReceived n).time = s.time := by
  unfold State.validReceived
  dsimp only
  split <;> rfl

theorem State.validReceived_ctl_ne (s : State) {n k : Nat} (h : k ≠ n) : (s.validReceived n).ctl k = s.ctl k := by
  obtain ⟨rxe, hbus⟩ := s.validReceived_bus n
  rw [State.ctl_of_bus hbus, State.ctl_setCtl, if_neg h]

theorem State.validReceived_lonely (s : State) (n : Nat) : ((s.validReceived n).ctl n).lonely = false := by
  obtain ⟨rxe, hbus⟩ := s.validReceived_bus n
  rw [State.ctl_of_bus hbus, State.ctl_setCtl_self, BusCtl.confine_lonely]

theorem State.validReceived_msg (s : State) (n m : Nat) : (s.validReceived n).msg n m = s.msg n m := by
  obtain ⟨rxe, hbus⟩ := s.validReceived_bus n
  rw [State.msg_of_bus hbus, State.msg_setCtl_self, BusCtl.confine_obj]
  rfl

/-- A valid frame received restarts the lonely count, and writes no other register. -/
theorem State.rd_validReceived (s : State) {n o : Nat} (h : o ≠ busObj n 1 1) : (s.validReceived n).rd o = s.rd o := by
  unfold State.validReceived
  dsimp only
  split
  · exact State.rd_wr_ne _ _ h
  · exact State.rd_wr_ne _ _ h

theorem State.busStamp_congr {s t : State} (h : t.time = s.time) (ago : Nat) : t.busStamp ago = s.busStamp ago := by simp only [State.busStamp, h]

/-- A frame that an object accepts is stored in it (R270, R271). -/
theorem State.frameStored_takes {s : State} {n m : Nat} {f : CanFrame} (hr : s.canReceive n f = true) (ha : (s.ctl n).accepts f = some m)
    (ago off : Nat) : (s.frameStored n f ago off).bus =
      ((s.validReceived n).setMsg n m ((s.msg n m).taken f (s.busStamp ago) (64 * s.time.beats + 2 * off))).bus := by
  rw [State.frameStored, if_pos hr]
  simp only [ha]
  rw [State.storeIn_bus, s.validReceived_msg, State.busStamp_congr (s.validReceived_time n), s.validReceived_time]

/-- A frame that the service channel does not take is the controller's (R331). -/
theorem exec_frameStored {s : State} {n : Fin 8} {f : CanFrame} (h : n.val = 0 → s.serviceRequest f = false) (ago off : Nat) :
    exec (.frameStored n f ago off) s = .next (s.frameStored n.val f ago off) := congrArg Host.Outcome.next (if_neg (by simpa using h))

theorem exec_frameNotAccepted {s : State} {n : Fin 8} {f : CanFrame} (h : n.val = 0 → s.serviceRequest f = false) :
    exec (.frameNotAccepted n f) s = .next (s.frameRefused n.val f) := congrArg Host.Outcome.next (if_neg (by simpa using h))

/-- A frame that matches nothing is a valid frame received, and counted (R270). -/
theorem State.frameRefused_counts {s : State} {n : Nat} {f : CanFrame} (hr : s.canReceive n f = true) (ha : (s.ctl n).accepts f = none) :
    s.frameRefused n f = (s.validReceived n).inc (busObj n 1 5) := if_pos (by simp [hr, ha])

/-- Settles O32: a frame is accepted, refused or left alone by `State.canReceive` and `BusCtl.accepts`, and storing it writes its object. -/
theorem busReceptionTakesEffect : Obligations.BusReceptionTakesEffect := by
  unfold Obligations.BusReceptionTakesEffect
  intro s n
  refine ⟨?stored, fun f m ha => BusCtl.accepts_some ha, ?refused, ?error, ?cleared, ?service, ?deaf⟩
  case stored =>
    intro f ago off m hr hs ha
    have hbus := State.frameStored_takes hr ha ago off
    have hmsg : ∀ k, (s.frameStored n.val f ago off).msg n.val k =
        if k = m then (s.msg n.val m).taken f (s.busStamp ago) (64 * s.time.beats + 2 * off) else s.msg n.val k := by
      intro k
      rw [State.msg_of_bus hbus, State.msg_setMsg, s.validReceived_msg]
    have hobj := (hmsg m).trans (if_pos rfl)
    refine ⟨_, exec_frameStored hs ago off, ?_⟩
    rw [hobj]
    refine ⟨rfl, rfl, rfl, rfl, fun k hk => ?_, rfl, fun k hk => (hmsg k).trans (if_neg hk), fun j hj => ?_⟩
    · exact (mget_memWrite [] 0 k f.data).trans (if_pos ⟨Nat.zero_le k, by omega⟩)
    · rw [State.ctl_of_bus hbus, State.setMsg, State.ctl_setCtl, if_neg hj, s.validReceived_ctl_ne hj]
  case refused =>
    intro f hr hs ha
    refine ⟨_, exec_frameNotAccepted hs, ?_⟩
    have hcount : (s.validReceived n.val).rd (busObj n.val 1 5) = s.rd (busObj n.val 1 5) := s.rd_validReceived (by simp [busObj_inj])
    rw [State.frameRefused_counts hr ha]
    refine ⟨fun k => ?_, ?_, fun htop => ?_⟩
    · rw [State.msg_of_bus (State.inc_bus _ _), s.validReceived_msg]
    · rw [State.ctl_of_bus (State.inc_bus _ _), s.validReceived_lonely]
    · rw [← hcount] at htop ⊢
      exact State.rd_addTo_self _ htop
  case error =>
    intro code heavy hl hh hm hc h7
    refine congrArg Host.Outcome.next ?_
    simp [State.receiveError, hl, hh, hm, hc, h7]
  case cleared =>
    intro m hm hr
    exact congrArg Host.Outcome.next (if_pos (by simp [hr, highPriority, hm]))
  case service => exact fun f ago off hs => congrArg Host.Outcome.next (if_pos (by simp [hs]))
  case deaf =>
    intro f ago off hr
    have hstored : s.frameStored n.val f ago off = s := if_neg (by simp [hr])
    have hrefused : s.frameRefused n.val f = s := if_neg (by simp [hr])
    refine ⟨congrArg Host.Outcome.next ?_, congrArg Host.Outcome.next ?_⟩
    · rw [hstored, ite_self]
    · rw [hrefused, ite_self]

end Sys2Proof.Machine
end

section
/-!
PROOFS. What the switch does not write (R161): a part of the state that keeps its value under the switch's own writes, its counts and its records keeps it
when a frame enters.
-/
namespace Sys2Proof.Machine

/-- A part of the state that the switch does not write: neither its own state, nor the fewest free cells (R186), nor the counts of its queues and policers
(subindices 0x08 to 0x0A), nor what a record changes. -/
structure SwitchBlind {β : Type} (g : State → β) : Prop where
  switch : ∀ (s : State) (sw : SwitchSt), g { s with switch := sw } = g s
  cells  : ∀ (s : State) (v : Nat), g (s.wr 0x300001 v) = g s
  count  : ∀ (s : State) (o : Nat), o % 256 = 8 ∨ o % 256 = 9 ∨ o % 256 = 10 → g (s.inc o) = g s
  raise  : ∀ (s : State) (i : Island) (cls reason tag : Nat), g (s.raise i cls reason tag) = g s

theorem queueObj_sub {sub : Nat} (q : Nat) (h : sub < 256) : queueObj q sub % 256 = sub := by simp only [queueObj]; omega

namespace SwitchBlind

section
variable {β : Type} {g : State → β} (hg : SwitchBlind g)
include hg

theorem noteCells (s : State) : g s.noteCells = g s := by
  unfold State.noteCells
  split
  · exact hg.cells s _
  · rfl

theorem admitCopy (s : State) (ing egress id : Nat) (col : Colour) (f : Frame) : g (s.admitCopy ing egress id col f) = g s := by
  have hmark : g (s.markOn (queueOf egress f.cls) f).1 = g s := by
    unfold State.markOn
    split
    · exact hg.count s _ (.inl (queueObj_sub _ (by decide)))
    · rfl
  exact (hg.switch (s.markOn (queueOf egress f.cls) f).1 _).trans hmark

/-- A policer takes tokens and counts (R183). -/
theorem police (s : State) (ing : Nat) (f : Frame) : g (s.police ing f).1 = g s := by
  unfold State.police
  dsimp only
  split
  · rfl
  split
  · exact hg.count s _ (by omega)
  split
  · exact (hg.count _ _ (by omega)).trans (hg.switch s _)
  · exact (hg.count _ _ (by omega)).trans (hg.switch s _)

section
variable {report : State → Frame → State} (hreport : ∀ (s : State) (f : Frame), g (report s f) = g s)
include hreport

theorem discardWith (s : State) (f : Frame) (egress outcome reason : Nat) : g (s.discardWith report f egress outcome reason) = g s := by
  have hjournal : g (if isJournalFwd f then s else s.journalDrop f egress reason) = g s := by
    split
    · rfl
    · exact hg.raise s _ _ _ _
  unfold State.discardWith
  dsimp only
  split
  · exact hjournal
  · exact (hreport _ _).trans hjournal

/-- Each egress of a frame takes its copy, or discards it and may count that. -/
theorem admitAll (ing id : Nat) (col : Colour) (f : Frame) (ps : List Nat) (s : State) : g (s.admitAll report ing id col f ps) = g s := by
  have hdrop := fun (t : State) (p outcome reason : Nat) => hg.discardWith hreport t f p outcome reason
  have hcounted (t : State) (p outcome reason : Nat) :
      g ((t.discardWith report f p outcome reason).inc (queueObj (queueOf p f.cls) 9)) = g t :=
    (hg.count _ _ (.inr (.inl (queueObj_sub _ (by decide))))).trans (hdrop t p outcome reason)
  refine State.foldl_keeps g (fun t p => ?_) ps s
  split
  · exact hdrop t p _ _
  split
  · exact hdrop t p _ _
  split
  · exact hcounted t p _ _
  split
  · exact hg.admitCopy t ing p id col f
  · exact hcounted t p _ _

theorem storeFrame (s : State) (ing : Nat) (col : Colour) (f : Frame) (ps : List Nat) : g (s.storeFrame report ing col f ps) = g s := by
  have hadmit := (hg.admitAll hreport ing s.switch.nextId col f ps { s with switch := { s.switch with nextId := s.switch.nextId + 1 } }).trans
    (hg.switch s _)
  refine (hg.noteCells _).trans ?_
  dsimp only
  split
  · exact (hg.switch _ _).trans hadmit
  · exact hadmit

theorem takeFrame (s : State) (ing : Nat) (f : Frame) (ps : List Nat) : g (s.takeFrame report ing f ps) = g s := by
  unfold State.takeFrame
  refine Eq.trans ?_ (hg.police s ing f)
  dsimp only
  split
  · exact hg.discardWith hreport _ f _ _ _
  unfold State.storeJudged
  split
  · exact hg.storeFrame hreport _ ing _ _ ps
  · exact hg.raise _ _ _ _ _

theorem ingressWith (s : State) (ing : Nat) (f : Frame) : g (s.ingressWith report ing f) = g s := by
  have hdrop : g (s.journalDrop f 0 0x20) = g s := hg.raise s _ _ _ _
  unfold State.ingressWith
  split
  · exact hdrop
  split
  · exact hdrop
  split
  · exact hg.discardWith hreport s f _ _ _
  split
  · exact hdrop
  split
  · exact hg.discardWith hreport s f _ _ _
  · exact hg.takeFrame hreport s ing f _

end

theorem sendReport (s : State) (f : Frame) : g (s.sendReport f) = g s := by
  unfold State.sendReport
  split
  · rfl
  · exact hg.ingressWith (fun _ _ => rfl) s 4 f

/-- A frame that the hub sends, with the reports of what becomes of it. -/
theorem sendFrame (s : State) (port : Nat) (f : Frame) : g (s.sendFrame port f) = g s := by
  unfold State.sendFrame State.ingress
  split
  · rfl
  · exact hg.ingressWith hg.sendReport s port f

end

/-- A register below area A that is none of the switch's counts. -/
theorem rd {o : Nat} (h : o < 0xA00000) (hcells : o ≠ 0x300001) (hcount : o % 256 < 8) : SwitchBlind (State.rd · o) where
  switch _ _ := rfl
  cells s v := s.rd_wr_ne v hcells
  count s p hp := s.rd_inc_ne (by omega)
  raise s i cls reason tag := s.rd_raise i cls reason tag (by omega) (by omega)

end SwitchBlind

end Sys2Proof.Machine
end

section
/-!
PROOFS. The wake flag of a transceiver (R282): a wake that is registered (R400 to R404) sends sleep messages, logs vetoes and writes registers of area B, and
leaves the flag as it is.
-/
namespace Sys2Proof.Machine

/-- A transceiver that moves to another state keeps the flags. -/
theorem State.xcvrFlag_setXcvr (s : State) (x t v : Nat) : (s.setXcvr t v).rd (xcvrObj x 3) = s.rd (xcvrObj x 3) := by
  rw [State.rd_setXcvr _ _ _ (by simp only [xcvrObj]; omega), if_neg (by simp only [xcvrObj]; omega)]

/-- So does a hub that claims INH again (R402, R403). -/
theorem State.xcvrFlag_claimInh (s : State) (x : Nat) : s.claimInh.rd (xcvrObj x 3) = s.rd (xcvrObj x 3) := by
  have hone (u : State) (t : Nat) :
      (if u.rd (xcvrObj t 0) = 3 then (u.setWant t 2).setXcvr t 2 else u).rd (xcvrObj x 3) = u.rd (xcvrObj x 3) := by
    split
    · exact State.xcvrFlag_setXcvr _ x t 2
    · rfl
  exact (hone _ 1).trans (hone s 0)

section
variable {x : Nat} (hx : x < 2)
include hx

theorem xcvrFlag_blind : SwitchBlind (State.rd · (xcvrObj x 3)) :=
  .rd (by simp only [xcvrObj]; omega) (by simp only [xcvrObj]; omega) (by simp only [xcvrObj]; omega)

/-- A write outside the transceivers. -/
theorem State.xcvrFlag_wr (s : State) {o : Nat} (v : Nat) (h : 0xB00000 ≤ o) : (s.wr o v).rd (xcvrObj x 3) = s.rd (xcvrObj x 3) :=
  s.rd_wr_ne v (by simp only [xcvrObj]; omega)

theorem State.xcvrFlag_inc (s : State) {o : Nat} (h : 0xB00000 ≤ o) : (s.inc o).rd (xcvrObj x 3) = s.rd (xcvrObj x 3) :=
  s.rd_inc_ne (by simp only [xcvrObj]; omega)

theorem State.xcvrFlag_raise (s : State) (i : Island) (cls reason tag : Nat) : (s.raise i cls reason tag).rd (xcvrObj x 3) = s.rd (xcvrObj x 3) :=
  (xcvrFlag_blind hx).raise s i cls reason tag

theorem State.xcvrFlag_sendWakeAll (s : State) (source : Nat) : (s.sendWakeAll source).rd (xcvrObj x 3) = s.rd (xcvrObj x 3) :=
  (xcvrFlag_blind hx).sendFrame s 7 _

theorem State.xcvrFlag_flagNode (s : State) (n reason : Nat) : (s.flagNode n reason).rd (xcvrObj x 3) = s.rd (xcvrObj x 3) := by
  unfold State.flagNode
  dsimp only
  split
  · rfl
  · exact State.xcvrFlag_raise hx _ _ _ _ _

theorem State.xcvrFlag_logVeto (s : State) (num node reason consec : Nat) :
    (s.logVeto num node reason consec).rd (xcvrObj x 3) = s.rd (xcvrObj x 3) := by
  have hread : (if s.sleep.unread.testBit (s.rd 0xB03100 % 32) then s.inc 0xB03101 else s).rd (xcvrObj x 3) = s.rd (xcvrObj x 3) := by
    split
    · exact s.xcvrFlag_inc hx (by decide)
    · rfl
  unfold State.logVeto
  dsimp only
  generalize (if s.sleep.unread.testBit (s.rd 0xB03100 % 32) then s.inc 0xB03101 else s) = t at hread ⊢
  have hlogged (e : List Byte) (v : Nat) : ((t.wrB (0xB03000 + s.rd 0xB03100 % 32) e).wr 0xB03100 v).rd (xcvrObj x 3) = s.rd (xcvrObj x 3) :=
    (State.xcvrFlag_wr hx _ v (by decide)).trans hread
  split
  · exact (State.xcvrFlag_flagNode hx _ _ _).trans (hlogged _ _)
  · exact hlogged _ _

theorem State.xcvrFlag_cancelMine (s : State) (cause : Nat) : (s.cancelMine cause).rd (xcvrObj x 3) = s.rd (xcvrObj x 3) := by
  have hvetoes : s.logVetoes.rd (xcvrObj x 3) = s.rd (xcvrObj x 3) := by
    unfold State.logVetoes
    split
    · exact State.rd_foldl_keeps (fun t e => State.xcvrFlag_logVeto hx t _ _ _ _) _ _
    · rfl
  have hends (t : State) : (t.endProposal cause).rd (xcvrObj x 3) = t.rd (xcvrObj x 3) := by
    unfold State.endProposal
    split
    · split
      · rfl
      · exact (State.xcvrFlag_wr hx _ _ (by decide)).trans ((xcvrFlag_blind hx).sendFrame t 7 _)
    · rfl
  unfold State.cancelMine
  split
  · rfl
  · exact (hends _).trans hvetoes

theorem State.xcvrFlag_abortSleep (s : State) : s.abortSleep.rd (xcvrObj x 3) = s.rd (xcvrObj x 3) :=
  (State.xcvrFlag_raise hx _ _ _ _ _).trans ((State.xcvrFlag_inc hx _ (by decide)).trans (s.xcvrFlag_wr hx _ (by decide)))

theorem State.xcvrFlag_dozeWake (s : State) (code : Nat) (late : Bool) : (s.dozeWake code late).rd (xcvrObj x 3) = s.rd (xcvrObj x 3) := by
  have hfirst : (if s.doze.woken then s else
      ({ s with doze := { s.doze with woken := true } }.wr 0xB02000 code).wr 0xB02001 (s.modes.aonCount % 2 ^ 32)).rd (xcvrObj x 3) =
        s.rd (xcvrObj x 3) := by
    split
    · rfl
    · exact (State.xcvrFlag_wr hx _ _ (by decide)).trans (State.xcvrFlag_wr hx _ _ (by decide))
  unfold State.dozeWake
  split
  · dsimp only
    split
    · exact hfirst
    split
    · exact (State.xcvrFlag_inc hx _ (by decide)).trans hfirst
    · exact (State.xcvrFlag_claimInh _ x).trans hfirst
  · rfl

/-- A wake source that is registered, in Doze or awake. -/
theorem State.xcvrFlag_wakeSource (s : State) (code : Nat) (late : Bool) : (s.wakeSource code late).rd (xcvrObj x 3) = s.rd (xcvrObj x 3) := by
  unfold State.wakeSource
  split
  · exact s.xcvrFlag_dozeWake hx code late
  split
  · dsimp only
    split
    · exact (State.xcvrFlag_sendWakeAll hx _ _).trans (State.xcvrFlag_abortSleep hx (s.sawWake code))
    split
    · split
      · rfl
      · exact State.xcvrFlag_cancelMine hx (s.sawWake code) 2
    split
    · exact State.xcvrFlag_sendWakeAll hx _ _
    · rfl
  · rfl

/-- A bus wake of an enabled source in Standby or Sleep sets the flag (R282). -/
theorem State.busWake_sets {s : State} (hp : s.powered = true) (hsource : s.rd (xcvrObj x 2) = 1) (hstate : 2 ≤ s.rd (xcvrObj x 0)) (late : Bool) :
    (s.busWake x late).rd (xcvrObj x 3) = 1 := by
  have hflag : ∀ u : State, (u.wr (xcvrObj x 3) 1).rd (xcvrObj x 3) = 1 := fun u => u.rd_wr_self _ 1
  unfold State.busWake
  rw [if_pos (by simp [hx, hp, hsource, hstate])]
  dsimp only
  rw [State.xcvrFlag_wakeSource hx]
  split
  · exact (State.xcvrFlag_setXcvr _ x x 2).trans (hflag _)
  · exact hflag _

end

/-- A wake without an enabled source, or outside Standby and Sleep, is none (R282). -/
theorem State.busWake_none {s : State} {x : Nat} (h : s.rd (xcvrObj x 2) ≠ 1 ∨ s.rd (xcvrObj x 0) < 2) (late : Bool) : s.busWake x late = s := by
  refine if_neg ?_
  rcases h with hsource | hstate
  · simp [hsource]
  · simp [Nat.not_le.mpr hstate]

end Sys2Proof.Machine
end

section
/-!
PROOFS. Controller modes, bus-off recovery and transceivers (R263 to R286): requests abandoned one object after the other, the state in which a request
leaves a transceiver, and the statement about them.
-/
namespace Sys2Proof.Machine

@[simp] theorem State.msg_setConf (s : State) (n m conf : Nat) : (s.setCtl n { s.ctl n with conf := conf }).msg n m = s.msg n m :=
  s.msg_setCtl_self n m _

@[simp] theorem State.msg_setMode (s : State) (n m mode : Nat) : (s.setCtl n { s.ctl n with mode := mode }).msg n m = s.msg n m :=
  s.msg_setCtl_self n m _

/-- The requests of one object are abandoned (R273): none waits, none is pending but that of the frame in transmission, which goes on, and the other objects
of the controller stay. -/
structure State.ObjectAborted (n m : Nat) (s t : State) : Prop where
  sending : (t.ctl n).sending = (s.ctl n).sending
  others : ∀ k, k ≠ m → t.msg n k = s.msg n k
  next : (t.msg n m).next = none
  req : (s.ctl n).sending ≠ some m → (t.msg n m).req = none

/-- An abort where no request waits. -/
theorem State.abortObj_aborts_pending {s : State} {n m : Nat} (hnext : (s.msg n m).next = none) : s.ObjectAborted n m (s.abortObj n m) := by
  by_cases hs : (s.ctl n).sending = some m
  · rw [State.abortObj_drops hnext hs]
    exact ⟨by simp, fun k _ => s.msg_setCtl_self n k _, (congrArg MsgObj.next (s.msg_setCtl_self n m _)).trans hnext, fun h => absurd hs h⟩
  cases hreq : (s.msg n m).req with
  | none =>
    have hnothing : s.abortObj n m = s := by simp [State.abortObj, hnext, hs, hreq]
    rw [hnothing]
    exact ⟨rfl, fun _ _ => rfl, hnext, fun _ => hreq⟩
  | some r =>
    rw [State.abortObj_ends hnext hs hreq]
    refine ⟨by simp, fun k hk => ?_, by simp [hnext], fun _ => by simp⟩
    rw [State.busJournal_msg, State.msg_setMsg, if_neg hk]

/-- A request that waits ends first, with a record of its own. -/
theorem State.abortObj_waiting {s : State} {n m : Nat} {w : TxReq} (hnext : (s.msg n m).next = some w) : s.abortObj n m =
    ((s.setMsg n m { s.msg n m with next := none, outcome := 6 }).busJournal n m w.attempts 0x44).abortObj n m := by
  simp [State.abortObj, hnext]

/-- An abort abandons the requests of its object. -/
theorem State.abortObj_aborts (s : State) (n m : Nat) : s.ObjectAborted n m (s.abortObj n m) := by
  cases hnext : (s.msg n m).next with
  | none => exact State.abortObj_aborts_pending hnext
  | some w =>
    rw [State.abortObj_waiting hnext]
    have hsending : (((s.setMsg n m { s.msg n m with next := none, outcome := 6 }).busJournal n m w.attempts 0x44).ctl n).sending =
        (s.ctl n).sending := by simp
    have hothers (k : Nat) (hk : k ≠ m) : ((s.setMsg n m { s.msg n m with next := none, outcome := 6 }).busJournal n m w.attempts 0x44).msg n k =
        s.msg n k := by rw [State.busJournal_msg, State.msg_setMsg, if_neg hk]
    have hfirst : (((s.setMsg n m { s.msg n m with next := none, outcome := 6 }).busJournal n m w.attempts 0x44).msg n m).next = none := by simp
    generalize (s.setMsg n m { s.msg n m with next := none, outcome := 6 }).busJournal n m w.attempts 0x44 = t at hsending hothers hfirst ⊢
    have habort := State.abortObj_aborts_pending hfirst
    exact ⟨habort.sending.trans hsending, fun k hk => (habort.others k hk).trans (hothers k hk), habort.next, fun h => habort.req (hsending ▸ h)⟩

/-- The requests of one object, if it has any, are abandoned. -/
def State.abandonObj (s : State) (n m : Nat) : State := if (s.msg n m).pending then s.abortObj n m else s

theorem State.abandonAll_eq (s : State) (n : Nat) : s.abandonAll n = (List.range 128).foldl (fun t m => t.abandonObj n m) s := rfl

theorem State.abandonObj_aborts (s : State) (n m : Nat) : s.ObjectAborted n m (s.abandonObj n m) := by
  unfold State.abandonObj
  split
  next => exact s.abortObj_aborts n m
  next h =>
    rw [MsgObj.pending, Bool.not_eq_true, Bool.or_eq_false_iff, Option.isSome_eq_false_iff, Option.isSome_eq_false_iff,
      Option.isNone_iff_eq_none, Option.isNone_iff_eq_none] at h
    obtain ⟨hreq, hnext⟩ := h
    exact ⟨rfl, fun _ _ => rfl, hnext, fun _ => hreq⟩

/-- Objects abandoned one after the other: those of the list, and those that were so before. -/
theorem State.foldl_abandonObj {n m : Nat} (l : List Nat) (s : State) (h : m ∈ l ∨ s.ObjectAborted n m s) :
    let t := l.foldl (fun u k => u.abandonObj n k) s
    (t.ctl n).sending = (s.ctl n).sending ∧ (t.msg n m).next = none ∧ ((s.ctl n).sending ≠ some m → (t.msg n m).req = none) := by
  induction l generalizing s with
  | nil =>
    have hs := h.resolve_left List.not_mem_nil
    exact ⟨rfl, hs.next, hs.req⟩
  | cons k l ih =>
    have hk := s.abandonObj_aborts n k
    have hlater : m ∈ l ∨ (s.abandonObj n k).ObjectAborted n m (s.abandonObj n k) := by
      by_cases hm : m = k
      · subst hm
        exact .inr ⟨rfl, fun _ _ => rfl, hk.next, fun hs => hk.req (hk.sending ▸ hs)⟩
      rcases h with hmem | hs
      · exact .inl ((List.mem_cons.mp hmem).resolve_left hm)
      · have hsame := hk.others m hm
        exact .inr ⟨rfl, fun _ _ => rfl, hsame ▸ hs.next, fun hne => hsame ▸ hs.req (hk.sending ▸ hne)⟩
    obtain ⟨hsending, hnext, hreq⟩ := ih _ hlater
    exact ⟨hsending.trans hk.sending, hnext, fun hne => hreq (hk.sending.symm ▸ hne)⟩

/-- After every request is abandoned, none waits, and none is pending but that of the frame in transmission (R265, R277). -/
theorem State.abandonAll_takes (s : State) (n : Nat) {m : Nat} (hm : m < 128) :
    ((s.abandonAll n).msg n m).next = none ∧ ((s.ctl n).sending ≠ some m → ((s.abandonAll n).msg n m).req = none) := by
  have hall := State.foldl_abandonObj (n := n) (List.range 128) s (.inl (List.mem_range.mpr hm))
  rw [← State.abandonAll_eq] at hall
  exact hall.2

/-- A mode other than that in effect is taken between frames (R264). -/
theorem State.modeChange_takes {s : State} {n : Nat} (hn : n < 8) (ht : s.ticking = true) (hs : (s.ctl n).sending = none) (hl : s.listening = false)
    (hm : (s.ctl n).mode ≠ s.wantMode n) : s.modeChange n = s.setCtl n (if s.wantMode n = 0
      then ({ s.ctl n with mode := 0, tec := 0, rxe := 0 }).confine else { s.ctl n with mode := s.wantMode n }) := by
  simp [State.modeChange, hn, ht, hs, hl, hm]

/-- A controller that begins to listen abandons its requests (R265). -/
theorem State.modeChange_listens {s : State} {n : Nat} (hn : n < 8) (ht : s.ticking = true) (hs : (s.ctl n).sending = none)
    (hl : s.listening = true) (hw : s.wantMode n = 2) (hm : (s.ctl n).mode ≠ 2) :
    s.modeChange n = (s.abandonAll n).setCtl n { (s.abandonAll n).ctl n with mode := 2 } := by
  simp [State.modeChange, hn, ht, hs, hl, hw, hm]

/-- In the mode that it is to run in, a controller stays as it is. -/
theorem State.modeChange_none {s : State} {n : Nat} (hm : (s.ctl n).mode = s.wantMode n) : s.modeChange n = s := by
  simp [State.modeChange, hm]

/-- The registers that a clearing of a controller's counts writes (R286). -/
def clearedObjs (n : Nat) : List Nat := [1, 2, 3, 4, 5, 6, 7].map (busObj n 1)

/-- The counts restart at zero, and no other register is written. -/
theorem State.rd_clearBus (s : State) (n o : Nat) : (s.clearBus n).rd o = if o ∈ clearedObjs n then 0 else s.rd o := by
  have hfold (l : List Nat) (t : State) : (l.foldl (fun u k => u.wr (busObj n 1 k) 0) t).rd o = if o ∈ l.map (busObj n 1) then 0 else t.rd o := by
    induction l generalizing t with
    | nil => simp
    | cons k l ih =>
      rw [List.foldl_cons, ih, State.rd_wr]
      by_cases hk : o = busObj n 1 k <;> simp [hk]
  exact hfold _ s

theorem State.clearBus_bus (s : State) (n : Nat) : (s.clearBus n).bus = s.bus :=
  State.foldl_keeps State.bus (f := fun t k => t.wr (busObj n 1 k) 0) (fun _ _ => rfl) _ s

theorem State.xcvr_setWant_self (s : State) (x v : Nat) : (s.setWant x v).xcvr x = { s.xcvr x with want := v } := by
  simp [State.setWant, State.xcvr]

/-- The state that a write to 7.1t0.00 asks for: Standby for Sleep where the transceiver was woken in the AON tick of the write (R282). -/
def State.xcvrAsked (s : State) (x v : Nat) : Nat := if v = 3 && (s.xcvr x).woke = some s.aonTick then 2 else v

theorem State.xcvrAsked_woken {s : State} {x v : Nat} (hv : v = 3) (hw : (s.xcvr x).woke = some s.aonTick) : s.xcvrAsked x v = 2 := by
  simp [State.xcvrAsked, hv, hw]

theorem State.xcvrAsked_same {s : State} {x v : Nat} (h : v ≠ 3 ∨ (s.xcvr x).woke ≠ some s.aonTick) : s.xcvrAsked x v = v := by
  refine if_neg ?_
  rcases h with hv | hw
  · simp [hv]
  · simp [hw]

theorem State.writeXcvr_want (s : State) (x v : Nat) : ((s.writeXcvr x v).xcvr x).want = s.xcvrAsked x v :=
  congrArg Transceiver.want (s.xcvr_setWant_self x (s.xcvrAsked x v))

theorem State.rd_writeXcvr (s : State) {x : Nat} (hx : x < 2) (v : Nat) : (s.writeXcvr x v).rd (xcvrObj x 0) = s.xcvrState x (s.xcvrAsked x v) :=
  ((s.setWant x (s.xcvrAsked x v)).rd_setXcvr x _ (by simp only [xcvrObj]; omega)).trans (if_pos rfl)

/-- INH is released while both transceivers sleep, and claimed otherwise (R281). -/
theorem State.syncInh_iff (s : State) : s.syncInh.rd 0x712000 = 0 ↔ s.syncInh.rd (xcvrObj 0 0) = 3 ∧ s.syncInh.rd (xcvrObj 1 0) = 3 := by
  have hstate {x : Nat} (hx : x < 2) : s.syncInh.rd (xcvrObj x 0) = s.rd (xcvrObj x 0) := s.rd_wr_ne _ (by simp only [xcvrObj]; omega)
  rw [hstate (x := 0) (by decide), hstate (x := 1) (by decide), State.syncInh, State.rd_wr_self]
  by_cases h : s.rd (xcvrObj 0 0) = 3 ∧ s.rd (xcvrObj 1 0) = 3 <;> simp [h]

section
variable {s : State} {x : Nat}

/-- While VCAN is low neither Normal nor Listen-only can be (R280). -/
theorem State.xcvrState_low {v : Nat} (hv : v ≤ 1) (h : (s.rd (xcvrObj x 5)).testBit 1 = true) : s.xcvrState x v = 2 := by
  simp [State.xcvrState, bit, hv, h]

/-- Normal runs in Listen-only while the role listens (R265). -/
theorem State.xcvrState_normal (h : (s.rd (xcvrObj x 5)).testBit 1 = false) : s.xcvrState x 0 = if s.listening then 1 else 0 := by
  simp [State.xcvrState, bit, h]

theorem State.xcvrState_listenOnly (h : (s.rd (xcvrObj x 5)).testBit 1 = false) : s.xcvrState x 1 = 1 := by
  simp [State.xcvrState, bit, h]

/-- Standby and Sleep are taken as they are asked for. -/
theorem State.xcvrState_off {v : Nat} (hv : 2 ≤ v) : s.xcvrState x v = v := by
  have h1 : ¬ v ≤ 1 := by omega
  have h0 : v ≠ 0 := by omega
  simp [State.xcvrState, h1, h0]

end

/-- A fault of a powered transceiver is one bit of 7.1t0.05 (R283). -/
theorem State.xcvrFault_takes {s : State} {x : Nat} (hx : x < 2) (hm : s.mode ≠ .noPower) (k : Nat) (on : Bool) :
    s.xcvrFault x k on = s.wr (xcvrObj x 5) (setBit (s.rd (xcvrObj x 5)) k on) := if_pos (by simp [hx, hm])

/-- Bus-off recovery begins of a controller that is bus-off (R277). -/
theorem State.busRecover_begins {s : State} {n : Nat} (h : (s.ctl n).conf = 2) :
    s.busRecover n false = okRes (s.setCtl n { s.ctl n with conf := 3 }) := if_pos h

/-- It begins with every request abandoned where the command says so. -/
theorem State.busRecover_abandons {s : State} {n : Nat} (h : (s.ctl n).conf = 2) :
    s.busRecover n true = okRes ((s.abandonAll n).setCtl n { (s.abandonAll n).ctl n with conf := 3 }) := if_pos h

theorem State.busRecover_refused {s : State} {n : Nat} (h : (s.ctl n).conf ≠ 2) (abandon : Bool) : s.busRecover n abandon = errRes s 0x02 := if_neg h

/-- Loopback is for Test (R264). -/
theorem State.writeBusMode_loopback {s : State} (n : Nat) (h : s.mode ≠ .test) : s.writeBusMode n 4 = errRes s 0x03 := by
  simp [State.writeBusMode, h]

theorem State.writeBusMode_keeps {s : State} {v : Nat} (n : Nat) (h : v ≠ 4 ∨ s.mode = .test) :
    s.writeBusMode n v = okRes (s.wr (busObj n 0 0) v) := by
  refine if_neg ?_
  rcases h with hv | hm
  · simp [hv]
  · simp [hm]

theorem exec_controllerModeWrite {n : Fin 8} {v : Nat} (hv : v < 2 ^ objBits (busObj n.val 0 0)) (h : OdHdr) (s : State) :
    exec (.controllerModeWrite h n v) s = .next (s.odSet h (busObj n.val 0 0) v (fun t => t.writeBusMode n.val v)) := by
  change Host.Outcome.next (s.odSet h _ v (fun t => t.writeBusMode n.val (v % 2 ^ objBits _))) = _
  rw [Nat.mod_eq_of_lt hv]

theorem exec_transceiverStateWrite {x : Fin 2} {v : Nat} (hv : v < 2 ^ objBits (xcvrObj x.val 0)) (h : OdHdr) (s : State) :
    exec (.transceiverStateWrite h x v) s = .next (s.odSet h (xcvrObj x.val 0) v (fun t => okRes (t.writeXcvr x.val v))) := by
  change Host.Outcome.next (s.odSet h _ v (fun t => okRes (t.writeXcvr x.val (v % 2 ^ objBits _)))) = _
  rw [Nat.mod_eq_of_lt hv]

/-- Settles O33: modes, recovery and transceiver states by the case of their operation, abandoned requests object by object, and a wake by what a wake
source leaves of the flag. -/
theorem busControllersAndTransceiversTakeEffect : Obligations.BusControllersAndTransceiversTakeEffect := by
  unfold Obligations.BusControllersAndTransceiversTakeEffect
  intro s b h n x hb
  refine ⟨?recover, ?abandon, ?recovered, ?modeWrite, ?modeTaken, ?listens, fun _ hm => congrArg Host.Outcome.next (State.modeChange_none hm), ?clear,
    ?transceiver, ?flag, ?faults, ?wake⟩
  case recover =>
    intro hp
    exact ⟨fun hc => State.odSet_done hb hp (State.busRecover_begins hc),
      fun hc => State.odSet_errs hb hp (State.busRecover_refused hc false) (by decide) (by decide)⟩
  case abandon =>
    intro hp
    refine ⟨fun hc => ⟨_, State.odSet_done hb hp (State.busRecover_abandons hc), ?_, fun m hm => ?_⟩,
      fun hc => State.odSet_errs hb hp (State.busRecover_refused hc true) (by decide) (by decide)⟩
    · rw [State.ctl_setCtl_self]
    · rw [State.msg_setConf]
      exact b.abandonAll_takes n.val hm
  case recovered =>
    intro hl hc
    exact congrArg Host.Outcome.next (if_pos (by simp [hl, hc]))
  case modeWrite =>
    intro v hv hp
    rw [exec_controllerModeWrite hv]
    refine ⟨?_, fun hk => State.odSet_done hb hp (State.writeBusMode_keeps _ hk)⟩
    rintro rfl ht
    exact State.odSet_errs hb hp (State.writeBusMode_loopback _ ht) (by decide) (by decide)
  case modeTaken => exact fun ht hs hl hm => congrArg Host.Outcome.next (State.modeChange_takes n.isLt ht hs hl hm)
  case listens =>
    intro ht hs hl hw hm
    refine ⟨_, congrArg Host.Outcome.next (State.modeChange_listens n.isLt ht hs hl hw hm), ?_, fun m hm128 => ?_⟩
    · rw [State.ctl_setCtl_self]
    · obtain ⟨hnext, hreq⟩ := s.abandonAll_takes n.val hm128
      rw [State.msg_setMode]
      exact ⟨hreq (by simp [hs]), hnext⟩
  case clear =>
    intro hp
    refine ⟨_, State.odSet_done hb hp rfl, fun k hk => ?_, b.clearBus_bus n.val, fun o ho => ?_⟩
    · exact (b.rd_clearBus n.val _).trans (if_pos (List.mem_map_of_mem hk))
    · refine (b.rd_clearBus n.val o).trans (if_neg fun hmem => ?_)
      obtain ⟨k, hk, rfl⟩ := List.mem_map.mp hmem
      exact ho k hk rfl
  case transceiver =>
    intro v hv hp
    have hwant := b.writeXcvr_want x.val v
    have hstate := b.rd_writeXcvr x.isLt v
    have hlight (hv1 : v ≤ 1) : b.xcvrAsked x.val v = v := State.xcvrAsked_same (.inl (by omega))
    rw [exec_transceiverStateWrite hv]
    refine ⟨_, State.odSet_done hb hp rfl, fun h3 hw => ?_, fun h3 => ?_, fun h1 hl => ?_, fun h0 hl => ?_, fun h1 hl => ?_, fun h2 => ?_,
      fun h3 hw => ?_, State.syncInh_iff _⟩
    · rw [hwant, hstate, State.xcvrAsked_woken h3 hw]
      exact ⟨rfl, State.xcvrState_off (by decide)⟩
    · rw [hwant, State.xcvrAsked_same h3]
    · rw [hstate, hlight h1, State.xcvrState_low h1 hl]
    · rw [hstate, hlight (by omega), h0, State.xcvrState_normal hl]
    · rw [hstate, hlight (by omega), h1, State.xcvrState_listenOnly hl]
    · rw [hstate, State.xcvrAsked_same (.inl (by omega)), State.xcvrState_off (by omega), h2]
    · rw [hstate, State.xcvrAsked_same (.inr hw), State.xcvrState_off (by omega), h3]
  case flag => exact fun hp => State.odSet_done hb hp rfl
  case faults =>
    intro on hm
    exact ⟨congrArg Host.Outcome.next (State.xcvrFault_takes x.isLt hm 0 on), congrArg Host.Outcome.next (State.xcvrFault_takes x.isLt hm 2 on)⟩
  case wake =>
    intro late
    exact ⟨fun hno => congrArg Host.Outcome.next (State.busWake_none hno late),
      fun hp hsource hstate => ⟨_, rfl, State.busWake_sets x.isLt hp hsource hstate late⟩⟩

end Sys2Proof.Machine
end

section
/-!
PROOFS. The SEAL_ARM that a SEAL_IN edge sends passes the policer of its entry, and a policer can be one whose count is the object of the edge's stamp
(R182, R306, R310).
-/
namespace Sys2Proof.Machine

/-- A master with its fabric clock running, SEAL_IN enabled (8.020.08) and command policing on (3.400.3F) with policer 0x4B20. No write leads there, for
3.400.3F has eight bits, but the state can be written. -/
def strayPolicer : State :=
  { State.reset with
    mode := .run, seq := { released := true }, modes := { keeperUp := true }
    objs := [(0x000005, 1), (0x001300, 2 ^ 5), (0x001301, 1), (0x34003F, 0x4B20), (0x802000, 1), (0x802008, 0x80)] }

/-- SEAL_IN is taken there for a slot with no seal pending. -/
theorem strayPolicer_takes : strayPolicer.feature 32 = true ∧ strayPolicer.ticking = true ∧ (strayPolicer.cell 0x802008).testBit 7 = true ∧
    mfind strayPolicer.time.seals (strayPolicer.cell 0x802008 % 4) = none := by decide +kernel

/-- The policer drops the SEAL_ARM and counts it in its red count, which is 0x350000 + 0x100 · 0x4B20 + 0xA = 0x80200A, on top of the stamp. -/
theorem strayPolicer_stamp : (strayPolicer.sealIn 0).rd 0x80200A ≠ strayPolicer.sealStamp 0 := by decide +kernel

/-- Refutes O29: the clause about a SEAL_IN edge leaves out what the SEAL_ARM that the edge sends does to the registers. At `strayPolicer`, a state that
can be written and that no run reaches, the policer of that message counts in 8.020.0A itself, where the clause has the stamp. -/
theorem not_sealsArmAndLatch : ¬ Obligations.SealsArmAndLatch := by
  unfold Obligations.SealsArmAndLatch
  intro hall
  obtain ⟨hfeature, hticking, hon, hfree⟩ := strayPolicer_takes
  obtain ⟨-, -, -, -, -, -, hin, -⟩ := hall strayPolicer _ udpPlain rfl
  obtain ⟨hstamps, -⟩ := hin 0 (strayPolicer.sealEdge 0) (strayPolicer.sealStamp 0) hfeature hticking hon (by decide +kernel) rfl
  obtain ⟨t, hdone, -, hstamp⟩ := hstamps hfree
  have ht : strayPolicer.sealIn 0 = t := Host.Outcome.next.inj hdone
  rw [← ht] at hstamp
  exact strayPolicer_stamp hstamp

end Sys2Proof.Machine
end

section
/-!
PROOFS. Fabric time (R287) under the shared operations: counts, journal records, frames and messages leave it as it is.
-/
namespace Sys2Proof.Machine

/-- A choice between two states that have the same time. -/
@[simp] theorem State.ite_time (p : Prop) [Decidable p] (s t : State) : (if p then s else t).time = if p then s.time else t.time :=
  apply_ite State.time p s t

@[simp] theorem State.foldl_time {α : Type} {f : State → α → State} (hf : ∀ s a, (f s a).time = s.time) (l : List α) (s : State) :
    (l.foldl f s).time = s.time := State.foldl_keeps State.time hf l s

@[simp] theorem State.inc_time (s : State) (o : Nat) : (s.inc o).time = s.time := by
  obtain ⟨_, _, h⟩ := s.addTo_frame o 1
  rw [State.inc, h]

@[simp] theorem State.incSat_time (s : State) (o : Nat) : (s.incSat o).time = s.time := rfl

@[simp] theorem State.raiseAt_time (s : State) (at_ : Nat) (i : Island) (cls reason tag : Nat) : (s.raiseAt at_ i cls reason tag).time = s.time := by
  obtain ⟨_, _, _, h⟩ := s.raiseAt_frame at_ i cls reason tag
  rw [h]

@[simp] theorem State.raise_time (s : State) (i : Island) (cls reason tag : Nat) : (s.raise i cls reason tag).time = s.time :=
  s.raiseAt_time s.time.now i cls reason tag

@[simp] theorem State.raiseOpen_time (s : State) (i : Island) (cls reason : Nat) : (s.raiseOpen i cls reason).time = s.time := by
  simp [State.raiseOpen]

@[simp] theorem State.raiseSeal_time (s : State) (reason : Nat) : (s.raiseSeal reason).time = s.time := by simp [State.raiseSeal]

@[simp] theorem State.latchFailure_time (s : State) (n : Nat) : (s.latchFailure n).time = s.time := rfl

@[simp] theorem State.notice_time (s : State) (v : Nat) : (s.notice v).time = s.time := by simp [State.notice]

/-- What the switch does with a frame (R161) leaves the time. -/
theorem time_blind : SwitchBlind State.time where
  switch _ _ := rfl
  cells _ _ := rfl
  count s o _ := s.inc_time o
  raise s i cls reason tag := s.raise_time i cls reason tag

@[simp] theorem State.sendFrame_time (s : State) (port : Nat) (f : Frame) : (s.sendFrame port f).time = s.time := time_blind.sendFrame s port f

@[simp] theorem State.sendReport_time (s : State) (f : Frame) : (s.sendReport f).time = s.time := time_blind.sendReport s f

@[simp] theorem State.discardFrame_time (s : State) (f : Frame) (egress outcome reason : Nat) :
    (s.discardFrame f egress outcome reason).time = s.time := time_blind.discardWith time_blind.sendReport s f egress outcome reason

@[simp] theorem State.sendControl_time (s : State) (dst : Nat) (m : List Byte) : (s.sendControl dst m).time = s.time := s.sendFrame_time 7 _

@[simp] theorem State.sendFork_time (s : State) (group : Nat) (m : List Byte) : (s.sendFork group m).time = s.time := s.sendFrame_time 7 _

@[simp] theorem State.releaseCopy_time (s : State) (c : FrameCopy) : (s.releaseCopy c).time = s.time := by simp [State.releaseCopy]

@[simp] theorem State.discardCopy_time (s : State) (c : FrameCopy) (outcome reason : Nat) : (s.discardCopy c outcome reason).time = s.time := by
  have hfeed : (s.unfeed c).time = s.time := rfl
  simp [State.discardCopy, State.unqueue, hfeed]

@[simp] theorem State.transmit_time (s : State) (port : Nat) (f : Frame) : (s.transmit port f).time = s.time := by
  simp [State.transmit, State.transmitTill]

end Sys2Proof.Machine
end

section
/-!
PROOFS. Fabric time under the PIN island, the crossbar and the pawns (R192 to R260).
-/
namespace Sys2Proof.Machine

@[simp] theorem State.resetPhase_time (s : State) (q edge : Nat) : (s.resetPhase q edge).time = s.time := rfl

@[simp] theorem State.depart_time (s : State) (i reason : Nat) : (s.depart i reason).time = s.time := by
  unfold State.depart
  split <;> simp

@[simp] theorem State.arriveByte_time (s : State) (sel : ImageSel) (a : Nat) (v : Byte) : (s.arriveByte sel a v).time = s.time := by
  unfold State.arriveByte
  split <;> simp

@[simp] theorem State.arriveBytes_time (s : State) (sel : ImageSel) (o : Nat) (l : List Byte) : (s.arriveBytes sel o l).time = s.time := by
  induction l generalizing s o with
  | nil => rfl
  | cons v l ih => simp [State.arriveBytes, ih]

@[simp] theorem State.writeSubstitute_time (s : State) (i : Nat) : (s.writeSubstitute i).time = s.time := by
  unfold State.writeSubstitute
  split <;> simp

/-- A setup violation of a sample (R26). -/
@[simp] theorem State.violateSample_time (s : State) (t : SampleTaken) (hit : Nat → Bool) :
    ((s.setupFailed).violateSample t hit).1.time = s.time := by
  simp [State.violateSample, State.violateRecord, State.setupFailed]

@[simp] theorem State.lateHold_time (s : State) (pin ns : Nat) (l : List SampleTaken) : (s.lateHold pin ns l).time = s.time := by
  induction l with
  | nil => rfl
  | cons t l ih =>
    simp only [State.lateHold]
    split <;> simp [ih]

@[simp] theorem State.syncLatch_time (s : State) (pin : Nat) : (s.syncLatch pin).time = s.time := by simp [State.syncLatch]

@[simp] theorem State.settleClock_time (s : State) (c : PinClock) : (s.settleClock c).time = s.time := by simp [State.settleClock]

@[simp] theorem State.emitExpress_time (s : State) (event ns : Nat) : (s.emitExpress event ns).time = s.time := by
  simp [State.emitExpress, State.sendExpressAll, State.offerExpress, State.sendExpressAt]

@[simp] theorem State.raiseLine_time (s : State) (l ns : Nat) : (s.raiseLine l ns).time = s.time := by
  simp [State.raiseLine, State.lineActs, State.wakePawn]

@[simp] theorem State.filteredEdge_time (s : State) (pin raw ns : Nat) (lvl : Bool) : (s.filteredEdge pin raw ns lvl).time = s.time := by
  unfold State.filteredEdge
  rw [State.foldl_time (by simp), State.lateHold_time, State.wr_time]

@[simp] theorem State.pinsThrough_time (s : State) (ns : Nat) : (s.pinsThrough ns).time = s.time := by
  refine State.foldl_time (fun t e => ?_) _ _
  unfold State.pinDue
  split <;> simp [State.ownerSet]

@[simp] theorem State.pinsToBeat_time (s : State) : s.pinsToBeat.time = s.time := s.pinsThrough_time _

@[simp] theorem State.pinsAtBoundary_time (s : State) : s.pinsAtBoundary.time = s.time := by
  simp [State.pinsAtBoundary, State.boundaryReleases, State.enableBank, State.putStaged, State.setPinConfig]

@[simp] theorem State.wordFailure_time (s : State) (q u reason : Nat) (whole : Bool) (words : Nat) :
    (s.wordFailure q u reason whole words).time = s.time := by simp [State.wordFailure]

@[simp] theorem State.reportDiscard_time (s : State) (q u : Nat) : (s.reportDiscard q u).time = s.time := by
  unfold State.reportDiscard
  dsimp only
  split <;> simp

@[simp] theorem State.dropInjection_time (s : State) (q : Nat) : (s.dropInjection q).time = s.time := by simp [State.dropInjection]

@[simp] theorem State.makeSwap_time (s : State) (q u : Nat) : (s.makeSwap q u).1.time = s.time := by
  unfold State.makeSwap
  dsimp only
  split <;> simp

@[simp] theorem State.rebase_time (s : State) (q old edge : Nat) (prev : Option Nat) : (s.rebase q old edge prev).time = s.time := by
  simp [State.rebase]

/-- The state that a swap leaves, whether it was made or not. -/
theorem State.time_of_makeSwap {s t : State} {q u : Nat} {b : Bool} (h : s.makeSwap q u = (t, b)) : t.time = s.time := by
  rw [← s.makeSwap_time q u, h]

@[simp] theorem State.swapHalted_time (s : State) (q edge : Nat) : (s.swapHalted q edge).time = s.time := by
  have hdiscards : (s.swapDiscards q edge).time = s.time := by simp [State.swapDiscards]
  unfold State.swapHalted
  split
  next t h => simp [State.time_of_makeSwap h, hdiscards]
  next t h => simp [State.time_of_makeSwap h, hdiscards]

@[simp] theorem State.swapBecomesPending_time (s : State) (q : Nat) : (s.swapBecomesPending q).time = s.time := by
  unfold State.swapBecomesPending
  split <;> simp

@[simp] theorem State.swapPrograms_time (s : State) : s.swapPrograms.time = s.time := by simp [State.swapPrograms]

@[simp] theorem State.swapsAtBoundary_time (s : State) : s.swapsAtBoundary.time = s.time := by simp [State.swapsAtBoundary]

@[simp] theorem State.haltCluster_time (s : State) (c : Nat) : (s.haltCluster c).time = s.time := by simp [State.haltCluster]

@[simp] theorem State.driveSlot_time (s : State) (q i edge : Nat) (lvl : Bool) : (s.driveSlot q i edge lvl).time = s.time := by
  simp [State.driveSlot, State.pinLater]

@[simp] theorem State.sideCodes_time (s : State) (c : PawnCycle) (skip : Option Nat) : (s.sideCodes c skip).time = s.time := by
  refine State.foldl_time (fun t i => ?_) _ _
  split
  · rfl
  · split <;> simp

@[simp] theorem State.sideFirst_time (s : State) (c : PawnCycle) : (s.sideFirst c).time = s.time := by simp [State.sideFirst]

@[simp] theorem State.noteInjected_time (s : State) (c : PawnCycle) (v : Nat) : (s.noteInjected c v).time = s.time := by simp [State.noteInjected]

@[simp] theorem State.finish_time (s : State) (c : PawnCycle) (pc : Option Nat) (f : PawnSt → PawnSt) : (s.finish c pc f).time = s.time := by
  simp [State.finish]

@[simp] theorem State.finishSide_time (s : State) (c : PawnCycle) (pc : Option Nat) (f : PawnSt → PawnSt) : (s.finishSide c pc f).time = s.time := by
  simp [State.finishSide]

@[simp] theorem State.timeout_time (s : State) (c : PawnCycle) (clearE : Bool) (lost : Option (Nat × Nat)) : (s.timeout c clearE lost).time = s.time := by
  unfold State.timeout
  split <;> simp [State.countTimeout]

@[simp] theorem State.stall_time (s : State) (c : PawnCycle) : (s.stall c).time = s.time := by simp [State.stall]

@[simp] theorem State.injectedMiss_time (s : State) (c : PawnCycle) : (s.injectedMiss c).time = s.time := by simp [State.injectedMiss]

/-- A waiting instruction leaves the time where its completion does. -/
theorem State.waitFor_time (s : State) (c : PawnCycle) (holds clearE : Bool) (lost : Option (Nat × Nat)) {done : State → State}
    (h : ∀ t, (done t).time = t.time) : (s.waitFor c holds clearE lost done).time = s.time := by simp [State.waitFor, h]

@[simp] theorem State.pushIn_time (s : State) (q edge : Nat) (last : Bool) (ws : List (BitVec 32)) : (s.pushIn q edge last ws).time = s.time := by
  unfold State.pushIn
  dsimp only
  repeat' split
  all_goals simp

theorem effWaitb_time (c : PawnCycle) (s : State) : (effWaitb c s).time = s.time := by
  unfold effWaitb
  dsimp only
  split <;> simp [State.countTimeout]

theorem effSync_time (c : PawnCycle) (s : State) : (effSync c s).time = s.time := by
  have hmet : (s.meetBarrier c).time = s.time := by
    unfold State.meetBarrier
    exact State.foldl_time (fun t m => t.setPawn_time m _) _ _
  exact (State.waitFor_time _ c _ _ _ (by simp)).trans hmet

theorem effSwap_time (c : PawnCycle) (s : State) : (effSwap c s).time = s.time := by
  unfold effSwap
  dsimp only
  split
  · split
    next t h => simp [State.time_of_makeSwap h]
    next t h => simp [State.time_of_makeSwap h]
  · simp

/-- No instruction of a pawn writes the time (R203). -/
theorem effOf_time (c : PawnCycle) (s : State) : (effOf c s).time = s.time := by
  unfold effOf
  split
  · simp [effIllegal]
  split <;> simp [effNop, effJmp, effJcc, effDja, effDjb, effLda, effLdb, effLdc, effWaitp, effWaite, effWaitb_time, effSho, effShi, effPush, effPull,
    effCmpj, effCrcs, effTstmp, effEvt, State.raiseSeqLine, State.pinLater, effSync_time, effSwap_time, effHalt, State.waitFor_time]

@[simp] theorem State.cutCycle_time (s : State) (q edge : Nat) : (s.cutCycle q edge).time = s.time := by simp [State.cutCycle, effOf_time]

/-- Manual GOs (R231). -/
@[simp] theorem State.runManual_time (s : State) : s.runManual.time = s.time := by
  have hstart (t : State) (q addr group : Nat) : (t.goStart q addr group).time = t.time := by simp [State.goStart]
  have hresume (t : State) (q group : Nat) : (t.goResume q group).time = t.time := by
    unfold State.goResume
    dsimp only
    split <;> simp
  simp [State.runManual, State.goCluster, hstart, hresume]

end Sys2Proof.Machine
end

section
/-!
PROOFS. Fabric time under the ports of the ring, the switch's egress and the bridge (R92 to R186, R343 to R366).
-/
namespace Sys2Proof.Machine

@[simp] theorem State.sendWrap_time (s : State) (p : Port) (subtype : Nat) (b : WrapBlock) : (s.sendWrap p subtype b).time = s.time := by
  have hstretch (t : State) (tx : Nat) : (t.stretchSent tx).time = t.time := by
    unfold State.stretchSent
    dsimp only
    split <;> simp
  simp [State.sendWrap, State.wrapOut, hstretch]

@[simp] theorem State.endSegment_time (s : State) (p : Port) (num tag : Nat) : (s.endSegment p num tag).time = s.time := by
  simp [State.endSegment]

@[simp] theorem State.loseFrame_time (s : State) (p : Port) (f : Frame) (egress : Nat) : (s.loseFrame p f egress).time = s.time := by
  simp [State.loseFrame]

@[simp] theorem State.fenceChanges_time (s old : State) (dsts : List Nat) : (s.fenceChanges old dsts).time = s.time := by
  simp [State.fenceChanges, State.openFences]

@[simp] theorem State.portDown_time (s : State) (p : Port) (wait : Bool) : (s.portDown p wait).time = s.time := by
  simp [State.portDown, State.setPortState]

@[simp] theorem State.flushSpan_time (s : State) (p : Port) : (s.flushSpan p).time = s.time := by simp [State.flushSpan]

@[simp] theorem State.flushQueues_time (s : State) : s.flushQueues.time = s.time := by
  refine State.foldl_time (fun t p => ?_) _ _
  unfold State.flushQueue
  split
  · exact State.foldl_time (fun u c => State.foldl_time (by simp) _ _) _ _
  · rfl

/-- A break declared on a port (R129 to R138). -/
@[simp] theorem State.declareBreak_time (s : State) (p : Port) (reason tag : Nat) : (s.declareBreak p reason tag).time = s.time := by
  have hnote (t : State) (known : List WrapBlock) (n : Nat) (q : Port) (k : Nat) : (t.noteBroken known n q k).time = t.time := by
    simp [State.noteBroken]
  simp [State.declareBreak, State.reportOn, hnote]

@[simp] theorem State.unwrapAtBoundary_time (s : State) : s.unwrapAtBoundary.time = s.time := by
  refine State.foldl_time (fun t p => ?_) _ _
  dsimp only
  split
  · split <;> simp
  · rfl

@[simp] theorem State.unwrapRetries_time (s : State) : s.unwrapRetries.time = s.time := by
  refine State.foldl_time (fun t p => ?_) _ _
  split
  · simp [State.askUnwrap]
  · rfl

@[simp] theorem State.pruneSent_time (s : State) : s.pruneSent.time = s.time := by
  simp [State.pruneSent]

@[simp] theorem State.clearInserts_time (s : State) : s.clearInserts.time = s.time := by simp [State.clearInserts]

@[simp] theorem State.calibrate_time (s : State) (p : Port) : (s.calibrate p).time = s.time := rfl

@[simp] theorem State.originateAt_time (s : State) (beat : Nat) : (s.originateAt beat).time = s.time := by
  simp [State.originateAt, State.originate, State.sendSegment]

@[simp] theorem State.sendMarker_time (s : State) (p : Port) (m : Marker) : (s.sendMarker p m).time = s.time := by simp [State.sendMarker]

@[simp] theorem State.freeMarker_time (s : State) : s.freeMarker.time = s.time := by simp [State.freeMarker, State.emitMarker]

@[simp] theorem State.alignsAt_time (s : State) (beat : Nat) : (s.alignsAt beat).time = s.time := by
  simp [State.alignsAt, State.holdAlign]

@[simp] theorem State.alignsHeld_time (s : State) : s.alignsHeld.time = s.time := by simp [State.alignsHeld]

@[simp] theorem State.wrapsAtBeat_time (s : State) : s.wrapsAtBeat.time = s.time := by
  have hrelease (t : State) (tx : Nat) : (t.releaseWraps tx).time = t.time := State.foldl_time (fun u w => u.emit_time _) _ _
  simp [State.wrapsAtBeat, hrelease]

@[simp] theorem State.switchAtBeat_time (s : State) : s.switchAtBeat.time = s.time := by
  have hport (t : State) (now port : Nat) : (t.settlePort now port).time = t.time := by
    unfold State.settlePort
    dsimp only
    split <;> simp
  simp [State.switchAtBeat, State.settleAir, State.settleBuckets, hport]

@[simp] theorem State.deliverOwn_time (s : State) : s.deliverOwn.time = s.time := by
  simp [State.deliverOwn, State.deliverExpress, State.crossbarExpress]

@[simp] theorem State.dropFetched_time (s : State) (f : Prefetch → Bool) : (s.dropFetched f).time = s.time := by
  refine State.foldl_time (fun t e => ?_) _ _
  unfold State.dropPrefetch
  dsimp only
  split <;> simp

/-- The transactions of the bridge end (R361). -/
@[simp] theorem State.endTransactions_time (s : State) (reason copyReason : Nat) : (s.endTransactions reason copyReason).time = s.time := by
  have hjournal (t : State) (r tag window outcome slot : Nat) : (t.bridgeJournal r tag window outcome slot).time = t.time := by
    simp [State.bridgeJournal]
  unfold State.endTransactions
  rw [State.dropFetched_time, State.foldl_time (by simp [hjournal]), State.foldl_time (by simp [hjournal]), State.foldl_time (by simp [hjournal]),
    State.foldl_time (fun t h => ?_)]
  · rfl
  · split <;> simp [hjournal]

@[simp] theorem State.prefetchAtBoundary_time (s : State) : s.prefetchAtBoundary.time = s.time := s.dropFetched_time _

theorem State.sendPieces_time (now : Bool) (fuel : Nat) (s : State) : (s.sendPieces now fuel).time = s.time := by
  induction fuel generalizing s with
  | zero => rfl
  | succ n ih =>
    unfold State.sendPieces
    split
    · rfl
    · simp [ih, State.sendPiece, State.takeTag]

theorem State.issueReads_time (fuel : Nat) (s : State) : (s.issueReads fuel).time = s.time := by
  induction fuel generalizing s with
  | zero => rfl
  | succ n ih =>
    unfold State.issueReads
    split
    · rfl
    split
    · simp [ih, State.masterWrite]
    split
    · rfl
    · simp [ih]

theorem State.sendCopies_time (fuel : Nat) (s : State) : (s.sendCopies fuel).time = s.time := by
  induction fuel generalizing s with
  | zero => rfl
  | succ n ih =>
    unfold State.sendCopies
    split
    · rfl
    · simp [ih]

@[simp] theorem State.bridgeAtBeat_time (s : State) : s.bridgeAtBeat.time = s.time := by
  simp [State.bridgeAtBeat, State.sendPieces_time, State.issueReads_time, State.sendCopies_time]

end Sys2Proof.Machine
end

section
/-!
PROOFS. Fabric time under the message buses, sleep, modes, parts, banks and the pair (R75 to R83, R140 to R155, R263 to R286, R390 to R409, R446 to R450).
-/
namespace Sys2Proof.Machine

@[simp] theorem State.abandonAll_time (s : State) (n : Nat) : (s.abandonAll n).time = s.time := by
  have habort (t : State) (m : Nat) : (t.abortObj n m).time = t.time := by
    unfold State.abortObj
    dsimp only
    repeat' split
    all_goals simp [State.busJournal]
  simp [State.abandonAll, habort]

@[simp] theorem State.modeChange_time (s : State) (n : Nat) : (s.modeChange n).time = s.time := by
  unfold State.modeChange
  dsimp only
  split
  · rw [State.setCtl_time]
    split <;> simp
  · rfl

@[simp] theorem State.enterMode_time (s : State) (m : Mode) : (s.enterMode m).time = s.time := by simp [State.enterMode, State.closeGates]

@[simp] theorem State.modeAtBoundary_time (s : State) : s.modeAtBoundary.time = s.time := by
  unfold State.modeAtBoundary
  dsimp only
  split
  · rfl
  · split <;> simp [State.enterAtBoundary]

@[simp] theorem State.sendSleep_time (s : State) (code : Nat) (body : List Byte) : (s.sendSleep code body).time = s.time := s.sendFork_time _ _

@[simp] theorem State.logVeto_time (s : State) (num node reason consec : Nat) : (s.logVeto num node reason consec).time = s.time := by
  simp [State.logVeto, State.flagNode, State.setFlagged]

@[simp] theorem State.endProposal_time (s : State) (cause : Nat) : (s.endProposal cause).time = s.time := by
  unfold State.endProposal
  split <;> simp [State.sendCancel]

@[simp] theorem State.cancelMine_time (s : State) (cause : Nat) : (s.cancelMine cause).time = s.time := by
  have hlog : s.logVetoes.time = s.time := by
    unfold State.logVetoes
    split <;> simp
  simp [State.cancelMine, hlog]

@[simp] theorem State.judgeVotes_time (s : State) (m : Proposal) : (s.judgeVotes m).time = s.time := by
  have hcommit (t : State) (p : Nat) : (t.commitTo p).time = t.time := by
    unfold State.commitTo
    split <;> simp
  simp [State.judgeVotes, hcommit]

/-- The master's part of a sleep (R392, R394, R395). -/
@[simp] theorem State.masterSleep_time (s : State) : s.masterSleep.time = s.time := by
  have hcast (t : State) (p : Proposal) (window : Nat) (active : Bool) : (t.castVote p window active).1.time = t.time := by
    unfold State.castVote
    dsimp only
    split <;> simp
  unfold State.masterSleep
  split
  · rfl
  · simp [State.holdVote, State.setFlagged, State.sendCommit, hcast]

@[simp] theorem State.memberSleep_time (s : State) : s.memberSleep.time = s.time := by
  unfold State.memberSleep
  dsimp only
  split
  · split <;> simp
  · split <;> simp [State.abortSleep, State.sendWakeAll, State.dropProposal]

@[simp] theorem State.sleepAtBoundary_time (s : State) : s.sleepAtBoundary.time = s.time := by
  simp [State.sleepAtBoundary, State.wakeSleep, State.sendWakeAll]

@[simp] theorem State.setIsolated_time (s : State) (p : Nat) (b : Bool) : (s.setIsolated p b).time = s.time := by simp [State.setIsolated]

@[simp] theorem State.discardFor_time (s : State) (p : Nat) : (s.discardFor p).time = s.time := by
  have hport (port : Nat) : (s.discardPort port).time = s.time := by simp [State.discardPort]
  simp only [State.discardFor, State.ite_time, hport, ite_self]

@[simp] theorem State.isolatePart_time (s : State) (p : Nat) : (s.isolatePart p).time = s.time := by
  simp [State.isolatePart, State.stopCtl]

@[simp] theorem State.returnPart_time (s : State) (p : Nat) : (s.returnPart p).time = s.time := by
  have hswap (t : State) (q : Nat) : (t.swapReturn q).time = t.time := by
    unfold State.swapReturn
    dsimp only
    split <;> simp
  simp [State.returnPart, State.swapReturns, hswap]

@[simp] theorem State.partsAtBoundary_time (s : State) (n : Nat) : (s.partsAtBoundary n).time = s.time := by simp [State.partsAtBoundary]

@[simp] theorem State.bankAtBoundary_time (s : State) : s.bankAtBoundary.time = s.time := by
  have hcounts (t : State) : t.restartPinCounts.time = t.time := State.foldl_time (fun u o => u.wr_time o 0) _ _
  have hswitch : s.switchBanks.time = s.time := by
    unfold State.switchBanks
    dsimp only
    split <;> simp [State.setBoot, State.closeGates, hcounts]
  simp [State.bankAtBoundary, State.settleWords, hswitch]

@[simp] theorem State.setRole_time (s : State) (r : Nat) : (s.setRole r).time = s.time := by
  simp [State.setRole, State.xcvrFollow, State.setXcvr, State.syncInh, State.busFollow]

@[simp] theorem State.mirrorOut_time (s : State) : s.mirrorOut.time = s.time := by
  have hsend (t : State) (m : List Byte) : (t.sendPair m).time = t.time := by
    unfold State.sendPair
    split <;> simp
  simp [State.mirrorOut, State.sendMirror, hsend]

@[simp] theorem State.takeMirror_time (s : State) : s.takeMirror.time = s.time := by
  refine (State.foldl_time (fun t i => ?_) _ _).trans (State.foldl_time (fun t e => t.setImage_time _ _) _ _)
  split
  · split <;> simp
  · rfl

@[simp] theorem State.hubAtBoundary_time (s : State) : s.hubAtBoundary.time = s.time := by
  have hsync (t : State) : t.judgeSync.time = t.time := by simp [State.judgeSync]
  have htake (t : State) : t.takeOver.time = t.time := by simp [State.takeOver]
  unfold State.hubAtBoundary
  dsimp only
  repeat' split
  all_goals simp [hsync, htake]

/-- The arbiter judges its pairs and sends their beacons (R149). -/
@[simp] theorem State.arbiterAtBoundary_time (s : State) : s.arbiterAtBoundary.time = s.time := by
  have hjudge (t : State) (k : Nat) : (t.judgePair k).time = t.time := by simp [State.judgePair, State.sendGrant]
  have hbeacon (t : State) (k : Nat) : (t.sendBeacon k).time = t.time := by simp [State.sendBeacon]
  refine State.foldl_time (fun t k => ?_) _ _
  simp only [State.ite_time, hbeacon, hjudge, ite_self]
  split
  · rfl
  · split <;> simp

@[simp] theorem State.pauseAtBeat_time (s : State) : s.pauseAtBeat.time = s.time := by
  unfold State.pauseAtBeat
  split <;> simp [State.endPause, State.passState, State.endPromotion, State.loadStore]

@[simp] theorem State.postTime_time (s : State) : s.postTime.time = s.time := by simp [State.postTime]

end Sys2Proof.Machine
end

section
/-!
PROOFS. Fabric time over the end of a cycle and the boundary after it (R48, R302): the end of a cycle keeps the number of the beat, and a boundary of a hub
that is not the master keeps the clock.
-/
namespace Sys2Proof.Machine

/-! What a boundary does beside the clock. -/

@[simp] theorem State.lateRecord_time (s : State) (i : Nat) (r : RecLive) : ((s.writeSubstitute i).setRecLive i r).time = s.time :=
  s.writeSubstitute_time i

@[simp] theorem State.turnImages_time (s : State) : s.turnImages.time = s.time := by simp [State.turnImages]

@[simp] theorem State.closeRecord_time (s : State) (i : Nat) : (s.closeRecord i).time = s.time := by
  unfold State.closeRecord
  dsimp only
  repeat' split
  all_goals simp [State.setRecLive]

@[simp] theorem State.closeCycle_time (s : State) : s.closeCycle.time = s.time := by simp [State.closeCycle]

@[simp] theorem State.lostCycle_time (s : State) : s.lostCycle.time = s.time := by simp [State.lostCycle]

@[simp] theorem State.envAtBoundary_time (s : State) : s.envAtBoundary.time = s.time := by simp [State.envAtBoundary]

@[simp] theorem State.lanesAtBoundary_time (s : State) : s.lanesAtBoundary.time = s.time := by simp [State.lanesAtBoundary]

@[simp] theorem State.publishLines_time (s : State) : s.publishLines.time = s.time := by
  have hlines (t : State) (l : NMap EventLine) : ({ t with pawns := { t.pawns with lines := l } } : State).time = t.time := rfl
  unfold State.publishLines
  exact (hlines _ _).trans (State.foldl_time (fun t k => t.wrB_time _ _) _ s)

@[simp] theorem State.timeAtBoundary_time (s : State) : s.timeAtBoundary.time = s.time := by simp [State.timeAtBoundary]

@[simp] theorem State.laneFail_time (s : State) (p : Port) (lane : Nat) : (s.laneFail p lane).time = s.time := by simp [State.laneFail]

@[simp] theorem State.envFlag_time (s : State) (code cause : Nat) : (s.envFlag code cause).time = s.time := by simp [State.envFlag]

/-- What counting and latching a failure leave as it is, the judging of the environment and the lanes leaves as it is. -/
theorem State.monitorAtBoundary_keeps {β : Type} {g : State → β} (hlatch : ∀ (s : State) n, g (s.latchFailure n) = g s)
    (henv : ∀ (s : State) c k, g (s.envFlag c k) = g s) (hlane : ∀ (s : State) p l, g (s.laneFail p l) = g s) (s : State) :
    g s.monitorAtBoundary = g s := by
  unfold State.monitorAtBoundary
  split
  · refine (State.foldl_keeps g (fun t e => ?_) _ _).trans (State.foldl_keeps g (fun t c => State.foldl_keeps g (fun u k => ?_) _ _) _ _)
    · split
      · exact hlane t e.1 e.2
      · rfl
    · split
      · split
        · exact hlatch u _
        · exact henv u c k
      · rfl
  · rfl

@[simp] theorem State.monitorAtBoundary_time (s : State) : s.monitorAtBoundary.time = s.time :=
  State.monitorAtBoundary_keeps State.latchFailure_time State.envFlag_time State.laneFail_time s

@[simp] theorem State.contractAtBoundary_time (s : State) : s.contractAtBoundary.time = s.time := by simp [State.contractAtBoundary]

@[simp] theorem State.releaseAt_time (s : State) (beat : Nat) : (s.releaseAt beat).time = s.time := by
  have hrelease (t : State) (i : Nat) : (t.releaseRecord i).time = t.time := by simp [State.releaseRecord, State.setRecLive]
  simp [State.releaseAt, hrelease]

@[simp] theorem State.releaseSlots_time (s : State) : s.releaseSlots.time = s.time := rfl

/-! The end of a cycle. -/

@[simp] theorem State.setServo_time (s : State) (v : Nat) : (s.setServo v).time = s.time := rfl

@[simp] theorem State.setRate_time (s : State) (r : Int) : (s.setRate r).time = s.time := rfl

@[simp] theorem State.keepRate_time (s : State) : s.keepRate.time = s.time := rfl

@[simp] theorem State.refuseJump_time (s : State) (at_ : Nat) : (s.refuseJump at_).time = s.time := by simp [State.refuseJump]

/-- A choice between two states, in its number of the beat. -/
theorem State.ite_beats (p : Prop) [Decidable p] (s t : State) :
    (if p then s else t).time.beats = if p then s.time.beats else t.time.beats := apply_ite (fun u : State => u.time.beats) p s t

theorem State.servoRate_beats (s : State) : s.servoRate.time.beats = s.time.beats := by simp [State.servoRate, apply_ite TimeSt.beats]

theorem State.lock_beats (s : State) : s.lock.time.beats = s.time.beats := by simp [State.lock, apply_ite TimeSt.beats]

theorem State.acquire_beats (s : State) : s.acquire.time.beats = s.time.beats := rfl

theorem State.servoAct_beats (s : State) (at_ : Nat) (k : MarkerSeen) : (s.servoAct at_ k).time.beats = s.time.beats := by
  simp only [State.servoAct, State.ite_beats, State.servoRate_beats, State.lock_beats, State.acquire_beats, State.refuseJump_time, ite_self]

theorem State.servoAtBoundary_beats (s : State) : s.servoAtBoundary.time.beats = s.time.beats := by
  unfold State.servoAtBoundary
  dsimp only
  repeat' split
  all_goals simp [State.servoAct_beats]

theorem State.countMissing_beats (s : State) : s.countMissing.time.beats = s.time.beats := by simp [State.countMissing, apply_ite TimeSt.beats]

theorem State.masterLoss_beats (s : State) : s.masterLoss.time.beats = s.time.beats := by simp [State.masterLoss, apply_ite TimeSt.beats]

theorem State.yieldAtBoundary_beats (s : State) : s.yieldAtBoundary.time.beats = s.time.beats := by
  simp [State.yieldAtBoundary, State.acquire_beats, apply_ite TimeSt.beats]

theorem State.closureCycle_beats (s : State) : s.closureCycle.time.beats = s.time.beats := by
  unfold State.closureCycle
  dsimp only
  repeat' split
  all_goals rfl

theorem State.becomeMaster_beats (s : State) : s.becomeMaster.time.beats = s.time.beats := by
  simp [State.becomeMaster, apply_ite TimeSt.beats]

theorem State.closeAtBoundary_beats (s : State) : s.closeAtBoundary.time.beats = s.time.beats := by
  have hdrop (t : State) : ({ t with time := { t.time with epsDue := [] } } : State).time.beats = t.time.beats := rfl
  unfold State.closeAtBoundary
  exact (hdrop _).trans (congrArg TimeSt.beats (State.foldl_time (fun t e => (State.calibrate_time _ _).trans (t.wr_time _ _)) _ s))

theorem State.endCycle_beats (s : State) : s.endCycle.time.beats = s.time.beats := by
  simp only [State.endCycle, State.clearInserts_time, State.pruneSent_time, State.publishLines_time, State.closeAtBoundary_beats,
    State.becomeMaster_beats, State.closureCycle_beats, State.yieldAtBoundary_beats, State.masterLoss_beats, State.countMissing_beats,
    State.servoAtBoundary_beats, State.lanesAtBoundary_time, State.envAtBoundary_time]

/-! The boundary. -/

/-- The clock: the local time, the boundary of the cycle, the number of the beat, and the step that is due or was made. -/
def TimeSt.clock (t : TimeSt) : Nat × Nat × Nat × Option MarkerSeen × Bool := (t.now, t.bnd, t.beats, t.step, t.stepped)

theorem State.setSeals_clock (s : State) (l : NMap SealSt) : (s.setSeals l).time.clock = s.time.clock := rfl

theorem State.missSeals_clock (s : State) (old : Nat) : (s.missSeals old).time.clock = s.time.clock :=
  State.foldl_keeps (fun t => t.time.clock) (fun t e => by rw [State.raiseSeal_time, State.setSeals_clock]) _ s

/-- A hub that is not the master drops the time that was to be set (R312). -/
theorem State.setTimeStep_clock {s : State} (h : s.servo ≠ 5) : s.setTimeStep.time.clock = s.time.clock := by
  have hdrop : s.setTimeAtBoundary.time.clock = s.time.clock := by
    unfold State.setTimeAtBoundary
    split
    · rw [if_neg h]; rfl
    · rfl
  simpa [State.setTimeStep, h] using hdrop

theorem State.boundAtBoundary_clock (s : State) : s.boundAtBoundary.time.clock = s.time.clock := by
  unfold State.boundAtBoundary
  split <;> rfl

theorem State.sealsAtBoundary_clock (s : State) : s.sealsAtBoundary.time.clock = s.time.clock := rfl

theorem State.copyMarkers_clock (s : State) (beat : Nat) : (s.copyMarkers beat).time.clock = s.time.clock := by
  have hleft (t : State) (c : Option MarkerCopy) : ({ t with time := { t.time with copy := c } } : State).time.clock = t.time.clock := rfl
  unfold State.copyMarkers
  split
  · exact (hleft _ _).trans (congrArg TimeSt.clock (State.foldl_time (fun t q => t.sendMarker_time q _) _ s))
  · rfl

theorem State.startBeat_clock (s : State) : s.startBeat.time.clock = s.time.clock := by
  simp only [State.startBeat, State.alignsAt_time, State.copyMarkers_clock, State.originateAt_time, State.pauseAtBeat_time, State.bridgeAtBeat_time,
    State.unwrapRetries_time, State.switchAtBeat_time, State.alignsHeld_time, State.wrapsAtBeat_time, State.deliverOwn_time, State.runManual_time,
    State.releaseAt_time, State.releaseSlots_time, State.pinsThrough_time]

theorem State.boundaryActions_clock {s : State} (h : s.servo ≠ 5) : s.boundaryActions.time.clock = s.time.clock := by
  simp only [State.boundaryActions, State.startBeat_clock, State.postTime_time, State.freeMarker_time, State.prefetchAtBoundary_time,
    State.arbiterAtBoundary_time, State.hubAtBoundary_time, State.sealsAtBoundary_clock, State.unwrapAtBoundary_time, State.swapsAtBoundary_time,
    State.pinsAtBoundary_time, State.contractAtBoundary_time, State.boundAtBoundary_clock, State.bankAtBoundary_time, State.partsAtBoundary_time,
    State.sleepAtBoundary_time, State.modeAtBoundary_time, State.setTimeStep_clock h]

end Sys2Proof.Machine
end

section
/-!
PROOFS. The commands of fabric time (R287 to R312): the step, the loss of the master, the closure window, TIME_CAL, and the writes that set the time.
-/
namespace Sys2Proof.Machine

/-! TIME_STEP. -/

theorem State.acquire_servo (s : State) : s.acquire.servo = 1 := State.rd_wr_self _ _ _

theorem State.setSeals_rd (s : State) (l : NMap SealSt) {o : Nat} (h : o ≠ 0x802005) : (s.setSeals l).rd o = s.rd o := State.rd_wr_ne _ _ h

theorem State.raiseSeal_rd (s : State) (reason : Nat) {o : Nat} (h : o < 0xD00000) (ha : o ≠ 0xA00210) : (s.raiseSeal reason).rd o = s.rd o :=
  State.rd_raise _ _ _ _ _ h ha

/-- Seals that a step passes over do not move the servo. -/
theorem State.missSeals_servo (s : State) (old : Nat) : (s.missSeals old).servo = s.servo :=
  State.rd_foldl_keeps (fun t e => ((t.setSeals _).raiseSeal_rd _ (by decide) (by decide)).trans (t.setSeals_rd _ (by decide))) _ s

/-- The clock after a step (R302): the first boundary of the corrected time, as many beats on as the hub waits for it. -/
theorem State.timeStep_clock {s : State} {k : MarkerSeen} {len now m bnd : Nat} (hdue : s.stepDue = some k) (hend : s.atCycleEnd = true)
    (hwarm : s.warmDue = false) (hlen : len = s.cycleLen * beatTicks) (hnow : now = (((s.time.bnd + len : Nat) : Int) - k.off).toNat)
    (hm : m = if now ≤ k.btime then 0 else ceilDiv (now - k.btime) len) (hbnd : bnd = k.btime + m * len) :
    s.timeStep.time.clock = (bnd, bnd, s.time.beats + (1 + ceilDiv (bnd - now) beatTicks), none, true) := by
  subst hbnd hm hnow hlen
  unfold State.timeStep
  simp only [hdue, hend, hwarm, Bool.not_false, Bool.and_self, if_true]
  rw [State.boundaryActions_clock (by rw [State.missSeals_servo]; exact fun h => absurd ((State.acquire_servo _).symm.trans h) (by decide)), State.missSeals_clock]
  simp only [TimeSt.clock, State.acquire, State.startCycle, State.setServo_time, State.raise_time, State.inc_time, State.wr_time, State.lostCycle_time,
    State.endCycle_beats, State.closeCycle_time, State.pinsToBeat_time]

/-! MASTER_LOSS. -/

/-- At the loss count the loss is noted once, and a holdover that may not run freely ends (R301). -/
theorem State.masterLoss_notes {s : State} (hservo : s.servo ≠ 5) (hlost : s.time.lost = false) (hcount : s.lossCount ≤ s.missing) :
    s.masterLoss =
      if s.servo = 3 ∧ (s.cell 0x801100).testBit 0 = false then ({ s with time := { s.time with lost := true } } : State).setServo 0
      else { s with time := { s.time with lost := true } } := by
  unfold State.masterLoss
  rw [if_pos (by simp [hservo, hlost, hcount])]
  have hhold (t : State) : (t.servo = 3 && !(bit (t.cell 0x801100) 0)) = true ↔ t.servo = 3 ∧ (t.cell 0x801100).testBit 0 = false := by simp [bit]
  exact ite_congr (propext (hhold _)) (fun _ => rfl) (fun _ => rfl)

/-! CLOSURE_WINDOW_END and TIME_CAL. -/

@[simp] theorem State.sendLinkLocal_time (s : State) (p : Port) (f : Frame) : (s.sendLinkLocal p f).time = s.time := by
  unfold State.sendLinkLocal
  split
  · rfl
  · exact time_blind.takeFrame State.sendReport_time s 7 f _

/-- The number of the cycle is no register of the switch. -/
theorem cycle_blind : SwitchBlind State.cycle := SwitchBlind.rd (by decide) (by decide) (by decide)

/-- TIME_CAL as sent keeps a valid value for the span (R294). -/
theorem State.sendTimeCal_time (s : State) (p : Port) (d : Int) (valid : Bool) :
    (s.sendTimeCal p d valid).time = if valid then { s.time with ownD := minsert s.time.ownD (portNum p) (d, s.cycle) } else s.time := by
  have hsend (f : Frame) : (if s.portUsable p then s.sendLinkLocal p f else s).time = s.time := by simp
  unfold State.sendTimeCal
  dsimp only
  split <;> simp only [hsend]

theorem State.sendTimeCal_cycle (s : State) (p : Port) (d : Int) (valid : Bool) : (s.sendTimeCal p d valid).cycle = s.cycle := by
  have hlink (f : Frame) : (s.sendLinkLocal p f).cycle = s.cycle := by
    unfold State.sendLinkLocal
    split
    · rfl
    · exact cycle_blind.takeFrame cycle_blind.sendReport s 7 f _
  have hsend (f : Frame) : (if s.portUsable p then s.sendLinkLocal p f else s).cycle = s.cycle := by
    split
    · exact hlink f
    · rfl
  unfold State.sendTimeCal
  dsimp only
  split
  · exact hsend _
  · exact hsend _

/-- The correction of a span is all that its closing changes. -/
theorem State.closeSpan_time (s : State) (p : Port) : ∃ l, (s.closeSpan p).time = { s.time with epsDue := l } := by
  unfold State.closeSpan
  split
  · split
    · exact ⟨_, rfl⟩
    · exact ⟨_, rfl⟩
  · exact ⟨_, rfl⟩

/-- A new closure window has begun (R294, R295). -/
def State.windowOver (s : State) : State :=
  { s with time := { s.time with winN := 0, winGood := 0, winA := 0, winB := 0, calib := s.time.calib || decide (s.time.winGood = 1024) } }

/-- A full window ends with TIME_CAL on both ports, and a new window. -/
theorem State.windowEnd_full {s : State} (hfull : s.time.winN = 1024) :
    s.windowEnd = (((s.windowOver.sendTimeCal .e (if s.servo = 5 then -(s.time.winB / 1024) else s.time.winA / 1024) (s.time.winGood = 1024)).sendTimeCal .w
      (s.time.winA / 1024) (s.time.winGood = 1024)).closeSpan .e).closeSpan .w := by
  by_cases h : s.servo = 5 <;> simp [State.windowEnd, hfull, h] <;> rfl

/-- The two values that a full window of good cycles leaves. -/
theorem State.windowEnd_time {s : State} (hfull : s.time.winN = 1024) :
    ∃ l, s.windowEnd.time = { s.windowOver.time with
      ownD := if s.time.winGood = 1024 then
          minsert (minsert s.time.ownD 0 (if s.servo = 5 then -(s.time.winB / 1024) else s.time.winA / 1024, s.cycle)) 1 (s.time.winA / 1024, s.cycle)
        else s.time.ownD
      epsDue := l } := by
  have hspans (t : State) : ∃ l, ((t.closeSpan .e).closeSpan .w).time = { t.time with epsDue := l } := by
    obtain ⟨_, he⟩ := t.closeSpan_time .e
    obtain ⟨l, hw⟩ := (t.closeSpan .e).closeSpan_time .w
    exact ⟨l, by rw [hw, he]⟩
  obtain ⟨l, hl⟩ := hspans ((s.windowOver.sendTimeCal .e (if s.servo = 5 then -(s.time.winB / 1024) else s.time.winA / 1024)
    (s.time.winGood = 1024)).sendTimeCal .w (s.time.winA / 1024) (s.time.winGood = 1024))
  refine ⟨l, ?_⟩
  rw [State.windowEnd_full hfull, hl, State.sendTimeCal_time, State.sendTimeCal_time, State.sendTimeCal_cycle]
  by_cases hgood : s.time.winGood = 1024
  · simp only [hgood, decide_true, if_true]
    rfl
  · simp only [hgood, decide_false, Bool.false_eq_true, if_false]
    rfl

theorem State.windowEnd_waits {s : State} (h : s.time.winN < 1024) : s.windowEnd = s := by simp [State.windowEnd, h]

/-- The two hubs' values of one cycle make the span's correction (R294). -/
theorem State.closeSpan_same {s : State} {p : Port} {own d : Int} {c : Nat} (hown : mfind s.time.ownD (portNum p) = some (own, c))
    (hnbr : mfind s.time.nbrD (portNum p) = some (d, c)) : s.closeSpan p =
      { s with time := { s.time with epsDue := minsert s.time.epsDue (portNum p) (if p = .e then (d - own) / 2 else (own - d) / 2) } } := by
  simp [State.closeSpan, hown, hnbr]

/-- A neighbour's value of a cycle is kept for a port (R294). -/
def State.timeCalKept (s : State) (p : Port) (d : Int) (c : Nat) : State :=
  { s with time := { s.time with nbrD := minsert s.time.nbrD (portNum p) (d, c) } }

theorem State.timeCalIn_valid {s : State} {p : Port} {d : Int} {c : Nat} (hp : p = .e ∨ p = .w) :
    s.timeCalIn p d true c = (s.timeCalKept p d c).closeSpan p := if_pos (by simpa using hp)

/-! Writes that set the time. -/

theorem objBits_setTime : objBits 0x800001 = 96 := by decide +kernel

theorem exec_setFabricTime {v : Nat} (hv : v < 2 ^ objBits 0x800001) (h : OdHdr) (s : State) :
    exec (.setFabricTime h v) s = .next (s.odSet h 0x800001 v (fun t => t.setFabricTime v)) := by
  change Host.Outcome.next (s.odSet h 0x800001 v (fun t => t.setFabricTime (v % 2 ^ objBits 0x800001))) = _
  rw [Nat.mod_eq_of_lt hv]

theorem objRow_setTime : objRow 0x800001 = some ⟨0xFFFFFF, 0x800001, [], .time96, .cmd, .v, 0, .custom, none, false⟩ := by decide +kernel

/-- What the checks of R335 say of a time: its nanosecond field lies in a second (R288). -/
theorem State.accessError_setTime (s : State) {v : Nat} (hv : v < 2 ^ objBits 0x800001) :
    s.accessError .write 0x800001 (numBytes 0x800001 v) = if v / 2 ^ 16 % 2 ^ 32 ≤ 999999999 then 0 else 0x04 := by
  rw [objBits_setTime] at hv
  have hback : beNat (numBytes 0x800001 v) = v := by rw [numBytes, objBits_setTime, beNat_natBE, Nat.mod_eq_of_lt (by omega)]
  have hvalue : s.customRange 0x800001 v = decide (v / 2 ^ 16 % 2 ^ 32 ≤ 999999999) := by
    simp [State.customRange, timeOk, bits, Nat.shiftRight_eq_div_pow]
  have hlen : (numBytes 0x800001 v).length = 12 := by rw [numBytes, objBits_setTime, length_natBE]
  rw [State.accessError, objRow_setTime]
  generalize v / 2 ^ 16 % 2 ^ 32 = nano at hvalue ⊢
  simp [State.rowError, State.absentObj, refusedObj, State.modeAllows, State.commandMode, lengthFits, OdType.isBytes, State.valueOk, State.numberOk,
    OdType.size, hback, hvalue, hlen]
  split
  · exact (if_neg (by omega)).symm
  · exact (if_pos (by omega)).symm

/-- A write that is ready, and unchecked but for its value, is so for every value. -/
theorem State.numReaches_of_numPasses {s : State} {h : OdHdr} {o v w : Nat} (hqueue : s.od.queue = []) (hauth : h.auth = none)
    (hp : s.numPasses h o v = true) : s.numReaches h o w = true := by
  simp only [State.numPasses, State.odPasses, Bool.and_eq_true, decide_eq_true_eq] at hp
  obtain ⟨⟨⟨⟨hready, hdoc⟩, hkey⟩, -⟩, -⟩ := hp
  rw [hauth] at hkey
  simp only [State.numReaches, State.odReaches, Bool.and_eq_true, decide_eq_true_eq, hauth]
  refine ⟨⟨?_, hdoc⟩, hkey⟩
  simpa [State.odReady, hqueue] using hready

/-- A time with a good nanosecond field is staged on the master while no bank is active (R312). -/
theorem State.setFabricTime_staged {s : State} {v : Nat} (hnano : (natTime96 v).nano ≤ 999999999) (hservo : s.servo = 5) (hbank : s.hasBank = false) :
    s.setFabricTime v = stagedRes { s with time := { s.time with setTo := some (ofTime96 (natTime96 v)) } } := by
  rw [State.setFabricTime, if_neg (Nat.not_lt.mpr hnano), if_pos (by simp [hservo, hbank])]

/-- It is refused on another hub, and while a bank is active. -/
theorem State.setFabricTime_refused {s : State} {v : Nat} (hnano : (natTime96 v).nano ≤ 999999999) (h : s.servo ≠ 5 ∨ s.hasBank = true) :
    s.setFabricTime v = errRes s 0x02 := by
  rw [State.setFabricTime, if_neg (Nat.not_lt.mpr hnano), if_neg]
  rcases h with h | h <;> simp [h]

theorem exec_candidateReturn (h : OdHdr) (s : State) :
    exec (.candidateReturn h 1) s = .next (s.odSet h 0x800104 1 (fun t => okRes (t.candidateReturn 1))) := by
  have hone : 1 % 2 ^ objBits 0x800104 = 1 := by decide +kernel
  change Host.Outcome.next (s.odSet h 0x800104 1 (fun t => okRes (t.candidateReturn (1 % 2 ^ objBits 0x800104)))) = _
  rw [hone]

/-- Settles O28: each command by the rules above; the step by what the boundary keeps of the clock (`State.boundaryActions_clock`), the closure window by
what the frames of TIME_CAL leave of it. -/
theorem timeCommandsTakeEffect : Obligations.TimeCommandsTakeEffect := by
  unfold Obligations.TimeCommandsTakeEffect
  intro s b h hb
  refine ⟨?step, ?loss, ?window, ?early, ?cal, ?badCal, ?badTime, ?time, ?candidate, ?jump, ?ptp⟩
  case step =>
    intro k len now m bnd hdue hend hwarm hlen hnow hm hbnd
    have hclock := State.timeStep_clock hdue hend hwarm hlen hnow hm hbnd
    simp only [TimeSt.clock, Prod.mk.injEq] at hclock
    obtain ⟨hn, hbd, hbeats, hstep, hstepped⟩ := hclock
    exact ⟨_, rfl, hn, hbd, hstep, hstepped, by rw [hbeats, Nat.add_assoc]⟩
  case loss =>
    rintro htick hservo hlost hcount t rfl
    change Host.Outcome.next (if s.ticking then s.masterLoss else s) = _
    rw [if_pos htick, State.masterLoss_notes hservo hlost hcount]
  case window =>
    intro htick hfull
    obtain ⟨l, hl⟩ := State.windowEnd_time hfull
    refine ⟨s.windowEnd, congrArg Host.Outcome.next (if_pos htick), ?_⟩
    rw [hl]
    refine ⟨rfl, rfl, rfl, rfl, rfl, fun hgood => ?_⟩
    simp only [if_pos hgood, mfind_minsert]
    exact ⟨rfl, rfl⟩
  case early => exact fun htick hearly => congrArg Host.Outcome.next ((if_pos htick).trans (State.windowEnd_waits hearly))
  case cal =>
    intro p d own c htick hp hown
    have hnbr : mfind (minsert s.time.nbrD (portNum p) (d, c)) (portNum p) = some (d, c) := by rw [mfind_minsert, if_pos rfl]
    refine ⟨s.timeCalIn p d true c, congrArg Host.Outcome.next (if_pos htick), ?_⟩
    rw [State.timeCalIn_valid hp, State.closeSpan_same (s := s.timeCalKept p d c) hown hnbr]
    exact ⟨hnbr, by rw [mfind_minsert, if_pos rfl]⟩
  case badCal => exact fun p d c => congrArg Host.Outcome.next (ite_self s)
  case badTime =>
    intro v hv hqueue hauth hp hnano
    have herr := b.accessError_setTime hv
    rw [if_neg (Nat.not_le.mpr hnano)] at herr
    rw [exec_setFabricTime hv]
    exact State.odSet_barred hb (State.numReaches_of_numPasses hqueue hauth hp) herr (by decide)
  case time =>
    intro v hv hp
    have hnano : v / 2 ^ 16 % 2 ^ 32 ≤ 999999999 := by
      refine Decidable.byContradiction fun hbad => ?_
      have herr := State.accessError_of_numPasses hp
      rw [State.accessError_setTime _ hv, if_neg hbad] at herr
      exact absurd herr (by decide)
    rw [exec_setFabricTime hv]
    exact ⟨hnano, fun hservo hbank => State.odSet_staged hb hp (State.setFabricTime_staged hnano hservo hbank),
      fun href => State.odSet_errs hb hp (State.setFabricTime_refused hnano href) (by decide) (by decide)⟩
  case candidate =>
    rintro hp t rfl
    rw [exec_candidateReturn]
    exact State.odSet_done hb hp rfl
  case jump => exact fun hp => State.odSet_done hb hp rfl
  case ptp =>
    intro sent off hfeature hon htick
    have hstamped : (s.feature 35 && s.rd 0x804000 = 1 && s.ticking) = true := by simp [hfeature, hon, htick]
    cases sent
    · exact congrArg Host.Outcome.next (if_pos hstamped)
    · exact congrArg Host.Outcome.next (if_pos hstamped)

end Sys2Proof.Machine
end

section
/-!
PROOFS. An OD access from its queue to its response (R314 to R337): the cases of its execution, the writes of objects without a command of their own, and
the statements about accesses and about keys.
-/
namespace Sys2Proof.Machine

/-- The end of an access: its answer goes out (R326), and the queue goes on (R322, R329). -/
def OdAnswer.reply (r : OdAnswer) (q : OdAccessReq) (passed : Bool) : State :=
  (r.st.answer q.hdr (opCode q.op) q.obj passed r.err r.val r.late r.staged).takeMail 8

theorem State.undocumentedOd_iff (s : State) (q : OdAccessReq) : s.undocumentedOd q = true ↔ s.mode = .test ∧ q.obj / 2 ^ 20 = 0xF := by
  simp [State.undocumentedOd]

/-- The CMAC of a request does not depend on the queue that it was taken from (R332). -/
theorem State.odMac_odTaken (s : State) (k : Nat) (m : List Byte) : s.odTaken.odMac k 0 m = s.odMac k 0 m := rfl

/-- An access that must be authenticated and carries no CMAC (R334). -/
theorem State.authError_missing {s : State} {r : OdRoute} {op o : Nat} (h : s.authNeeded r op o = true) (v : List Byte) :
    s.authError r op o none v = 0x07 := if_pos h

/-- An access with a CMAC that is not that of its message (R332). -/
theorem State.authError_wrong {s : State} {r : OdRoute} {op o : Nat} {a : OdAuth} {v : List Byte}
    (h : s.odMac a.key.val 0 (odHeader op 1 o a.key.val v.length a.ctr ++ v) ≠ a.cmac) : s.authError r op o (some a) v = 0x08 := by
  simp [State.authError, h]

/-- The error codes of check 2 (R335). -/
theorem State.authError_codes (s : State) (r : OdRoute) (op o : Nat) (a : Option OdAuth) (v : List Byte) :
    s.authError r op o a v = 0 ∨ s.authError r op o a v = 0x07 ∨ s.authError r op o a v = 0x08 ∨ s.authError r op o a v = 0x09 := by
  unfold State.authError
  split
  · split
    · exact .inr (.inl rfl)
    · exact .inl rfl
  · split
    · exact .inr (.inr (.inl rfl))
    split
    · exact .inr (.inr (.inl rfl))
    split
    · exact .inr (.inr (.inr rfl))
    · exact .inl rfl

/-- Only the lack of a CMAC goes without a journal record (R337). -/
theorem State.authenticate_missing {s : State} {h : OdHdr} {op o : Nat} {v : List Byte} (e : s.authError h.route op o h.auth v = 0x07) :
    s.authenticate h op o v = (s, 0x07, false) := by
  simp [State.authenticate, e]

theorem State.authenticate_wrong {s : State} {h : OdHdr} {op o : Nat} {v : List Byte} (e : s.authError h.route op o h.auth v = 0x08) :
    s.authenticate h op o v = (s.odJournal 0x24 0x08 o, 0x08, false) := by
  simp [State.authenticate, e]

/-- Check 2 reports the error that it found. -/
theorem State.authenticate_err (s : State) (h : OdHdr) (op o : Nat) (v : List Byte) :
    (s.authenticate h op o v).2.1 = s.authError h.route op o h.auth v := by
  unfold State.authenticate
  dsimp only
  split
  next h0 => exact h0.symm
  · split
    · rfl
    · rfl

section
variable {s : State} {q : OdAccessReq} (hready : s.odReady q = true)
include hready

/-- An access that fails check 2 is answered with its error, and is not executed. -/
theorem State.odExecute_unauthenticated {t : State} {e : Nat} {passed : Bool}
    (hcheck : s.odTaken.authenticate q.hdr (opCode q.op) q.obj q.val = (t, e, passed)) (he : e ≠ 0) (run : State → OdAnswer) :
    s.odExecute q run = OdAnswer.reply { st := t, err := e } q passed := by
  simp [State.odExecute, hready, hcheck, he, OdAnswer.reply]

variable (hauth : s.odTaken.authError q.hdr.route (opCode q.op) q.obj q.hdr.auth q.val = 0)
include hauth

/-- An access to area F in Test is answered with what the spec does not document (R314). -/
theorem State.odExecute_undocumented (hu : s.undocumentedOd q = true) (run : State → OdAnswer) :
    s.odExecute q run = (s.odBegun q.hdr).runUndocumented.reply q q.hdr.auth.isSome := by
  simp [State.odExecute, hready, State.authenticate_ok hauth, hu, OdAnswer.reply, State.odBegun]

variable (hu : s.undocumentedOd q = false)
include hu

/-- Any other that fails a later check is answered with that error (R335). -/
theorem State.odExecute_barred (h : (s.odBegun q.hdr).accessError q.op q.obj q.val ≠ 0) (run : State → OdAnswer) :
    s.odExecute q run = OdAnswer.reply { st := s.odBegun q.hdr, err := (s.odBegun q.hdr).accessError q.op q.obj q.val } q q.hdr.auth.isSome := by
  rw [State.odBegun] at h ⊢
  simp [State.odExecute, hready, State.authenticate_ok hauth, hu, h, OdAnswer.reply]

/-- One that passes every check is executed (R327). -/
theorem State.odExecute_runs (h : (s.odBegun q.hdr).accessError q.op q.obj q.val = 0) (run : State → OdAnswer) :
    s.odExecute q run = (run (s.odBegun q.hdr)).reply q q.hdr.auth.isSome := by
  rw [State.odBegun] at h ⊢
  simp [State.odExecute, hready, State.authenticate_ok hauth, hu, h, OdAnswer.reply]

end

/-- The objects whose plain write does more than take the value: port enables, calibration delays, line enables, and the parameters that the inlet does not
have (R243, R389, R411). -/
def plainWrite (o : Nat) : Prop := o &&& 0xFF0FFF ≠ 0x200005 ∧ o &&& 0xFFF0FF ≠ 0x803001 ∧ o ≠ 0x610000 ∧ o / 2 ^ 12 ≠ 0xA18

/-- A configuration cell of the data path (R18). -/
theorem State.writeNumber_cell {o : Nat} (hp : plainWrite o) (hc : dataCell o = true) (s : State) (v : Nat) : s.writeNumber o v = okRes (s.writeCell o v) := by
  obtain ⟨hport, hcal, _, _⟩ := hp
  rw [State.writeNumber, if_neg hport, if_neg hcal, if_pos hc]

/-- The pair number, which may begin or end the hub's listening (R265). -/
theorem State.writeNumber_pair (s : State) (v : Nat) : s.writeNumber 0x208100 v = okRes (s.wr 0x208100 v).listenFollow := rfl

/-- Any other number takes the value. -/
theorem State.writeNumber_plain {o : Nat} (hp : plainWrite o) (hc : dataCell o = false) (hpair : o ≠ 0x208100) (s : State) (v : Nat) :
    s.writeNumber o v = okRes (s.wr o v) := by
  obtain ⟨hport, hcal, hline, hinlet⟩ := hp
  rw [State.writeNumber, if_neg hport, if_neg hcal, if_neg (by simp [hc]), if_neg hline, if_neg hpair,
    if_neg (by rw [decide_eq_false hinlet, Bool.false_and]; decide)]

/-- What a write does whichever object it names (R316, R321). -/
def State.anyEffect (s : State) (o : Nat) (v : List Byte) : OdRes :=
  if o = 0xC02100 && beNat v = 3 then s.promoteConfiguration else s.applyWrite o v

theorem exec_odWrite (h : OdHdr) (o : Nat) (v : List Byte) (s : State) : exec (.odWrite h o v) s = .next (s.odWrite h o v (State.anyEffect · o v)) := rfl

/-- A number without a command of its own is written as `State.writeNumber` says. -/
theorem State.anyEffect_number {o : Nat} {v : List Byte} {r : ObjRow} (hr : objRow o = some r) (hbytes : r.type.isBytes = false)
    (hown : ownRow o = false) (s : State) : s.anyEffect o v = s.writeNumber o (beNat v) := by
  have hpromote : o ≠ 0xC02100 := by
    rintro rfl
    exact absurd hown (by decide)
  simp [State.anyEffect, hpromote, State.applyWrite, hr, hown, State.writeObj, hbytes]

/-- A write of a number that has no command of its own (R316) passes its checks: the number is written, and the access ends. -/
theorem exec_odWrite_number {s b t : State} {h : OdHdr} {o : Nat} {v : List Byte} {r : ObjRow} (hb : b = s.odBegun h) (hp : s.odPasses h o v = true)
    (hr : objRow o = some r) (hbytes : r.type.isBytes = false) (hown : ownRow o = false) (hw : b.writeNumber o (beNat v) = okRes t) :
    exec (.odWrite h o v) s = .next (t.odDone b h o v false) := by
  rw [exec_odWrite]
  exact State.odWrite_next (r := okRes t) hb hp ((b.anyEffect_number hr hbytes hown).trans hw) rfl

/-- A generic access is executed by what R327 says of its operation. -/
theorem exec_odRead (h : OdHdr) (o : Nat) (v : List Byte) (s : State) :
    exec (.odRead h o v) s = .next (s.odExecute ⟨h, .read, o, v⟩ (State.runRead · o)) := rfl

theorem exec_odDescribe (h : OdHdr) (o : Nat) (v : List Byte) (s : State) :
    exec (.odDescribe h o v) s = .next (s.odExecute ⟨h, .describe, o, v⟩ (State.runDescribe · o)) := rfl

theorem exec_odNext (h : OdHdr) (o : Nat) (v : List Byte) (s : State) :
    exec (.odNext h o v) s = .next (s.odExecute ⟨h, .next, o, v⟩ (State.runNext · o)) := rfl

/-- Each of the four generic accesses is the execution of one request. -/
theorem exec_access {c : Instr} {op : OdOp} {h : OdHdr} {o : Nat} {v : List Byte}
    (hc : (c = .odRead h o v ∧ op = .read) ∨ (c = .odWrite h o v ∧ op = .write) ∨ (c = .odDescribe h o v ∧ op = .describe) ∨
      (c = .odNext h o v ∧ op = .next)) (s : State) : ∃ run, exec c s = .next (s.odExecute ⟨h, op, o, v⟩ run) := by
  rcases hc with ⟨rfl, rfl⟩ | ⟨rfl, rfl⟩ | ⟨rfl, rfl⟩ | ⟨rfl, rfl⟩
  · exact ⟨_, exec_odRead h o v s⟩
  · exact ⟨_, exec_odWrite h o v s⟩
  · exact ⟨_, exec_odDescribe h o v s⟩
  · exact ⟨_, exec_odNext h o v s⟩

/-- Settles O49: every access comes to one of the cases of `State.odExecute`, and a plain write to one of `State.writeNumber`. -/
theorem odAccessesAreExecuted : Obligations.OdAccessesAreExecuted := by
  unfold Obligations.OdAccessesAreExecuted
  rintro s b h o v rfl
  have hdocumented (op : OdOp) (hf : ¬ (s.mode = .test ∧ o / 2 ^ 20 = 0xF)) : s.undocumentedOd ⟨h, op, o, v⟩ = false :=
    Bool.eq_false_iff.mpr (hf ∘ (s.undocumentedOd_iff _).mp)
  refine ⟨?read, ?describe, ?next, ?write, ?missing, ?wrong, ?others⟩
  case read =>
    intro hready hauth hf
    rw [exec_odRead]
    exact ⟨fun herr => congrArg Host.Outcome.next (State.odExecute_barred hready hauth (hdocumented _ hf) herr _),
      fun herr => congrArg Host.Outcome.next (State.odExecute_runs hready hauth (hdocumented _ hf) herr _)⟩
  case describe =>
    intro hready hauth hf
    rw [exec_odDescribe]
    refine ⟨fun herr => congrArg Host.Outcome.next (State.odExecute_barred hready hauth (hdocumented _ hf) herr _), fun r herr hr => ?_⟩
    rw [State.odExecute_runs hready hauth (hdocumented _ hf) herr, State.runDescribe, hr]
    rfl
  case next =>
    intro hready hauth herr hf
    exact congrArg Host.Outcome.next (State.odExecute_runs hready hauth (hdocumented _ hf) herr _)
  case write =>
    intro r hp hr hbytes hown hport hcal hline hinlet
    have hplain : plainWrite o := ⟨hport, hcal, hline, hinlet⟩
    refine ⟨fun hc hpair => ?_, fun hc => ?_, ?_⟩
    · exact exec_odWrite_number rfl hp hr hbytes hown (State.writeNumber_plain hplain hc hpair _ _)
    · exact exec_odWrite_number rfl hp hr hbytes hown (State.writeNumber_cell hplain hc _ _)
    · rintro rfl
      exact exec_odWrite_number rfl hp hr hbytes hown (State.writeNumber_pair _ _)
  case missing =>
    intro hready _ hnone hneeded
    have herr : s.odTaken.authError h.route 2 o h.auth v = 0x07 := by rw [hnone, State.authError_missing hneeded]
    exact congrArg Host.Outcome.next (State.odExecute_unauthenticated hready (State.authenticate_missing herr) (by decide) _)
  case wrong =>
    intro a hready _ hsome hmac
    rw [← State.odMac_odTaken] at hmac
    have herr : s.odTaken.authError h.route 2 o h.auth v = 0x08 := by rw [hsome, State.authError_wrong hmac]
    exact congrArg Host.Outcome.next (State.odExecute_unauthenticated hready (State.authenticate_wrong herr) (by decide) _)
  case others =>
    intro c op hc
    obtain ⟨run, hrun⟩ := exec_access hc s
    rw [hrun]
    refine ⟨fun hready => congrArg Host.Outcome.next (State.odExecute_waits hready), fun hready htest hf hauth => ?_⟩
    exact congrArg Host.Outcome.next (State.odExecute_undocumented hready hauth ((s.undocumentedOd_iff _).mpr ⟨htest, hf⟩) run)

/-- No read passes the checks on a key: it is write-only (R316, R342). -/
theorem State.accessError_readKey (s : State) (k : Fin 4) (v : List Byte) : s.accessError .read (0x002100 + k.val) v = 0x02 := by
  have hrow : ∀ k : Fin 4, ∃ r, objRow (0x002100 + k.val) = some r ∧ r.feature = none ∧ r.access = .wo := by decide +kernel
  obtain ⟨r, hr, hfeature, haccess⟩ := hrow k
  have harea : (0x002100 + k.val) / 2 ^ 20 ≠ 0xF := by omega
  have hpresent : s.absentObj (0x002100 + k.val) = false := by
    have : (0x002100 + k.val) / 0x100 ≠ 0x2084 := by omega
    simp [State.absentObj, this]
  rw [State.accessError, if_neg harea, if_neg (by simp [hpresent]), hr]
  simp [State.rowError, hfeature, haccess]

/-- Settles O50: a read of a key that passes check 2 fails the later ones, so its response carries no value either way. -/
theorem keysAreNeverRead : Obligations.KeysAreNeverRead := by
  unfold Obligations.KeysAreNeverRead
  intro s h k v hready
  by_cases hauth : s.odTaken.authError h.route 1 (0x002100 + k.val) h.auth v = 0
  · have hdocumented : s.undocumentedOd ⟨h, .read, 0x002100 + k.val, v⟩ = false := by
      refine Bool.eq_false_iff.mpr (fun hu => ?_)
      have harea := ((s.undocumentedOd_iff _).mp hu).2
      dsimp only at harea
      omega
    have herr := (s.odBegun h).accessError_readKey k v
    refine ⟨s.odBegun h, h.auth.isSome, 0x02, ?_, .inl rfl, fun _ => rfl⟩
    rw [exec_odRead, State.odExecute_barred hready hauth hdocumented (by dsimp only; rw [herr]; decide)]
    dsimp only
    rw [herr]
    rfl
  · rcases hcheck : s.odTaken.authenticate h 1 (0x002100 + k.val) v with ⟨t, e, passed⟩
    have he : e = s.odTaken.authError h.route 1 (0x002100 + k.val) h.auth v := by rw [← State.authenticate_err, hcheck]
    refine ⟨t, passed, e, ?_, ?_, fun h0 => absurd h0 hauth⟩
    · exact congrArg Host.Outcome.next (State.odExecute_unauthenticated hready hcheck (he ▸ hauth) _)
    · rw [he]
      exact .inr ((State.authError_codes _ _ _ _ _ _).resolve_left hauth)

end Sys2Proof.Machine
end

section
/-!
PROOFS. The feature commit (R338, R339): the words that it writes, the registers that a change of the hub's listening leaves, and the statement about it.
-/
namespace Sys2Proof.Machine

/-- The lowest bits of two numbers, and that of what they have in common. -/
theorem and_mod_two_cases (a b : Nat) : (a % 2 = 0 ∧ (a &&& b) % 2 = 0) ∨ (a % 2 = 1 ∧ b % 2 = 0 ∧ (a &&& b) % 2 = 0) ∨
    (a % 2 = 1 ∧ b % 2 = 1 ∧ (a &&& b) % 2 = 1) := by
  have hand : (a &&& b) % 2 = a % 2 &&& b % 2 := Nat.and_mod_two_pow (n := 1)
  rcases Nat.mod_two_eq_zero_or_one a with ha | ha <;> rcases Nat.mod_two_eq_zero_or_one b with hb | hb <;> simp [hand, ha, hb]

/-- The bits of a number that another does not have. -/
theorem testBit_sub_and (a b i : Nat) : (a - (a &&& b)).testBit i = (a.testBit i && !b.testBit i) := by
  induction i generalizing a b with
  | zero =>
    have hle : a &&& b ≤ a := Nat.and_le_left
    simp only [Nat.testBit_zero]
    rcases and_mod_two_cases a b with ⟨ha, hab⟩ | ⟨ha, hb, hab⟩ | ⟨ha, hb, hab⟩
    · simp [ha]; omega
    · simp [ha, hb]; omega
    · simp [ha, hb]; omega
  | succ i ih =>
    have hle : a &&& b ≤ a := Nat.and_le_left
    have hhalf : (a - (a &&& b)) / 2 = a / 2 - (a / 2 &&& b / 2) := by
      rw [← Nat.and_div_two]
      have := and_mod_two_cases a b
      omega
    simp only [Nat.testBit_succ, hhalf, ih]

/-- An abort writes no register below the journal's but the records that the power log lost (R273, R278). -/
theorem State.rd_abortObj (s : State) (n m : Nat) {o : Nat} (h : o < 0xD00000) (ha : o ≠ 0xA00210) : (s.abortObj n m).rd o = s.rd o := by
  have hpending (t : State) (hnext : (t.msg n m).next = none) : (t.abortObj n m).rd o = t.rd o := by
    by_cases hs : (t.ctl n).sending = some m
    · rw [State.abortObj_drops hnext hs, State.setCtl_rd]
    cases hreq : (t.msg n m).req with
    | none => simp [State.abortObj, hnext, hs, hreq]
    | some r => rw [State.abortObj_ends hnext hs hreq, State.rd_busJournal _ _ _ _ _ h ha, State.setMsg_rd]
  cases hnext : (s.msg n m).next with
  | none => exact hpending s hnext
  | some w => rw [State.abortObj_waiting hnext, hpending _ (by simp), State.rd_busJournal _ _ _ _ _ h ha, State.setMsg_rd]

theorem State.rd_abandonAll (s : State) (n : Nat) {o : Nat} (h : o < 0xD00000) (ha : o ≠ 0xA00210) : (s.abandonAll n).rd o = s.rd o := by
  refine State.rd_foldl_keeps (fun t m => ?_) _ s
  split
  · exact t.rd_abortObj n m h ha
  · rfl

/-- A controller's mode in effect is no register (R264). -/
theorem State.rd_modeChange (s : State) (n : Nat) {o : Nat} (h : o < 0xD00000) (ha : o ≠ 0xA00210) : (s.modeChange n).rd o = s.rd o := by
  unfold State.modeChange
  dsimp only
  split
  · rw [State.setCtl_rd]
    split
    · exact s.rd_abandonAll n h ha
    · rfl
  · rfl

/-- Controllers and transceivers that follow a change of role write no register below the transceivers' (R265). -/
theorem State.rd_listenFollow (s : State) {o : Nat} (h : o < 0x710000) : s.listenFollow.rd o = s.rd o := by
  have hbus : s.busFollow.rd o = s.rd o := by
    refine State.rd_foldl_keeps (fun t n => ?_) _ s
    split
    · rw [State.rd_modeChange _ n (by omega) (by omega), State.rd_abandonAll _ n (by omega) (by omega)]
    · rfl
  rw [State.listenFollow, ← hbus]
  refine State.rd_foldl_keeps (fun t x => ?_) _ s.busFollow
  split
  · rw [State.rd_setXcvr _ _ _ (by omega), if_neg (by simp only [xcvrObj]; omega)]
  · rfl

/-- The bits of an accepted word that are not offered (R338). -/
def State.unoffered (s : State) (w : Nat) : Nat := s.rd (0x001100 + w) - (s.rd (0x001100 + w) &&& s.rd (0x001000 + w))

theorem State.testBit_unoffered (s : State) (w i : Nat) :
    (s.unoffered w).testBit i = ((s.rd (0x001100 + w)).testBit i && !(s.rd (0x001000 + w)).testBit i) := testBit_sub_and _ _ i

/-- Some accepted word holds a bit that is not offered. -/
def State.overAccepts (s : State) : Bool := (List.range 4).any (fun w => s.unoffered w != 0)

theorem State.overAccepts_iff (s : State) : s.overAccepts = true ↔
    ∃ w < 4, ∃ i, (s.rd (0x001100 + w)).testBit i = true ∧ (s.rd (0x001000 + w)).testBit i = false := by
  have hbits (w : Nat) : s.unoffered w ≠ 0 ↔ ∃ i, (s.rd (0x001100 + w)).testBit i = true ∧ (s.rd (0x001000 + w)).testBit i = false := by
    simp only [← Bool.not_eq_true', ← Bool.and_eq_true, ← State.testBit_unoffered]
    refine ⟨Nat.exists_testBit_of_ne_zero, ?_⟩
    rintro ⟨i, hi⟩ hzero
    rw [hzero, Nat.zero_testBit] at hi
    exact absurd hi (by decide)
  simp [State.overAccepts, hbits]

/-- The words that a commit writes (R338, R339): active word `w`, and the bits of it that were accepted without being offered where there are any. -/
def State.commitWord (b s : State) (w : Nat) : State :=
  (s.wr (0x001300 + w) (if b.overAccepts then 0 else s.rd (0x001100 + w))).wr (0x001500 + w) (if b.overAccepts then b.unoffered w else s.rd (0x001500 + w))

/-- The registers after a commit, but for the result in 0.014.00. -/
def State.featureCommitted (b : State) : State := (List.range 4).foldl b.commitWord b

theorem below_four {w : Nat} (h : w < 4) : w = 0 ∨ w = 1 ∨ w = 2 ∨ w = 3 := by omega

theorem State.featureCommitted_active (b : State) {w : Nat} (hw : w < 4) :
    b.featureCommitted.rd (0x001300 + w) = if b.overAccepts then 0 else b.rd (0x001100 + w) := by
  rcases below_four hw with rfl | rfl | rfl | rfl <;> simp [State.featureCommitted, State.commitWord, List.range_succ, State.rd_wr]

theorem State.featureCommitted_extra (b : State) {w : Nat} (hw : w < 4) :
    b.featureCommitted.rd (0x001500 + w) = if b.overAccepts then b.unoffered w else b.rd (0x001500 + w) := by
  rcases below_four hw with rfl | rfl | rfl | rfl <;> simp [State.featureCommitted, State.commitWord, List.range_succ, State.rd_wr]

theorem State.featureCommitted_others (b : State) {o : Nat} (ho : ∀ w < 4, o ≠ 0x001300 + w ∧ o ≠ 0x001500 + w) : b.featureCommitted.rd o = b.rd o := by
  obtain ⟨ha0, he0⟩ := ho 0 (by decide)
  obtain ⟨ha1, he1⟩ := ho 1 (by decide)
  obtain ⟨ha2, he2⟩ := ho 2 (by decide)
  obtain ⟨ha3, he3⟩ := ho 3 (by decide)
  simp [State.featureCommitted, State.commitWord, List.range_succ, State.rd_wr, *]

/-- In Configure a commit decides by the bits accepted (R339). -/
theorem State.featureCommit_decides {s : State} (h : s.mode = .configure) : s.featureCommit =
    if s.overAccepts then errRes (s.featureCommitted.wr 0x001400 2).listenFollow 0x04 else okRes (s.featureCommitted.wr 0x001400 1).listenFollow :=
  if_neg (by simp [h])

theorem objRow_featureCommit : objRow 0x001200 = some ⟨0xFFFFFF, 0x001200, [], .u8, .cmd, .v, 0, .between 1 1, none, false⟩ := by decide +kernel

/-- Outside Configure a commit fails the check of the mode (R338, R335 check 7). -/
theorem State.accessError_featureCommit {s : State} (h : s.mode ≠ .configure) (v : List Byte) : s.accessError .write 0x001200 v = 0x03 := by
  have hmode : s.commandMode 0x001200 v = false := by simp [State.commandMode, h]
  rw [State.accessError, objRow_featureCommit]
  simp [State.rowError, State.absentObj, refusedObj, State.modeAllows, hmode]

/-- Settles O51: `State.featureCommit_decides`, the words that it leaves, and the registers that `State.listenFollow` leaves. -/
theorem featureCommitDecides : Obligations.FeatureCommitDecides := by
  unfold Obligations.FeatureCommitDecides
  intro s b h hb
  refine ⟨fun hreach hmode => State.odSet_barred hb hreach (State.accessError_featureCommit hmode _) (by decide), fun hp => ?_⟩
  have hmode : b.mode = .configure := by
    refine Decidable.byContradiction fun hmode => ?_
    have herr := State.accessError_of_numPasses hp
    rw [← hb, State.accessError_featureCommit hmode] at herr
    exact absurd herr (by decide)
  have hdecides := State.featureCommit_decides hmode
  have hfollow (t : State) (o : Nat) (ho : o < 0x002000) : t.listenFollow.rd o = t.rd o := t.rd_listenFollow (by omega)
  refine ⟨fun hover => ?rejected, fun hall => ?offered⟩
  case rejected =>
    have hbad := b.overAccepts_iff.mpr hover
    rw [if_pos hbad] at hdecides
    refine ⟨_, State.odSet_errs hb hp hdecides (by decide) (by decide), State.rd_wr_self _ _ _, hfollow _, fun w hw => ⟨?_, fun i => ?_⟩, fun o ho hres => ?_⟩
    · rw [State.rd_wr_ne _ _ (by omega), b.featureCommitted_active hw, if_pos hbad]
    · rw [State.rd_wr_ne _ _ (by omega), b.featureCommitted_extra hw, if_pos hbad, State.testBit_unoffered]
    · rw [State.rd_wr_ne _ _ hres, b.featureCommitted_others ho]
  case offered =>
    have hgood : ¬ b.overAccepts = true := by
      rw [b.overAccepts_iff]
      rintro ⟨w, hw, i, hacc, hoff⟩
      exact absurd (hall w hw i hacc) (by simp [hoff])
    rw [if_neg hgood] at hdecides
    refine ⟨_, State.odSet_done hb hp hdecides, State.rd_wr_self _ _ _, hfollow _, fun w hw => ?_, fun o ho hres => ?_⟩
    · rw [State.rd_wr_ne _ _ (by omega), b.featureCommitted_active hw, if_neg hgood]
    · rw [State.rd_wr_ne _ _ hres]
      by_cases hextra : ∃ w < 4, o = 0x001500 + w
      · obtain ⟨w, hw, rfl⟩ := hextra
        rw [b.featureCommitted_extra hw, if_neg hgood]
      · exact b.featureCommitted_others fun w hw => ⟨ho w hw, fun heq => hextra ⟨w, hw, heq⟩⟩

end Sys2Proof.Machine
end

section
/-!
PROOFS. OD messages on their four routes, and the values that go to flash (R319, R328 to R331, R337): what becomes of a message that arrives, the mailbox,
the reassembly of the service channel, and the statement about them.
-/
namespace Sys2Proof.Machine

/-- A message of right form has a header, and the length that it gives (R335, check 1). -/
theorem odFormOk_length {l : List Byte} (h : odFormOk l = true) : 16 ≤ l.length ∧ l.length = odLength l := by
  simp only [odFormOk, Bool.and_eq_true, decide_eq_true_eq] at h
  obtain ⟨⟨⟨⟨⟨hheader, hlength⟩, -⟩, -⟩, -⟩, -⟩ := h
  exact ⟨hheader, hlength⟩

/-- One of right form and a known operation is executed as an access (R335). -/
theorem not_oddMessage {l : List Byte} {op : OdOp} (h : odFormOk l = true) (hop : opOf (odParse l).op = some op) : oddMessage l = false := by
  simp [oddMessage, h, hop]

/-- An access joins the end of the queue (R322). -/
def State.enqueue (s : State) (q : OdAccessReq) : State := { s with od := { s.od with queue := s.od.queue ++ [q] } }

section
variable {s : State} {l : List Byte}

theorem State.arrive_queues {op : OdOp} (hform : odFormOk l = true) (hop : opOf (odParse l).op = some op) (hroom : s.odHeld < 64) (h : OdHdr) :
    s.arrive h l = s.enqueue ⟨{ h with auth := (odParse l).auth }, op, (odParse l).obj, (odParse l).val⟩ := by
  have hheader := (odFormOk_length hform).1
  simp [State.arrive, Nat.not_lt.mpr hheader, Nat.not_le.mpr hroom, hform, hop, State.enqueue]

/-- A queue of 64 takes no more (R322). -/
theorem State.arrive_full (hheader : 16 ≤ l.length) (hfull : 64 ≤ s.odHeld) (h : OdHdr) :
    s.arrive h l = s.sendResponse h (odHeader (odParse l).op 0 (odParse l).obj 0x0E 0 (odParse l).ctr) := by
  simp [State.arrive, Nat.not_lt.mpr hheader, hfull]

/-- A message that no operation reads waits for the accesses before it (R322). -/
theorem State.arrive_odd_waits (hheader : 16 ≤ l.length) (hodd : oddMessage l = true) (hroom : s.odHeld < 64) (hbusy : s.od.queue ≠ []) (h : OdHdr) :
    s.arrive h l = { s with od := { s.od with odd := s.od.odd ++ [(s.od.queue.length, h, l)] } } := by
  simp only [oddMessage, Bool.or_eq_true, Bool.not_eq_true', Option.isNone_iff_eq_none] at hodd
  have hnone : (if odFormOk l then opOf (odParse l).op else none) = none := by
    rcases hodd with hform | hop
    · simp [hform]
    · simp [hop]
  simp [State.arrive, Nat.not_lt.mpr hheader, Nat.not_le.mpr hroom, hnone, hbusy]

/-- One of wrong form is answered where none is before it (R335, check 1). -/
theorem State.arrive_malformed (hheader : 16 ≤ l.length) (hform : odFormOk l = false) (hroom : s.odHeld < 64) (hidle : s.od.queue = []) (h : OdHdr) :
    s.arrive h l = ({ s with od := { s.od with checked := s.node } }).sendResponse h
      (odHeader (odParse l).op 0 (odParse l).obj 0x0C 0 (odParse l).ctr) := by
  simp [State.arrive, Nat.not_lt.mpr hheader, Nat.not_le.mpr hroom, hform, hidle, State.answerOdd]

end

/-- A whole request frame brings its message (R328). -/
theorem exec_odRequestFrame {s : State} {f : Frame} (hserved : s.odServed = true) (htick : s.ticking = true) (htype : f.type = 0x5)
    (hwhole : frameWhole f = true) (hlen : f.len = f.payload.length) : exec (.odRequestFrame f) s =
      .next (s.arrive ⟨.ring, f.src, f.tag, f.cls, f.flow, s.ownName f.dst != s.node, none⟩ f.payload) :=
  congrArg Host.Outcome.next (if_pos (by simp [hserved, htick, htype, hwhole, hlen]))

/-- Where no element of a list is as asked, none is taken from its front. -/
theorem takeWhile_dropWhile_none {α : Type} {p : α → Bool} {l : List α} (h : ∀ e ∈ l, p e = false) : l.takeWhile p = [] ∧ l.dropWhile p = l := by
  cases l with
  | nil => exact ⟨rfl, rfl⟩
  | cons e l =>
    have he := h e List.mem_cons_self
    exact ⟨by rw [List.takeWhile_cons, he]; rfl, by rw [List.dropWhile_cons, he]; rfl⟩

/-- Where an access is first in the queue, no message that no operation reads is answered (R322). -/
theorem State.answerFirst_none {s : State} (h : ∀ e ∈ s.od.odd, 0 < e.1) : s.answerFirst = s := by
  obtain ⟨htake, hdrop⟩ := takeWhile_dropWhile_none (p := fun e : Nat × OdHdr × List Byte => decide (e.1 = 0)) (l := s.od.odd)
    (fun e he => decide_eq_false (Nat.ne_of_gt (h e he)))
  rw [State.answerFirst, htake, hdrop]
  rfl

/-- Then only the mailbox is looked at after an access. -/
theorem State.takeMail_slots {s : State} (h : ∀ e ∈ s.od.odd, 0 < e.1) (n : Nat) : s.takeMail n = s.takeSlots n := by
  rw [State.takeMail, State.answerFirst_none h]

/-- An empty request ring has nothing to take (R329). -/
theorem State.takeSlots_empty {s : State} (h : s.od.reqRp = s.od.reqWp) (n : Nat) : s.takeSlots n = s := by
  cases n with
  | zero => rfl
  | succ n => simp [State.takeSlots, h]

/-- The transaction tag in a request slot (R329). -/
def State.slotTag (s : State) (k : Nat) : Nat := beField (memRead s.od.reqMem (0x1000 * k) 2) 0 2

/-- Every request slot of the ring taken (R329). -/
def State.ringTaken (s : State) : State := { s with od := { s.od with reqRp := s.od.reqWp } }

/-- One request in the ring, with a response slot free and room in the queue, is taken (R329). -/
theorem State.takeSlots_one {s : State} {l : List Byte} {op : OdOp} (hone : s.od.reqWp = (s.od.reqRp + 1) % 16)
    (hl : l = s.slotMessage (s.od.reqRp % 8)) (hform : odFormOk l = true) (hop : opOf (odParse l).op = some op)
    (hroom : s.odHeld < 64) (hslot : (s.od.rspWp + 16 - s.od.rspRp) % 16 + s.windowQueued < 8) (n : Nat) :
    s.takeSlots (n + 1) = s.ringTaken.enqueue
      ⟨⟨.window, 0, s.slotTag (s.od.reqRp % 8), 0, 0, false, (odParse l).auth⟩, op, (odParse l).obj, (odParse l).val⟩ := by
  have hne : s.od.reqRp ≠ s.od.reqWp := by omega
  have hnow : s.answeredNow l = false := by simp [State.answeredNow, not_oddMessage hform hop, hroom]
  have hroom' : s.ringTaken.odHeld < 64 := hroom
  rw [State.takeSlots, ← hl, if_neg (by simp [hne, hnow, hslot]), ← hone]
  change (s.ringTaken.arrive _ l).takeSlots n = _
  rw [State.arrive_queues hform hop hroom', State.takeSlots_empty rfl]
  rfl

/-- The pointers of the mailbox as the host moves them (R329). -/
def State.reqMoved (s : State) (w : Nat) : State := { s with od := { s.od with reqWp := w % 16 } }

/-- See `State.reqMoved`. -/
def State.rspMoved (s : State) (w : Nat) : State := { s with od := { s.od with rspRp := w % 16 } }

/-- The host moves REQ_WP within the ring (R329). -/
theorem exec_mailboxRequest {s : State} {w : Nat} (hserved : s.odServed = true) (hreach : s.hostReaches = true)
    (hfit : (w % 16 + 16 - s.od.reqRp) % 16 ≤ 8) :
    exec (.mailboxRequest w) s = .next ((s.reqMoved w).takeMail 8) := by
  refine congrArg Host.Outcome.next ((if_pos hreach).trans ?_)
  simp [State.mailRequest, State.reqMoved, hserved, Nat.not_lt.mpr hfit]

/-- A move past the slots in use is flagged, and moves nothing (R329). -/
theorem exec_mailboxRequest_past {s : State} {w : Nat} (hserved : s.odServed = true) (hreach : s.hostReaches = true)
    (hpast : 8 < (w % 16 + 16 - s.od.reqRp) % 16) : exec (.mailboxRequest w) s = .next { s with od := { s.od with ptrErr := true } } := by
  refine congrArg Host.Outcome.next ((if_pos hreach).trans ?_)
  simp [State.mailRequest, hserved, hpast]

/-- The host moves RSP_RP (R329). -/
theorem exec_mailboxResponseRelease {s : State} (hserved : s.odServed = true) (hreach : s.hostReaches = true) (w : Nat) :
    exec (.mailboxResponseRelease w) s = .next (if (s.od.rspWp + 16 - s.od.rspRp) % 16 < (w % 16 + 16 - s.od.rspRp) % 16
      then { s with od := { s.od with ptrErr := true } } else (s.rspMoved w).takeMail 8) :=
  congrArg Host.Outcome.next ((if_pos hreach).trans (if_pos hserved))

theorem exec_clearMailboxError {s : State} (hserved : s.odServed = true) (hreach : s.hostReaches = true) :
    exec .clearMailboxError s = .next { s with od := { s.od with ptrErr := false } } :=
  congrArg Host.Outcome.next ((if_pos hreach).trans (if_pos hserved))

/-- A datagram to the OD port, over a version of IP that is on (R330, R342). -/
theorem exec_odDatagram {s : State} {peer : Nat} (hserved : s.odServed = true) (hip : s.ipOn peer = true) (l : List Byte) :
    exec (.odDatagram ⟨s.rd 0x003000, peer⟩ l) s = .next (if l.length < 20 || (l.drop 4).length != odLength (l.drop 4) then s.inc 0x003006
      else s.arrive ⟨.udp, peer, beField l 0 2, 0, 0, false, none⟩ (l.drop 4)) :=
  congrArg Host.Outcome.next (if_pos (by simp [hserved, hip]))

/-- Any other does not arrive. -/
theorem exec_odDatagram_elsewhere {s : State} {port peer : Nat} (h : s.ipOn peer = false ∨ port ≠ s.rd 0x003000) (l : List Byte) :
    exec (.odDatagram ⟨port, peer⟩ l) s = .next s := by
  refine congrArg Host.Outcome.next (if_neg ?_)
  rcases h with hip | hport
  · simp [hip]
  · simp [hport]

@[simp] theorem State.raise_od (s : State) (i : Island) (cls reason tag : Nat) : (s.raise i cls reason tag).od = s.od := by
  obtain ⟨_, _, _, hframe⟩ := s.raise_frame i cls reason tag
  rw [hframe]

@[simp] theorem State.inc_od (s : State) (o : Nat) : (s.inc o).od = s.od := by
  obtain ⟨_, _, hframe⟩ := s.addTo_frame o 1
  rw [State.inc, hframe]

theorem State.validReceived_od (s : State) (n : Nat) : (s.validReceived n).od = s.od := by
  unfold State.validReceived
  dsimp only
  split <;> rfl

/-- A reassembly abandoned leaves the OD service with none (R331). -/
theorem State.dropAssembly_od (s : State) : s.dropAssembly.od = { s.od with asm := none } := by
  unfold State.dropAssembly
  split
  · rw [State.odJournal, State.raise_od]
  next hnone =>
    rw [Bool.not_eq_true, Option.isSome_eq_false_iff, Option.isNone_iff_eq_none] at hnone
    rw [← hnone]

/-- A frame of the service channel as it is counted (R331). -/
def State.serviceCounted (s : State) : State := (s.validReceived 0).inc (busObj 0 1 4)

theorem State.serviceCounted_od (s : State) : s.serviceCounted.od = s.od := by rw [State.serviceCounted, State.inc_od, State.validReceived_od]

/-- A reassembly goes on with `b`, the first byte of its last frame so far, and the bytes collected (R331). -/
def State.reassembling (s : State) (b : Nat) (l : List Byte) : State := { s with od := { s.od with asm := some ((b + 1) % 64, l) } }

section
variable {s : State} {f : CanFrame} {b : Nat} (hserved : s.odServed = true) (hstores : s.storesFrames 0 = true) (hrequest : s.serviceRequest f = true)
  (hb : b = beField f.data 0 1) (hlast : b.testBit 7 = false)
include hserved hstores hrequest hb hlast

/-- A first frame begins a reassembly, and abandons one that is under way (R331). -/
theorem State.serviceFrame_begins (hfirst : b.testBit 6 = true) :
    s.serviceFrame f = s.serviceCounted.dropAssembly.reassembling b (f.data.drop 1) := by
  subst hb
  simp [State.serviceFrame, hserved, hstores, hrequest, bit, hlast, hfirst, State.serviceCounted, State.reassembling]

/-- The next one in order continues it, one out of order abandons it (R331). -/
theorem State.serviceFrame_continues {k : Nat} {l : List Byte} (hfirst : b.testBit 6 = false) (hasm : s.od.asm = some (k, l)) : s.serviceFrame f =
    if b % 64 = k then s.serviceCounted.reassembling b (l ++ f.data.drop 1) else s.serviceCounted.dropAssembly := by
  subst hb
  simp [State.serviceFrame, hserved, hstores, hrequest, bit, hlast, hfirst, State.validReceived_od, hasm, State.serviceCounted, State.reassembling]

end

/-- A pending number goes into the active copy of the store (R319, R430). -/
theorem State.storeOne_number {s : State} {o : Nat} {v : List Byte} {r : ObjRow} (hv : mfind s.stores o = some v) (hr : objRow o = some r)
    (hbytes : r.type.isBytes = false) : s.storeOne o = { s with
      stores := merase s.stores o
      flash := minsert s.flash o (beNat v)
      update := { s.update with storeVer := if s.update.storeVer = 0 then s.odVersion else s.update.storeVer } } := by
  simp [State.storeOne, hv, hr, hbytes]

/-- Where nothing is pending, nothing is stored. -/
theorem State.storeOne_nothing {s : State} {o : Nat} (hv : mfind s.stores o = none) : s.storeOne o = s := by simp [State.storeOne, hv]

theorem State.storeOne_setStores (s : State) (o : Nat) : (s.storeOne o).update.setStores = s.update.setStores := by
  unfold State.storeOne
  split
  · dsimp only
    split <;> rfl
  · rfl

/-- The other values, pending and stored, stay. -/
theorem State.storeOne_other (s : State) {o p : Nat} (h : p ≠ o) :
    mfind (s.storeOne o).stores p = mfind s.stores p ∧ mfind (s.storeOne o).flash p = mfind s.flash p := by
  have herased : mfind (merase s.stores o) p = mfind s.stores p := by rw [mfind_merase, if_neg h]
  unfold State.storeOne
  split
  · dsimp only
    split
    · exact ⟨herased, rfl⟩
    · exact ⟨herased, by rw [mfind_minsert, if_neg h]⟩
  · exact ⟨rfl, rfl⟩

/-- A value is pending no more, and one of a number is in flash. -/
def State.inFlash (s : State) (o : Nat) (v : List Byte) (r : ObjRow) : Prop :=
  mfind s.stores o = none ∧ (r.type.isBytes = false → mfind s.flash o = some (beNat v))

theorem State.storeOne_stores {s : State} {o : Nat} {v : List Byte} {r : ObjRow} (hv : mfind s.stores o = some v) (hr : objRow o = some r) :
    (s.storeOne o).inFlash o v r := by
  have herased : mfind (merase s.stores o) o = none := by rw [mfind_merase, if_pos rfl]
  cases hbytes : r.type.isBytes
  case false =>
    rw [State.storeOne_number hv hr hbytes]
    exact ⟨herased, fun _ => by rw [mfind_minsert, if_pos rfl]⟩
  case true =>
    refine ⟨?_, fun h => absurd hbytes (by simp [h])⟩
    simpa [State.storeOne, hv, hr, hbytes] using herased

/-- A stored value stays so whatever is stored after it. -/
theorem State.storeOne_inFlash {s : State} {p : Nat} {v : List Byte} {r : ObjRow} (h : s.inFlash p v r) (o : Nat) : (s.storeOne o).inFlash p v r := by
  by_cases hp : p = o
  · rw [← hp, State.storeOne_nothing h.1]
    exact h
  · obtain ⟨hstores, hflash⟩ := s.storeOne_other hp
    rw [State.inFlash, hstores, hflash]
    exact h

/-- Values stored one after the other: those of the list, and those that were so before (R437). -/
theorem State.foldl_storeOne {p : Nat} {v : List Byte} {r : ObjRow} (hr : objRow p = some r) (l : List Nat) (s : State)
    (h : s.inFlash p v r ∨ (p ∈ l ∧ mfind s.stores p = some v)) : (l.foldl State.storeOne s).inFlash p v r := by
  induction l generalizing s with
  | nil => exact h.resolve_right (fun hmem => List.not_mem_nil hmem.1)
  | cons o l ih =>
    refine ih _ ?_
    rcases h with hstored | ⟨hmem, hv⟩
    · exact .inl (State.storeOne_inFlash hstored o)
    by_cases hp : p = o
    · subst hp
      exact .inl (State.storeOne_stores hv hr)
    · exact .inr ⟨(List.mem_cons.mp hmem).resolve_left hp, (s.storeOne_other hp).1.trans hv⟩

/-- A store outside brace (R319, R420): of one value, or of all that wait from its configuration set (R437). -/
theorem exec_flashStore {s : State} (hserved : s.odServed = true) (hbrace : s.inBrace = false) (o : Nat) : exec (.flashStore o) s =
    .next (if s.update.setStores.contains o then
      s.update.setStores.foldl State.storeOne { s with update := { s.update with setStores := [] } } else s.storeOne o) :=
  congrArg Host.Outcome.next (if_pos (by simp [hserved, hbrace]))

/-- Settles O48: `State.arrive` says what becomes of a message on every route, and `State.foldl_storeOne` what a store does. -/
theorem odMessagesArrive : Obligations.OdMessagesArrive := by
  unfold Obligations.OdMessagesArrive
  intro s hserved
  refine ⟨?frame, ?odd, ?request, fun w hreach => exec_mailboxRequest_past hserved hreach, ?release, exec_clearMailboxError hserved, ?datagram, ?service,
    ?noReassembly, ?timeout, ?flash⟩
  case frame =>
    intro f m op htick htype hwhole hlen hform hm hop
    subst hm
    rw [exec_odRequestFrame hserved htick htype hwhole hlen]
    refine ⟨fun hroom => ?_, fun hfull => ?_⟩
    · rw [State.arrive_queues hform hop hroom]
      rfl
    · rw [State.arrive_full (odFormOk_length hform).1 hfull]
  case odd =>
    intro f htick htype hwhole hlen hheader hodd hroom
    rw [exec_odRequestFrame hserved htick htype hwhole hlen]
    refine ⟨fun hbusy => ?_, fun hidle hform => ?_⟩
    · rw [State.arrive_odd_waits hheader hodd hroom hbusy]
    · rw [State.arrive_malformed hheader hform hroom hidle]
  case request =>
    intro w l m op hreach hptr hw hl hform hm hop hroom hfirst hslot
    subst hm
    have hmod : w % 16 = w := by omega
    rw [exec_mailboxRequest hserved hreach (by omega), State.takeMail_slots (s := s.reqMoved w) hfirst]
    rw [State.takeSlots_one (s := s.reqMoved w) (hmod.trans hw) hl hform hop hroom hslot 7, State.reqMoved, hmod]
    rfl
  case release =>
    intro w hreach
    rw [exec_mailboxResponseRelease hserved hreach]
    refine ⟨fun hpast => by rw [if_pos hpast], fun hfit hempty hfirst => ?_⟩
    rw [if_neg (Nat.not_lt.mpr hfit), State.takeMail_slots (s := s.rspMoved w) hfirst, State.takeSlots_empty (s := s.rspMoved w) hempty]
    rfl
  case datagram =>
    intro port peer l
    refine ⟨fun h => exec_odDatagram_elsewhere h l, fun hip hport hlen => ?_, fun op hip hport hlen hform hop hroom => ?_⟩
    · rw [hport, exec_odDatagram hserved hip, if_pos (by simpa using hlen)]
    · have hgood : ¬ (l.length < 20 || (l.drop 4).length != odLength (l.drop 4)) = true := by
        have hexact := (odFormOk_length hform).2
        simp [hexact, hlen]
      rw [hport, exec_odDatagram hserved hip, if_neg hgood, State.arrive_queues hform hop hroom]
      rfl
  case service =>
    intro f b hstores hrequest hb hlast
    refine ⟨fun hfirst => ⟨_, rfl, ?_⟩, fun k l hfirst hasm => ⟨_, rfl, ?_⟩⟩
    · rw [State.serviceFrame_begins hserved hstores hrequest hb hlast hfirst]
      exact ⟨rfl, by rw [State.reassembling, State.dropAssembly_od, State.serviceCounted_od]⟩
    · rw [State.serviceFrame_continues hserved hstores hrequest hb hlast hfirst hasm]
      split
      · exact ⟨by rw [State.reassembling, State.serviceCounted_od], rfl⟩
      · rw [State.dropAssembly_od, State.serviceCounted_od]
        exact ⟨rfl, rfl⟩
  case noReassembly =>
    intro hasm
    refine congrArg Host.Outcome.next ((if_pos hserved).trans ?_)
    simp [State.dropAssembly, hasm]
  case timeout => exact fun hasm => congrArg Host.Outcome.next ((if_pos hserved).trans (if_pos (Option.isSome_iff_ne_none.mpr hasm)))
  case flash =>
    intro o v r hv hr
    refine ⟨fun hbrace => congrArg Host.Outcome.next (if_neg (by simp [hbrace])), fun hbrace hset hbytes => ?_, fun hbrace hset => ?_⟩
    · rw [exec_flashStore hserved hbrace, if_neg (by simpa using hset), State.storeOne_number hv hr hbytes]
    · refine ⟨_, (exec_flashStore hserved hbrace o).trans (by rw [if_pos (by simpa using hset)]), ?_, fun p hp x q hx hq => ?_⟩
      · exact State.foldl_keeps (·.update.setStores) State.storeOne_setStores _ _
      · exact State.foldl_storeOne hq _ _ (.inr ⟨hp, hx⟩)

end Sys2Proof.Machine
end

section
/-!
PROOFS. The state after reset (R318, R406, R407, R453): registers at their defaults, memories and buffers empty.
-/
namespace Sys2Proof.Machine

/-- Nothing is written after reset: every register reads its default (R318). -/
@[simp] theorem State.rd_reset (o : Nat) : State.reset.rd o = objDefault o := rfl

@[simp] theorem State.rdB_reset (o : Nat) : State.reset.rdB o = blobDefault o := rfl

/-- The reset values that the object tables of sleep and of firmware updates give (R406, R453). -/
theorem objDefault_sleepAndTrial : objDefault 0xB00004 = 8 ∧ objDefault 0xB00005 = 16 ∧ objDefault 0xB00006 = 8 ∧ objDefault 0xC03002 = 60 ∧
    objDefault 0xB01003 = 0 := by decide +kernel

/-- No journal record has been written, so none is unread (R462). -/
theorem journalOk_reset : journalOk State.reset = true := by decide +kernel

/-- No part of the hub is isolated (R446). -/
theorem State.anyIsolated_reset : State.reset.anyIsolated = false := by decide +kernel

/-- Settles O56: the registers read their defaults, and what is empty meets the invariants. -/
theorem resetReadsDefaults : Obligations.ResetReadsDefaults := by
  unfold Obligations.ResetReadsDefaults
  obtain ⟨hflag, hwindow, hlead, htrial, hwake⟩ := objDefault_sleepAndTrial
  obtain ⟨hinput, houtput⟩ := State.reset_images_wf
  have himages : imagesOk State.reset = true := by
    rw [Image.wf, Bool.and_eq_true] at hinput houtput
    simp [imagesOk, hinput, houtput]
  exact ⟨rfl, State.rd_reset, State.rdB_reset, hflag, hwindow, hlead, htrial, hwake, State.anyIsolated_reset, rfl, himages, rfl, journalOk_reset, rfl⟩

end Sys2Proof.Machine
end

section
/-!
PROOFS. Power channels (R371 to R389): what a gate that turns off writes, and the statements about the events and the commands of a channel.
-/
namespace Sys2Proof.Machine

/-! What a channel that turns off writes. -/

/-- The gate of a channel writes its fault code, its retry count, its count of faults and its run state, and no other register. -/
theorem State.rd_gateOff (s : State) {c code o : Nat} (h : ∀ sub ∈ [0, 1, 2, 8], o ≠ chanObj c 1 sub) : (s.gateOff c code).rd o = s.rd o := by
  simp only [List.mem_cons, List.not_mem_nil, or_false, forall_eq_or_imp, forall_eq] at h
  obtain ⟨hrun, hcode, hretry, hfaults⟩ := h
  unfold State.gateOff
  split
  · rw [State.rd_wr_ne _ _ hrun]
    change State.rd (State.inc _ _) _ = _
    rw [State.rd_inc_ne _ hfaults, State.rd_inc_ne _ hretry, State.rd_wr_ne _ _ hcode]
    rfl
  · rw [State.rd_wr_ne _ _ hrun, State.rd_wr_ne _ _ hcode]
    rfl

theorem State.rd_chanJournal (s : State) (c code : Nat) {o : Nat} (h : o < 0xD00000) (ha : o ≠ 0xA00210) : (s.chanJournal c code).rd o = s.rd o :=
  s.rd_raise _ _ _ _ h ha

/-- A channel that turns off leaves the registers of the other channels. -/
theorem State.rd_chanOff_other (s : State) {c d code sub : Nat} (hd : d < 9) (hne : d ≠ c) (hsub : sub < 256) :
    (s.chanOff c code).rd (chanObj d 1 sub) = s.rd (chanObj d 1 sub) := by
  unfold State.chanOff
  split
  · rw [State.rd_chanJournal _ _ _ (by simp only [chanObj]; omega) (by simp only [chanObj]; omega), State.rd_gateOff]
    intro sub' hsub'
    have : sub' < 256 := by simp only [List.mem_cons, List.not_mem_nil, or_false] at hsub'; omega
    simp only [chanObj]; omega
  · rfl

/-- What the islands hold of a channel whose gate turns off: power-good is withdrawn, and a fault of the retry policy starts its retry timer (R379, R382). -/
theorem State.gateOff_power (s : State) (c code : Nat) : (s.gateOff c code).power =
    { s.power with
      pg := setBit s.power.pg c false
      retry := if countingFault code then setBit s.power.retry c true else s.power.retry
      retryMs := if countingFault code then minsert s.power.retryMs c (s.pwrParam (chanObj c 0 0xC)) else s.power.retryMs } := by
  unfold State.gateOff
  split
  next h =>
    simp
  next h => simp

/-- Power-good of the channels after one of them turned off, if it was on. -/
theorem State.pg_chanOff (s : State) (c code k : Nat) :
    (s.chanOff c code).power.pg.testBit k = (s.power.pg.testBit k && !(s.gateOn c && decide (k = c))) := by
  unfold State.chanOff
  split
  next h => simp [State.chanJournal, State.gateOff_power, testBit_setBit, h]; by_cases k = c <;> simp [*]
  next h => simp [h]

/-- A count that goes up by one depends on its register and the next free value only. -/
theorem State.rd_inc_congr {s t : State} {o : Nat} (hr : t.rd o = s.rd o) (hf : t.free = s.free) : (t.inc o).rd o = (s.inc o).rd o := by
  simp only [State.inc, State.addTo, hr, State.freeNat, hf]
  split <;> exact (State.rd_wr_self _ _ _).trans (State.rd_wr_self _ _ _).symm

theorem State.pwrParam_congr {s t : State} {o : Nat} (hc : t.power.copy = s.power.copy) (hl : t.power.copyLost = s.power.copyLost)
    (hr : t.rd o = s.rd o) : t.pwrParam o = s.pwrParam o := by rw [State.pwrParam, hc, hl, hr]; rfl

/-- What the retry policy makes of a fault that is counted now (R382). -/
def State.retryNext (s : State) (c : Nat) : Nat :=
  if s.pwrParam (chanObj c 0 0xA) = 0 then 6
  else if s.pwrParam (chanObj c 0 0xA) = 1 ∧ s.pwrParam (chanObj c 0 0xB) < (s.inc (chanObj c 1 2)).rd (chanObj c 1 2) then 6
  else 5

theorem State.retryState_eq (s : State) (c : Nat) : s.retryState c =
    if s.pwrParam (chanObj c 0 0xA) = 0 then 6
    else if s.pwrParam (chanObj c 0 0xA) = 1 ∧ s.pwrParam (chanObj c 0 0xB) < s.rd (chanObj c 1 2) then 6 else 5 := by
  unfold State.retryState
  split <;> simp_all

/-- A gate turns off with a fault code, which is kept (R381). -/
def State.gateFaulted (s : State) (c code : Nat) : State :=
  ({ s with power := { s.power with pg := setBit s.power.pg c false } }).wr (chanObj c 1 1) code

theorem State.rd_gateFaulted_ne (s : State) {c code o : Nat} (h : o ≠ chanObj c 1 1) : (s.gateFaulted c code).rd o = s.rd o := State.rd_wr_ne _ _ h

/-- The fault is counted, and the retry timer starts (R382). -/
def State.retryBegun (s : State) (c delay : Nat) : State :=
  let t := (s.inc (chanObj c 1 2)).inc (chanObj c 1 8)
  { t with power := { t.power with retry := setBit t.power.retry c true, retryMs := minsert t.power.retryMs c delay } }

theorem State.gateOff_eq (s : State) {c code : Nat} (h : countingFault code = true) : s.gateOff c code =
    ((s.gateFaulted c code).retryBegun c (s.pwrParam (chanObj c 0 0xC))).wr (chanObj c 1 0)
      (((s.gateFaulted c code).retryBegun c (s.pwrParam (chanObj c 0 0xC))).retryState c) := if_pos h

theorem State.rd_retryBegun (s : State) {c delay o : Nat} (h : o ≠ chanObj c 1 8) : (s.retryBegun c delay).rd o = (s.inc (chanObj c 1 2)).rd o :=
  State.rd_inc_ne _ h

theorem chanObj_ne {c grp grp' sub sub' : Nat} (hs : sub < 256) (hs' : sub' < 256) (h : grp ≠ grp' ∨ sub ≠ sub') :
    chanObj c grp sub ≠ chanObj c grp' sub' := by simp only [chanObj]; omega

/-- The parameters of a channel as its fault is counted. -/
theorem State.pwrParam_retryBegun (s : State) (c code delay : Nat) {sub : Nat} (h : sub < 256) :
    ((s.gateFaulted c code).retryBegun c delay).pwrParam (chanObj c 0 sub) = s.pwrParam (chanObj c 0 sub) := by
  have hne {sub' : Nat} (h' : sub' < 256) : chanObj c 0 sub ≠ chanObj c 1 sub' := chanObj_ne h h' (.inl (by decide))
  refine State.pwrParam_congr (by simp [State.retryBegun, State.gateFaulted]) (by simp [State.retryBegun, State.gateFaulted]) ?_
  rw [State.rd_retryBegun _ (hne (by decide)), State.rd_inc_ne _ (hne (by decide)), State.rd_gateFaulted_ne _ (hne (by decide))]

/-- A gate that turns off with a fault of the retry policy: its fault code and its run state (R381, R382). -/
theorem State.gateOff_counting (s : State) {c code : Nat} (h : countingFault code = true) :
    (s.gateOff c code).rd (chanObj c 1 1) = code ∧ (s.gateOff c code).rd (chanObj c 1 0) = s.retryNext c := by
  have hne {i j : Nat} (hi : i < 256) (hj : j < 256) (hij : i ≠ j) : chanObj c 1 i ≠ chanObj c 1 j := chanObj_ne hi hj (.inr hij)
  rw [State.gateOff_eq s h, State.rd_wr_ne _ _ (hne (by decide) (by decide) (by decide)), State.rd_wr_self]
  constructor
  · rw [State.rd_retryBegun _ (hne (by decide) (by decide) (by decide)), State.rd_inc_ne _ (hne (by decide) (by decide) (by decide)),
      State.gateFaulted, State.rd_wr_self]
  · have hcount : ((s.gateFaulted c code).retryBegun c (s.pwrParam (chanObj c 0 0xC))).rd (chanObj c 1 2) = (s.inc (chanObj c 1 2)).rd (chanObj c 1 2) := by
      rw [State.rd_retryBegun _ (hne (by decide) (by decide) (by decide))]
      exact State.rd_inc_congr (State.rd_gateFaulted_ne s (hne (by decide) (by decide) (by decide))) rfl
    rw [State.retryState_eq, State.pwrParam_retryBegun _ _ _ _ (by decide), State.pwrParam_retryBegun _ _ _ _ (by decide), hcount, State.retryNext]

/-- A channel that turns off with a fault of the retry policy. -/
theorem State.chanOff_counting {s : State} {c code : Nat} (hc : c < 9) (hon : s.gateOn c = true) (h : countingFault code = true) :
    (s.chanOff c code).rd (chanObj c 1 1) = code ∧ (s.chanOff c code).chanRun c = s.retryNext c := by
  obtain ⟨hcode, hrun⟩ := s.gateOff_counting (c := c) h
  rw [State.chanOff, if_pos hon, State.chanRun]
  rw [State.rd_chanJournal _ _ _ (by simp only [chanObj]; omega) (by simp only [chanObj]; omega),
    State.rd_chanJournal _ _ _ (by simp only [chanObj]; omega) (by simp only [chanObj]; omega)]
  exact ⟨hcode, hrun⟩

theorem State.gateOn_chanOff_other (s : State) {c d code : Nat} (hd : d < 9) (hne : d ≠ c) : (s.chanOff c code).gateOn d = s.gateOn d :=
  State.gateOn_congr (s.rd_chanOff_other hd hne (by decide))

/-- The retry timers that run stay so as a channel turns off. -/
theorem State.retry_chanOff {s : State} {k : Nat} (c code : Nat) (h : s.power.retry.testBit k = true) : (s.chanOff c code).power.retry.testBit k = true := by
  unfold State.chanOff
  split
  · simp only [State.chanJournal, State.raise_power, State.gateOff_power]
    split
    · exact testBit_setBit_true c h
    · exact h
  · exact h

theorem State.retry_foldl_chanOff {s : State} {k : Nat} (l : List Nat) (code : Nat) (h : s.power.retry.testBit k = true) :
    (l.foldl (fun t c => t.chanOff c code) s).power.retry.testBit k = true := by
  induction l generalizing s with
  | nil => exact h
  | cons c l ih => exact ih (State.retry_chanOff c code h)

/-- Of the channels of a list that turn off, those that were on lose power-good; what is off stays so. -/
theorem State.pg_foldl_chanOff (s : State) (l : List Nat) (code : Nat) {k : Nat} (hk : k < 9) (h : s.power.pg.testBit k = false ∨ s.gateOn k = true ∧ k ∈ l) :
    (l.foldl (fun t c => t.chanOff c code) s).power.pg.testBit k = false := by
  induction l generalizing s with
  | nil => simpa using h
  | cons c l ih =>
    refine ih _ ?_
    rw [State.pg_chanOff]
    rcases h with h | ⟨hon, hmem⟩
    · exact .inl (by simp [h])
    by_cases hkc : k = c
    · subst hkc; exact .inl (by simp [hon])
    · refine .inr ⟨by rw [State.gateOn_chanOff_other s hk hkc, hon], ?_⟩
      simpa [hkc] using hmem

/-- What a fault of the retry policy leaves of a channel that was on, and with the inlet of every e-fuse (R379 to R382, R386). -/
theorem State.powerOff_counting {s : State} {c code : Nat} (hc : c < 9) (hon : s.gateOn c = true) (h : countingFault code = true) :
    (s.powerOff c code).power.pg.testBit c = false ∧ (s.powerOff c code).power.retry.testBit c = true ∧
      (c = 8 → ∀ k < 8, s.gateOn k = true → (s.powerOff c code).power.pg.testBit k = false) ∧
      (c ≠ 8 → (s.powerOff c code).rd (chanObj c 1 1) = code ∧ (s.powerOff c code).chanRun c = s.retryNext c) := by
  have hpg : (s.chanOff c code).power.pg.testBit c = false := by simp [State.pg_chanOff, hon]
  have hretry : (s.chanOff c code).power.retry.testBit c = true := by
    simp [State.chanOff, hon, State.chanJournal, State.gateOff_power, h]
  by_cases h8 : c = 8
  · subst h8
    have heq : s.powerOff 8 code = (s.chanOff 8 code).fusesOff.startCpr 0x08 := by simp [State.powerOff, hon]
    obtain ⟨copy, hpower⟩ := (s.chanOff 8 code).fusesOff.startCpr_power 0x08
    rw [heq, hpower]
    dsimp only [State.fusesOff]
    refine ⟨State.pg_foldl_chanOff _ _ 0x0A (by decide) (.inl hpg), State.retry_foldl_chanOff _ 0x0A hretry, fun _ k hk hkon => ?_,
      fun hne => absurd rfl hne⟩
    exact State.pg_foldl_chanOff _ _ 0x0A (by omega)
      (.inr ⟨by rw [State.gateOn_chanOff_other s (by omega) (by omega), hkon], by simpa using hk⟩)
  · have heq : s.powerOff c code = s.chanOff c code := by simp [State.powerOff, hon, h8]
    rw [heq]
    exact ⟨hpg, hretry, fun h => absurd h h8, fun _ => State.chanOff_counting hc hon h⟩

/-! The events of a channel. -/

/-- The instruction of a fault that enters the retry policy, and the fault's code (R373 to R375, R381). -/
theorem State.exec_fault {s : State} {c : Fin 9} {i : Instr} {code : Nat} (hp : s.powered = true)
    (h : (i = .startTimeout c ∧ code = 4 ∧ s.chanRun c.val = 2) ∨ (i = .faultTimerTrip c ∧ code = 1 ∧ s.chanRun c.val = 4) ∨
        (∃ temp, i = .thermalModelTrip c temp ∧ code = 2 ∧ s.gateOn c.val = true ∧ s.pwrParam (chanObj c.val 0 0xE) ≠ 1 ∧
          f32Int (s.pwrParam (chanObj c.val 0 0x14)) ≤ f32Int temp) ∨
        (∃ temp, i = .diodeOverTemperature c temp ∧ code = 3 ∧ c.val < 8 ∧ s.gateOn c.val = true ∧ s.pwrParam (chanObj c.val 0 0xE) ≠ 0 ∧
          f32Int (s.pwrParam (chanObj c.val 0 0x16)) ≤ f32Int temp) ∨
        (i = .gateFault c ∧ code = 5 ∧ (s.chanRun c.val = 3 ∨ s.chanRun c.val = 4))) :
    exec i s = .next (s.powerOff c.val code) ∧ s.gateOn c.val = true ∧ countingFault code = true := by
  have hc := c.isLt
  rcases h with ⟨rfl, rfl, hrun⟩ | ⟨rfl, rfl, hrun⟩ | ⟨temp, rfl, rfl, hon, hsense, htemp⟩ | ⟨temp, rfl, rfl, h8, hon, hsense, htemp⟩ | ⟨rfl, rfl, hrun⟩
  · exact ⟨congrArg Host.Outcome.next (if_pos (by simp [hp, hc, hrun])), by simp [State.gateOn, hrun], rfl⟩
  · exact ⟨congrArg Host.Outcome.next (if_pos (by simp [hp, hc, hrun])), by simp [State.gateOn, hrun], rfl⟩
  · exact ⟨congrArg Host.Outcome.next (if_pos (by simp [hp, hc, hsense, htemp])), hon, rfl⟩
  · exact ⟨congrArg Host.Outcome.next (if_pos (by simp [hp, h8, hsense, htemp])), hon, rfl⟩
  · exact ⟨congrArg Host.Outcome.next (if_pos (by simp [hp, hc, hrun])), by rcases hrun with h | h <;> simp [State.gateOn, h], rfl⟩

/-- What a channel that may start has (R372). -/
theorem State.mayStart_requires {s : State} {c temp vhs : Nat} {conducting : Bool} (h : s.mayStart c temp vhs conducting = true) :
    (c = 8 ∨ s.pwrParam (chanObj c 0 7) = 1 ∨ mfind s.power.cmd c = some true) ∧ s.power.seated = true ∧ s.power.retry.testBit c = false ∧
      (s.chanRun c = 0 ∨ s.chanRun c = 7 ∧ conducting = false) := by
  simp only [State.mayStart, Bool.and_eq_true, Bool.not_eq_true', State.startWanted, State.restState, Bool.or_eq_true, decide_eq_true_eq] at h
  obtain ⟨⟨⟨⟨⟨hwanted, hseated⟩, -⟩, hrest⟩, hretry⟩, -⟩ := h
  exact ⟨or_assoc.mp hwanted, hseated, hretry, hrest⟩

/-- A MOSFET that conducts with its gate off (R385). -/
theorem State.mosfetShort_takes {s : State} {c : Nat} (hp : s.powered = true) (hc : c < 9) (hoff : s.gateOn c = false) (hrun : s.chanRun c ≠ 7) :
    (s.mosfetShort c).chanRun c = 7 ∧ (s.mosfetShort c).rd (chanObj c 1 1) = 6 ∧ (s.mosfetShort c).power.pg.testBit c = false := by
  rw [State.mosfetShort, if_pos (by simp [hp, hc, hoff, hrun])]
  refine ⟨?_, ?_, by simp [State.chanJournal]⟩
  · rw [State.chanRun, State.rd_chanJournal _ _ _ (by simp only [chanObj]; omega) (by simp only [chanObj]; omega), State.rd_wr_self]
  · rw [State.rd_chanJournal _ _ _ (by simp only [chanObj]; omega) (by simp only [chanObj]; omega),
      State.rd_wr_ne _ _ (chanObj_ne (by decide) (by decide) (.inr (by decide))), State.rd_wr_self]

/-- Settles O40, an event of a channel after the other. -/
theorem powerChannelsFollowTheirEvents : Obligations.PowerChannelsFollowTheirEvents := by
  unfold Obligations.PowerChannelsFollowTheirEvents
  intro s c hmode
  have hp := State.powered_of_mode hmode
  have hc := c.isLt
  refine ⟨fun temp vhs conducting => ⟨?start, State.mayStart_requires⟩, fun h => ?complete, fun h => ?counts, fun h => ?zero, fun i code h => ?fault,
    fun h => ?fast, fun hoff hrun => ⟨_, rfl, State.mosfetShort_takes hp hc hoff hrun⟩, fun h => ?good, fun h => ?waits, fun t ht h => ?retry,
    fun hon hpg => ?goodTime⟩
  case fault =>
    obtain ⟨hexec, hon, hcode⟩ := State.exec_fault hp h
    exact ⟨_, hexec, State.powerOff_counting hc hon hcode⟩
  case start => simp [exec, execChannelStart, State.channelStart, hp, hc]
  case waits => exact congrArg Host.Outcome.next (if_neg (by simp [h]))
  case retry => simp [exec, execRetryTimerExpired, State.retryExpired, hp, hc, h, ht]
  all_goals exact congrArg Host.Outcome.next (if_pos (by simp [*]))

/-- Settles O41: each command is judged by its condition. -/
theorem powerCommandsTakeEffect : Obligations.PowerCommandsTakeEffect := by
  unfold Obligations.PowerCommandsTakeEffect
  intro s b h c hb
  refine ⟨fun conducting t hpass ht => ⟨fun hrun hcond => ?shorted, fun hfree => ?cleared⟩, fun hpass => ⟨fun hok => ?on, fun h8 hh hcf => ?onRefused⟩,
    fun t hpass ht => ⟨fun h8 hoff => ?stays, fun h8 hon => ?off, fun h8 hh hcf => ?offRefused⟩⟩
  case shorted => exact State.odSet_errs hb hpass (if_pos (by simp [hrun, hcond])) (by decide) (by decide)
  case cleared => 
    subst ht
    exact State.odSet_done hb hpass (if_neg (by simpa [imp_iff_not_or] using hfree))
  case on => exact State.odSet_done hb hpass (if_pos (by simpa [State.channelCmdOk, or_assoc] using hok))
  case onRefused => exact State.odSet_errs hb hpass (if_neg (by simp [State.channelCmdOk, h8, hh, hcf])) (by decide) (by decide)
  case stays =>
    refine State.odSet_done hb hpass ?_
    have hsame : t.powerOff c.val 0x0B = t := if_neg (by rw [State.gateOn_congr (s := b) (by rw [ht]; rfl), hoff]; decide)
    rw [State.channelOff, if_pos (by simp [State.channelCmdOk, h8]), ← ht, hsame]
  case off =>
    refine State.odSet_done hb hpass ?_
    have hont : t.gateOn c.val = true := by rw [State.gateOn_congr (s := b) (by rw [ht]; rfl), hon]
    rw [State.channelOff, if_pos (by simp [State.channelCmdOk, h8]), ← ht]
    simp only [State.powerOff, State.chanOff, hont, if_true, if_neg h8, State.gateOff]
    rfl
  case offRefused => exact State.odSet_errs hb hpass (if_neg (by simp [State.channelCmdOk, h8, hh, hcf])) (by decide) (by decide)

end Sys2Proof.Machine
end

section
/-!
PROOFS. One step (R424): the command at the front of the queue, the idle tick, and that every command answers a next state.
-/
namespace Sys2Proof.Machine

theorem step_cons {c : Instr} {rest : List Instr} {s : State} (h : s.pending = c :: rest) : step s = exec c { s with pending := rest } := by
  simp [step, h]

theorem step_nil {s : State} (h : s.pending = []) : step s = .next s.idle := by simp [step, h]

/-- Settles O1. -/
theorem stepTakesFront : Obligations.StepTakesFront := fun _ _ _ h => step_cons h

/-- Settles O2: the idle tick is that of the AON island. -/
theorem idleCountsOnly : Obligations.IdleCountsOnly := by
  unfold Obligations.IdleCountsOnly
  intro s hnone
  rw [step_nil hnone]
  exact ⟨fun hpower => congrArg Host.Outcome.next (if_pos (by simp [State.powered, hpower])),
    fun hpower => congrArg Host.Outcome.next (if_neg (by simp [State.powered, hpower]))⟩

/-- Every command answers a next state. -/
theorem exec_next (c : Instr) (s : State) : ∃ t : State, exec c s = .next t := by
  cases c <;> exact ⟨_, rfl⟩

theorem step_next (s : State) : ∃ t : State, step s = .next t := by
  cases h : s.pending with
  | nil => exact ⟨s.idle, step_nil h⟩
  | cons c rest => rw [step_cons h]; exact exec_next c _

/-- Settles O57. -/
theorem everyCommandCompletes : Obligations.EveryCommandCompletes := ⟨exec_next, step_next⟩

end Sys2Proof.Machine
end

section
/-!
PROOFS. Mode requests (R407, R409) and the warm reset command (R416): what a request comes to by the row of the mode table that it names.
-/
namespace Sys2Proof.Machine

theorem State.inBrace_iff (s : State) : s.inBrace = true ↔ s.power.brace.isSome = true := by simp [State.inBrace]

/-- The five commands that write 1.001.00 make the mode request of their code. -/
theorem exec_modeRequest {c : Instr} {code : Nat} {h : OdHdr} (s : State)
    (hc : (c = .modeRequestBringUp h ∧ code = 1) ∨ (c = .modeRequestTest h ∧ code = 2) ∨ (c = .modeRequestConfigure h ∧ code = 3) ∨
      (c = .modeRequestRun h ∧ code = 4) ∨ (c = .modeRequestHold h ∧ code = 6)) :
    exec c s = .next (s.odSet h 0x100100 code (fun t => t.modeRequest code)) := by
  rcases hc with ⟨rfl, rfl⟩ | ⟨rfl, rfl⟩ | ⟨rfl, rfl⟩ | ⟨rfl, rfl⟩ | ⟨rfl, rfl⟩ <;> rfl

/-- The condition under which a request that waits for a boundary is taken (R407): a bank for Run, and for Hold out of Configure. -/
def State.mayRequest (s : State) (code : Nat) : Bool := (code != 4 || s.mayRun) && (code != 6 || s.mode != .configure || s.hasBank)

theorem State.mayRequest_iff (s : State) (code : Nat) : s.mayRequest code = true ↔
    (code = 4 → s.hasBank = true ∨ s.bankState = 4) ∧ (code = 6 → s.mode = .configure → s.hasBank = true) := by
  simp [State.mayRequest, State.mayRun, imp_iff_not_or, or_assoc]

/-- The rows of R407 that change the mode at a cycle boundary, with their conditions. -/
theorem State.modeRow_boundary {s : State} {code : Nat}
    (h : (code = 2 ∧ s.mode = .configure) ∨ (code = 3 ∧ (s.mode = .run ∨ s.mode = .repair ∨ s.mode = .hold)) ∨
      (code = 4 ∧ (s.mode = .configure ∨ s.mode = .hold)) ∨ (code = 6 ∧ (s.mode = .run ∨ s.mode = .repair ∨ s.mode = .configure))) :
    ∃ m : Mode, s.modeRow code = .boundary m (s.mayRequest code) := by
  rcases h with ⟨rfl, hm⟩ | ⟨rfl, hm | hm | hm⟩ | ⟨rfl, hm | hm⟩ | ⟨rfl, hm | hm | hm⟩ <;>
    simp [State.modeRow, State.mayRequest, hm]

theorem State.modeRow_warm {s : State} {code : Nat} (h : code = 1 ∨ code = 3) (hm : s.mode = .test) : s.modeRow code = .warm := by
  rcases h with rfl | rfl <;> simp [State.modeRow, hm]

/-- The requests that no row of R407 names. -/
theorem State.modeRow_none {s : State} {code : Nat}
    (h : (code = 1 ∧ s.mode ≠ .test) ∨ (code = 2 ∧ s.mode ∉ [.bringUp, .configure]) ∨ (code = 3 ∧ (s.mode = .configure ∨ s.mode = .bringUp)) ∨
      (code = 4 ∧ s.mode ∉ [.configure, .hold]) ∨ (code = 6 ∧ s.mode ∉ [.run, .repair, .configure])) : s.modeRow code = .none_ := by
  rcases h with ⟨rfl, hm⟩ | ⟨rfl, hm⟩ | ⟨rfl, hm | hm⟩ | ⟨rfl, hm⟩ | ⟨rfl, hm⟩ <;> simp_all [State.modeRow]

/-! What a request comes to by its row. -/

theorem State.modeRequest_boundary {s : State} {code : Nat} {m : Mode} {holds : Bool} (h : s.modeRow code = .boundary m holds) :
    s.modeRequest code = if s.sleep.back.isSome then refusedRes s 3 else if holds then stagedRes (s.wr 0x100101 code) else refusedRes s 1 := by
  cases holds <;> simp [State.modeRequest, h, State.sleepCommitted]

theorem State.modeRequest_warm {s : State} {code : Nat} (h : s.modeRow code = .warm) :
    s.modeRequest code = if s.power.brace.isSome then refusedRes s 4 else stagedRes (s.wr 0x100101 code) := by
  simp only [State.modeRequest, h]
  rfl

theorem State.modeRequest_none {s : State} {code : Nat} (h : s.modeRow code = .none_) :
    s.modeRequest code = if s.mode = .bringUp ∧ code = 3 ∧ s.rd 0x104001 ≠ 0 then refusedRes s 2 else errRes s 2 := by
  simp [State.modeRequest, h, and_assoc]

/-- Settles O37, a row of the table after the other. -/
theorem modeRequestsFollowTheTable : Obligations.ModeRequestsFollowTheTable := by
  unfold Obligations.ModeRequestsFollowTheTable
  intro s b h hb
  refine ⟨fun c code hc hpass => ?requests, fun hpass => ⟨fun hm => ?service, fun hr hp hbrace => ?brace, fun hr hp hbrace => ?staged⟩⟩
  case requests =>
    rw [exec_modeRequest s hc]
    refine ⟨fun h2 hm => ?test, fun hrow => ⟨fun hsleep => ?asleep, fun hsleep => ?awake⟩, fun hcode hm hbrace => ?warm, fun hcode hm hbrace => ?braced,
      fun hnone => ?none, fun h3 hm herr => ?stopped⟩
    case test =>
      subst h2
      exact State.odSet_done hb hpass (by simp [State.modeRequest, State.modeRow, hm])
    case asleep =>
      obtain ⟨m, hm⟩ := State.modeRow_boundary hrow
      exact State.odSet_refuses hb hpass ((State.modeRequest_boundary hm).trans (if_pos hsleep))
    case awake =>
      obtain ⟨m, hm⟩ := State.modeRow_boundary hrow
      have heq : b.modeRequest code = if b.mayRequest code then stagedRes (b.wr 0x100101 code) else refusedRes b 1 :=
        (State.modeRequest_boundary hm).trans (if_neg (by simp [hsleep]))
      split
      next hmay => exact State.odSet_staged hb hpass (heq.trans (if_pos ((b.mayRequest_iff code).mpr hmay)))
      next hmay => exact State.odSet_refuses hb hpass (heq.trans (if_neg (fun h => hmay ((b.mayRequest_iff code).mp h))))
    case warm =>
      exact State.odSet_staged hb hpass ((State.modeRequest_warm (State.modeRow_warm hcode hm)).trans (if_neg (by simp [hbrace])))
    case braced =>
      exact State.odSet_refuses hb hpass ((State.modeRequest_warm (State.modeRow_warm hcode hm)).trans (if_pos hbrace))
    case none =>
      have hrow : b.modeRow code = .none_ := State.modeRow_none (by tauto)
      have hrun : ¬ (b.mode = .bringUp ∧ code = 3 ∧ b.rd 0x104001 ≠ 0) := by
        rintro ⟨hm, rfl, herr⟩
        simp [hm, herr] at hnone
      exact State.odSet_errs hb hpass ((State.modeRequest_none hrow).trans (if_neg hrun)) (by decide) (by decide)
    case stopped =>
      have hrow : b.modeRow code = .none_ := State.modeRow_none (.inr (.inr (.inl ⟨h3, .inr hm⟩)))
      exact State.odSet_refuses hb hpass ((State.modeRequest_none hrow).trans (if_pos ⟨hm, h3, herr⟩))
  case service => exact State.odSet_refuses hb hpass (if_pos (by simpa using hm))
  case brace => exact State.odSet_refuses hb hpass ((if_neg (by simp [hr, hp])).trans (if_pos hbrace))
  case staged => exact State.odSet_staged hb hpass ((if_neg (by simp [hr, hp])).trans (if_neg (by simp [State.inBrace, hbrace])))

end Sys2Proof.Machine
end

section
/-!
PROOFS. The journal (R460 to R464) and snapshot slots (R466 to R469): which operations leave the stored records and the pointers, what storing a record writes,
and the statement about them.
-/
namespace Sys2Proof.Machine

/-! The head, the tail and the entries of the journal. -/

/-- The journal's pointers and its stored entries (R461, R462). -/
def State.entries (s : State) : Nat × Nat × NMap JRecord := (s.rd 0xD00000, s.rd 0xD00001, s.journal.recs)

theorem State.entries_iff (s : State) (head tail : Nat) (recs : NMap JRecord) :
    s.entries = (head, tail, recs) ↔ s.rd 0xD00000 = head ∧ s.rd 0xD00001 = tail ∧ s.journal.recs = recs := by simp [State.entries]

/-- A register other than the pointers. -/
theorem State.entries_wr (s : State) {o : Nat} (v : Nat) (h : o ≠ 0xD00000) (h' : o ≠ 0xD00001) : (s.wr o v).entries = s.entries := by
  simp [State.entries, State.rd_wr_ne _ _ h.symm, State.rd_wr_ne _ _ h'.symm]

theorem State.entries_addTo (s : State) {o : Nat} (n : Nat) (h : o ≠ 0xD00000) (h' : o ≠ 0xD00001) : (s.addTo o n).entries = s.entries := by
  unfold State.addTo
  split
  · exact s.entries_wr _ h h'
  · exact s.entries_wr _ h h'

theorem State.entries_inc (s : State) {o : Nat} (h : o ≠ 0xD00000) (h' : o ≠ 0xD00001) : (s.inc o).entries = s.entries := s.entries_addTo 1 h h'

@[simp] theorem State.entries_recordLost (s : State) (cls : Nat) : (s.recordLost cls).entries = s.entries := by
  unfold State.recordLost
  refine (State.entries_wr _ _ (by decide) (by decide)).trans ?_
  split
  · exact s.entries_inc (by omega) (by omega)
  · rfl

theorem State.entries_post (s : State) (i : Island) (r : JRecord) : (s.post i r).entries = s.entries := by
  unfold State.post
  dsimp only
  split
  · rfl
  · exact s.entries_recordLost r.cls

theorem State.entries_powerLog (s : State) (r : JRecord) : (s.powerLog r).entries = s.entries := by
  unfold State.powerLog
  dsimp only
  split
  · rfl
  · exact State.entries_inc _ (by decide) (by decide)

/-- A record that an island raises waits to be stored (R460). -/
theorem State.entries_raiseAt (s : State) (at_ : Nat) (i : Island) (cls reason tag : Nat) : (s.raiseAt at_ i cls reason tag).entries = s.entries := by
  have hclass : (s.incSat (0xD00300 + cls)).entries = s.entries := s.entries_wr _ (by omega) (by omega)
  have hposted (r : JRecord) : (((s.incSat (0xD00300 + cls)).inc (0xD00100 + reason)).post i r).entries = s.entries := by
    rw [State.entries_post, State.entries_inc _ (by omega) (by omega), hclass]
  unfold State.raiseAt
  split
  · dsimp only
    split
    · exact hposted _
    split
    · exact (State.entries_powerLog _ _).trans hclass
    · exact hposted _
  · rfl

theorem State.entries_raise (s : State) (i : Island) (cls reason tag : Nat) : (s.raise i cls reason tag).entries = s.entries :=
  s.entries_raiseAt s.time.now i cls reason tag

theorem entries_blind : SwitchBlind State.entries where
  switch _ _ := rfl
  cells s v := s.entries_wr v (by decide) (by decide)
  count s o h := s.entries_inc (by omega) (by omega)
  raise := State.entries_raise

theorem State.entries_notice (s : State) (v : Nat) : (s.notice v).entries = s.entries := by
  unfold State.notice
  split
  · rfl
  split <;> rfl

/-- A record that is forwarded is not stored again here (R464). -/
theorem State.entries_forwardRecord (s : State) (r : JRecord) : (s.forwardRecord r).entries = s.entries := by
  unfold State.forwardRecord
  dsimp only
  split
  · exact (entries_blind.sendFrame _ 7 _).trans (s.entries_inc (by decide) (by decide))
  · rfl

/-- A record is stored at the head, and the head advances (R462). -/
theorem State.entries_putRecord (s : State) (r : JRecord) : (s.putRecord r).entries =
    ((s.rd 0xD00000 + 1) % 2048, s.rd 0xD00001, minsert s.journal.recs (s.rd 0xD00000 % 1024) r) := by
  have hnotice (t : State) : (t.journalNotice r.cls).entries = t.entries := by
    unfold State.journalNotice
    split
    · exact t.entries_notice 4
    · rfl
  rw [State.putRecord, State.entries_forwardRecord, State.keepRecord, hnotice, State.entries_iff]
  exact ⟨State.rd_wr_self _ _ _, State.rd_wr_ne _ _ (by decide), rfl⟩

/-! What becomes of a record that reaches the Keeper, with no loss to report. -/

theorem State.storeRecord_room {s : State} (r : JRecord) (hlost : s.rd 0xD00007 = 0) (hroom : s.unread < 1024) : s.storeRecord r = s.putRecord r := by
  have hfree : 1 ≤ 1024 - s.unread := by omega
  rw [State.storeRecord]
  simp only [hlost, ne_eq, not_true_eq_false, if_false, if_pos hfree]

theorem State.storeRecord_full {s : State} (r : JRecord) (hlost : s.rd 0xD00007 = 0) (hfull : 1024 ≤ s.unread) : s.storeRecord r = s.fullPolicy r := by
  have hfree : ¬ 1 ≤ 1024 - s.unread := by omega
  rw [State.storeRecord]
  simp only [hlost, ne_eq, not_true_eq_false, if_false, if_neg hfree]

/-- Without notices and a collector a stored record is an entry, and no more. -/
theorem State.putRecord_quiet {s : State} (r : JRecord) (hnotice : s.rd 0xD00006 ≠ 1) (hpeer : s.rd 0xD01000 = 0) :
    s.putRecord r = ({ s with journal := { s.journal with recs := minsert s.journal.recs (s.rd 0xD00000 % 1024) r } }).wr 0xD00000
      ((s.rd 0xD00000 + 1) % 2048) := by
  obtain ⟨t, ht⟩ : ∃ t, t = ({ s with journal := { s.journal with recs := minsert s.journal.recs (s.rd 0xD00000 % 1024) r } }).wr 0xD00000
    ((s.rd 0xD00000 + 1) % 2048) := ⟨_, rfl⟩
  have hrd {o : Nat} (ho : o ≠ 0xD00000) : t.rd o = s.rd o := by rw [ht, State.rd_wr_ne _ _ ho]; rfl
  have hkeep : s.keepRecord r = t := by
    rw [State.keepRecord, ← ht]
    exact if_neg (by simp [hrd, hnotice])
  rw [State.putRecord, hkeep, ← ht]
  exact if_neg (by simp [hrd, hpeer])

/-- A full journal that keeps the newest gives up its oldest entry (R463). -/
theorem State.entries_fullPolicy {s : State} (r : JRecord) (hpolicy : s.rd 0xD00003 = 1) : (s.fullPolicy r).entries =
    ((s.rd 0xD00000 + 1) % 2048, (s.rd 0xD00001 + 1) % 2048, minsert s.journal.recs (s.rd 0xD00000 % 1024) r) := by
  obtain ⟨lost, hlost⟩ : ∃ lost, s.fullPolicy r = ((s.wr 0xD00001 ((s.rd 0xD00001 + 1) % 2048)).recordLost lost).putRecord r :=
    ⟨_, if_pos hpolicy⟩
  obtain ⟨hhead, htail, hrecs⟩ := (State.entries_iff _ _ _ _).mp ((s.wr 0xD00001 ((s.rd 0xD00001 + 1) % 2048)).entries_recordLost lost)
  rw [hlost, State.entries_putRecord, hhead, htail, hrecs, State.rd_wr_self, State.rd_wr_ne _ _ (by decide)]
  rfl

/-- The oldest record that an island has posted reaches a Keeper that stores (R460). -/
theorem State.takePosted_eq {s : State} {code : Nat} {r : JRecord} {rest : List JRecord} (hk : s.keeperStores = true)
    (hr : mget [] s.journal.posted code = r :: rest) : s.takePosted code =
      ({ s with journal := { s.journal with posted := mset [] s.journal.posted code rest } }).storeRecord r := by
  rw [State.takePosted, if_pos hk, hr]

/-- A message that forwards one record (R464). -/
theorem State.journalFwd_one {s : State} {m : List Byte} (hcode : beField m 0 2 = 0x0D10) (hone : beField m 12 2 = 1) : s.journalFwd m =
    if s.keeperStores then s.storeRecord { natRecord (beField m 16 16) with node := beField m 2 2 % 1024 }
    else s.recordLost (natRecord (beField m 16 16)).cls := by
  rw [State.journalFwd, if_pos hcode]
  simp [hone]

/-! The write of the tail. -/

theorem objBits_journalTail : objBits 0xD00001 = 16 := by decide +kernel

theorem objRow_journalTail : objRow 0xD00001 = some ⟨0xFFFFFF, 0xD00001, [], .u16, .rw, .w, 0, .custom, none, false⟩ := by decide +kernel

theorem exec_journalTailWrite {v : Nat} (hv : v < 2 ^ objBits 0xD00001) (h : OdHdr) (s : State) :
    exec (.journalTailWrite h v) s = .next (s.odSet h 0xD00001 v (fun t => t.writeTail v)) := by
  change Host.Outcome.next (s.odSet h 0xD00001 v (fun t => t.writeTail (v % 2 ^ objBits 0xD00001))) = _
  rw [Nat.mod_eq_of_lt hv]

/-- The check of the value (R335): a pointer of 11 bits (R462). -/
theorem State.accessError_journalTail (s : State) {v : Nat} (hv : v < 2 ^ objBits 0xD00001) :
    s.accessError .write 0xD00001 (numBytes 0xD00001 v) = if v < 2048 then 0 else 0x04 := by
  rw [objBits_journalTail] at hv
  have hback : beNat (numBytes 0xD00001 v) = v := by rw [numBytes, objBits_journalTail, beNat_natBE, Nat.mod_eq_of_lt (by omega)]
  have hlen : (numBytes 0xD00001 v).length = 2 := by rw [numBytes, objBits_journalTail, length_natBE]
  have hvalue : s.customRange 0xD00001 v = decide (v ≤ 2047) := by simp [State.customRange]
  rw [State.accessError, objRow_journalTail]
  simp [State.rowError, State.absentObj, refusedObj, State.modeAllows, lengthFits, OdType.isBytes, State.valueOk, State.numberOk, OdType.size, hback,
    hvalue, hlen]
  split
  · exact (if_neg (by omega)).symm
  · exact (if_pos (by omega)).symm

/-! The slots. -/

theorem State.snap_setSnap (s : State) (k j : Nat) (x : SnapSlot) : (s.setSnap k x).snap j = if j = k then x else s.snap j := mget_mset _ _ _ _ _

@[simp] theorem State.snap_raise (s : State) (i : Island) (cls reason tag k : Nat) : (s.raise i cls reason tag).snap k = s.snap k := by
  obtain ⟨_, _, _, h⟩ := s.raise_frame i cls reason tag
  rw [h]
  rfl

/-- Settles O30: the journal by what a stored record leaves of the entries, the slots by their states. -/
theorem snapshotsAndJournal : Obligations.SnapshotsAndJournal := by
  unfold Obligations.SnapshotsAndJournal
  intro s b h hb
  refine ⟨fun slot hup hx => ?complete, fun slot d hup hx => ?timeout, fun slot hpass => ⟨fun hx => ?free, fun hx => ?latching, fun hx => ?held⟩,
    fun code r rest hk hr hlost => ?posted, fun m hk hcode hone hlost hroom => ?forwarded, fun m hk _ hcode hone => ?unstored,
    fun v hv hpass => ?tail, fun v hbig hv hqueue hauth hpass => ?tailOut⟩
  case complete =>
    have heq : s.collected slot.val = s.setSnap slot.val { s.snap slot.val with
      state := 2, header := withDelivered (s.snap slot.val).header (s.snap slot.val).latched } := if_pos hx
    exact congrArg Host.Outcome.next ((if_pos hup).trans heq)
  case timeout =>
    refine ⟨_, congrArg Host.Outcome.next ((if_pos hup).trans (if_pos hx)), ?_, ?_, fun hseq => ?_, fun k hk => ?_, _, rfl, rfl, rfl, rfl⟩
    · simp [State.snap_setSnap]
    · simp [State.snap_setSnap]
    · simp only [State.snap_raise, State.snap_setSnap, if_true, hseq, Bool.false_eq_true, if_false, and_self]
    · simp [State.snap_setSnap, hk]
  case free => exact State.odSet_done hb hpass (by simp [State.releaseSlot, hx])
  case latching => exact State.odSet_errs hb hpass (by simp [State.releaseSlot, hx]) (by decide) (by decide)
  case held =>
    have heq : b.releaseSlot slot.val = if b.hasBank then stagedRes (b.setSnap slot.val { b.snap slot.val with relAt := true })
        else okRes (b.setSnap slot.val {}) := by
      unfold State.releaseSlot
      dsimp only
      split
      · omega
      · omega
      · rfl
    split
    next hbank => exact State.odSet_staged hb hpass (heq.trans (if_pos hbank))
    next hbank => exact State.odSet_done hb hpass (heq.trans (if_neg hbank))
  case posted =>
    obtain ⟨u, hu⟩ : ∃ u : State, u = { s with journal := { s.journal with posted := mset [] s.journal.posted code rest } } := ⟨_, rfl⟩
    have hexec : exec (.journalRecordPosted code) s = .next (u.storeRecord r) := by
      rw [hu]; exact congrArg Host.Outcome.next (State.takePosted_eq hk hr)
    have hrd (o : Nat) : u.rd o = s.rd o := by rw [hu]; rfl
    have hunread : u.unread = s.unread := by rw [State.unread, hrd, hrd]; rfl
    have hrecs : u.journal.recs = s.journal.recs := by rw [hu]
    rw [← hrd] at hlost
    rw [hexec, ← hrd 0xD00003, ← hrd 0xD00006, ← hrd 0xD01000, ← hrd 0xD00000, ← hrd 0xD00001, ← hunread, ← hrecs]
    refine ⟨fun hroom hnotice hpeer => ?_, fun hroom => ?_, fun hfull hpolicy => ?_, fun hfull hpolicy => ?_⟩
    · rw [State.storeRecord_room r hlost hroom, State.putRecord_quiet r hnotice hpeer, hu]
    · exact ⟨_, congrArg Host.Outcome.next (State.storeRecord_room r hlost hroom), (State.entries_iff _ _ _ _).mp (u.entries_putRecord r)⟩
    · have hlose : u.fullPolicy r = u.recordLost r.cls := if_neg hpolicy
      rw [State.storeRecord_full r hlost hfull, hlose, hu]
    · exact ⟨_, congrArg Host.Outcome.next (State.storeRecord_full r hlost hfull), (State.entries_iff _ _ _ _).mp (State.entries_fullPolicy r hpolicy)⟩
  case forwarded =>
    obtain ⟨hhead, -, hrecs⟩ := (State.entries_iff _ _ _ _).mp (s.entries_putRecord { natRecord (beField m 16 16) with node := beField m 2 2 % 1024 })
    exact ⟨_, congrArg Host.Outcome.next ((State.journalFwd_one hcode hone).trans ((if_pos hk).trans (State.storeRecord_room _ hlost hroom))), hhead, hrecs⟩
  case unstored => exact congrArg Host.Outcome.next ((State.journalFwd_one hcode hone).trans (if_neg (by simp [hk])))
  case tail =>
    have hsmall : v < 2048 := by
      have herr := State.accessError_of_numPasses hpass
      rw [State.accessError_journalTail _ hv] at herr
      by_contra hbig
      simp [hbig] at herr
    have hmod : v % 2048 = v := Nat.mod_eq_of_lt hsmall
    rw [exec_journalTailWrite hv]
    refine ⟨hsmall, fun hle => ?_, fun hgt => ?_⟩
    · exact State.odSet_done hb hpass (if_pos (by simp [hmod, hle, hsmall]))
    · exact State.odSet_errs hb hpass (if_neg (by simp [hmod]; omega)) (by decide) (by decide)
  case tailOut =>
    rw [exec_journalTailWrite hv]
    exact State.odSet_barred hb (State.numReaches_of_numPasses hqueue hauth hpass)
      ((State.accessError_journalTail _ hv).trans (if_neg (by omega))) (by decide)

end Sys2Proof.Machine
end

section
/-!
PROOFS. Fabric sleep (R390 to R405): what the sleep messages, the votes and a wake leave of the Keeper's sleep state, and the statement about them.
-/
namespace Sys2Proof.Machine

@[simp] theorem State.raise_sleep (s : State) (i : Island) (cls reason tag : Nat) : (s.raise i cls reason tag).sleep = s.sleep := by
  obtain ⟨_, _, _, h⟩ := s.raise_frame i cls reason tag
  rw [h]

@[simp] theorem State.inc_sleep (s : State) (o : Nat) : (s.inc o).sleep = s.sleep := by
  obtain ⟨_, _, h⟩ := s.addTo_frame o 1
  rw [State.inc, h]

theorem sleep_blind : SwitchBlind State.sleep where
  switch _ _ := rfl
  cells _ _ := rfl
  count s o _ := s.inc_sleep o
  raise := State.raise_sleep

@[simp] theorem State.sendSleep_sleep (s : State) (code : Nat) (body : List Byte) : (s.sendSleep code body).sleep = s.sleep := sleep_blind.sendFrame s 7 _

/-! The master's proposal. -/

/-- The master's own proposal, and whether it committed. -/
def State.proposal (s : State) : Option Proposal × Bool := (s.sleep.mine, s.sleep.done)

theorem State.proposal_of_sleep {s t : State} (h : t.sleep = s.sleep) : t.proposal = s.proposal := by rw [State.proposal, h]; rfl

theorem State.proposal_flagNode (s : State) (n reason : Nat) : (s.flagNode n reason).proposal = s.proposal := by
  unfold State.flagNode
  dsimp only
  split
  · rfl
  · exact State.proposal_of_sleep (State.raise_sleep _ _ _ _ _)

/-- An entry of the insomniac log leaves the proposal (R404). -/
theorem State.proposal_logVeto (s : State) (num node reason consec : Nat) : (s.logVeto num node reason consec).proposal = s.proposal := by
  have hlost (c : Prop) [Decidable c] : (if c then s.inc 0xB03101 else s).proposal = s.proposal := by
    split
    · exact State.proposal_of_sleep (s.inc_sleep _)
    · rfl
  unfold State.logVeto
  dsimp only
  split
  · exact (State.proposal_flagNode _ _ _).trans (hlost _)
  · exact hlost _

theorem State.proposal_logVetoes (s : State) : s.logVetoes.proposal = s.proposal := by
  unfold State.logVetoes
  split
  · exact State.foldl_keeps State.proposal (fun t e => t.proposal_logVeto _ _ _ _) _ s
  · rfl

/-- Where no vote is a veto none is logged. -/
theorem State.logVetoes_none {s : State} (h : ∀ e ∈ s.sleep.votes, e.2.1 = 0) : s.logVetoes = s := by
  have hnone : s.sleep.votes.filter (fun e => e.2.1 != 0) = [] := by simpa [List.filter_eq_nil_iff] using h
  unfold State.logVetoes
  split
  · rw [hnone]; rfl
  · rfl

/-- A proposal cancelled before its commit ends with its vetoes logged and a SLEEP_CANCEL sent (R391, R395, R404). -/
theorem State.cancelMine_eq {s u : State} {x : Proposal} {cause : Nat} (hx : s.sleep.mine = some x) (hd : s.sleep.done = false)
    (hu : u = s.logVetoes.sendCancel x.num cause) : s.cancelMine cause =
      ({ u with sleep := { u.sleep with mine := none, prop := none, votes := [] } }).wr 0xB00007 0 := by
  have hp := s.proposal_logVetoes
  obtain ⟨hmine, hdone⟩ := Prod.mk.inj hp
  rw [hx] at hmine
  rw [hd] at hdone
  subst hu
  simp only [State.cancelMine, hd, State.endProposal, hmine, hdone, Bool.false_eq_true, if_false]

/-! The messages of a sleep entry. -/

/-- A member makes up its vote (R393). -/
theorem State.castVote_eq (s : State) (p : Proposal) (window : Nat) (active : Bool) : s.castVote p window active =
    (if s.vetoReason window active = 0
      then ({ s with sleep := { s.sleep with prop := some p, back := none, swept := false, woke := none } }).wr 0xB00101 0
      else s.inc 0xB00101, s.vetoReason window active) := by
  unfold State.castVote
  dsimp only
  split
  next h => rw [h]
  next h => rfl

/-- The answer of a member to a proposal of the master that it has not answered (R391, R393). -/
theorem State.proposeIn_answers {s t u : State} {m : List Byte} {active : Bool} {sender r : Nat} {x : Proposal} (hsender : sender = beField m 2 2 % 1024)
    (hr : r = s.vetoReason (x.v - beField m 4 8) active) (hx : x = ⟨beField m 12 4, beField m 16 8, beField m 24 8, sender⟩)
    (ht : t = { s with sleep := { s.sleep with answered := some x } })
    (hu : u = (if r = 0 then
        ((({ t with sleep := { t.sleep with prop := some x, back := none, swept := false, woke := none } }).wr 0xB00101 0).wr 0xB00008 x.num).wr 0xB00007 2
      else (t.inc 0xB00101).wr 0xB00008 x.num))
    (hgo : (s.ticking && isMessage m 0x0B10 32 && s.fromMaster sender && sender != s.node && s.sleep.answered != some x && !s.committed) = true) :
    s.proposeIn m active = u.sendControl sender (controlHead 0x0B11 s.node s.cycle ++ natBE 4 x.num ++ natBE 1 (if r = 0 then 0 else 1) ++ natBE 1 r ++
      natBE 2 (u.rd 0xB00101)) := by
  subst hsender hx ht
  have hsame : ({ s with sleep := { s.sleep with answered := some ⟨beField m 12 4, beField m 16 8, beField m 24 8, beField m 2 2 % 1024⟩ } } : State).vetoReason
    (beField m 16 8 - beField m 4 8) active = r := hr.symm
  unfold State.proposeIn
  simp only [if_pos hgo, State.castVote_eq, hsame]
  by_cases h0 : r = 0
  · simp only [h0, if_true] at hu ⊢
    rw [hu]
    rfl
  · have hbit : b2n (r != 0) = 1 := by simp [b2n, h0]
    simp only [h0, if_false, hbit] at hu ⊢
    rw [hu]

/-- A vote that the master holds: a veto, or an accept, which takes the node off the lists (R393, R405). -/
theorem State.voteIn_holds {s : State} {m : List Byte} {x : Proposal} (hx : s.sleep.mine = some x)
    (hgo : (s.ticking && isMessage m 0x0B11 20 && x.num = beField m 12 4 && !s.sleep.done) = true) :
    s.voteIn m = s.holdVote (beField m 2 2 % 1024) (beField m 16 1) (beField m 17 1) (beField m 18 2) := by
  simp only [State.voteIn, hx]
  exact if_pos hgo

theorem State.commitTo_eq {s : State} {x : Proposal} (hx : s.sleep.prop = some x) (p : Nat) : s.commitTo p =
    (({ s with sleep := { s.sleep with prop := some { x with p := p }, back := some s.mode } }).wr 0xB00007 3).wr 0x100101 0xFF := by
  simp only [State.commitTo, hx]

/-- A hub that is neither committed nor entering (R401). -/
theorem State.not_sleepBound {s : State} (h3 : s.rd 0xB00007 ≠ 3) (h4 : s.rd 0xB00007 ≠ 4) : s.sleepBound = false := by
  simp [State.sleepBound, State.sleepState, h3, h4]

theorem State.sleepBound_of {s : State} (h : s.rd 0xB00007 = 3 ∨ s.rd 0xB00007 = 4) : s.sleepBound = true := by
  rcases h with h | h <;> simp [State.sleepBound, State.sleepState, h]

/-- WAKE_ALL at a hub that goes on with no sleep (R401). -/
theorem State.wakeAllIn_awake {s : State} (ht : s.ticking = true) (h3 : s.rd 0xB00007 ≠ 3) (h4 : s.rd 0xB00007 ≠ 4) (hb : s.sleep.back = none) :
    s.wakeAllIn =
      if s.sleep.toSend then s.sawWake 0x0E
      else if s.sleep.mine.isNone && s.sleepState = 2 then { s.sawWake 0x0E with sleep := { (s.sawWake 0x0E).sleep with woke := some 0x0E } }
      else (s.sawWake 0x0E).cancelMine 2 := by
  rw [State.wakeAllIn, if_pos ht, if_neg (by simp [State.not_sleepBound h3 h4]), if_neg (by simp [State.committed, hb])]

/-- A list that holds no node flags none (R405). -/
theorem State.flagged_setFlagged_nil (s : State) : (s.setFlagged []).flagged = [] := by
  have hblob : (s.setFlagged []).rdB 0xB03200 = zeros 32 := by
    change mget (blobDefault 0xB03200) (mset (blobDefault 0xB03200) s.blobs 0xB03200 (zeros 32)) 0xB03200 = zeros 32
    exact mget_mset_self _ _ _ _
  have hnone : ((List.range 16).map (fun k => leField (zeros 32) (2 * k) 2)).filter (fun n => n != 0) = [] := by decide +kernel
  rw [State.flagged, hblob, hnone]

/-- Settles O44: a message, a command or a wake after the other. -/
theorem sleepIsProposedVotedAndCommitted : Obligations.SleepIsProposedVotedAndCommitted := by
  unfold Obligations.SleepIsProposedVotedAndCommitted
  intro s b h m sender hb hsender
  refine ⟨fun hpass => ⟨fun hservo hmine => ?proposed, fun hno => ?notProposed⟩,
    fun hpass => ⟨State.logVetoes_none, fun x u hservo hmine hdone hu => ?cancelled, fun hno => ?notCancelled⟩,
    fun active r x t u hr hx ht hu => ⟨fun htick hmsg hmaster hne hnew hback => ?answered, fun hno => ?unanswered⟩,
    fun x hx => ⟨fun htick hmsg hnum hdone => ⟨fun hveto => ?veto, fun haccept t ht => ?accept⟩, fun hnum => ?otherVote⟩,
    fun x hx => ⟨fun htick hmsg hmaster hnum hstate t ht => ?commit, fun hno => ?noCommit, fun htick hmsg hmaster hnum hstate => ?cancel, fun hno => ?noCancel⟩,
    fun htick hstate => ?aborts, fun x t u htick h3 h4 hback hmine hdone ht hu => ⟨fun hsend => ?wakeEarly, fun hsend => ?wakeVoted⟩,
    fun h3 h4 => ⟨fun hback => ?wakeIgnored, fun htick hback hmine => ?wakeSeen⟩, fun hpass => ⟨?cleared, State.flagged_setFlagged_nil b⟩⟩
  case proposed => exact State.odSet_done hb hpass (if_neg (by simp [hservo, hmine]))
  case notProposed => exact State.odSet_errs hb hpass (if_pos (by simpa [Option.isSome_iff_ne_none] using hno)) (by decide) (by decide)
  case cancelled =>
    refine State.odSet_done hb hpass ((if_neg (by simp [hservo, hmine, hdone])).trans (congrArg okRes (State.cancelMine_eq hmine hdone hu)))
  case notCancelled => exact State.odSet_errs hb hpass (if_pos (by simpa [or_assoc] using hno)) (by decide) (by decide)
  case answered =>
    exact congrArg Host.Outcome.next (State.proposeIn_answers hsender hr hx ht hu (by simp [htick, hmsg, hmaster, hne, hnew, State.committed, hback]))
  case unanswered =>
    subst hsender
    refine congrArg Host.Outcome.next (if_neg ?_)
    rcases hno with hmaster | hold
    · simp [hmaster]
    · simp [← hx, hold]
  case veto =>
    subst hsender
    exact congrArg Host.Outcome.next ((State.voteIn_holds hx (by simp [htick, hmsg, hnum, hdone])).trans (if_neg hveto))
  case accept =>
    subst hsender
    have hheld := State.voteIn_holds hx (m := m) (by simp [htick, hmsg, hnum, hdone])
    rw [haccept] at hheld
    rw [ht]
    exact congrArg Host.Outcome.next hheld
  case otherVote =>
    refine congrArg Host.Outcome.next ?_
    simp [State.voteIn, hx, hnum]
  case commit => 
    subst hsender
    refine congrArg Host.Outcome.next ?_
    simp only [State.commitIn, hx, State.commitTo_eq hx, ← ht]
    rw [if_pos (by simp [htick, hmsg, hmaster, hnum, State.sleepState, hstate])]
    cases hw : s.sleep.woke <;> rfl
  case noCommit =>
    subst hsender
    refine congrArg Host.Outcome.next ?_
    simp only [State.commitIn, hx]
    refine if_neg ?_
    rcases hno with h | h | h <;> simp [h, State.sleepState]
  case cancel =>
    subst hsender
    refine congrArg Host.Outcome.next ?_
    simp only [State.cancelIn, hx]
    exact if_pos (by simp [htick, hmsg, hmaster, hnum, State.sleepState, hstate])
  case noCancel =>
    subst hsender
    refine congrArg Host.Outcome.next ?_
    simp only [State.cancelIn, hx]
    refine if_neg ?_
    rcases hno with h | h | h <;> simp [h, State.sleepState]
  case aborts => exact congrArg Host.Outcome.next ((if_pos htick).trans (if_pos (State.sleepBound_of hstate)))
  case wakeEarly => 
    rw [ht]
    exact congrArg Host.Outcome.next ((State.wakeAllIn_awake htick h3 h4 hback).trans (if_pos hsend))
  case wakeVoted =>
    have hcancel : t.cancelMine 2 = _ := State.cancelMine_eq (by rw [ht]; exact hmine) (by rw [ht]; exact hdone) hu
    refine congrArg Host.Outcome.next ((State.wakeAllIn_awake htick h3 h4 hback).trans ?_)
    rw [if_neg (by simp [hsend]), if_neg (by simp [hmine]), ← hcancel, ht]
    rfl
  case wakeIgnored =>
    refine congrArg Host.Outcome.next ?_
    rw [State.wakeAllIn, State.not_sleepBound h3 h4]
    simp [State.committed, Option.isSome_iff_ne_none, hback]
  case wakeSeen =>
    have hkeep : (s.sawWake 0x0E).cancelMine 2 = s.sawWake 0x0E := by
      have hvetoes : (s.sawWake 0x0E).logVetoes = s.sawWake 0x0E := by simp [State.logVetoes, State.sawWake, hmine]
      rw [State.cancelMine, hvetoes]
      simp [State.endProposal, State.sawWake, hmine]
    refine congrArg Host.Outcome.next ((State.wakeAllIn_awake htick h3 h4 hback).trans ?_)
    rw [hkeep, hmine]
    cases hsend : s.sleep.toSend
    · by_cases h2 : s.rd 0xB00007 = 2 <;> simp [h2, State.sleepState, State.sawWake]
    · simp [State.sawWake]
  case cleared => exact State.odSet_done hb hpass (congrArg okRes rfl)

end Sys2Proof.Machine
end

section
/-!
PROOFS. Doze (R396 to R403, R419): what the point of no return leaves, what a wake in Doze records, and the statement about them.
-/
namespace Sys2Proof.Machine

/-! The point of no return. -/

/-- What Doze is made of: the mode and the AON island's part, the islands of the core die, sleep, and the count of entries (R396, R406). -/
def State.dozing (s : State) : Mode × DozeSt × SeqSt × SwitchSt × OdSt × PawnsSt × SleepSt × Nat :=
  (s.mode, s.doze, s.seq, s.switch, s.od, s.pawns, s.sleep, s.rd 0xB02002)

theorem State.dozing_wr (s : State) {o : Nat} (v : Nat) (h : o ≠ 0xB02002) : (s.wr o v).dozing = s.dozing := by
  simp [State.dozing, State.rd_wr_ne _ _ h.symm]

theorem State.dozing_wrB (s : State) (o : Nat) (v : List Byte) : (s.wrB o v).dozing = s.dozing := rfl

theorem State.dozing_inc (s : State) {o : Nat} (h : o ≠ 0xB02002) : (s.inc o).dozing = s.dozing := by
  unfold State.inc State.addTo
  split
  · exact s.dozing_wr _ h
  · exact s.dozing_wr _ h

theorem State.dozing_raise (s : State) (i : Island) (cls reason tag : Nat) : (s.raise i cls reason tag).dozing = s.dozing := by
  have hrd := s.rd_raise i cls reason tag (o := 0xB02002) (by decide) (by decide)
  obtain ⟨_, _, _, h⟩ := s.raise_frame i cls reason tag
  rw [h] at hrd ⊢
  simp [State.dozing, hrd]

theorem State.dozing_chanOff (s : State) (c code : Nat) : (s.chanOff c code).dozing = s.dozing := by
  have hne (sub : Nat) (hsub : sub < 256) : chanObj c 1 sub ≠ 0xB02002 := by simp only [chanObj]; omega
  have hfault (t : State) (ht : t.dozing = s.dozing) : (((t.wr (chanObj c 1 1) code).inc (chanObj c 1 2)).inc (chanObj c 1 8)).dozing = s.dozing := by
    rw [State.dozing_inc _ (hne _ (by decide)), State.dozing_inc _ (hne _ (by decide)), State.dozing_wr _ _ (hne _ (by decide)), ht]
  unfold State.chanOff
  split
  · refine (State.dozing_raise _ _ _ _ _).trans ?_
    unfold State.gateOff
    dsimp only
    split
    · refine (State.dozing_wr _ _ (hne _ (by decide))).trans ?_
      exact hfault _ rfl
    · exact (State.dozing_wr _ _ (hne _ (by decide))).trans (State.dozing_wr _ _ (hne _ (by decide)))
  · rfl

/-- The e-fuses that turn off by their Doze action (R381). -/
theorem State.dozing_dozeOff (s : State) : s.dozeOff.dozing = s.dozing := by
  refine State.foldl_keeps State.dozing (fun t c => ?_) _ s
  split
  · exact t.dozing_chanOff c 0x0C
  · rfl

theorem State.keeperStops_sleep (s : State) : s.keeperStops.sleep = s.sleep := by
  unfold State.keeperStops
  rw [State.foldl_keeps State.sleep, State.foldl_keeps State.sleep]
  · refine fun t e => State.foldl_keeps State.sleep (fun u r => ?_) e.2 t
    obtain ⟨_, _, h⟩ := u.recordLost_frame r.cls
    rw [h]
  · refine fun t e => State.foldl_keeps State.sleep (fun u r => ?_) e.2 t
    obtain ⟨_, _, _, h⟩ := u.powerLog_frame { r with sec := u.modes.aonCount % 2 ^ 32, nano := 0xFFFFFFFF }
    rw [h]

theorem objPersist_dozeEntries : objPersist 0xB02002 = .a := by decide +kernel

theorem objBits_dozeEntries : objBits 0xB02002 = 32 := by decide +kernel

/-- The loss of the core die on entering Doze keeps the count of entries, and of sleep the log that is not yet read (R396, R404, R419). -/
theorem State.clearCore_doze (s : State) : (s.clearCore false true).rd 0xB02002 = s.rd 0xB02002 ∧ (s.clearCore false true).sleep = { unread := s.sleep.unread } := by
  constructor
  · exact (State.rd_persist (by simp [keptBy, objPersist_dozeEntries])).trans (State.rd_keeperStops (s.resetSnaps false) (by decide) (by decide))
  · have hsleep : (s.resetSnaps false).keeperStops.sleep = s.sleep := State.keeperStops_sleep _
    exact congrArg (fun x : SleepSt => ({ unread := x.unread } : SleepSt)) hsleep

/-- The islands of the core die are at reset (R417). -/
theorem State.clearCore_lost (s : State) (warm keepD : Bool) : (s.clearCore warm keepD).seq = {} ∧ (s.clearCore warm keepD).switch = {} ∧
    (s.clearCore warm keepD).od = {} ∧ (s.clearCore warm keepD).pawns = {} := ⟨rfl, rfl, rfl, rfl⟩

/-- The transceivers that go to sleep write their own registers (R280, R396). -/
theorem State.dozing_setXcvr (s : State) (t v w : Nat) (ht : t < 2) : ((s.setWant t v).setXcvr t w).dozing = s.dozing :=
  (State.dozing_wr _ _ (by decide)).trans (State.dozing_wr _ _ (by simp only [xcvrObj]; omega))

/-- The reset cause of a Doze entry is stored (R424). -/
def State.dozeCaused (s : State) : State := s.resetCause .dozeEntry 0x00 (modeCode s.mode) (b2n s.inBrace) 0xFFFF 0xFFFF

theorem State.dozing_dozeCaused (s : State) : s.dozeCaused.dozing = s.dozing := by
  rw [State.dozeCaused, State.resetCause, State.dozing_inc _ (by decide), State.dozing_wr _ _ (by decide), State.dozing_wrB]

/-- The core die is lost with the entry, and both transceivers sleep (R396, R399). -/
def State.dozeCore (s : State) : State := [0, 1].foldl (fun s t => (s.setWant t 3).setXcvr t 3) (s.dozeCaused.clearCore false true)

theorem State.dozing_dozeCore (s : State) : s.dozeCore.dozing = (s.dozeCaused.clearCore false true).dozing := by
  simp only [State.dozeCore, List.foldl_cons, List.foldl_nil]
  rw [State.dozing_setXcvr _ 1 3 3 (by decide), State.dozing_setXcvr _ 0 3 3 (by decide)]

/-- The hub is in Doze. -/
def State.dozeEntered (s : State) : State := { s.dozeCore with mode := .doze, doze := {}, update := s.dozeCore.update.afterReset }

theorem State.dozing_dozeEntered (s : State) : s.dozeEntered.dozing = (.doze, {}, {}, {}, {}, {}, { unread := s.sleep.unread }, s.rd 0xB02002) := by
  obtain ⟨hcount, hsleep⟩ := s.dozeCaused.clearCore_doze
  have hcore := s.dozing_dozeCore
  have hcause := s.dozing_dozeCaused
  simp only [State.dozing, Prod.mk.injEq] at hcore hcause
  obtain ⟨-, -, hseq, hswitch, hod, hpawns, hsl, hct⟩ := hcore
  obtain ⟨-, -, -, -, -, -, hslc, hctc⟩ := hcause
  have hrd : s.dozeEntered.rd 0xB02002 = s.dozeCore.rd 0xB02002 := State.rd_of_objs (by simp only [State.dozeEntered]) _
  obtain ⟨hseq', hswitch', hod', hpawns'⟩ := s.dozeCaused.clearCore_lost false true
  rw [State.dozing, hrd, hct, hcount, hctc]
  simp only [State.dozeEntered, hseq, hseq', hswitch, hswitch', hod, hod', hpawns, hpawns', hsl, hsleep, hslc]

theorem State.pointOfNoReturn_enters {s : State} {x : Proposal} (hx : s.sleep.prop = some x) (ht : s.ticking = true) (h4 : s.rd 0xB00007 = 4)
    (hm : s.mode = .hold) (hp : x.p ≤ s.cycle) : s.pointOfNoReturn = s.dozeEntered.dozeOff.inc 0xB02002 := by
  simp only [State.pointOfNoReturn, hx]
  exact if_pos (by simp [ht, State.sleepState, h4, hm, hp])

/-! A wake in Doze. -/

@[simp] theorem State.inc_doze (s : State) (o : Nat) : (s.inc o).doze = s.doze := by
  obtain ⟨_, _, h⟩ := s.addTo_frame o 1
  rw [State.inc, h]

/-- The wake is recorded with its source and the AON count (R402, R406). -/
def State.wakeRecorded (s : State) (code : Nat) : State :=
  ({ s with doze := { s.doze with woken := true } }.wr 0xB02000 code).wr 0xB02001 (s.modes.aonCount % 2 ^ 32)

/-- A wake source in Doze: the first is recorded, a late one counted, and INH claimed otherwise (R400, R402). -/
theorem State.dozeWake_eq {s : State} {code : Nat} (h : s.wakeEnabled code = true) (late : Bool) : s.dozeWake code late =
    if s.doze.inh then (if s.doze.woken then s else s.wakeRecorded code)
    else if late || s.doze.fell != 7 then (if s.doze.woken then s else s.wakeRecorded code).inc 0xB02005
    else (if s.doze.woken then s else s.wakeRecorded code).claimInh := if_pos h

theorem exec_dozeWake {s : State} {c : Instr} {code : Nat} {late : Bool} (hm : s.mode = .doze)
    (hc : c = .wakeSource code late ∨ (c = .wakeTimerExpiry late ∧ code = 8)) : exec c s = .next (s.dozeWake code late) := by
  rcases hc with rfl | ⟨rfl, rfl⟩ <;> exact congrArg Host.Outcome.next (if_pos hm)

/-- A transceiver that wakes writes registers of its own (R402). -/
theorem State.rd_wakeXcvrs (s : State) {o : Nat} (h : 0xB00000 ≤ o) : s.wakeXcvrs.rd o = s.rd o := by
  have hone (u : State) (t : Nat) (ht : t < 2) : (if u.rd (xcvrObj t 0) = 3 then (u.setWant t 2).setXcvr t 2 else u).rd o = u.rd o := by
    split
    · rw [State.rd_setXcvr _ _ _ (by omega), if_neg (by simp only [xcvrObj]; omega)]
      rfl
    · rfl
  exact (hone _ 1 (by decide)).trans (hone s 0 (by decide))

/-- INH is claimed, and nothing else of Doze changes. -/
theorem State.claimInh_keeps (s : State) : s.claimInh.mode = s.mode ∧ s.claimInh.doze = { s.doze with inh := true } := by
  have hone (u : State) (t : Nat) : (if u.rd (xcvrObj t 0) = 3 then (u.setWant t 2).setXcvr t 2 else u).mode = u.mode := by
    split <;> rfl
  exact ⟨State.foldl_keeps State.mode hone [0, 1] s, rfl⟩

theorem State.rd_claimInh (s : State) {o : Nat} (h : 0xB00000 ≤ o) : s.claimInh.rd o = s.rd o := s.rd_wakeXcvrs h

/-! A wake before the point of no return. -/

theorem sleepReg_blind : SwitchBlind (State.rd · 0xB00007) where
  switch _ _ := rfl
  cells s v := s.rd_wr_ne v (by decide)
  count s o h := s.rd_inc_ne (by omega)
  raise s i cls reason tag := s.rd_raise i cls reason tag (by decide) (by decide)

theorem State.sleepReg_sendWakeAll (s : State) (source : Nat) : (s.sendWakeAll source).rd 0xB00007 = s.rd 0xB00007 := sleepReg_blind.sendFrame s 7 _

theorem State.abortSleep_takes (s : State) : s.abortSleep.rd 0xB00007 = 5 ∧ s.abortSleep.sleep = s.sleep := by
  constructor
  · rw [State.abortSleep, State.raiseOpen, State.rd_raise _ _ _ _ _ (by decide) (by decide)]
    exact (State.rd_inc_ne _ (by decide)).trans (State.rd_wr_self _ _ _)
  · simp [State.abortSleep, State.raiseOpen]

/-- An enabled source before Doze (R400, R401). -/
theorem State.wakeSource_awake {s : State} {code : Nat} (hm : s.mode ≠ .doze) (ht : s.ticking = true) (hc : code ≤ 7) (he : s.wakeEnabled code = true)
    (late : Bool) : s.wakeSource code late =
      if s.sleepBound then (s.sawWake code).abortSleep.sendWakeAll code
      else if s.sleep.mine.isSome then (if s.sleep.toSend then s.sawWake code else (s.sawWake code).cancelMine 2)
      else if s.sleepState = 2 then ({ s.sawWake code with sleep := { (s.sawWake code).sleep with woke := some code } }).sendWakeAll code
      else s.sawWake code := by
  rw [State.wakeSource, if_neg hm, if_pos (by simp [ht, hc, he])]
  rfl

theorem State.mfind_sawWake (s : State) (code : Nat) : mfind (s.sawWake code).sleep.seen code = some s.cycle := by
  simp [State.sawWake, mfind_minsert]

/-- Settles O45. -/
theorem dozeIsEnteredAndLeft : Obligations.DozeIsEnteredAndLeft := by
  unfold Obligations.DozeIsEnteredAndLeft
  intro s
  refine ⟨fun x hx => ⟨fun ht h4 hm hp => ?enters, fun hno => ?stays⟩, fun hm => congrArg Host.Outcome.next (if_pos hm),
    fun hm => ⟨congrArg Host.Outcome.next (if_neg hm), fun late => congrArg Host.Outcome.next (if_neg hm), fun slow => ?awake⟩,
    fun hm c code late hc => ⟨fun he => ?disabled, fun he hw => ?first, fun he hw hinh hlate => ?again⟩,
    fun slow hm hw hinh => ⟨fun hgo => ?reclaim, fun hfell hslow => ?early⟩,
    fun code late hm ht hc he => ⟨fun hbound => ?aborts, fun h2 h3 h4 hmine => ?seen, fun h2 hmine => ?remembered⟩⟩
  case enters =>
    have hdoze := (s.dozeEntered.dozing_dozeOff).trans s.dozing_dozeEntered
    simp only [State.dozing, Prod.mk.injEq] at hdoze
    obtain ⟨hmode, hdz, hseq, hswitch, hod, hpawns, hsleep, hcount⟩ := hdoze
    obtain ⟨objs, free, hinc⟩ := s.dozeEntered.dozeOff.addTo_frame 0xB02002 1
    refine ⟨_, congrArg Host.Outcome.next (State.pointOfNoReturn_enters hx ht h4 hm hp), ?_⟩
    refine ⟨?_, ?_, ?_, ?_, ?_, ?_, ?_, fun hroom => ?_⟩
    case refine_8 =>
      have hadd := State.rd_addTo_self (s := s.dozeEntered.dozeOff) (o := 0xB02002) (n := 1) (by rw [hcount, objBits_dozeEntries]; exact hroom)
      rw [State.inc, hadd, hcount]
    all_goals simp only [State.inc, hinc, hmode, hdz, hseq, hswitch, hod, hpawns, hsleep]
  case stays =>
    refine congrArg Host.Outcome.next ?_
    simp only [State.pointOfNoReturn, hx]
    refine if_neg ?_
    rcases hno with h | h
    · simp [State.sleepState, h]
    · simp [Nat.not_le.mpr h]
  case awake => exact congrArg Host.Outcome.next (if_neg (by simp [hm]))
  case disabled =>
    rw [exec_dozeWake hm hc]
    exact congrArg Host.Outcome.next (if_neg (by simp [he]))
  case first =>
    have heq := State.dozeWake_eq he late
    simp only [hw, Bool.false_eq_true, if_false] at heq
    refine ⟨_, exec_dozeWake hm hc, ?_⟩
    obtain ⟨u, hu⟩ : ∃ u, u = s.wakeRecorded code := ⟨_, rfl⟩
    have hsource : u.rd 0xB02000 = code := by rw [hu, State.wakeRecorded, State.rd_wr_ne _ _ (by decide), State.rd_wr_self]
    have hcount : u.rd 0xB02001 = s.modes.aonCount % 2 ^ 32 := by rw [hu, State.wakeRecorded, State.rd_wr_self]
    have hlates : (u.inc 0xB02005).rd 0xB02005 = (s.inc 0xB02005).rd 0xB02005 := by
      refine State.rd_inc_congr ?_ (by rw [hu]; rfl)
      rw [hu, State.wakeRecorded, State.rd_wr_ne _ _ (by decide), State.rd_wr_ne _ _ (by decide)]
      rfl
    have hdoze : u.doze = { s.doze with woken := true } := by rw [hu]; rfl
    have hmode : u.mode = .doze := by rw [hu]; exact hm
    rw [heq, ← hu]
    split
    next hinh => exact ⟨hmode, by rw [hdoze], hsource, hcount, by simp [hinh], by simp [hinh]⟩
    split
    next hinh hlate =>
      refine ⟨by rw [State.inc_mode, hmode], ?_, ?_, ?_, fun _ hin hfell => ?_, fun _ _ => ⟨?_, hlates⟩⟩
      · simp [State.inc_doze, hdoze]
      · rw [State.rd_inc_ne _ (by decide), hsource]
      · rw [State.rd_inc_ne _ (by decide), hcount]
      · simp [hin, hfell] at hlate
      · simp [State.inc_doze, hdoze, hinh]
    next hinh hlate =>
      obtain ⟨hm', hdoze'⟩ := u.claimInh_keeps
      refine ⟨hm'.trans hmode, by rw [hdoze', hdoze], by rw [u.rd_claimInh (by decide), hsource], by rw [u.rd_claimInh (by decide), hcount],
        fun _ _ _ => by rw [hdoze'], fun _ hl => ?_⟩
      rcases hl with h | h <;> simp [h] at hlate
  case again =>
    rw [exec_dozeWake hm hc, State.dozeWake_eq he late]
    simp [hinh, hw, hlate]
  case reclaim =>
    obtain ⟨u, hu⟩ : ∃ u, u = if s.doze.fell = 7 then s else s.wr 0xB02000 (s.rd 0xB02000 % 128 + 128) := ⟨_, rfl⟩
    have hdoze : u.doze = s.doze := by rw [hu]; split <;> rfl
    have hsource : u.rd 0xB02000 = if s.doze.fell = 7 then s.rd 0xB02000 else s.rd 0xB02000 % 128 + 128 := by
      rw [hu]
      split
      · rfl
      · exact State.rd_wr_self _ _ _
    refine ⟨u.claimInh, ?_, by rw [u.claimInh_keeps.2, hdoze], by rw [u.rd_claimInh (by decide), hsource]⟩
    rw [hu]
    exact congrArg Host.Outcome.next (if_pos (by simpa [hm, hw, hinh] using hgo))
  case early => exact congrArg Host.Outcome.next (if_neg (by simp [hfell, hslow]))
  case aborts =>
    obtain ⟨hreg, hsleep⟩ := (s.sawWake code).abortSleep_takes
    refine ⟨_, congrArg Host.Outcome.next ((State.wakeSource_awake hm ht hc he late).trans (if_pos (State.sleepBound_of hbound))), ?_, ?_⟩
    · rw [State.sleepReg_sendWakeAll, hreg]
    · rw [State.sendWakeAll, State.sendSleep_sleep, hsleep, State.mfind_sawWake]
  case seen =>
    refine congrArg Host.Outcome.next ((State.wakeSource_awake hm ht hc he late).trans ?_)
    simp [State.not_sleepBound h3 h4, hmine, State.sleepState, h2, State.sawWake]
  case remembered =>
    have heq : s.wakeSource code late = ({ s.sawWake code with sleep := { (s.sawWake code).sleep with woke := some code } }).sendWakeAll code := by
      rw [State.wakeSource_awake hm ht hc he late, State.not_sleepBound (by omega) (by omega), hmine, State.sleepState, h2]
      rfl
    refine ⟨_, congrArg Host.Outcome.next heq, ?_, ?_, ?_⟩
    · rw [State.sendWakeAll, State.sendSleep_sleep]
    · rw [State.sendWakeAll, State.sendSleep_sleep]; exact s.mfind_sawWake code
    · rw [State.sleepReg_sendWakeAll]; exact h2

end Sys2Proof.Machine
end

section
/-!
PROOFS. What the PIN island does up to a beat (R193, R246, R253 to R261): a part of the state that keeps its value under its own writes, its counts and its
records keeps it.
-/
namespace Sys2Proof.Machine

/-- A part of the state that the PIN island and the crossbar do not write: not the sequencer, the pins, the pawns, the ports and what goes out, no register
from area 2 on, and not what a record changes. -/
structure PinBlind {β : Type} (g : State → β) : Prop where
  wr      : ∀ (s : State) (o v : Nat), 0x200000 ≤ o → g (s.wr o v) = g s
  took    : ∀ s : State, g s.tookFree = g s
  raiseAt : ∀ (s : State) (at_ : Nat) (i : Island) (cls reason tag : Nat), g (s.raiseAt at_ i cls reason tag) = g s
  seq     : ∀ (s : State) (x : SeqSt), g { s with seq := x } = g s
  pins    : ∀ (s : State) (x : PinsSt), g { s with pins := x } = g s
  pawns   : ∀ (s : State) (x : PawnsSt), g { s with pawns := x } = g s
  ports   : ∀ (s : State) (x : NMap PortSt), g { s with ports := x } = g s
  out     : ∀ (s : State) (x : List Out), g { s with out := x } = g s

namespace PinBlind

section
variable {β : Type} {g : State → β} (hg : PinBlind g)
include hg

theorem inc (s : State) {o : Nat} (h : 0x200000 ≤ o) : g (s.inc o) = g s := by
  unfold State.inc State.addTo
  split
  · exact hg.wr s o _ h
  · exact (hg.took _).trans (hg.wr s o _ h)

/-! The process images (R32 to R36). -/

theorem setRecLive (s : State) (i : Nat) (r : RecLive) : g (s.setRecLive i r) = g s := hg.seq s _

theorem setImage (s : State) (sel : ImageSel) (x : Image) : g (s.setImage sel x) = g s := by cases sel <;> exact hg.seq s _

theorem depart (s : State) (i reason : Nat) : g (s.depart i reason) = g s := by
  unfold State.depart
  dsimp only
  split
  · rfl
  split
  · split
    · exact hg.setRecLive s i _
    · exact (hg.raiseAt _ _ _ _ _ _).trans (hg.setRecLive s i _)
  · exact hg.setRecLive s i _

theorem arriveByte (s : State) (sel : ImageSel) (a : Nat) (v : Byte) : g (s.arriveByte sel a v) = g s := by
  unfold State.arriveByte
  dsimp only
  split
  · split
    · rfl
    · exact hg.setImage s sel _
  · exact hg.setImage s sel _

theorem arriveBytes (s : State) (sel : ImageSel) (o : Nat) (l : List Byte) : g (s.arriveBytes sel o l) = g s := by
  induction l generalizing s o with
  | nil => rfl
  | cons v l ih => rw [State.arriveBytes, ih, hg.arriveByte]

/-! Edges (R26, R246). -/

theorem violateRecord (s : State) (t : SampleTaken) (e : Nat × RecDecl) : g (s.violateRecord t e) = g s := by
  have hcount : g (s.inc 0x408013) = g s := hg.inc s (by decide)
  have hinput (c : Prop) [Decidable c] (l : List Byte) (o : Nat) :
      g (if c then (s.inc 0x408013).arriveBytes .input o l else s.inc 0x408013) = g s := by
    split
    · exact (hg.arriveBytes _ _ _ _).trans hcount
    · exact hcount
  unfold State.violateRecord
  dsimp only
  split
  · exact (hg.raiseAt _ _ _ _ _ _).trans hcount
  split
  · exact (hg.depart _ _ _).trans hcount
  · exact (hg.depart _ _ _).trans ((hg.setRecLive _ _ _).trans (hinput _ _ _))

theorem setupFailed (s : State) : g s.setupFailed = g s := (hg.wr _ _ _ (by decide)).trans (hg.seq s _)

theorem lateHold (s : State) (pin ns : Nat) (l : List SampleTaken) : g (s.lateHold pin ns l) = g s := by
  induction l with
  | nil => exact hg.pins s _
  | cons t l ih =>
    have hviolate : g ((s.lateHold pin ns l).setupFailed.violateSample t (fun p => p == pin)).1 = g s :=
      (State.foldl_keeps g (fun u e => hg.violateRecord u t e) _ _).trans ((hg.setupFailed _).trans ih)
    have hpair (c : Prop) [Decidable c] : g (if c then (s.lateHold pin ns l).setupFailed.violateSample t (fun p => p == pin)
        else (s.lateHold pin ns l, t)).1 = g s := by
      split
      · exact hviolate
      · exact ih
    exact (hg.pins _ _).trans (hpair _)

theorem syncLatch (s : State) (pin : Nat) : g (s.syncLatch pin) = g s := hg.wr s _ _ (by omega)

theorem ownerSet (s : State) (pin : Nat) (lvl : Bool) : g (s.ownerSet pin lvl) = g s := by
  refine (hg.syncLatch _ _).trans ?_
  dsimp only
  split
  · exact (hg.inc _ (by decide)).trans (hg.pins s _)
  · exact hg.pins s _

/-! Lines of the crossbar (R253 to R257). -/

theorem settleClock (s : State) (c : PinClock) : g (s.settleClock c) = g s := by
  refine (State.foldl_keeps g (fun u p => hg.syncLatch u p) _ _).trans ?_
  exact (State.foldl_keeps g (fun u _ => hg.inc u (by decide)) _ _).trans (hg.pins s _)

theorem setPawn (s : State) (q : Nat) (x : PawnSt) : g (s.setPawn q x) = g s := hg.pawns s _

theorem wakePawn (s : State) (q ns : Nat) : g (s.wakePawn q ns) = g s := by
  unfold State.wakePawn
  dsimp only
  split
  · rfl
  split
  · exact (hg.setPawn _ _ _).trans ((hg.setPawn _ _ _).trans (hg.setPawn s _ _))
  · exact hg.inc s (by decide)

theorem setPort (s : State) (p : Port) (x : PortSt) : g (s.setPort p x) = g s := hg.ports s _

theorem sendExpressAt (s : State) (at_ : Nat) (p : Port) (x : Express) : g (s.sendExpressAt at_ p x) = g s := by
  have hobj (sub : Nat) : 0x200000 ≤ portObj p 1 sub := by simp only [portObj]; omega
  unfold State.sendExpressAt
  dsimp only
  split
  · exact (hg.out _ _).trans (hg.setPort s p _)
  split
  · exact (hg.wr _ _ _ (hobj _)).trans (hg.setPort s p _)
  · exact (hg.raiseAt _ _ _ _ _ _).trans (hg.wr s _ _ (hobj _))

theorem offerExpress (s : State) (p : Port) (rank clk : Nat) (x : Express) : g (s.offerExpress p rank clk x) = g s :=
  (hg.out _ _).trans ((hg.setPort _ p _).trans (hg.sendExpressAt s _ p _))

theorem emitExpress (s : State) (event ns : Nat) : g (s.emitExpress event ns) = g s := by
  have hall (x : Express) (ps : List Port) : g (s.sendExpressAll 4 (ceilDiv (25 * ns) 64) x ps) = g s :=
    State.foldl_keeps g (fun u q => hg.offerExpress u q _ _ x) _ s
  unfold State.emitExpress
  split
  · dsimp only
    split
    · exact hall _ _
    · exact (hg.inc _ (by decide)).trans ((hg.pins _ _).trans (hall _ _))
  · rfl

theorem lineActs (s : State) (l ns : Nat) : g (s.lineActs l ns) = g s := by
  unfold State.lineActs
  split
  · rfl
  refine State.foldl_keeps g (fun u e => ?_) _ s
  split
  · refine State.foldl_keeps g (fun v p => ?_) _ u
    split
    · exact hg.wakePawn v _ ns
    · rfl
  · exact hg.emitExpress u _ ns

theorem raiseLine (s : State) (l ns : Nat) : g (s.raiseLine l ns) = g s := by
  have hcount : g (s.inc (0x610100 + l)) = g s := hg.inc s (by omega)
  unfold State.raiseLine
  dsimp only
  split
  · rfl
  split
  · exact (hg.lineActs _ _ _).trans ((hg.settleClock _ _).trans hcount)
  · exact (hg.pins _ _).trans hcount

theorem filteredEdge (s : State) (pin raw ns : Nat) (lvl : Bool) : g (s.filteredEdge pin raw ns lvl) = g s := by
  have hobj : 0x200000 ≤ lastEdgeObj pin := by simp only [lastEdgeObj]; omega
  refine (State.foldl_keeps g (fun u l => hg.raiseLine u l ns) _ _).trans ?_
  exact (hg.lateHold _ _ _ _).trans ((hg.wr _ _ _ hobj).trans (hg.pins s _))

/-- What is due at the PIN clocks of a beat. -/
theorem pinsToBeat (s : State) : g s.pinsToBeat = g s := by
  refine (hg.pins _ _).trans ((State.foldl_keeps g (fun u e => ?_) _ _).trans (hg.pins s _))
  unfold State.pinDue
  split
  · exact hg.ownerSet u _ _
  · exact hg.filteredEdge u _ _ _ _
  · exact hg.raiseLine u _ _

end

end PinBlind

end Sys2Proof.Machine
end

section
/-!
PROOFS. Resets (R368, R407, R415 to R424): what a reset of the core die outlasts and what it clears, and the statement about POR, CPR, HRST, WRST and the
watchdogs.
-/
namespace Sys2Proof.Machine

/-! What counts, records and the PIN island leave of the parts that outlast a reset. -/

/-- The flash, the commands that wait, the bridge, the stored journal, and the run of watchdog resets: what no count, record or pin changes. -/
def State.outlasts (s : State) : NMap Nat × NMap (List Byte) × List Instr × BridgeSt × NMap JRecord × Nat :=
  (s.flash, s.flashBlobs, s.pending, s.bridge, s.journal.recs, s.rd 0x102003)

theorem State.outlasts_wr (s : State) {o : Nat} (v : Nat) (h : o ≠ 0x102003) : (s.wr o v).outlasts = s.outlasts := by
  simp [State.outlasts, State.rd_wr_ne _ _ h.symm]

theorem State.outlasts_inc (s : State) {o : Nat} (h : o ≠ 0x102003) : (s.inc o).outlasts = s.outlasts := by
  unfold State.inc State.addTo
  split
  · exact s.outlasts_wr _ h
  · exact s.outlasts_wr _ h

theorem State.outlasts_recordLost (s : State) (cls : Nat) : (s.recordLost cls).outlasts = s.outlasts := by
  unfold State.recordLost
  refine (State.outlasts_wr _ _ (by decide)).trans ?_
  split
  · exact s.outlasts_inc (by omega)
  · rfl

theorem State.outlasts_powerLog (s : State) (r : JRecord) : (s.powerLog r).outlasts = s.outlasts := by
  unfold State.powerLog
  dsimp only
  split
  · rfl
  · exact State.outlasts_inc _ (by decide)

theorem State.outlasts_raiseAt (s : State) (at_ : Nat) (i : Island) (cls reason tag : Nat) : (s.raiseAt at_ i cls reason tag).outlasts = s.outlasts := by
  have hrd := s.rd_raiseAt at_ i cls reason tag (o := 0x102003) (by decide) (by decide)
  have hrecs := congrArg (fun e => e.2.2) (s.entries_raiseAt at_ i cls reason tag)
  obtain ⟨_, _, _, h⟩ := s.raiseAt_frame at_ i cls reason tag
  rw [h] at hrd hrecs ⊢
  simp only [State.entries] at hrecs
  simp [State.outlasts, hrd, hrecs]

theorem outlasts_pinBlind : PinBlind State.outlasts where
  wr s o v h := s.outlasts_wr v (by omega)
  took _ := rfl
  raiseAt := State.outlasts_raiseAt
  seq _ _ := rfl
  pins _ _ := rfl
  pawns _ _ := rfl
  ports _ _ := rfl
  out _ _ := rfl

theorem State.outlasts_keeperStops (s : State) : s.keeperStops.outlasts = s.outlasts := by
  unfold State.keeperStops
  rw [State.foldl_keeps State.outlasts, State.foldl_keeps State.outlasts]
  · rfl
  · exact fun t e => State.foldl_keeps State.outlasts (fun u r => u.outlasts_recordLost r.cls) e.2 t
  · exact fun t e => State.foldl_keeps State.outlasts (fun u r => u.outlasts_powerLog _) e.2 t

theorem State.outlasts_resetSnaps (s : State) (warm : Bool) : (s.resetSnaps warm).outlasts = s.outlasts := by
  unfold State.resetSnaps
  split
  · refine State.foldl_keeps State.outlasts (fun t k => ?_) _ s
    unfold State.uncollected
    dsimp only
    split
    · exact State.outlasts_raiseAt _ _ _ _ _ _
    · rfl
  · rfl

theorem State.outlasts_resetCause (s : State) (k : ResetKind) (source mode flags frames ods : Nat) :
    (s.resetCause k source mode flags frames ods).outlasts = s.outlasts :=
  (State.outlasts_inc _ (by cases k <;> decide)).trans (State.outlasts_wr _ _ (by decide))

/-- The Keeper no longer runs. -/
theorem State.keeperStops_keeperUp (s : State) : s.keeperStops.modes.keeperUp = false := by
  unfold State.keeperStops
  rw [State.foldl_keeps (fun t => t.modes.keeperUp), State.foldl_keeps (fun t => t.modes.keeperUp)]
  · refine fun t e => State.foldl_keeps (fun t => t.modes.keeperUp) (fun u r => ?_) e.2 t
    obtain ⟨_, _, h⟩ := u.recordLost_frame r.cls
    rw [h]
  · refine fun t e => State.foldl_keeps (fun t => t.modes.keeperUp) (fun u r => ?_) e.2 t
    obtain ⟨_, _, _, h⟩ := u.powerLog_frame { r with sec := u.modes.aonCount % 2 ^ 32, nano := 0xFFFFFFFF }
    rw [h]

/-! The objects that a reset does not keep. -/

theorem mfind_ne_none_of_mem {α : Type} {m : NMap α} {e : Nat × α} (h : e ∈ m) : mfind m e.1 ≠ none := by
  induction m with
  | nil => cases h
  | cons a m ih =>
    by_cases hk : e.1 = a.1
    · simp [mfind, hk]
    · have hmem : e ∈ m := (List.mem_cons.mp h).resolve_left (fun heq => hk (heq ▸ rfl))
      simpa [mfind, hk] using ih hmem

/-- An object that a reset does not keep and that flash does not hold takes its default (R419). -/
theorem State.rd_persist_lost {s : State} {kept : Nat → Bool} {o : Nat} (h : kept o = false) (hf : mfind s.flash o = none) :
    (s.persist kept).rd o = objDefault o := by
  change (mfind (persistObjs kept s.objs s.flash) o).getD _ = _
  rw [persistObjs, mfind_foldl_minsert, mfind_filter, if_neg (by simp [h])]
  · rfl
  · intro e he heq
    exact mfind_ne_none_of_mem (List.mem_filter.mp he).1 (heq ▸ hf)

theorem objPersist_watchdogRun : objPersist 0x102003 = .a := by decide +kernel

/-! The reset of the core die. -/

/-- What the clearing of the core die leaves (R417, R419): what outlasts it, with the journal where it is warm. -/
theorem State.clearCore_leaves (s : State) (warm keepD : Bool) :
    (s.clearCore warm keepD).outlasts = (s.flash, s.flashBlobs, s.pending, {}, if warm then s.journal.recs else [], s.rd 0x102003) := by
  obtain ⟨u, hu⟩ : ∃ u, u = (s.resetSnaps warm).keeperStops := ⟨_, rfl⟩
  have hout : u.outlasts = s.outlasts := by rw [hu, State.outlasts_keeperStops, State.outlasts_resetSnaps]
  have hrd : ((u.coreLost.resetPins).persist (keptBy warm keepD)).rd 0x102003 = u.rd 0x102003 :=
    State.rd_persist (by simp [keptBy, objPersist_watchdogRun])
  simp only [State.outlasts, Prod.mk.injEq] at hout
  obtain ⟨hflash, hblobs, hpending, -, hrecs, hwdr⟩ := hout
  simp only [State.clearCore, ← hu]
  simp only [State.outlasts, Prod.mk.injEq]
  exact ⟨hflash, hblobs, hpending, trivial, by rw [← hrecs]; rfl, hrd.trans hwdr⟩

/-- The objects of a state whose core die is cleared, where no class keeps them (R419). -/
theorem State.rd_clearCore_lost (s : State) {warm keepD : Bool} {o : Nat} (h : keptBy warm keepD o = false) (hf : mfind s.flash o = none) :
    (s.clearCore warm keepD).rd o = objDefault o := by
  obtain ⟨u, hu⟩ : ∃ u, u = (s.resetSnaps warm).keeperStops := ⟨_, rfl⟩
  have hout : u.outlasts = s.outlasts := by rw [hu, State.outlasts_keeperStops, State.outlasts_resetSnaps]
  have hflash : u.flash = s.flash := congrArg Prod.fst hout
  have hrd : ((u.coreLost.resetPins).persist (keptBy warm keepD)).rd o = objDefault o := State.rd_persist_lost h (by rw [← hflash] at hf; exact hf)
  simp only [State.clearCore, ← hu]
  exact hrd

theorem keptBy_v {o : Nat} (warm keepD : Bool) (hv : objPersist o = .v) (hpin : pinCell o = false) : keptBy warm keepD o = false := by
  simp [keptBy, hv, hpin]

/-- A reset of the core die is noted: its cause, and the counts of a watchdog (R422, R424). -/
def State.resetNoted (s : State) (k : ResetKind) (source : Nat) : State :=
  let frames := if k.warm source then min s.switch.stored.length 0xFFFF else 0xFFFF
  let ods := if k.warm source then min s.odHeld 0xFFFF else 0xFFFF
  let s1 := s.resetCause k source (modeCode s.mode) (b2n s.inBrace) frames ods
  if k = .wdr then (s1.inc 0x102002).wr 0x102003 (min 3 (s1.rd 0x102003 + 1)) else s1

theorem State.resetNoted_outlasts (s : State) (k : ResetKind) (source : Nat) : (s.resetNoted k source).outlasts =
    (s.flash, s.flashBlobs, s.pending, s.bridge, s.journal.recs, if k = .wdr then min 3 (s.rd 0x102003 + 1) else s.rd 0x102003) := by
  unfold State.resetNoted
  dsimp only
  generalize (if k.warm source = true then min s.switch.stored.length 0xFFFF else 0xFFFF) = frames
  generalize (if k.warm source = true then min s.odHeld 0xFFFF else 0xFFFF) = ods
  obtain ⟨u, hu⟩ : ∃ u, u = s.resetCause k source (modeCode s.mode) (b2n s.inBrace) frames ods := ⟨_, rfl⟩
  have hout : u.outlasts = s.outlasts := by rw [hu, State.outlasts_resetCause]
  have hcount : (u.inc 0x102002).outlasts = s.outlasts := (u.outlasts_inc (by decide)).trans hout
  rw [← hu]
  simp only [State.outlasts, Prod.mk.injEq] at hout hcount
  obtain ⟨hflash, hblobs, hpending, hbridge, hrecs, hwdr⟩ := hcount
  split
  · simp only [State.outlasts, State.rd_wr_self, Prod.mk.injEq]
    exact ⟨hflash, hblobs, hpending, hbridge, hrecs, by rw [hout.2.2.2.2.2]⟩
  · simp only [State.outlasts, Prod.mk.injEq]
    exact hout

theorem State.coreReset_eq (s : State) (k : ResetKind) (source : Nat) : s.coreReset k source =
    { (s.resetNoted k source).clearCore (k.warm source) (k.warm source) with
      mode := .standby
      update := ((s.resetNoted k source).clearCore (k.warm source) (k.warm source)).update.afterReset
      bridge := if k = .wrst || k = .wdr then { aperP := s.bridge.aperP, aperN := s.bridge.aperN, aperSet := s.bridge.aperSet }
        else ((s.resetNoted k source).clearCore (k.warm source) (k.warm source)).bridge } := by
  simp only [State.coreReset, State.resetNoted]

/-- What a reset of the core die clears (R417). -/
structure Cleared (t : State) : Prop where
  seq    : t.seq = {}
  pawns  : t.pawns = {}
  od     : t.od = {}
  switch : t.switch = {}
  time   : t.time = {}
  ports  : t.ports = []
  stores : t.stores = []
  keeper : t.modes.keeperUp = false
  wrst   : t.modes.wrst = false

theorem State.clearCore_cleared (s : State) (warm keepD : Bool) : Cleared (s.clearCore warm keepD) where
  seq := rfl
  pawns := rfl
  od := rfl
  switch := rfl
  time := rfl
  ports := rfl
  stores := rfl
  keeper := (s.resetSnaps warm).keeperStops_keeperUp
  wrst := rfl

/-- The same of the whole reset. -/
theorem State.coreReset_cleared (s : State) (k : ResetKind) (source : Nat) : Cleared (s.coreReset k source) := by
  have h := (s.resetNoted k source).clearCore_cleared (k.warm source) (k.warm source)
  rw [State.coreReset_eq]
  exact ⟨h.seq, h.pawns, h.od, h.switch, h.time, h.ports, h.stores, h.keeper, h.wrst⟩

/-- A reset of the core die leads to Standby with the bridge at reset, or with its aperture sizes, and keeps what outlasts it (R415, R417, R423). -/
theorem State.coreReset_leaves (s : State) (k : ResetKind) (source : Nat) : (s.coreReset k source).mode = .standby ∧
    (s.coreReset k source).outlasts = (s.flash, s.flashBlobs, s.pending,
      if k = .wrst || k = .wdr then { aperP := s.bridge.aperP, aperN := s.bridge.aperN, aperSet := s.bridge.aperSet } else {},
      if k.warm source then s.journal.recs else [], if k = .wdr then min 3 (s.rd 0x102003 + 1) else s.rd 0x102003) := by
  have hnoted := s.resetNoted_outlasts k source
  have hleaves := (s.resetNoted k source).clearCore_leaves (k.warm source) (k.warm source)
  simp only [State.outlasts, Prod.mk.injEq] at hnoted hleaves
  obtain ⟨hflash, hblobs, hpending, -, hrecs, hwdr⟩ := hnoted
  obtain ⟨hflash', hblobs', hpending', hbridge', hrecs', hwdr'⟩ := hleaves
  have hrd : (s.coreReset k source).rd 0x102003 = ((s.resetNoted k source).clearCore (k.warm source) (k.warm source)).rd 0x102003 := by
    rw [State.coreReset_eq]
    exact State.rd_of_objs rfl _
  constructor
  · rw [State.coreReset_eq]
  · simp only [State.outlasts, Prod.mk.injEq]
    refine ⟨?_, ?_, ?_, ?_, ?_, by rw [hrd, hwdr', hwdr]⟩
    · rw [State.coreReset_eq, ← hflash, ← hflash']
    · rw [State.coreReset_eq, ← hblobs, ← hblobs']
    · rw [State.coreReset_eq, ← hpending, ← hpending']
    · rw [State.coreReset_eq, ← hbridge']
    · rw [State.coreReset_eq, ← hrecs, ← hrecs']

theorem State.rd_coreReset_lost (s : State) (k : ResetKind) (source : Nat) {o : Nat} (hv : objPersist o = .v) (hpin : pinCell o = false)
    (hf : mfind s.flash o = none) : (s.coreReset k source).rd o = objDefault o := by
  have hflash : (s.resetNoted k source).flash = s.flash := congrArg Prod.fst (s.resetNoted_outlasts k source)
  have hcore := (s.resetNoted k source).rd_clearCore_lost (keptBy_v (k.warm source) (k.warm source) hv hpin) (by rw [hflash, hf])
  rw [State.coreReset_eq]
  exact hcore

/-- A command that resets the core die, from a state that what is due in the PIN island may have reached, leaves what R415 to R419 say. -/
theorem exec_reset {s u : State} {c : Instr} {k : ResetKind} {source : Nat} {warm : Bool} (hexec : exec c s = .next (u.coreReset k source))
    (hu : u.outlasts = s.outlasts) (hwarm : k.warm source = warm) (hbridge : (k = .wrst || k = .wdr) = !decide (c = .hrst))
    (hwdr : c = .keeperWatchdogExpiry ∨ c = .aonWatchdogExpiry → k = .wdr) (hrest : c = .hrst ∨ c = .wrstTakesEffect → k ≠ .wdr) :
    ∃ t : State, exec c s = .next t ∧ t.mode = .standby ∧ t.seq = {} ∧ t.pawns = {} ∧ t.od = {} ∧
      t.bridge = (if c = .hrst then {} else { aperP := s.bridge.aperP, aperN := s.bridge.aperN, aperSet := s.bridge.aperSet }) ∧ t.switch = {} ∧ t.time = {} ∧
      t.ports = [] ∧ t.stores = [] ∧ t.flash = s.flash ∧ t.flashBlobs = s.flashBlobs ∧ t.modes.keeperUp = false ∧ t.modes.wrst = false ∧
      t.journal.recs = (if warm then s.journal.recs else []) ∧ t.pending = s.pending ∧
      (∀ o, objPersist o = .v → pinCell o = false → mfind s.flash o = none → t.rd o = objDefault o) ∧
      (c = .keeperWatchdogExpiry ∨ c = .aonWatchdogExpiry → t.rd 0x102003 = min 3 (s.rd 0x102003 + 1)) ∧
      (c = .hrst ∨ c = .wrstTakesEffect → t.rd 0x102003 = s.rd 0x102003) := by
  obtain ⟨hmode, hleaves⟩ := u.coreReset_leaves k source
  have hclear := u.coreReset_cleared k source
  simp only [State.outlasts, Prod.mk.injEq] at hu hleaves
  obtain ⟨hflash, hblobs, hpending, hub, hrecs, hrun⟩ := hu
  obtain ⟨hflash', hblobs', hpending', hbridge', hrecs', hrun'⟩ := hleaves
  rw [hub, hbridge] at hbridge'
  rw [hwarm, hrecs] at hrecs'
  rw [hrun] at hrun'
  refine ⟨_, hexec, hmode, hclear.seq, hclear.pawns, hclear.od, ?_, hclear.switch, hclear.time, hclear.ports, hclear.stores, hflash'.trans hflash,
    hblobs'.trans hblobs, hclear.keeper, hclear.wrst, hrecs', hpending'.trans hpending, ?_, fun h => ?_, fun h => ?_⟩
  · rw [hbridge']
    by_cases h : c = .hrst <;> simp [h]
  · exact fun o hv hpin hf => u.rd_coreReset_lost k source hv hpin (by rw [hflash, hf])
  · rw [hrun', if_pos (hwdr h)]
  · rw [hrun', if_neg (hrest h)]

/-! Loss of VAON. -/

/-- A loss of VAON is journalled before the POR (R387). -/
def State.vaonFell (s : State) : State := ({ s with power := { s.power with under := setBit s.power.under 0x13 true } }).railJournal 0x72 0x13 3

theorem State.vaonFell_flash (s : State) : s.vaonFell.flash = s.flash := by
  unfold State.vaonFell State.railJournal
  split
  · rfl
  · exact congrArg Prod.fst (State.outlasts_raiseAt _ _ _ _ _ _)

theorem State.vaonFell_under (s : State) : s.vaonFell.power.under.testBit 0x13 = true := by
  have hset : (setBit s.power.under 0x13 true).testBit 0x13 = true := testBit_setBit_self _ _ _
  unfold State.vaonFell State.railJournal
  split
  · exact hset
  · rw [State.raise_power]
    exact hset

/-- The core die and the classes that a POR does not keep are lost (R368, R419). -/
def State.porCore (s : State) (below : Bool) : State := (s.clearCore false false).persist (fun o => !below && objPersist o = .a)

/-- Its channels are off (R368). -/
def State.porRuns (s : State) (below : Bool) : State :=
  (List.range 9).foldl (fun t c => if t.gateOn c then t.wr (chanObj c 1 0) 0 else t) (s.porCore below)

/-- The transceivers that VCAN left show it (R280). -/
def State.porXcvrs (s : State) (below : Bool) : State :=
  if (s.porRuns below).power.under.testBit 0x14 then [0, 1].foldl (fun t k => t.wr (xcvrObj k 5) 2) (s.porRuns below) else s.porRuns below

theorem State.porRuns_keeps {β : Type} (g : State → β) (hg : ∀ (s : State) (o v : Nat), g (s.wr o v) = g s) (s : State) (below : Bool) :
    g (s.porRuns below) = g (s.porCore below) := by
  refine State.foldl_keeps g (fun t c => ?_) _ _
  split
  · exact hg t _ 0
  · rfl

theorem State.porRuns_under (s : State) (below : Bool) : (s.porRuns below).power.under = s.power.under := by
  have hcore : (s.porCore below).power = (s.clearCore false false).power := rfl
  rw [State.porRuns_keeps (fun t => t.power.under) (fun _ _ _ => rfl), hcore, State.clearCore_cold_power]

theorem State.porXcvrs_keeps {β : Type} (g : State → β) (hg : ∀ (s : State) (o v : Nat), g (s.wr o v) = g s) (s : State) (below : Bool) :
    g (s.porXcvrs below) = g (s.porCore below) := by
  have hruns := State.porRuns_keeps g hg s below
  unfold State.porXcvrs
  split
  · exact (State.foldl_keeps g (fun t k => hg t _ 2) _ _).trans hruns
  · exact hruns

/-- The state in which a POR begins, by its parts. -/
theorem State.porStart_eq (s : State) (below : Bool) : s.porStart below = { (s.porXcvrs below).wr 0x712000 0 with
    mode := .noPower
    pins := { owner := if below then 0 else (s.porRuns below).pins.owner, raw := (s.porRuns below).pins.raw, filt := (s.porRuns below).pins.raw }
    bus := {}
    power := { warn := (s.porRuns below).power.warn, under := (s.porRuns below).power.under, copyLost := (s.porRuns below).power.copyLost || below,
               copy := if below then [] else (s.porRuns below).power.copy, cmd := if below then [] else (s.porRuns below).power.cmd,
               retry := if below then 0 else (s.porRuns below).power.retry, retryMs := if below then [] else (s.porRuns below).power.retryMs }
    doze := {}
    pair := {}
    snaps := []
    journal := if below then {} else { plog := (s.porRuns below).journal.plog, plogCnt := (s.porRuns below).journal.plogCnt,
                                       plogLost := (s.porRuns below).journal.plogLost }
    update := (s.porRuns below).update.afterReset
    modes := { aonLost := below, porMode := modeCode s.mode, porSource := 0x13, porBrace := s.inBrace } } := by
  have hruns : (List.range 9).foldl (fun t c => if t.gateOn c then t.wr (chanObj c 1 0) 0 else t)
      ((s.clearCore false false).persist (fun o => !below && objPersist o = .a)) = s.porRuns below := rfl
  unfold State.porStart State.porXcvrs
  dsimp only
  rw [hruns]

theorem objDefault_chanRun {c : Nat} (h : c < 9) : objDefault (chanObj c 1 0) = 0 := by
  have hall : ∀ c : Fin 9, objDefault (chanObj c.val 1 0) = 0 := by decide +kernel
  exact hall ⟨c, h⟩

theorem objPersist_xcvrCause : objPersist (xcvrObj 0 5) = .v ∧ objPersist (xcvrObj 1 5) = .v ∧ objPersist 0x712000 = .v := by decide +kernel

/-- Below 1.80 V every object of class A reads its default after the POR has begun (R368). -/
theorem State.rd_porStart_below (s : State) {o : Nat} (ha : objPersist o = .a) (hf : mfind s.flash o = none) : (s.porStart true).rd o = objDefault o := by
  obtain ⟨h0, h1, hinh⟩ := objPersist_xcvrCause
  have hflash : (s.clearCore false false).flash = s.flash := congrArg Prod.fst (s.clearCore_leaves false false)
  have hcore : (s.porCore true).rd o = objDefault o := State.rd_persist_lost (by simp) (by rw [hflash, hf])
  have hruns : (s.porRuns true).rd o = objDefault o := by
    unfold State.porRuns
    refine List.foldlRecOn (motive := fun t : State => t.rd o = objDefault o) _ _ hcore (fun t ht c hc => ?_)
    split
    · rw [State.rd_wr]
      split
      · next h => rw [h, objDefault_chanRun (List.mem_range.mp hc)]
      · exact ht
    · exact ht
  have hxcvrs : (s.porXcvrs true).rd o = objDefault o := by
    unfold State.porXcvrs
    split
    · simp only [List.foldl_cons, List.foldl_nil]
      rw [State.rd_wr_ne _ _ (by rintro rfl; simp [h1] at ha), State.rd_wr_ne _ _ (by rintro rfl; simp [h0] at ha), hruns]
    · exact hruns
  have hlast : ((s.porXcvrs true).wr 0x712000 0).rd o = objDefault o := by
    rw [State.rd_wr_ne _ _ (by rintro rfl; simp [hinh] at ha), hxcvrs]
  rw [State.porStart_eq]
  exact hlast

/-- What the beginning of a POR leaves (R368, R476). -/
theorem State.porStart_leaves (s : State) (below : Bool) : (s.porStart below).mode = .noPower ∧ (s.porStart below).seq = {} ∧ (s.porStart below).od = {} ∧
    (s.porStart below).bus = {} ∧ (s.porStart below).flash = s.flash ∧ (s.porStart below).stores = [] ∧
    (s.porStart below).power.under = s.power.under ∧ (below = true → (s.porStart below).pins.owner = 0) ∧ (s.porStart below).rd 0x712000 = 0 := by
  have hinh : ((s.porXcvrs below).wr 0x712000 0).rd 0x712000 = 0 := State.rd_wr_self _ _ _
  have hkeeps := State.porXcvrs_keeps (fun t => (t.seq, t.od, t.flash, t.stores)) (fun _ _ _ => rfl) s below
  have hcore : (s.porCore below).seq = {} ∧ (s.porCore below).od = {} ∧ (s.porCore below).flash = s.flash ∧ (s.porCore below).stores = [] :=
    ⟨(s.clearCore_cleared false false).seq, (s.clearCore_cleared false false).od, congrArg Prod.fst (s.clearCore_leaves false false), rfl⟩
  have hunder := s.porRuns_under below
  obtain ⟨hseq, hod, hflash, hstores⟩ := hcore
  simp only [hseq, hod, hflash, hstores, Prod.mk.injEq] at hkeeps
  obtain ⟨hseq', hod', hflash', hstores'⟩ := hkeeps
  rw [State.porStart_eq]
  generalize s.porXcvrs below = v at *
  generalize s.porRuns below = r at *
  exact ⟨rfl, hseq', hod', rfl, hflash', hstores', hunder, fun hb => by simp [hb], hinh⟩

/-! The end of a POR. -/

theorem State.rd_resetCause (s : State) (k : ResetKind) (source mode flags frames ods : Nat) {o : Nat} (h : 0x102000 ≤ o) :
    (s.resetCause k source mode flags frames ods).rd o = s.rd o := by
  have hcode : k.code ≤ 8 := by cases k <;> decide
  rw [State.resetCause, State.rd_inc_ne _ (by omega), State.rd_wr_ne _ _ (by omega), State.wrB_rd]

theorem State.rd_noteBrace (s : State) (rail : Nat) {o : Nat} (h : o ≠ 0x103002) : (s.noteBrace rail).rd o = s.rd o := by
  unfold State.noteBrace
  split
  · rfl
  · split
    · exact State.rd_inc_ne _ h
    · rfl

theorem State.resetCause_mode (s : State) (k : ResetKind) (source mode flags frames ods : Nat) :
    (s.resetCause k source mode flags frames ods).mode = s.mode := State.inc_mode _ _

/-- Both transceivers are in Standby, and the hub is where it was. -/
theorem State.xcvrsStandby (s : State) :
    ([0, 1].foldl (fun s t => (s.setWant t 2).setXcvr t 2) s).mode = s.mode ∧
      ([0, 1].foldl (fun s t => (s.setWant t 2).setXcvr t 2) s).rd (xcvrObj 0 0) = 2 ∧
      ([0, 1].foldl (fun s t => (s.setWant t 2).setXcvr t 2) s).rd (xcvrObj 1 0) = 2 := by
  have hne (x : Nat) (hx : x < 2) : xcvrObj x 0 ≠ 0x712000 := by simp only [xcvrObj]; omega
  simp only [List.foldl_cons, List.foldl_nil]
  refine ⟨rfl, ?_, ?_⟩
  · rw [State.rd_setXcvr _ _ _ (hne 0 (by decide)), if_neg (by decide)]
    change ((s.setWant 0 2).setXcvr 0 2).rd _ = 2
    rw [State.rd_setXcvr _ _ _ (hne 0 (by decide)), if_pos rfl]
  · rw [State.rd_setXcvr _ _ _ (hne 1 (by decide)), if_pos rfl]

theorem State.porEnd_standby {s : State} (h : s.mode = .noPower) :
    s.porEnd.mode = .standby ∧ s.porEnd.rd (xcvrObj 0 0) = 2 ∧ s.porEnd.rd (xcvrObj 1 0) = 2 := by
  have hkeep (t : State) (l : List Nat) : (l.foldl State.noteBrace t).mode = t.mode ∧ ∀ x, (l.foldl State.noteBrace t).rd (xcvrObj x 0) = t.rd (xcvrObj x 0) :=
    ⟨State.foldl_keeps State.mode State.noteBrace_mode l t,
      fun x => State.rd_foldl_keeps (fun u r => u.rd_noteBrace r (by simp only [xcvrObj]; omega)) l t⟩
  simp only [State.porEnd, if_pos h]
  generalize hu : State.resetCause _ ResetKind.por _ _ _ _ _ = u
  have hmode : u.mode = .standby := by rw [← hu, State.resetCause_mode]
  obtain ⟨hm, h0, h1⟩ := u.xcvrsStandby
  generalize [0, 1].foldl (fun s t => (s.setWant t 2).setXcvr t 2) u = v at *
  obtain ⟨hm', hrd⟩ := hkeep v ((List.range 0x30).filter (fun r => v.startsBrace r && v.power.warn.testBit r))
  generalize ((List.range 0x30).filter (fun r => v.startsBrace r && v.power.warn.testBit r)).foldl State.noteBrace v = w at *
  have hw : w.mode = .standby ∧ w.rd (xcvrObj 0 0) = 2 ∧ w.rd (xcvrObj 1 0) = 2 := ⟨by rw [hm', hm, hmode], by rw [hrd, h0], by rw [hrd, h1]⟩
  split
  · exact hw
  · exact ⟨(State.resetCause_mode _ _ _ _ _ _ _).trans hw.1, (State.rd_resetCause _ _ _ _ _ _ _ (by decide)).trans hw.2.1,
      (State.rd_resetCause _ _ _ _ _ _ _ (by decide)).trans hw.2.2⟩

/-! The statement. -/

theorem State.vaonLoss_of_powered {s : State} (h : s.mode ≠ .noPower) (below : Bool) : s.vaonLoss below = s.vaonFell.porStart below :=
  if_pos (State.powered_of_mode h)

/-- Below 1.80 V in POR every object of class A takes its default (R368). -/
theorem State.rd_retentionLost (s : State) {o : Nat} (ha : objPersist o = .a) (hf : mfind s.flash o = none) : s.retentionLost.rd o = objDefault o := by
  have hlost : (s.persist (fun o => objPersist o != .a)).rd o = objDefault o := State.rd_persist_lost (by simp [ha]) hf
  exact (State.rd_of_objs (s := s.persist (fun o => objPersist o != .a)) rfl o).trans hlost

/-- A WRST that is asked for, with no store pending, takes effect at the end of a cycle, or at once where no boundaries run (R416). -/
theorem State.warmReset_takes {s : State} (hcore : s.coreUp = true)
    (hasked : s.modes.wrst = true ∨ s.mode = .test ∧ (s.rd 0x100101 = 1 ∨ s.rd 0x100101 = 3) ∧ s.inBrace = false) (hstores : s.stores = [])
    (hend : s.ticking = false ∨ s.atCycleEnd = true) : s.warmReset = (if s.ticking then s.pinsToBeat else s).coreReset .wrst 0 := by
  have hwarm : s.warmAsked = true := by
    rcases hasked with h | ⟨hm, h | h, hb⟩
    · simp [State.warmAsked, h]
    · simp [State.warmAsked, State.modeRow, hm, h, hb]
    · simp [State.warmAsked, State.modeRow, hm, h, hb]
  have hnow : (!s.ticking || s.atCycleEnd) = true := by
    rcases hend with h | h <;> simp [h]
  exact if_pos (by simp [State.warmDue, hwarm, hstores, hcore, hnow])

/-- Settles O38, each reset by what the clearing of the core die leaves. -/
theorem resetsLeaveStandby : Obligations.ResetsLeaveStandby := by
  unfold Obligations.ResetsLeaveStandby
  intro s
  refine ⟨fun hm => ⟨_, rfl, State.porEnd_standby hm⟩, fun hm => congrArg Host.Outcome.next (if_neg hm), fun hm => congrArg Host.Outcome.next (if_pos hm),
    fun hcore c warm hc => ?core, fun hcore => ?none, fun hwrst hmode => ?idle, fun below hm => ?vaon, fun hm => ?retention⟩
  case core =>
    obtain ⟨rfl, rfl⟩ | ⟨rfl, rfl⟩ | ⟨rfl, rfl⟩ | ⟨rfl, rfl, hasked, hstores, hend⟩ := hc
    · exact exec_reset (u := s) (k := .hrst) (source := 0) (congrArg Host.Outcome.next (if_pos hcore)) rfl rfl (by decide) (by simp) (by simp)
    · exact exec_reset (u := s) (k := .wdr) (source := 1) (congrArg Host.Outcome.next (if_pos hcore)) rfl rfl (by decide) (by simp) (by simp)
    · exact exec_reset (u := s) (k := .wdr) (source := 2) (congrArg Host.Outcome.next (if_pos hcore)) rfl rfl (by decide) (by simp) (by simp)
    · have hpins : (if s.ticking then s.pinsToBeat else s).outlasts = s.outlasts := by
        split
        · exact outlasts_pinBlind.pinsToBeat s
        · rfl
      exact exec_reset (congrArg Host.Outcome.next (State.warmReset_takes hcore hasked hstores hend)) hpins rfl (by decide) (by simp) (by simp)
  case none =>
    have hno : ¬ s.coreUp = true := by simp [hcore]
    exact ⟨congrArg Host.Outcome.next (if_neg hno), congrArg Host.Outcome.next (if_neg hno), congrArg Host.Outcome.next (if_neg hno),
      congrArg Host.Outcome.next (if_neg (by simp [hcore]))⟩
  case idle =>
    have hasked : s.warmAsked = false := by simp [State.warmAsked, State.modeRow, hwrst, hmode]
    exact congrArg Host.Outcome.next (if_neg (by simp [State.warmDue, hasked]))
  case vaon =>
    obtain ⟨hmode, hseq, hod, hbus, hflash, hstores, hunder, howner, hinh⟩ := s.vaonFell.porStart_leaves below
    refine ⟨_, congrArg Host.Outcome.next (State.vaonLoss_of_powered hm below), hmode, hseq, hod, hbus, hflash.trans s.vaonFell_flash, hstores, ?_, howner, hinh, ?_⟩
    · rw [hunder, s.vaonFell_under]
    · rintro rfl o ha hf
      exact s.vaonFell.rd_porStart_below ha (by rw [s.vaonFell_flash, hf])
  case retention =>
    have hno : ¬ s.powered = true := by simp [State.powered, hm]
    have hlow : s.vaonLoss true = s.retentionLost := (if_neg hno).trans (if_pos rfl)
    exact ⟨congrArg Host.Outcome.next ((if_neg hno).trans (if_neg (by decide))), _, congrArg Host.Outcome.next hlow, hm, rfl,
      fun o ha hf => s.rd_retentionLost ha hf⟩

end Sys2Proof.Machine
end

section
/-!
PROOFS. Bring-up (R411 to R414): what its stages write, stage by stage, and the statement about it.
-/
namespace Sys2Proof.Machine

/-! What no stage but those that name it changes. -/

/-- What bring-up is about: the mode, the stage, its error, the count of watchdog resets, the transmitters, the Keeper and its slot, and the islands. -/
def State.boots (s : State) : Mode × Nat × Nat × Nat × Nat × Bool × Bool × Bool :=
  (s.mode, s.rd 0x104000, s.rd 0x104001, s.rd 0x102003, s.ring.tx, s.modes.keeperUp, s.update.runB, s.seq.released)

theorem State.boots_wr (s : State) {o : Nat} (v : Nat) (h : o ≠ 0x104000 ∧ o ≠ 0x104001 ∧ o ≠ 0x102003) : (s.wr o v).boots = s.boots := by
  obtain ⟨h0, h1, h2⟩ := h
  simp [State.boots, State.rd_wr_ne _ _ h0.symm, State.rd_wr_ne _ _ h1.symm, State.rd_wr_ne _ _ h2.symm]

theorem State.boots_addTo (s : State) {o : Nat} (n : Nat) (h : o ≠ 0x104000 ∧ o ≠ 0x104001 ∧ o ≠ 0x102003) : (s.addTo o n).boots = s.boots := by
  unfold State.addTo
  split
  · exact s.boots_wr _ h
  · exact s.boots_wr _ h

theorem State.boots_inc (s : State) {o : Nat} (h : o ≠ 0x104000 ∧ o ≠ 0x104001 ∧ o ≠ 0x102003) : (s.inc o).boots = s.boots := s.boots_addTo 1 h

theorem State.boots_recordLost (s : State) (cls : Nat) : (s.recordLost cls).boots = s.boots := by
  unfold State.recordLost
  refine (State.boots_wr _ _ (by decide)).trans ?_
  split
  · exact s.boots_inc (by omega)
  · rfl

theorem State.boots_raise (s : State) (i : Island) (cls reason tag : Nat) : (s.raise i cls reason tag).boots = s.boots := by
  have hrd (o : Nat) (ho : o < 0xA00000) : (s.raise i cls reason tag).rd o = s.rd o := s.rd_raise i cls reason tag (by omega) (by omega)
  have h0 := hrd 0x104000 (by decide)
  have h1 := hrd 0x104001 (by decide)
  have h2 := hrd 0x102003 (by decide)
  obtain ⟨_, _, _, h⟩ := s.raise_frame i cls reason tag
  rw [h] at h0 h1 h2 ⊢
  simp [State.boots, h0, h1, h2]

/-- A count of the switch is none of these registers. -/
theorem boots_blind : SwitchBlind State.boots where
  switch _ _ := rfl
  cells s v := s.boots_wr v (by decide)
  count s o h := by
    have hrd (j : Nat) (hj : j % 256 < 8) : (s.inc o).rd j = s.rd j := State.rd_inc_ne _ (by omega)
    have h0 := hrd 0x104000 (by decide)
    have h1 := hrd 0x104001 (by decide)
    have h2 := hrd 0x102003 (by decide)
    obtain ⟨_, _, hf⟩ := s.addTo_frame o 1
    rw [State.inc, hf] at h0 h1 h2 ⊢
    simp [State.boots, h0, h1, h2]
  raise := State.boots_raise

theorem State.boots_notice (s : State) (v : Nat) : (s.notice v).boots = s.boots := by
  unfold State.notice
  split
  · rfl
  split <;> rfl

/-! The records that the Keeper posts once it runs (R387). -/

theorem State.boots_keepRecord (s : State) (r : JRecord) : (s.keepRecord r).boots = s.boots := by
  have hkept : ((({ s with journal := { s.journal with recs := minsert s.journal.recs (s.rd 0xD00000 % 1024) r } }).wr 0xD00000
      ((s.rd 0xD00000 + 1) % 2048))).boots = s.boots := State.boots_wr _ _ (by decide)
  unfold State.keepRecord State.journalNotice
  dsimp only
  split
  · exact (State.boots_notice _ _).trans hkept
  · exact hkept

theorem State.boots_forwardRecord (s : State) (r : JRecord) : (s.forwardRecord r).boots = s.boots := by
  unfold State.forwardRecord
  dsimp only
  split
  · exact (boots_blind.sendFrame _ 7 _).trans (s.boots_inc (by decide))
  · rfl

theorem State.boots_putRecord (s : State) (r : JRecord) : (s.putRecord r).boots = s.boots :=
  (State.boots_forwardRecord _ _).trans (s.boots_keepRecord r)

theorem State.boots_fullPolicy (s : State) (r : JRecord) : (s.fullPolicy r).boots = s.boots := by
  unfold State.fullPolicy
  dsimp only
  split
  · exact (State.boots_putRecord _ _).trans ((State.boots_recordLost _ _).trans (s.boots_wr _ (by decide)))
  · exact s.boots_recordLost _

theorem State.boots_storeRecord (s : State) (r : JRecord) : (s.storeRecord r).boots = s.boots := by
  unfold State.storeRecord
  dsimp only
  split
  · split
    · rw [State.boots_forwardRecord, State.boots_forwardRecord, State.boots_wr _ _ (by decide), State.boots_keepRecord, State.boots_keepRecord,
        State.boots_inc _ (by decide)]
      exact s.boots_wr _ (by decide)
    · exact s.boots_fullPolicy r
  split
  · exact s.boots_putRecord r
  · exact s.boots_fullPolicy r

theorem State.boots_postPowerLog (s : State) : s.postPowerLog.boots = s.boots := by
  unfold State.postPowerLog
  dsimp only
  rw [State.foldl_keeps State.boots State.boots_storeRecord, State.foldl_keeps State.boots (fun t e => ?_), State.foldl_keeps State.boots (fun t e => ?_)]
  · rfl
  · exact t.boots_addTo _ (by omega)
  · exact (State.boots_wr _ _ (by decide)).trans (t.boots_addTo _ (by omega))

/-! The boot record and the class-N store (R431, R442). -/

theorem State.boots_setBoot (s : State) (b : BootRec) : (s.setBoot b).boots = s.boots := by
  unfold State.setBoot
  split
  · rfl
  · unfold UpdateSt.writeBoot
    dsimp only
    split <;> rfl

theorem State.boots_switchStore (s : State) (c : StoreCopy) : (s.switchStore c).boots = s.boots := State.boots_setBoot _ _

theorem State.boots_storeBack (s : State) : s.storeBack.boots = s.boots := by
  unfold State.storeBack
  split
  · exact s.boots_switchStore _
  · rfl

theorem State.boots_startStore (s : State) (od : Nat) : (s.startStore od).boots = s.boots := by
  unfold State.startStore
  dsimp only
  split
  · rfl
  split
  · exact (State.foldl_keeps State.boots (fun t o => t.boots_raise _ _ _ _) _ _).trans (s.boots_switchStore _)
  split
  · exact (State.boots_wr _ _ (by decide)).trans (s.boots_switchStore _)
  split
  · exact s.boots_addTo _ (by decide)
  · rfl

/-- An object that is not of class N reads what it did after the store is loaded (R411). -/
theorem State.rd_loadStore (s : State) {o : Nat} (h : (objPersist o != .n) = true) : s.loadStore.rd o = s.rd o := by
  rw [State.rd, State.loadStore]
  dsimp only
  rw [persistObjs, mfind_foldl_minsert, mfind_filter _ (fun o => objPersist o != .n || (mfind s.stores o).isSome), if_pos (by simp [h])]
  · rfl
  · intro e he heq
    simp [heq, h] at he

theorem objPersist_bootStage : (objPersist 0x104000 != .n) = true ∧ (objPersist 0x104001 != .n) = true ∧ (objPersist 0x102003 != .n) = true := by
  decide +kernel

theorem State.boots_loadStore (s : State) : s.loadStore.boots = s.boots := by
  obtain ⟨h0, h1, h2⟩ := objPersist_bootStage
  simp only [State.boots, Prod.mk.injEq]
  exact ⟨rfl, s.rd_loadStore h0, s.rd_loadStore h1, s.rd_loadStore h2, rfl, rfl, rfl, rfl⟩

theorem State.boots_dropStored (s : State) {o : Nat} (h : objPersist o = .n) :
    ({ s with objs := merase s.objs o, blobs := merase s.blobs o, flash := merase s.flash o, flashBlobs := merase s.flashBlobs o } : State).boots = s.boots := by
  obtain ⟨h0, h1, h2⟩ := objPersist_bootStage
  have hrd (j : Nat) (hj : (objPersist j != .n) = true) : mfind (merase s.objs o) j = mfind s.objs j := by
    rw [mfind_merase, if_neg]
    rintro rfl
    simp [h] at hj
  simp [State.boots, State.rd, hrd _ h0, hrd _ h1, hrd _ h2]

theorem State.boots_loadStage (s : State) (bad : List Nat) : (s.loadStage bad).boots = s.boots := by
  unfold State.loadStage
  dsimp only
  refine (State.boots_loadStore _).trans ((State.boots_startStore _ _).trans ((State.boots_wr _ _ (by decide)).trans ?_))
  refine State.foldl_keeps State.boots (fun t o => ?_) bad s
  split
  next h => exact t.boots_dropStored h
  next => rfl

/-! Entering Configure: features, windows and the schedule at bring-up (R338, R347, R436). -/

theorem State.boots_busJournal (s : State) (n m attempts reason : Nat) : (s.busJournal n m attempts reason).boots = s.boots := s.boots_raise _ _ _ _

theorem State.boots_abandonAll (s : State) (n : Nat) : (s.abandonAll n).boots = s.boots := by
  have hset (t : State) (m : Nat) (y : MsgObj) : (t.setMsg n m y).boots = t.boots := rfl
  have hctl (t : State) (c : BusCtl) : (t.setCtl n c).boots = t.boots := rfl
  have hone (t : State) (m : Nat) : (t.abortObj n m).boots = t.boots := by
    unfold State.abortObj
    dsimp only
    repeat' split
    all_goals simp [State.boots_busJournal, hset, hctl]
  refine State.foldl_keeps State.boots (fun t m => ?_) _ s
  split
  · exact hone t m
  · rfl

theorem State.boots_listenFollow (s : State) : s.listenFollow.boots = s.boots := by
  have hctl (t : State) (n : Nat) (c : BusCtl) : (t.setCtl n c).boots = t.boots := rfl
  have hmode (t : State) (n : Nat) : (t.modeChange n).boots = t.boots := by
    unfold State.modeChange
    dsimp only
    split
    · rw [hctl]
      split
      · exact t.boots_abandonAll n
      · rfl
    · rfl
  have hbus : s.busFollow.boots = s.boots := by
    refine State.foldl_keeps State.boots (fun t n => ?_) _ s
    split
    · exact (hmode _ n).trans (t.boots_abandonAll n)
    · rfl
  refine (State.foldl_keeps State.boots (fun t k => ?_) _ _).trans hbus
  split
  · exact (State.boots_wr _ _ (by decide)).trans (t.boots_wr _ (by simp only [xcvrObj]; omega))
  · rfl

theorem State.boots_featureCommit (s : State) : s.featureCommit.st.boots = s.boots := by
  unfold State.featureCommit
  dsimp only
  generalize (List.range 4).any _ = bad
  have hwords (u v : State → Nat → Nat) :
      ((List.range 4).foldl (fun t w => (t.wr (0x001300 + w) (u t w)).wr (0x001500 + w) (v t w)) s).boots = s.boots := by
    refine List.foldlRecOn (motive := fun t : State => t.boots = s.boots) _ _ rfl (fun t ht w hw => ?_)
    have hlt := List.mem_range.mp hw
    rw [State.boots_wr _ _ (by omega), State.boots_wr _ _ (by omega), ht]
  repeat' split
  · rfl
  · exact (State.boots_listenFollow _).trans ((State.boots_wr _ _ (by decide)).trans (hwords _ _))
  · exact (State.boots_listenFollow _).trans ((State.boots_wr _ _ (by decide)).trans (hwords _ _))

theorem State.boots_dropFetched (s : State) (f : Prefetch → Bool) : (s.dropFetched f).boots = s.boots := by
  refine (State.foldl_keeps State.boots (fun t e => ?_) _ _).trans rfl
  unfold State.dropPrefetch
  dsimp only
  split
  · split
    · exact (State.boots_notice _ _).trans ((State.boots_raise _ _ _ _ _).trans (State.boots_wr _ _ (by decide)))
    · rfl
  · rfl

theorem State.boots_commitWindows (s : State) : s.commitWindows.boots = s.boots := by
  have hcheck : (s.wr 0x901801 s.windowCheck).boots = s.boots := s.boots_wr _ (by decide)
  unfold State.commitWindows
  dsimp only
  split
  · exact hcheck
  · refine (State.boots_wr _ _ (by decide)).trans ((State.foldl_keeps State.boots (fun t k => ?_) _ _).trans ((State.boots_dropFetched _ _).trans hcheck))
    exact t.boots_wr _ (by simp only [winObj]; omega)

theorem State.boots_loadStaged (s : State) (b : Bank) : (s.loadStaged b).boots = s.boots := by
  have hset : (s.setStaged b).boots = s.boots := by
    unfold State.setStaged
    split <;> rfl
  have hshadows : ((s.setStaged b).loadShadows b).boots = s.boots := by
    refine (State.foldl_keeps State.boots (fun t r => ?_) (bankProgramList b) (s.setStaged b)).trans hset
    exact State.boots_wr _ _ (by simp only [pawnObj]; omega)
  have hone : ((((s.setStaged b).loadShadows b).wr 0x400001 1)).boots = s.boots := (State.boots_wr _ _ (by decide)).trans hshadows
  unfold State.loadStaged
  dsimp only
  split
  · exact (State.boots_wr _ _ (by decide)).trans hone
  · exact hone

theorem State.boots_loadAtBringUp (s : State) : s.loadAtBringUp.boots = s.boots := by
  have hcheck (t : State) : t.startCheck.st.boots = t.boots := by
    unfold State.startCheck
    repeat' split
    all_goals rfl
  unfold State.loadAtBringUp
  dsimp only
  split
  · exact (hcheck _).trans (s.boots_loadStaged _)
  · rfl

/-! The stages. -/

/-- Bring-up after its first `n` rounds (R411). -/
def State.bootRun (s : State) (x : BringUpFindings) (n : Nat) : State :=
  (List.range n).foldl (fun s k => if s.bringingUp && s.rd 0x104000 = k + 1 then s.bringUpStage x else s) s

theorem State.bringUp_eq (s : State) (x : BringUpFindings) : s.bringUp x = s.bootRun x x.upTo := rfl

theorem State.bootRun_succ (s : State) (x : BringUpFindings) (n : Nat) : s.bootRun x (n + 1) =
    if (s.bootRun x n).bringingUp && (s.bootRun x n).rd 0x104000 = n + 1 then (s.bootRun x n).bringUpStage x else s.bootRun x n := by
  rw [State.bootRun, List.range_succ, List.foldl_append]
  rfl

/-- Bring-up that does not run stays as it is (R412). -/
theorem State.bootRun_stopped {s : State} {x : BringUpFindings} {n m : Nat} (h : (s.bootRun x n).bringingUp = false) (hm : n ≤ m) :
    s.bootRun x m = s.bootRun x n := by
  induction m, hm using Nat.le_induction with
  | base => rfl
  | succ k _ ih => rw [State.bootRun_succ, ih, h]; simp

/-- A stage that is met and not stopped runs. -/
theorem State.bootRun_stage {s : State} {x : BringUpFindings} {n wd tx : Nat} {up run rel : Bool}
    (h : (s.bootRun x n).boots = (.bringUp, n + 1, 0, wd, tx, up, run, rel)) : s.bootRun x (n + 1) = (s.bootRun x n).bringUpStage x := by
  simp only [State.boots, Prod.mk.injEq] at h
  obtain ⟨hmode, hstage, herr, -⟩ := h
  rw [State.bootRun_succ, if_pos (by simp [State.bringingUp, hmode, hstage, herr])]

/-- The stage goes on, and nothing else of what bring-up is about. -/
theorem State.boots_stage {s : State} {m : Mode} {k e wd tx : Nat} {up run rel : Bool} (h : s.boots = (m, k, e, wd, tx, up, run, rel)) (v : Nat) :
    (s.wr 0x104000 v).boots = (m, v, e, wd, tx, up, run, rel) := by
  simp only [State.boots, Prod.mk.injEq] at h ⊢
  obtain ⟨hmode, -, herr, hwd, htx, hup, hrun, hrel⟩ := h
  refine ⟨hmode, State.rd_wr_self _ _ _, ?_, ?_, htx, hup, hrun, hrel⟩
  · rw [State.rd_wr_ne _ _ (by decide), herr]
  · rw [State.rd_wr_ne _ _ (by decide), hwd]

/-- So it does where a stage stops with an error (R412). -/
theorem State.boots_stopStage {s : State} {m : Mode} {k e wd tx : Nat} {up run rel : Bool} (h : s.boots = (m, k, e, wd, tx, up, run, rel)) (v err : Nat) :
    (s.stopStage v err).boots = (m, v, err, wd, tx, up, run, rel) := by
  have hv := State.boots_stage h v
  simp only [State.stopStage, State.boots, Prod.mk.injEq] at hv ⊢
  obtain ⟨hmode, hstage, -, hwd, htx, hup, hrun, hrel⟩ := hv
  refine ⟨hmode, ?_, State.rd_wr_self _ _ _, ?_, htx, hup, hrun, hrel⟩
  · rw [State.rd_wr_ne _ _ (by decide), hstage]
  · rw [State.rd_wr_ne _ _ (by decide), hwd]

/-- Stage 0x2 leaves a state that differs in the stage and in the transmitters. -/
def State.boot2 (s : State) : State := ((s.wr 0x104000 2).transmittersOn).wr 0x104000 3

theorem State.rd_transmittersOn (s : State) (o : Nat) : s.transmittersOn.rd o = s.rd o := rfl

theorem State.rd_boot2 (s : State) {o : Nat} (h : o ≠ 0x104000) : s.boot2.rd o = s.rd o := by
  rw [State.boot2, State.rd_wr_ne _ _ h, State.rd_transmittersOn, State.rd_wr_ne _ _ h]

theorem State.boot2_fields (s : State) : s.boot2.mode = s.mode ∧ s.boot2.modes = s.modes ∧ s.boot2.seq = s.seq ∧ s.boot2.update = s.update ∧
    s.boot2.blobs = s.blobs := ⟨rfl, rfl, rfl, rfl, rfl⟩

theorem State.bringUpStage_1 {s : State} (h : s.rd 0x104000 = 1) (x : BringUpFindings) : s.bringUpStage x = s.wr 0x104000 2 := by
  simp only [State.bringUpStage, h]

/-- The transmitters are as their enables say (R411). -/
theorem State.boot2_tx (s : State) (p : Port) : s.boot2.ring.tx.testBit (portNum p) = decide (s.pwrParam (portObj p 0 5) = 1) := by
  have hparam (q : Port) : (s.wr 0x104000 2).pwrParam (portObj q 0 5) = s.pwrParam (portObj q 0 5) := by
    have hne : portObj q 0 5 ≠ 0x104000 := by simp only [portObj]; omega
    rw [State.pwrParam, State.rd_wr_ne _ _ hne]
    rfl
  have hset (t : State) (q : Port) (b : Bool) (o : Nat) : (t.setTransmitter q b).pwrParam o = t.pwrParam o := rfl
  have htx : s.boot2.ring.tx = (s.wr 0x104000 2).transmittersOn.ring.tx := rfl
  rw [htx]
  simp only [State.transmittersOn, List.foldl_cons, List.foldl_nil, hset, hparam]
  cases p <;> simp only [State.setTransmitter, portNum, testBit_setBit] <;> rfl

/-! The choice of the firmware slot (R411, R412, R423, R435). -/

theorem State.boot2_choice (s : State) : s.boot2.thirdWdr = s.thirdWdr ∧ s.boot2.bootNow = s.bootNow := by
  constructor
  · have hB (o : Nat) : s.boot2.rdB o = s.rdB o := rfl
    rw [State.thirdWdr, State.rd_boot2 _ (by decide), State.rd_boot2 _ (by decide), hB]
    rfl
  · rfl

/-- No slot is booted: a third watchdog reset, no flash, or no good slot. -/
theorem State.bootStage_fails {s : State} {x : BringUpFindings} {err : Nat}
    (h : (s.thirdWdr = true ∧ err = 5) ∨ (s.thirdWdr = false ∧ x.flashOk = false ∧ err = 1) ∨
      (s.thirdWdr = false ∧ x.flashOk = true ∧ (x.sigA && s.update.fwA.full) = false ∧ (x.sigB && s.update.fwB.full) = false ∧ err = 2)) :
    s.bootStage x = .inl err := by
  unfold State.bootStage
  rcases h with ⟨hw, rfl⟩ | ⟨hw, hf, rfl⟩ | ⟨hw, hf, ha, hb, rfl⟩
  · simp [hw]
  · simp [hw, hf]
  · simp [hw, hf, ha, hb]

/-- The slot of the boot record is booted where it is good. -/
theorem State.bootStage_boots {s : State} {x : BringUpFindings} {m : Mode} {k e wd tx : Nat} {up run rel : Bool} (hw : s.thirdWdr = false)
    (hf : x.flashOk = true) (hgood : (if (bootChoice s.bootNow).1 then x.sigB && s.update.fwB.full else x.sigA && s.update.fwA.full) = true)
    (h : s.boots = (m, k, e, wd, tx, up, run, rel)) :
    ∃ t, s.bootStage x = .inr t ∧ t.boots = (m, k, e, wd, tx, up, (bootChoice s.bootNow).1, rel) := by
  obtain ⟨u, hu⟩ : ∃ u, u = if (bootChoice s.bootNow).2 = s.bootNow then s else s.setBoot (bootChoice s.bootNow).2 := ⟨_, rfl⟩
  obtain ⟨v, hv⟩ : ∃ v, v = if s.bootNow.trial && s.bootNow.started then u.storeBack else u := ⟨_, rfl⟩
  have hub : u.boots = s.boots := by
    rw [hu]
    split
    · rfl
    · exact s.boots_setBoot _
  have hvb : v.boots = s.boots := by
    rw [hv]
    split
    · exact (u.boots_storeBack).trans hub
    · exact hub
  refine ⟨{ v with update := { v.update with runB := (bootChoice s.bootNow).1 } }, ?_, ?_⟩
  · simp only [State.bootStage, hw, hf, Bool.false_eq_true, Bool.not_true, if_false, ← hu, ← hv]
    exact if_pos hgood
  · rw [h] at hvb
    simp only [State.boots, Prod.mk.injEq] at hvb ⊢
    obtain ⟨hmode, hstage, herr, hwd, htx, hup, -, hrel⟩ := hvb
    exact ⟨hmode, hstage, herr, hwd, htx, hup, trivial, hrel⟩

/-! The run, stage by stage. -/

/-- Bring-up is in its first stage, stopped by no error. -/
def State.bootsFirst (s : State) : Prop := s.mode = .bringUp ∧ s.rd 0x104001 = 0 ∧ s.rd 0x104000 = 1

theorem State.boots_first {s : State} (h : s.bootsFirst) :
    s.boots = (.bringUp, 1, 0, s.rd 0x102003, s.ring.tx, s.modes.keeperUp, s.update.runB, s.seq.released) := by
  obtain ⟨hmode, herr, hstage⟩ := h
  simp [State.boots, hmode, herr, hstage]

theorem State.bringUpStage_2 {s : State} (h : s.rd 0x104000 = 2) (x : BringUpFindings) : s.bringUpStage x = s.transmittersOn.wr 0x104000 3 := by
  simp only [State.bringUpStage, h]

theorem State.bringUpStage_3_fails {s : State} {x : BringUpFindings} {err : Nat} (h : s.rd 0x104000 = 3) (hb : s.bootStage x = .inl err) :
    s.bringUpStage x = s.stopStage 3 err := by simp only [State.bringUpStage, h, hb]

theorem State.bringUpStage_3_boots {s t : State} {x : BringUpFindings} (h : s.rd 0x104000 = 3) (hb : s.bootStage x = .inr t) :
    s.bringUpStage x = (({ t with modes := { t.modes with keeperUp := true } }).postPowerLog).wr 0x104000 4 := by simp only [State.bringUpStage, h, hb]

theorem State.bringUpStage_4 {s : State} (h : s.rd 0x104000 = 4) (x : BringUpFindings) : s.bringUpStage x =
    if x.bistBad.any (fun i => i = .seq || i = .swx || i = .mgt) then s.stopStage 4 3 else (s.bistStage x.bistBad).wr 0x104000 5 := by
  simp only [State.bringUpStage, h]

theorem State.bringUpStage_5 {s : State} (h : s.rd 0x104000 = 5) (x : BringUpFindings) : s.bringUpStage x = (s.loadStage x.storeBad).wr 0x104000 6 := by
  simp only [State.bringUpStage, h]

theorem State.bringUpStage_6 {s : State} (h : s.rd 0x104000 = 6) (x : BringUpFindings) : s.bringUpStage x = s.releaseStage.wr 0x104000 7 := by
  simp only [State.bringUpStage, h]

theorem State.bringUpStage_7 {s : State} (h : s.rd 0x104000 = 7) (x : BringUpFindings) : s.bringUpStage x = s.wr 0x104000 8 := by
  simp only [State.bringUpStage, h]

theorem State.bringUpStage_8 {s : State} (h : s.rd 0x104000 = 8) (x : BringUpFindings) :
    s.bringUpStage x = ((s.wr 0x104000 9).enterMode .configure).featureCommit.st.commitWindows.loadAtBringUp := by
  simp only [State.bringUpStage, h]

theorem State.stage_of_boots {s : State} {m : Mode} {k e wd tx : Nat} {up run rel : Bool} (h : s.boots = (m, k, e, wd, tx, up, run, rel)) :
    s.rd 0x104000 = k := by
  simp only [State.boots, Prod.mk.injEq] at h
  exact h.2.1

section
variable {s : State} (h : s.bootsFirst) (x : BringUpFindings)
include h

theorem State.bootRun_1 : s.bootRun x 1 = s.wr 0x104000 2 :=
  (State.bootRun_stage (n := 0) (State.boots_first h)).trans (State.bringUpStage_1 h.2.2 x)

theorem State.boots_1 : (s.bootRun x 1).boots = (.bringUp, 2, 0, s.rd 0x102003, s.ring.tx, s.modes.keeperUp, s.update.runB, s.seq.released) := by
  rw [State.bootRun_1 h]
  exact State.boots_stage (State.boots_first h) 2

theorem State.bootRun_2 : s.bootRun x 2 = s.boot2 := by
  rw [State.bootRun_stage (State.boots_1 h x), State.bringUpStage_2 (State.stage_of_boots (State.boots_1 h x)), State.bootRun_1 h]
  rfl

theorem State.boots_2 : (s.bootRun x 2).boots = (.bringUp, 3, 0, s.rd 0x102003, s.boot2.ring.tx, s.modes.keeperUp, s.update.runB, s.seq.released) := by
  rw [State.bootRun_2 h]
  obtain ⟨hmode, herr, -⟩ := h
  simp only [State.boots, Prod.mk.injEq]
  exact ⟨hmode, State.rd_wr_self _ _ _, (s.rd_boot2 (by decide)).trans herr, s.rd_boot2 (by decide), trivial, rfl, rfl, rfl⟩

/-- Stage 0x3 stops with its error. -/
theorem State.bootRun_fails {err : Nat} (hb : s.boot2.bootStage x = .inl err) : s.bootRun x 3 = s.boot2.stopStage 3 err := by
  rw [State.bootRun_stage (State.boots_2 h x)]
  have hstage := State.stage_of_boots (State.boots_2 h x)
  rw [State.bootRun_2 h] at hstage ⊢
  exact State.bringUpStage_3_fails hstage hb

variable (hw : s.thirdWdr = false) (hf : x.flashOk = true)
  (hgood : (if (bootChoice s.bootNow).1 then x.sigB && s.update.fwB.full else x.sigA && s.update.fwA.full) = true)
include hw hf hgood

theorem State.boots_3 : (s.bootRun x 3).boots = (.bringUp, 4, 0, s.rd 0x102003, s.boot2.ring.tx, true, (bootChoice s.bootNow).1, s.seq.released) := by
  have h2 := State.boots_2 h x
  obtain ⟨hwdr, hnow⟩ := s.boot2_choice
  rw [State.bootRun_stage h2]
  rw [State.bootRun_2 h] at h2 ⊢
  obtain ⟨t, hb, ht⟩ := State.bootStage_boots (s := s.boot2) (x := x) (hwdr.trans hw) hf (by rw [hnow]; exact hgood) h2
  rw [hnow] at ht
  rw [State.bringUpStage_3_boots (State.stage_of_boots h2) hb]
  refine State.boots_stage (k := 3) ((State.boots_postPowerLog _).trans ?_) 4
  simp only [State.boots, Prod.mk.injEq] at ht ⊢
  obtain ⟨hmode, hstage, herr, hwd, htx, -, hrun, hrel⟩ := ht
  exact ⟨hmode, hstage, herr, hwd, htx, trivial, hrun, hrel⟩

/-- Stage 0x4 stops where the sequencer, the switch or the Keeper fails its test (R413). -/
theorem State.boots_4_fails (hbad : x.bistBad.any (fun i => i = .seq || i = .swx || i = .mgt) = true) :
    (s.bootRun x 4).boots = (.bringUp, 4, 3, s.rd 0x102003, s.boot2.ring.tx, true, (bootChoice s.bootNow).1, s.seq.released) := by
  have h3 := State.boots_3 h x hw hf hgood
  rw [State.bootRun_stage h3, State.bringUpStage_4 (State.stage_of_boots h3), if_pos hbad]
  exact State.boots_stopStage h3 4 3

variable (hbad : x.bistBad = [])
include hbad

theorem State.boots_4 : (s.bootRun x 4).boots = (.bringUp, 5, 0, s.rd 0x102003, s.boot2.ring.tx, true, (bootChoice s.bootNow).1, s.seq.released) := by
  have h3 := State.boots_3 h x hw hf hgood
  rw [State.bootRun_stage h3, State.bringUpStage_4 (State.stage_of_boots h3), hbad]
  exact State.boots_stage h3 5

theorem State.boots_5 : (s.bootRun x 5).boots = (.bringUp, 6, 0, s.rd 0x102003, s.boot2.ring.tx, true, (bootChoice s.bootNow).1, s.seq.released) := by
  have h4 := State.boots_4 h x hw hf hgood hbad
  rw [State.bootRun_stage h4, State.bringUpStage_5 (State.stage_of_boots h4)]
  exact State.boots_stage ((State.boots_loadStage _ _).trans h4) 6

theorem State.boots_6 : (s.bootRun x 6).boots = (.bringUp, 7, 0, s.rd 0x102003, s.boot2.ring.tx, true, (bootChoice s.bootNow).1, true) := by
  have h5 := State.boots_5 h x hw hf hgood hbad
  rw [State.bootRun_stage h5, State.bringUpStage_6 (State.stage_of_boots h5)]
  refine State.boots_stage (k := 6) ?_ 7
  generalize s.bootRun x 5 = t at h5
  simp only [State.boots, Prod.mk.injEq] at h5 ⊢
  obtain ⟨hmode, hstage, herr, hwd, htx, hup, hrun, -⟩ := h5
  exact ⟨hmode, hstage, herr, hwd, htx, hup, hrun, rfl⟩

theorem State.boots_7 : (s.bootRun x 7).boots = (.bringUp, 8, 0, s.rd 0x102003, s.boot2.ring.tx, true, (bootChoice s.bootNow).1, true) := by
  have h6 := State.boots_6 h x hw hf hgood hbad
  rw [State.bootRun_stage h6, State.bringUpStage_7 (State.stage_of_boots h6)]
  exact State.boots_stage h6 8

/-- The last stage enters Configure, which clears the count of watchdog resets (R407, R423). -/
theorem State.boots_8 : (s.bootRun x 8).boots = (.configure, 9, 0, 0, s.boot2.ring.tx, true, (bootChoice s.bootNow).1, true) := by
  have h7 := State.boots_7 h x hw hf hgood hbad
  rw [State.bootRun_stage h7, State.bringUpStage_8 (State.stage_of_boots h7), State.boots_loadAtBringUp, State.boots_commitWindows, State.boots_featureCommit]
  have h9 := State.boots_stage h7 9
  generalize (s.bootRun x 7).wr 0x104000 9 = t at h9
  simp only [State.boots, Prod.mk.injEq] at h9
  obtain ⟨hmode, hstage, herr, -, htx, hup, hrun, hrel⟩ := h9
  have henter : t.enterMode .configure = ({ t with mode := .configure, seq := { t.seq with inForce := false } } : State).wr 0x102003 0 := by
    simp [State.enterMode, hmode]
  rw [henter]
  simp only [State.boots, Prod.mk.injEq]
  exact ⟨rfl, (State.rd_wr_ne _ _ (by decide)).trans hstage, (State.rd_wr_ne _ _ (by decide)).trans herr, State.rd_wr_self _ _ _, htx, hup, hrun, hrel⟩

end

/-! The statement. -/

/-- What stages 0x1 to 0x7 leave, by how many of them a run completes. -/
theorem bringUp_part {s : State} (h : s.bootsFirst) {x : BringUpFindings} (hw : s.thirdWdr = false) (hf : x.flashOk = true)
    (hgood : (if (bootChoice s.bootNow).1 then x.sigB && s.update.fwB.full else x.sigA && s.update.fwA.full) = true) (hbad : x.bistBad = [])
    (hlo : 1 ≤ x.upTo) (hhi : x.upTo ≤ 7) : (s.bringUp x).boots = (.bringUp, x.upTo + 1, 0, s.rd 0x102003,
      if x.upTo < 2 then s.ring.tx else s.boot2.ring.tx, if x.upTo < 3 then s.modes.keeperUp else true,
      if x.upTo < 3 then s.update.runB else (bootChoice s.bootNow).1, if x.upTo < 6 then s.seq.released else true) := by
  rw [State.bringUp_eq]
  generalize x.upTo = n at hlo hhi
  interval_cases n
  · exact State.boots_1 h x
  · exact State.boots_2 h x
  · exact State.boots_3 h x hw hf hgood
  · exact State.boots_4 h x hw hf hgood hbad
  · exact State.boots_5 h x hw hf hgood hbad
  · exact State.boots_6 h x hw hf hgood hbad
  · exact State.boots_7 h x hw hf hgood hbad

/-- Before stage 0x3 the modes' part is as it was. -/
theorem bringUp_modes {s : State} (h : s.bootsFirst) {x : BringUpFindings} (hlo : 1 ≤ x.upTo) (hhi : x.upTo < 3) : (s.bringUp x).modes = s.modes := by
  rw [State.bringUp_eq]
  generalize x.upTo = n at hlo hhi
  interval_cases n
  · rw [State.bootRun_1 h x]
    rfl
  · rw [State.bootRun_2 h x]
    rfl

/-- Stage 0x3 stops with its error, and nothing but the stage, its error and the transmitters is written. -/
theorem bringUp_fails {s : State} (h : s.bootsFirst) {x : BringUpFindings} {err : Nat} (hlo : 3 ≤ x.upTo)
    (herr : (s.thirdWdr = true ∧ err = 5) ∨ (s.thirdWdr = false ∧ x.flashOk = false ∧ err = 1) ∨
      (s.thirdWdr = false ∧ x.flashOk = true ∧ (x.sigA && s.update.fwA.full) = false ∧ (x.sigB && s.update.fwB.full) = false ∧ err = 2)) :
    s.bringUp x = s.boot2.stopStage 3 err := by
  obtain ⟨hwdr, -⟩ := s.boot2_choice
  have h3 := State.bootRun_fails h x (State.bootStage_fails (s := s.boot2) (x := x) (by rw [hwdr]; exact herr))
  have hne : err ≠ 0 := by
    rcases herr with ⟨-, rfl⟩ | ⟨-, -, rfl⟩ | ⟨-, -, -, -, rfl⟩ <;> decide
  have hstop : (s.bootRun x 3).bringingUp = false := by
    rw [h3, State.bringingUp, State.stopStage, State.rd_wr_self]
    simp [hne]
  rw [State.bringUp_eq, State.bootRun_stopped hstop hlo, h3]

/-- Settles O39, stage by stage. -/
theorem bringUpEntersConfigure : Obligations.BringUpEntersConfigure := by
  unfold Obligations.BringUpEntersConfigure
  rintro s x slotB rfl
  refine ⟨fun hmode herr hstage => ?first, fun hmode herr => congrArg Host.Outcome.next (if_pos (by simp [State.bringingUp, hmode, herr])), fun hno => ?none⟩
  case first =>
    have h : s.bootsFirst := ⟨hmode, herr, hstage⟩
    refine ⟨fun err hlo hwhy => ?_, fun hw hf hgood hbad hlo hhi => ?_, fun hw hf hgood => ⟨fun hbad hlo => ?_, fun hbad hlo => ?_⟩⟩
    · have hrun := bringUp_fails h hlo hwhy
      have hboots := State.boots_stopStage (State.boots_2 h x) 3 err
      rw [State.bootRun_2 h x] at hboots
      simp only [State.boots, Prod.mk.injEq] at hboots
      obtain ⟨hm, hs, he, -⟩ := hboots
      refine ⟨_, congrArg Host.Outcome.next hrun, hm, hs, he, rfl, rfl, rfl, fun o h0 h1 => ?_⟩
      rw [State.stopStage, State.rd_wr_ne _ _ h1, State.rd_wr_ne _ _ h0, s.rd_boot2 h0]
    · have hboots := bringUp_part h hw hf hgood hbad hlo hhi
      simp only [State.boots, Prod.mk.injEq] at hboots
      obtain ⟨hm, hs, he, -, htx, hup, hrun, hrel⟩ := hboots
      refine ⟨_, rfl, hm, hs, he, fun h2 p => ?_, fun h3 => bringUp_modes h hlo h3, fun h3 => ⟨?_, ?_⟩, fun h6 => ?_, fun h6 => ?_⟩
      · rw [htx, if_neg (by omega), s.boot2_tx p]
      · rw [hup, if_neg (by omega)]
      · rw [hrun, if_neg (by omega)]
      · rw [hrel, if_pos h6]
      · rw [hrel, if_neg (by omega)]
    · have hboots := State.boots_4_fails h x hw hf hgood hbad
      have hstop : (s.bootRun x 4).bringingUp = false := by
        simp only [State.boots, Prod.mk.injEq] at hboots
        obtain ⟨-, -, he, -⟩ := hboots
        simp [State.bringingUp, he]
      have hrun : s.bringUp x = s.bootRun x 4 := by rw [State.bringUp_eq, State.bootRun_stopped hstop hlo]
      rw [← hrun] at hboots
      simp only [State.boots, Prod.mk.injEq] at hboots
      obtain ⟨hm, hs, he, -⟩ := hboots
      exact ⟨_, rfl, hm, hs, he⟩
    · have hboots := State.boots_8 h x hw hf hgood hbad
      have hstop : (s.bootRun x 8).bringingUp = false := by
        simp only [State.boots, Prod.mk.injEq] at hboots
        obtain ⟨hm, -⟩ := hboots
        simp [State.bringingUp, hm]
      have hrun : s.bringUp x = s.bootRun x 8 := by rw [State.bringUp_eq, State.bootRun_stopped hstop hlo]
      rw [← hrun] at hboots
      simp only [State.boots, Prod.mk.injEq] at hboots
      obtain ⟨hm, hs, he, hwd, -, hup, hslot, hrel⟩ := hboots
      exact ⟨_, rfl, hm, hs, he, hrel, hup, hslot, hwd⟩
  case none =>
    have hstop : s.bringingUp = false := by
      rcases hno with hm | he
      · simp [State.bringingUp, hm]
      · simp [State.bringingUp, he]
    have hrun : s.bringUp x = s := State.bootRun_stopped (n := 0) hstop (Nat.zero_le _)
    exact ⟨congrArg Host.Outcome.next hrun, congrArg Host.Outcome.next (if_neg (by simp [hstop]))⟩

end Sys2Proof.Machine
end

section
/-!
PROOFS. The commands that wait (log entry 4) under the shared operations: no operation of the hub takes one, adds one or changes their order.
-/
namespace Sys2Proof.Machine


@[simp] theorem State.ite_pending (p : Prop) [Decidable p] (s t : State) : (if p then s else t).pending = if p then s.pending else t.pending :=
  apply_ite State.pending p s t

@[simp] theorem State.foldl_pending {α : Type} {f : State → α → State} (hf : ∀ s a, (f s a).pending = s.pending) (l : List α) (s : State) :
    (l.foldl f s).pending = s.pending := State.foldl_keeps State.pending hf l s

@[simp] theorem State.addTo_pending (s : State) (o n : Nat) : (s.addTo o n).pending = s.pending := by
  obtain ⟨_, _, h⟩ := s.addTo_frame o n
  rw [h]

@[simp] theorem State.inc_pending (s : State) (o : Nat) : (s.inc o).pending = s.pending := s.addTo_pending o 1

@[simp] theorem State.raiseAt_pending (s : State) (at_ : Nat) (i : Island) (cls reason tag : Nat) : (s.raiseAt at_ i cls reason tag).pending = s.pending := by
  obtain ⟨_, _, _, h⟩ := s.raiseAt_frame at_ i cls reason tag
  rw [h]

@[simp] theorem State.raise_pending (s : State) (i : Island) (cls reason tag : Nat) : (s.raise i cls reason tag).pending = s.pending :=
  s.raiseAt_pending s.time.now i cls reason tag
/-- What the switch does with a frame (R161) leaves the commands that wait. -/
theorem pending_blind : SwitchBlind State.pending where
  switch _ _ := rfl
  cells _ _ := rfl
  count s o _ := s.inc_pending o
  raise s i cls reason tag := s.raise_pending i cls reason tag

@[simp] theorem State.sendFrame_pending (s : State) (port : Nat) (f : Frame) : (s.sendFrame port f).pending = s.pending := pending_blind.sendFrame s port f

@[simp] theorem State.sendReport_pending (s : State) (f : Frame) : (s.sendReport f).pending = s.pending := pending_blind.sendReport s f

@[simp] theorem State.discardFrame_pending (s : State) (f : Frame) (egress outcome reason : Nat) :
    (s.discardFrame f egress outcome reason).pending = s.pending := pending_blind.discardWith pending_blind.sendReport s f egress outcome reason

@[simp] theorem State.noteCells_pending (s : State) : s.noteCells.pending = s.pending := pending_blind.noteCells s

/-- What the PIN island does up to a beat leaves the commands that wait. -/
theorem pending_pinBlind : PinBlind State.pending where
  wr _ _ _ _ := rfl
  took _ := rfl
  raiseAt s at_ i cls reason tag := s.raiseAt_pending at_ i cls reason tag
  seq _ _ := rfl
  pins _ _ := rfl
  pawns _ _ := rfl
  ports _ _ := rfl
  out _ _ := rfl

end Sys2Proof.Machine
end

section
/-!
PROOFS. The commands that wait under the sequencer, the pawns and the PIN island (R33 to R87, R187 to R262).
-/
namespace Sys2Proof.Machine

@[simp] theorem State.tookFreeBytes_pending (s : State) (n : Nat) : (s.tookFreeBytes n).pending = s.pending := rfl

@[simp] theorem State.addSat_pending (s : State) (o n : Nat) : (s.addSat o n).pending = s.pending := rfl

@[simp] theorem State.incSat_pending (s : State) (o : Nat) : (s.incSat o).pending = s.pending := rfl

@[simp] theorem State.recordLost_pending (s : State) (cls : Nat) : (s.recordLost cls).pending = s.pending := by simp [State.recordLost]

@[simp] theorem State.powerLog_pending (s : State) (r : JRecord) : (s.powerLog r).pending = s.pending := by simp [State.powerLog]

@[simp] theorem State.writeCell_pending (s : State) (o v : Nat) : (s.writeCell o v).pending = s.pending := by simp [State.writeCell]

@[simp] theorem okRes_pending (s : State) : (okRes s).st.pending = s.pending := rfl

@[simp] theorem stagedRes_pending (s : State) : (stagedRes s).st.pending = s.pending := rfl

@[simp] theorem errRes_pending (s : State) (e : Nat) : (errRes s e).st.pending = s.pending := rfl

@[simp] theorem refusedRes_pending (s : State) (d : Nat) : (refusedRes s d).st.pending = s.pending := rfl

@[simp] theorem State.setStaged_pending (s : State) (b : Bank) : (s.setStaged b).pending = s.pending := by simp [State.setStaged]

@[simp] theorem State.arriveBytes_pending (s : State) (sel : ImageSel) (o : Nat) (n : List Byte) :
    (s.arriveBytes sel o n).pending = s.pending := pending_pinBlind.arriveBytes s sel o n

@[simp] theorem State.depart_pending (s : State) (i reason : Nat) : (s.depart i reason).pending = s.pending := by
  unfold State.depart
  split <;> simp

@[simp] theorem State.writeSubstitute_pending (s : State) (i : Nat) : (s.writeSubstitute i).pending = s.pending := by
  unfold State.writeSubstitute
  split <;> simp

@[simp] theorem State.noteArrival_pending (s : State) (i : Nat) (st : RecState) (reason : Nat) :
    (s.noteArrival i st reason).pending = s.pending := by simp [State.noteArrival]

@[simp] theorem State.imgArrive_pending (s : State) (sel : ImageSel) (o : Nat) (v : List Byte) (st : RecState) (reason : Nat) :
    (s.imgArrive sel o v st reason).pending = s.pending := by
  simp [State.imgArrive]

@[simp] theorem State.produceHeld_pending (s : State) (st : RecState) (reason i : Nat) :
    (s.produceHeld st reason i).pending = s.pending := by simp [State.produceHeld]

@[simp] theorem State.holdRange_pending (s : State) (sel : ImageSel) (o n : Nat) (st : RecState) (reason : Nat) :
    (s.holdRange sel o n st reason).pending = s.pending := by simp [State.holdRange]

@[simp] theorem State.releaseRecord_pending (s : State) (i : Nat) : (s.releaseRecord i).pending = s.pending := by simp [State.releaseRecord]

@[simp] theorem State.releaseAt_pending (s : State) (beat : Nat) : (s.releaseAt beat).pending = s.pending := by simp [State.releaseAt]

@[simp] theorem State.latchFailure_pending (s : State) (n : Nat) : (s.latchFailure n).pending = s.pending := rfl

@[simp] theorem State.countHold_pending (s : State) (d : Disp) : (s.countHold d).pending = s.pending := by
  unfold State.countHold
  split <;> simp

@[simp] theorem State.notice_pending (s : State) (v : Nat) : (s.notice v).pending = s.pending := by simp [State.notice]

@[simp] theorem State.flushNotices_pending (s : State) : s.flushNotices.pending = s.pending := by simp [State.flushNotices]

@[simp] theorem State.envFlag_pending (s : State) (code cause : Nat) : (s.envFlag code cause).pending = s.pending := by simp [State.envFlag]

@[simp] theorem State.envFail_pending (s : State) (code cause : Nat) : (s.envFail code cause).pending = s.pending := by simp [State.envFail]

@[simp] theorem State.envRecover_pending (s : State) (code cause : Nat) : (s.envRecover code cause).pending = s.pending := rfl

@[simp] theorem State.laneFail_pending (s : State) (p : Port) (lane : Nat) : (s.laneFail p lane).pending = s.pending := by simp [State.laneFail]

@[simp] theorem State.countErrored_pending (s : State) (p : Port) (lane : Nat) : (s.countErrored p lane).pending = s.pending := by simp [State.countErrored]

@[simp] theorem State.envAtBoundary_pending (s : State) : s.envAtBoundary.pending = s.pending := rfl

@[simp] theorem State.lanesAtBoundary_pending (s : State) : s.lanesAtBoundary.pending = s.pending := by simp [State.lanesAtBoundary]

@[simp] theorem State.monitorAtBoundary_pending (s : State) :
    s.monitorAtBoundary.pending = s.pending := State.monitorAtBoundary_keeps State.latchFailure_pending State.envFlag_pending State.laneFail_pending s

@[simp] theorem State.clockWindow_pending (s : State) (code count : Nat) (locked : Bool) : (s.clockWindow code count locked).pending = s.pending := by
  unfold State.clockWindow
  split <;> simp

@[simp] theorem State.temperatureRead_pending (s : State) (portDie : Bool) (l : List Nat) :
    (s.temperatureRead portDie l).pending = s.pending := by simp [State.temperatureRead]

@[simp] theorem State.clearFailures_pending (s : State) : s.clearFailures.pending = s.pending := rfl

@[simp] theorem State.setPortState_pending (s : State) (p : Port) (v : Nat) : (s.setPortState p v).pending = s.pending := rfl

@[simp] theorem State.sendExpressAt_pending (s : State) (at_ : Nat) (p : Port) (x : Express) :
    (s.sendExpressAt at_ p x).pending = s.pending := by simp [State.sendExpressAt]

@[simp] theorem State.sendExpressOn_pending (s : State) (p : Port) (x : Express) : (s.sendExpressOn p x).pending = s.pending := by simp [State.sendExpressOn]

@[simp] theorem State.offerExpress_pending (s : State) (p : Port) (rank clk : Nat) (x : Express) :
    (s.offerExpress p rank clk x).pending = s.pending := by simp [State.offerExpress]

@[simp] theorem State.sendExpressAll_pending (s : State) (rank clk : Nat) (x : Express) (ps : List Port) :
    (s.sendExpressAll rank clk x ps).pending = s.pending := by simp [State.sendExpressAll]

@[simp] theorem State.emitExpress_pending (s : State) (event ns : Nat) : (s.emitExpress event ns).pending = s.pending := by simp [State.emitExpress]

@[simp] theorem State.syncLatch_pending (s : State) (pin : Nat) : (s.syncLatch pin).pending = s.pending := rfl

@[simp] theorem State.ownerSet_pending (s : State) (pin : Nat) (lvl : Bool) : (s.ownerSet pin lvl).pending = s.pending := by simp [State.ownerSet]

@[simp] theorem State.coreLost_pending (s : State) : s.coreLost.pending = s.pending := rfl

@[simp] theorem State.pinLater_pending (s : State) (ns : Nat) (d : PinDue) : (s.pinLater ns d).pending = s.pending := rfl

@[simp] theorem State.wordFailure_pending (s : State) (q u reason : Nat) (whole : Bool) (words : Nat) :
    (s.wordFailure q u reason whole words).pending = s.pending := by simp [State.wordFailure]

@[simp] theorem State.reportDiscard_pending (s : State) (q u : Nat) : (s.reportDiscard q u).pending = s.pending := by
  unfold State.reportDiscard
  dsimp only
  split <;> simp

@[simp] theorem State.dropInjection_pending (s : State) (q : Nat) : (s.dropInjection q).pending = s.pending := by simp [State.dropInjection]

@[simp] theorem State.makeSwap_pending (s : State) (q u : Nat) : (s.makeSwap q u).1.pending = s.pending := by
  unfold State.makeSwap
  dsimp only
  split <;> simp

theorem State.pending_of_makeSwap {s t : State} {q u : Nat} {b : Bool} (h : s.makeSwap q u = (t, b)) : t.pending = s.pending := by
  rw [← s.makeSwap_pending q u, h]

@[simp] theorem State.swapDiscards_pending (s : State) (q u : Nat) : (s.swapDiscards q u).pending = s.pending := by simp [State.swapDiscards]

@[simp] theorem State.rebase_pending (s : State) (q old edge : Nat) (prev : Option Nat) :
    (s.rebase q old edge prev).pending = s.pending := by simp [State.rebase]

@[simp] theorem State.swapHalted_pending (s : State) (q edge : Nat) : (s.swapHalted q edge).pending = s.pending := by
  unfold State.swapHalted
  split
  next t h => simp [State.pending_of_makeSwap h]
  next t h => simp [State.pending_of_makeSwap h]

@[simp] theorem State.swapBecomesPending_pending (s : State) (q : Nat) : (s.swapBecomesPending q).pending = s.pending := by
  unfold State.swapBecomesPending
  split <;> simp

@[simp] theorem State.forceSwap_pending (s : State) (q u : Nat) : (s.forceSwap q u).pending = s.pending := by
  unfold State.forceSwap
  split
  next t h => simp [State.pending_of_makeSwap h]
  next t h => simp [State.pending_of_makeSwap h]

@[simp] theorem State.resetPhase_pending (s : State) (q edge : Nat) : (s.resetPhase q edge).pending = s.pending := rfl

@[simp] theorem State.wakePawn_pending (s : State) (q ns : Nat) : (s.wakePawn q ns).pending = s.pending := by simp [State.wakePawn]

@[simp] theorem State.haltCluster_pending (s : State) (c : Nat) : (s.haltCluster c).pending = s.pending := by simp [State.haltCluster]

@[simp] theorem State.resetCluster_pending (s : State) (c : Nat) : (s.resetCluster c).pending = s.pending := rfl

@[simp] theorem State.settleClock_pending (s : State) (c : PinClock) : (s.settleClock c).pending = s.pending := pending_pinBlind.settleClock s c

@[simp] theorem State.lineActs_pending (s : State) (l ns : Nat) : (s.lineActs l ns).pending = s.pending := by simp [State.lineActs]

@[simp] theorem State.raiseLine_pending (s : State) (l ns : Nat) : (s.raiseLine l ns).pending = s.pending := by simp [State.raiseLine]

@[simp] theorem State.crossbarExpress_pending (s : State) (x : Express) (ns : Nat) :
    (s.crossbarExpress x ns).pending = s.pending := by simp [State.crossbarExpress]

@[simp] theorem State.boundaryReleases_pending (s : State) : s.boundaryReleases.pending = s.pending := by simp [State.boundaryReleases]

@[simp] theorem State.driveSlot_pending (s : State) (q i edge : Nat) (lvl : Bool) :
    (s.driveSlot q i edge lvl).pending = s.pending := by simp [State.driveSlot]

@[simp] theorem State.sideCodes_pending (s : State) (c : PawnCycle) (skip : Option Nat) : (s.sideCodes c skip).pending = s.pending := by
  refine State.foldl_pending (fun t i => ?_) _ _
  split
  · rfl
  · split <;> simp

@[simp] theorem State.sideFirst_pending (s : State) (c : PawnCycle) : (s.sideFirst c).pending = s.pending := by simp [State.sideFirst]

@[simp] theorem State.noteInjected_pending (s : State) (c : PawnCycle) (v : Nat) : (s.noteInjected c v).pending = s.pending := by simp [State.noteInjected]

@[simp] theorem State.finish_pending (s : State) (c : PawnCycle) (pc : Option Nat) (f : PawnSt → PawnSt) :
    (s.finish c pc f).pending = s.pending := by simp [State.finish]

@[simp] theorem State.finishSide_pending (s : State) (c : PawnCycle) (pc : Option Nat) (f : PawnSt → PawnSt) :
    (s.finishSide c pc f).pending = s.pending := by simp [State.finishSide]

@[simp] theorem State.stall_pending (s : State) (c : PawnCycle) : (s.stall c).pending = s.pending := by simp [State.stall]

@[simp] theorem State.injectedMiss_pending (s : State) (c : PawnCycle) : (s.injectedMiss c).pending = s.pending := by simp [State.injectedMiss]

@[simp] theorem State.countTimeout_pending (s : State) (q : Nat) : (s.countTimeout q).pending = s.pending := by simp [State.countTimeout]

@[simp] theorem State.timeout_pending (s : State) (c : PawnCycle) (clearE : Bool) (lost : Option (Nat × Nat)) :
    (s.timeout c clearE lost).pending = s.pending := by
  unfold State.timeout
  split <;> simp

@[simp] theorem State.waitFor_pending (s : State) (c : PawnCycle) (holds clearE : Bool) (lost : Option (Nat × Nat)) {done : State → State} (h : ∀ t, (done t).pending = t.pending) :
    (s.waitFor c holds clearE lost done).pending = s.pending := by simp [State.waitFor, h]

@[simp] theorem effNop_pending (c : PawnCycle) (s : State) : (effNop c s).pending = s.pending := by simp [effNop]

@[simp] theorem effJmp_pending (c : PawnCycle) (s : State) : (effJmp c s).pending = s.pending := by simp [effJmp]

@[simp] theorem effJcc_pending (c : PawnCycle) (s : State) : (effJcc c s).pending = s.pending := by simp [effJcc]

@[simp] theorem effDja_pending (c : PawnCycle) (s : State) : (effDja c s).pending = s.pending := by simp [effDja]

@[simp] theorem effDjb_pending (c : PawnCycle) (s : State) : (effDjb c s).pending = s.pending := by simp [effDjb]

@[simp] theorem effLda_pending (c : PawnCycle) (s : State) : (effLda c s).pending = s.pending := by simp [effLda]

@[simp] theorem effLdb_pending (c : PawnCycle) (s : State) : (effLdb c s).pending = s.pending := by simp [effLdb]

@[simp] theorem effLdc_pending (c : PawnCycle) (s : State) : (effLdc c s).pending = s.pending := by simp [effLdc]

@[simp] theorem effWaitp_pending (c : PawnCycle) (s : State) : (effWaitp c s).pending = s.pending := by simp [effWaitp]

@[simp] theorem effWaite_pending (c : PawnCycle) (s : State) : (effWaite c s).pending = s.pending := by simp [effWaite]

@[simp] theorem effWaitb_pending (c : PawnCycle) (s : State) : (effWaitb c s).pending = s.pending := by
  unfold effWaitb
  dsimp only
  split <;> simp

@[simp] theorem effSho_pending (c : PawnCycle) (s : State) : (effSho c s).pending = s.pending := by simp [effSho]

@[simp] theorem effShi_pending (c : PawnCycle) (s : State) : (effShi c s).pending = s.pending := by simp [effShi]

@[simp] theorem State.pushIn_pending (s : State) (q edge : Nat) (last : Bool) (ws : List (BitVec 32)) : (s.pushIn q edge last ws).pending = s.pending := by
  unfold State.pushIn
  dsimp only
  repeat' split
  all_goals simp

@[simp] theorem effPush_pending (c : PawnCycle) (s : State) : (effPush c s).pending = s.pending := by simp [effPush]

@[simp] theorem effPull_pending (c : PawnCycle) (s : State) : (effPull c s).pending = s.pending := by simp [effPull]

@[simp] theorem effCmpj_pending (c : PawnCycle) (s : State) : (effCmpj c s).pending = s.pending := by simp [effCmpj]

@[simp] theorem effCrcs_pending (c : PawnCycle) (s : State) : (effCrcs c s).pending = s.pending := by simp [effCrcs]

@[simp] theorem effTstmp_pending (c : PawnCycle) (s : State) : (effTstmp c s).pending = s.pending := by simp [effTstmp]

@[simp] theorem State.raiseSeqLine_pending (s : State) (cl l edge : Nat) : (s.raiseSeqLine cl l edge).pending = s.pending := by simp [State.raiseSeqLine]

@[simp] theorem effEvt_pending (c : PawnCycle) (s : State) : (effEvt c s).pending = s.pending := by simp [effEvt]

@[simp] theorem State.meetBarrier_pending (s : State) (c : PawnCycle) :
    (s.meetBarrier c).pending = s.pending := State.foldl_pending (fun t m => t.setPawn_pending m _) _ s

@[simp] theorem effSync_pending (c : PawnCycle) (s : State) : (effSync c s).pending = s.pending := by simp [effSync]

@[simp] theorem effSwap_pending (c : PawnCycle) (s : State) : (effSwap c s).pending = s.pending := by
  unfold effSwap
  dsimp only
  split
  · split
    next t h => simp [State.pending_of_makeSwap h]
    next t h => simp [State.pending_of_makeSwap h]
  · simp

@[simp] theorem effHalt_pending (c : PawnCycle) (s : State) : (effHalt c s).pending = s.pending := by simp [effHalt]

@[simp] theorem effIllegal_pending (c : PawnCycle) (s : State) : (effIllegal c s).pending = s.pending := by simp [effIllegal]

@[simp] theorem effOf_pending (c : PawnCycle) (s : State) : (effOf c s).pending = s.pending := by
  unfold effOf
  repeat' split
  all_goals simp

@[simp] theorem State.pawnCycle_pending (s : State) (q op : Nat) {eff : PawnCycle → State → State} (h : ∀ c t, (eff c t).pending = t.pending) :
    (s.pawnCycle q op eff).pending = s.pending := by simp [State.pawnCycle, h]

@[simp] theorem State.cutCycle_pending (s : State) (q edge : Nat) : (s.cutCycle q edge).pending = s.pending := by simp [State.cutCycle]

@[simp] theorem State.goStart_pending (s : State) (q addr group : Nat) : (s.goStart q addr group).pending = s.pending := by simp [State.goStart]

@[simp] theorem State.goResume_pending (s : State) (q group : Nat) : (s.goResume q group).pending = s.pending := by
  unfold State.goResume
  dsimp only
  split <;> simp

@[simp] theorem State.goCluster_pending (s : State) (c mask : Nat) (resume : Bool) (addr : Nat) :
    (s.goCluster c mask resume addr).pending = s.pending := by simp [State.goCluster]

@[simp] theorem State.alignCycle_pending (s : State) (q : Nat) : (s.alignCycle q).pending = s.pending := by simp [State.alignCycle]

@[simp] theorem State.injectedCycle_pending (s : State) (q : Nat) : (s.injectedCycle q).pending = s.pending := by simp [State.injectedCycle]

@[simp] theorem State.armSwap_pending (s : State) (q v : Nat) : (s.armSwap q v).st.pending = s.pending := by
  unfold State.armSwap
  dsimp only
  repeat' split
  all_goals simp

@[simp] theorem State.swapsAtBoundary_pending (s : State) : s.swapsAtBoundary.pending = s.pending := by simp [State.swapsAtBoundary]

@[simp] theorem State.withdrawSwap_pending (s : State) (q : Nat) : (s.withdrawSwap q).pending = s.pending := by simp [State.withdrawSwap]

@[simp] theorem State.forcedSwapDue_pending (s : State) (q : Nat) : (s.forcedSwapDue q).pending = s.pending := by simp [State.forcedSwapDue]

@[simp] theorem State.inject_pending (s : State) (q w : Nat) : (s.inject q w).st.pending = s.pending := by
  unfold State.inject
  dsimp only
  repeat' split
  all_goals simp

@[simp] theorem State.manualGo_pending (s : State) (c v : Nat) : (s.manualGo c v).st.pending = s.pending := by
  unfold State.manualGo
  dsimp only
  repeat' split
  all_goals simp

@[simp] theorem State.runManual_pending (s : State) : s.runManual.pending = s.pending := by simp [State.runManual]

@[simp] theorem State.stageSlots_pending (s : State) (q : Nat) (v : List Byte) : (s.stageSlots q v).st.pending = s.pending := by
  unfold State.stageSlots
  dsimp only
  split <;> simp

@[simp] theorem State.stageDivider_pending (s : State) (q v : Nat) : (s.stageDivider q v).st.pending = s.pending := by
  unfold State.stageDivider
  split <;> simp

@[simp] theorem State.stageTimeout_pending (s : State) (q i v : Nat) : (s.stageTimeout q i v).st.pending = s.pending := by
  unfold State.stageTimeout
  split <;> simp

@[simp] theorem State.loadProgram_pending (s : State) (r : ProgramRec) : (s.loadProgram r).pending = s.pending := rfl

@[simp] theorem State.armPrograms_pending (s : State) (b : Bank) : (s.armPrograms b).pending = s.pending := by simp [State.armPrograms]

@[simp] theorem State.swapPrograms_pending (s : State) : s.swapPrograms.pending = s.pending := by simp [State.swapPrograms]

@[simp] theorem State.disarmPrograms_pending (s : State) : s.disarmPrograms.pending = s.pending := by
  refine State.foldl_pending (fun t e => ?_) _ _
  rfl

@[simp] theorem State.revealWords_pending (s : State) (q : Nat) : (s.revealWords q).pending = s.pending := by
  unfold State.revealWords
  dsimp only
  split <;> simp

@[simp] theorem State.fifoRead_pending (s : State) (q o n : Nat) : (s.fifoRead q o n).st.pending = s.pending := by
  unfold State.fifoRead
  dsimp only
  repeat' split
  all_goals simp

@[simp] theorem State.fifoPush_pending (s : State) (q : Nat) (w : BitVec 32) (last : Bool) : (s.fifoPush q w last).st.pending = s.pending := by
  unfold State.fifoPush
  dsimp only
  repeat' split
  all_goals simp

@[simp] theorem State.fifoWrite_pending (s : State) (q o n v : Nat) : (s.fifoWrite q o n v).st.pending = s.pending := by
  unfold State.fifoWrite
  repeat' split
  all_goals simp

theorem State.pending_of_imemWrite {s t : State} {o : Nat} {v : List Byte} (h : s.imemWrite o v = some t) : t.pending = s.pending := by
  unfold State.imemWrite at h
  split at h
  · rw [← Option.some.inj h]
    refine State.foldl_pending (fun u k => ?_) _ s
    rfl
  · cases h

@[simp] theorem State.consumeEdges_pending (s : State) (mode ns : Nat) (pins : List Nat) : (s.consumeEdges mode ns pins).pending = s.pending := by
  unfold State.consumeEdges
  dsimp only
  repeat' split
  all_goals simp

@[simp] theorem State.setupFailed_pending (s : State) : s.setupFailed.pending = s.pending := rfl

@[simp] theorem State.violateRecord_pending (s : State) (t : SampleTaken) (e : Nat × RecDecl) :
    (s.violateRecord t e).pending = s.pending := pending_pinBlind.violateRecord s t e

@[simp] theorem State.violateSample_pending (s : State) (t : SampleTaken) (hit : Nat → Bool) :
    (s.violateSample t hit).1.pending = s.pending := by simp [State.violateSample]

@[simp] theorem State.takeSample_pending (s : State) (m : MoveRec) : (s.takeSample m).pending = s.pending := by
  unfold State.takeSample
  dsimp only
  repeat' split
  all_goals simp

@[simp] theorem State.filteredEdge_pending (s : State) (pin raw ns : Nat) (lvl : Bool) :
    (s.filteredEdge pin raw ns lvl).pending = s.pending := pending_pinBlind.filteredEdge s pin raw ns lvl

@[simp] theorem State.pinDue_pending (s : State) (e : Nat × PinDue) : (s.pinDue e).pending = s.pending := by
  unfold State.pinDue
  split <;> simp

@[simp] theorem State.pinsThrough_pending (s : State) (ns : Nat) : (s.pinsThrough ns).pending = s.pending := by simp [State.pinsThrough]

@[simp] theorem State.pinsToBeat_pending (s : State) : s.pinsToBeat.pending = s.pending := by simp [State.pinsToBeat]

@[simp] theorem State.breakPulse_pending (s : State) (pin ns : Nat) : (s.breakPulse pin ns).pending = s.pending := rfl

@[simp] theorem State.pinEdge_pending (s : State) (pin off : Nat) (lvl : Bool) : (s.pinEdge pin off lvl).pending = s.pending := by simp [State.pinEdge]

@[simp] theorem State.setPinConfig_pending (s : State) (pin v : Nat) : (s.setPinConfig pin v).pending = s.pending := rfl

@[simp] theorem State.writePinConfig_pending (s : State) (pin v : Nat) : (s.writePinConfig pin v).st.pending = s.pending := by
  unfold State.writePinConfig
  repeat' split
  all_goals simp

@[simp] theorem State.writeLineEnable_pending (s : State) (v : Nat) : (s.writeLineEnable v).st.pending = s.pending := by
  unfold State.writeLineEnable
  split <;> simp

@[simp] theorem State.writeLatches_pending (s : State) (bank v : Nat) : (s.writeLatches bank v).pending = s.pending := by simp [State.writeLatches]

@[simp] theorem State.enableBank_pending (s : State) (b : Nat) : (s.enableBank b).pending = s.pending := rfl

@[simp] theorem State.reEnable_pending (s : State) (b : Nat) : (s.reEnable b).st.pending = s.pending := by
  unfold State.reEnable
  split <;> simp

@[simp] theorem State.releaseAll_pending (s : State) : s.releaseAll.st.pending = s.pending := by
  unfold State.releaseAll
  split <;> simp

@[simp] theorem State.putStaged_pending (s : State) (o v : Nat) : (s.putStaged o v).pending = s.pending := by simp [State.putStaged]

@[simp] theorem State.pinsAtBoundary_pending (s : State) : s.pinsAtBoundary.pending = s.pending := by simp [State.pinsAtBoundary]

@[simp] theorem State.vioMeasure_pending (s : State) (b mv : Nat) : (s.vioMeasure b mv).pending = s.pending := rfl

@[simp] theorem State.bankLost_pending (s : State) (b : Nat) : (s.bankLost b).pending = s.pending := rfl

@[simp] theorem State.bankPresent_pending (s : State) (b : Nat) : (s.bankPresent b).pending = s.pending := rfl

@[simp] theorem State.resetPins_pending (s : State) : s.resetPins.pending = s.pending := rfl

@[simp] theorem State.setFeed_pending (s : State) (q ing : Nat) (l : List FrameCopy) : (s.setFeed q ing l).pending = s.pending := rfl

end Sys2Proof.Machine
end

section
/-!
PROOFS. The commands that wait under the switch, the journal, the message buses and the ring (R92 to R186, R263 to R286, R455 to R465).
-/
namespace Sys2Proof.Machine

@[simp] theorem State.shaperPay_pending (s : State) (q off n : Nat) : (s.shaperPay q off n).pending = s.pending := by simp [State.shaperPay]

@[simp] theorem State.settleBuckets_pending (s : State) (o : Nat) : (s.settleBuckets o).pending = s.pending := by simp [State.settleBuckets]

@[simp] theorem State.newRound_pending (s : State) (q : Nat) : (s.newRound q).pending = s.pending := rfl

@[simp] theorem State.settleRound_pending (s : State) (q n : Nat) : (s.settleRound q n).pending = s.pending := by
  induction n generalizing s with
  | zero => rfl
  | succ k ih =>
    rw [State.settleRound]
    repeat' split
    all_goals simp [ih]

@[simp] theorem State.releaseCopy_pending (s : State) (c : FrameCopy) : (s.releaseCopy c).pending = s.pending := by simp [State.releaseCopy]

@[simp] theorem State.unfeed_pending (s : State) (c : FrameCopy) : (s.unfeed c).pending = s.pending := rfl

@[simp] theorem State.unqueue_pending (s : State) (c : FrameCopy) : (s.unqueue c).pending = s.pending := by simp [State.unqueue]

@[simp] theorem State.settlePort_pending (s : State) (now port : Nat) : (s.settlePort now port).pending = s.pending := by
  unfold State.settlePort
  dsimp only
  split <;> simp

@[simp] theorem State.settleAir_pending (s : State) (now : Nat) : (s.settleAir now).pending = s.pending := by simp [State.settleAir]

@[simp] theorem State.switchAtBeat_pending (s : State) : s.switchAtBeat.pending = s.pending := by simp [State.switchAtBeat]

@[simp] theorem State.transmitTill_pending (s : State) (port : Nat) (f : Frame) (stop : Nat) :
    (s.transmitTill port f stop).pending = s.pending := by simp [State.transmitTill]

@[simp] theorem State.transmit_pending (s : State) (port : Nat) (f : Frame) : (s.transmit port f).pending = s.pending := by simp [State.transmit]

@[simp] theorem State.countArrival_pending (s : State) (ing : Nat) (f : Frame) : (s.countArrival ing f).pending = s.pending := by simp [State.countArrival]

@[simp] theorem State.markOn_pending (s : State) (q : Nat) (f : Frame) : (s.markOn q f).1.pending = s.pending := by
  unfold State.markOn
  split <;> simp

@[simp] theorem State.journalDrop_pending (s : State) (f : Frame) (egress reason : Nat) :
    (s.journalDrop f egress reason).pending = s.pending := by simp [State.journalDrop]

@[simp] theorem State.storeJudged_pending (s : State) (ing : Nat) (col : Colour) (f f1 : Frame) (ps : List Nat) :
    (s.storeJudged State.sendReport ing col f f1 ps).pending = s.pending := by
  unfold State.storeJudged
  split
  · exact pending_blind.storeFrame pending_blind.sendReport s ing col f1 ps
  · simp

@[simp] theorem State.ingress_pending (s : State) (ing : Nat) (f : Frame) : (s.ingress ing f).pending = s.pending := pending_blind.sendFrame s ing f

@[simp] theorem State.sendLinkLocal_pending (s : State) (p : Port) (f : Frame) : (s.sendLinkLocal p f).pending = s.pending := by
  unfold State.sendLinkLocal
  split
  · rfl
  · exact pending_blind.takeFrame pending_blind.sendReport s 7 f _

@[simp] theorem State.discardCopy_pending (s : State) (c : FrameCopy) (outcome reason : Nat) :
    (s.discardCopy c outcome reason).pending = s.pending := by simp [State.discardCopy]

@[simp] theorem State.findCandidate_pending (s : State) (q n : Nat) : (s.findCandidate q n).1.pending = s.pending := by
  induction n generalizing s with
  | zero => rfl
  | succ k ih =>
    unfold State.findCandidate
    dsimp only
    split
    · simp
    · split
      · simp [ih]
      · simp

theorem State.pending_of_findCandidate {s t : State} {q n : Nat} {c : Option FrameCopy} (h : s.findCandidate q n = (t, c)) : t.pending = s.pending := by
  rw [← s.findCandidate_pending q n, h]

@[simp] theorem State.releaseWraps_pending (s : State) (tx : Nat) :
    (s.releaseWraps tx).pending = s.pending := State.foldl_pending (fun u _ => u.emit_pending _) _ _

@[simp] theorem State.wrapsAtBeat_pending (s : State) : s.wrapsAtBeat.pending = s.pending := by simp [State.wrapsAtBeat]

@[simp] theorem State.holdAlign_pending (s : State) (p : Port) : (s.holdAlign p).pending = s.pending := rfl

@[simp] theorem State.alignsHeld_pending (s : State) : s.alignsHeld.pending = s.pending := by simp [State.alignsHeld]

@[simp] theorem State.startsOn_pending (s : State) (q tx off : Nat) (c : FrameCopy) : (s.startsOn q tx off c).pending = s.pending := rfl

@[simp] theorem State.stretchSent_pending (s : State) (tx : Nat) : (s.stretchSent tx).pending = s.pending := by
  unfold State.stretchSent
  dsimp only
  split <;> simp

@[simp] theorem State.wrapOut_pending (s : State) (tx subtype : Nat) (b : WrapBlock) : (s.wrapOut tx subtype b).pending = s.pending := by simp [State.wrapOut]

@[simp] theorem State.launch_pending (s : State) (q tx off : Nat) (c : FrameCopy) : (s.launch q tx off c).pending = s.pending := by simp [State.launch]

@[simp] theorem State.sendCopy_pending (s : State) (q tx off : Nat) (c : FrameCopy) : (s.sendCopy q tx off c).pending = s.pending := by simp [State.sendCopy]

@[simp] theorem State.selectFrom_pending (s : State) (port tx off n : Nat) : (s.selectFrom port tx off n).pending = s.pending := by
  induction n generalizing s with
  | zero => rfl
  | succ k ih =>
    rw [State.selectFrom]
    split
    next t c h =>
      have ht := State.pending_of_findCandidate h
      split
      · split
        · simp [ht]
        · simp [ih, ht]
      · simp [ih, ht]

@[simp] theorem State.egressSelect_pending (s : State) (port off : Nat) : (s.egressSelect port off).pending = s.pending := by
  unfold State.egressSelect
  dsimp only
  split
  · split <;> simp
  · simp

@[simp] theorem State.cutThrough_pending (s : State) (ing p : Nat) (col : Colour) (f f1 : Frame) :
    (s.cutThrough ing p col f f1).pending = s.pending := by simp [State.cutThrough]

@[simp] theorem State.frameIngress_pending (s0 : State) (ing : Nat) (f : Frame) : (s0.frameIngress ing f).pending = s0.pending := by
  have hcount := s0.countArrival_pending ing f
  have hpolice := pending_blind.police (s0.countArrival ing f) ing f
  rw [State.frameIngress]
  generalize s0.countArrival ing f = u at *
  generalize (!badHeader f && f.hops != 0) = b
  have hin (c : Prop) [Decidable c] (v : State) (h : v.pending = s0.pending) : (if c then v else u.ingress ing f).pending = s0.pending := by
    split
    · exact h
    · simp [hcount]
  refine hin _ _ ?_
  generalize u.lookup ing f = l
  split
  · refine hin _ _ ?_
    dsimp only
    generalize u.police ing f = w at *
    split
    · split
      · exact (State.cutThrough_pending _ _ _ _ _ _).trans (hpolice.trans hcount)
      · exact (State.storeJudged_pending _ _ _ _ _ _).trans (hpolice.trans hcount)
    · simp [hpolice, hcount]
  · simp [hcount]

@[simp] theorem State.sendControl_pending (s : State) (dst : Nat) (payload : List Byte) :
    (s.sendControl dst payload).pending = s.pending := by simp [State.sendControl]

@[simp] theorem State.sendFork_pending (s : State) (group : Nat) (payload : List Byte) :
    (s.sendFork group payload).pending = s.pending := by simp [State.sendFork]

@[simp] theorem State.openFences_pending (s : State) (dsts : List Nat) : (s.openFences dsts).pending = s.pending := by simp [State.openFences]

@[simp] theorem State.fenceChanges_pending (s old : State) (dsts : List Nat) : (s.fenceChanges old dsts).pending = s.pending := by simp [State.fenceChanges]

theorem State.pending_of_epochUpdate {s t : State} {ws : List (Nat × Nat)} (h : s.epochUpdate ws = some t) : t.pending = s.pending := by
  have hwrites : (ws.foldl (fun s w => s.wr w.1 w.2) s).pending = s.pending := by
    refine State.foldl_pending (fun u w => ?_) ws s
    rfl
  unfold State.epochUpdate at h
  dsimp only at h
  split at h
  · cases h
  · rw [← Option.some.inj h, State.fenceChanges_pending]
    exact hwrites

@[simp] theorem State.writeTable_pending (s : State) (o v : Nat) : (s.writeTable o v).st.pending = s.pending := by
  unfold State.writeTable
  split
  · split <;> rfl
  · split
    next t h => exact State.pending_of_epochUpdate h
    next => rfl

@[simp] theorem State.batchBegin_pending (s : State) : s.batchBegin.st.pending = s.pending := by
  unfold State.batchBegin
  split <;> simp

@[simp] theorem State.batchCommit_pending (s : State) : s.batchCommit.st.pending = s.pending := by
  unfold State.batchCommit
  split
  · rfl
  · split
    · rfl
    · split
      next t h =>
        have ht := State.pending_of_epochUpdate h
        exact ht
      next => rfl

@[simp] theorem State.batchAbandon_pending (s : State) : s.batchAbandon.st.pending = s.pending := by simp [State.batchAbandon]

@[simp] theorem State.fenceEnd_pending (s : State) (d : Nat) : (s.fenceEnd d).pending = s.pending := by simp [State.fenceEnd]

@[simp] theorem State.clearSwitch_pending (s : State) : s.clearSwitch.pending = s.pending := by
  have hqueues (t : State) (l : List Nat) :
      (l.foldl (fun s q => (((s.wr (queueObj q 7) 0).wr (queueObj q 8) 0).wr (queueObj q 9) 0).wr (queueObj q 0xA) 0) t).pending = t.pending := by
    refine State.foldl_pending (fun u q => ?_) l t
    rfl
  have hpolicers (t : State) (l : List Nat) :
      (l.foldl (fun s k => let o := 0x350000 + 0x100 * k; ((s.wr (o + 8) 0).wr (o + 9) 0).wr (o + 0xA) 0) t).pending = t.pending := by
    refine State.foldl_pending (fun u q => ?_) l t
    rfl
  unfold State.clearSwitch
  generalize List.range 72 = queues
  generalize List.range 64 = policers
  rw [State.wr_pending, hpolicers, hqueues]
  rfl

@[simp] theorem State.gateMove_pending (s : State) (m : MoveRec) : (s.gateMove m).pending = s.pending := by simp [State.gateMove]

@[simp] theorem State.closeGates_pending (s : State) : s.closeGates.pending = s.pending := by simp [State.closeGates]

@[simp] theorem State.segShort_pending (s : State) (seg cycle : Nat) : (s.segShort seg cycle).pending = s.pending := by simp [State.segShort]

@[simp] theorem State.discardAll_pending (s : State) : s.discardAll.pending = s.pending := by simp [State.discardAll]

@[simp] theorem State.discardPort_pending (s : State) (port : Nat) : (s.discardPort port).pending = s.pending := by simp [State.discardPort]

@[simp] theorem State.journalNotice_pending (s : State) (cls : Nat) : (s.journalNotice cls).pending = s.pending := by simp [State.journalNotice]

@[simp] theorem State.forwardRecord_pending (s : State) (r : JRecord) : (s.forwardRecord r).pending = s.pending := by simp [State.forwardRecord]

@[simp] theorem State.keepRecord_pending (s : State) (r : JRecord) : (s.keepRecord r).pending = s.pending := by simp [State.keepRecord]

@[simp] theorem State.putRecord_pending (s : State) (r : JRecord) : (s.putRecord r).pending = s.pending := by simp [State.putRecord]

@[simp] theorem State.fullPolicy_pending (s : State) (r : JRecord) : (s.fullPolicy r).pending = s.pending := by simp [State.fullPolicy]

@[simp] theorem State.storeRecord_pending (s : State) (r : JRecord) : (s.storeRecord r).pending = s.pending := by simp [State.storeRecord]

@[simp] theorem State.takePosted_pending (s : State) (code : Nat) : (s.takePosted code).pending = s.pending := by
  unfold State.takePosted
  dsimp only
  repeat' split
  all_goals simp

@[simp] theorem State.postPowerLog_pending (s : State) : s.postPowerLog.pending = s.pending := by simp [State.postPowerLog]

@[simp] theorem State.keeperStops_pending (s : State) : s.keeperStops.pending = s.pending := by simp [State.keeperStops]

@[simp] theorem State.writeTail_pending (s : State) (v : Nat) : (s.writeTail v).st.pending = s.pending := by
  unfold State.writeTail
  split <;> simp

@[simp] theorem State.journalFwd_pending (s : State) (payload : List Byte) : (s.journalFwd payload).pending = s.pending := by simp [State.journalFwd]

@[simp] theorem State.busJournal_pending (s : State) (n m attempts reason : Nat) :
    (s.busJournal n m attempts reason).pending = s.pending := by simp [State.busJournal]

@[simp] theorem State.queueRequest_pending (s : State) (n m : Nat) (r : TxReq) : (s.queueRequest n m r).pending = s.pending := by
  unfold State.queueRequest
  dsimp only
  repeat' split
  all_goals simp

@[simp] theorem State.request_pending (s : State) (n m count : Nat) : (s.request n m count).pending = s.pending := by simp [State.request]

@[simp] theorem State.abortObj_pending (s : State) (n m : Nat) : (s.abortObj n m).pending = s.pending := by
  unfold State.abortObj
  dsimp only
  repeat' split
  all_goals simp

@[simp] theorem State.abandonAll_pending (s : State) (n : Nat) : (s.abandonAll n).pending = s.pending := by simp [State.abandonAll]

@[simp] theorem State.arbitrate_pending (s : State) (n : Nat) : (s.arbitrate n).pending = s.pending := by
  unfold State.arbitrate
  dsimp only
  repeat' split
  all_goals simp

@[simp] theorem State.endRequest_pending (s : State) (n m outcome : Nat) : (s.endRequest n m outcome).pending = s.pending := by simp [State.endRequest]

@[simp] theorem State.failRequest_pending (s : State) (n m attempts outcome reason : Nat) :
    (s.failRequest n m attempts outcome reason).pending = s.pending := by simp [State.failRequest]

@[simp] theorem State.judgePolicy_pending (s : State) (n m : Nat) (r : TxReq) (failed : Bool) :
    (s.judgePolicy n m r failed).pending = s.pending := by simp [State.judgePolicy]

@[simp] theorem State.busNotice_pending (s : State) (n k vector : Nat) : (s.busNotice n k vector).pending = s.pending := by simp [State.busNotice]

@[simp] theorem State.storeIn_pending (s : State) (n m : Nat) (f : CanFrame) (sofAgo off : Nat) :
    (s.storeIn n m f sofAgo off).pending = s.pending := by simp [State.storeIn]

@[simp] theorem State.validReceived_pending (s : State) (n : Nat) : (s.validReceived n).pending = s.pending := by simp [State.validReceived]

@[simp] theorem State.frameStored_pending (s : State) (n : Nat) (f : CanFrame) (sofAgo off : Nat) : (s.frameStored n f sofAgo off).pending = s.pending := by
  unfold State.frameStored
  split
  · split
    · exact (State.storeIn_pending _ _ _ _ _ _).trans (s.validReceived_pending n)
    · rfl
  · rfl

@[simp] theorem State.frameRefused_pending (s : State) (n : Nat) (f : CanFrame) : (s.frameRefused n f).pending = s.pending := by simp [State.frameRefused]

@[simp] theorem State.loopBack_pending (s : State) (n : Nat) (f : CanFrame) (sofAgo : Nat) : (s.loopBack n f sofAgo).pending = s.pending := by
  unfold State.loopBack
  split <;> simp

@[simp] theorem State.receiveError_pending (s : State) (n : Nat) (code : Fin 8) (heavy : Bool) :
    (s.receiveError n code heavy).pending = s.pending := by simp [State.receiveError]

@[simp] theorem State.goBusOff_pending (s : State) (n m attempts : Nat) : (s.goBusOff n m attempts).pending = s.pending := by simp [State.goBusOff]

@[simp] theorem State.countLonely_pending (s : State) (n m attempts : Nat) : (s.countLonely n m attempts).1.pending = s.pending := by
  unfold State.countLonely
  dsimp only
  repeat' split
  all_goals simp

@[simp] theorem State.attemptFailed_pending (s : State) (n m : Nat) (r : TxReq) (code : Fin 8) : (s.attemptFailed n m r code).pending = s.pending := by
  unfold State.attemptFailed
  dsimp only
  split <;> simp

@[simp] theorem State.noteDelay_pending (s : State) (n : Nat) (f : CanFrame) (delay : Option Nat) : (s.noteDelay n f delay).pending = s.pending := by
  unfold State.noteDelay
  split <;> simp

@[simp] theorem State.modeChange_pending (s : State) (n : Nat) : (s.modeChange n).pending = s.pending := by simp [State.modeChange]

@[simp] theorem State.attemptSent_pending (s : State) (n m ago : Nat) (r : TxReq) :
    (s.attemptSent n m ago r).pending = s.pending := by simp [State.attemptSent]

@[simp] theorem State.attemptResult_pending (s : State) (n : Nat) (e : AttemptEnd) : (s.attemptResult n e).pending = s.pending := by
  unfold State.attemptResult
  dsimp only
  repeat' split
  all_goals simp

@[simp] theorem State.attemptEnd_pending (s : State) (n : Nat) (e : AttemptEnd) : (s.attemptEnd n e).pending = s.pending := by simp [State.attemptEnd]

@[simp] theorem State.busFollow_pending (s : State) : s.busFollow.pending = s.pending := by simp [State.busFollow]

@[simp] theorem State.busRecover_pending (s : State) (n : Nat) (abandon : Bool) : (s.busRecover n abandon).st.pending = s.pending := by
  unfold State.busRecover
  split <;> simp

@[simp] theorem State.busRecovered_pending (s : State) (n : Nat) : (s.busRecovered n).pending = s.pending := by simp [State.busRecovered]

@[simp] theorem State.writeBusMode_pending (s : State) (n v : Nat) : (s.writeBusMode n v).st.pending = s.pending := by
  unfold State.writeBusMode
  split <;> simp

@[simp] theorem State.clearBus_pending (s : State) (n : Nat) : (s.clearBus n).pending = s.pending := by simp [State.clearBus]

@[simp] theorem State.readClear_pending (s : State) (n m : Nat) : (s.readClear n m).pending = s.pending := by simp [State.readClear]

@[simp] theorem State.busRead_pending (s : State) (o n : Nat) : (s.busRead o n).1.pending = s.pending := by
  unfold State.busRead
  dsimp only
  repeat' split
  all_goals simp

@[simp] theorem State.busPutWord_pending (s : State) (n m a v : Nat) : (s.busPutWord n m a v).pending = s.pending := by
  unfold State.busPutWord
  split <;> simp

@[simp] theorem State.busWrite_pending (s : State) (o : Nat) (v : List Byte) : (s.busWrite o v).1.pending = s.pending := by
  unfold State.busWrite
  dsimp only
  repeat' split
  all_goals simp

@[simp] theorem State.syncInh_pending (s : State) : s.syncInh.pending = s.pending := by simp [State.syncInh]

@[simp] theorem State.setXcvr_pending (s : State) (t v : Nat) : (s.setXcvr t v).pending = s.pending := by simp [State.setXcvr]

@[simp] theorem State.writeXcvr_pending (s : State) (t v : Nat) : (s.writeXcvr t v).pending = s.pending := by simp [State.writeXcvr]

@[simp] theorem State.xcvrFollow_pending (s : State) : s.xcvrFollow.pending = s.pending := by simp [State.xcvrFollow]

@[simp] theorem State.listenFollow_pending (s : State) : s.listenFollow.pending = s.pending := by simp [State.listenFollow]

@[simp] theorem State.vcanLow_pending (s : State) : s.vcanLow.pending = s.pending := by simp [State.vcanLow]

@[simp] theorem State.vcanBack_pending (s : State) : s.vcanBack.pending = s.pending := by simp [State.vcanBack]

@[simp] theorem State.wakeXcvrs_pending (s : State) : s.wakeXcvrs.pending = s.pending := by simp [State.wakeXcvrs]

@[simp] theorem State.xcvrFault_pending (s : State) (t k : Nat) (on : Bool) : (s.xcvrFault t k on).pending = s.pending := by simp [State.xcvrFault]

@[simp] theorem State.copyWritten_pending (s : State) (o v : Nat) : (s.copyWritten o v).pending = s.pending := by simp [State.copyWritten]

@[simp] theorem State.chanJournal_pending (s : State) (c code : Nat) : (s.chanJournal c code).pending = s.pending := by simp [State.chanJournal]

@[simp] theorem State.gateOff_pending (s : State) (c code : Nat) : (s.gateOff c code).pending = s.pending := by simp [State.gateOff]

@[simp] theorem State.chanOff_pending (s : State) (c code : Nat) : (s.chanOff c code).pending = s.pending := by simp [State.chanOff]

@[simp] theorem State.fusesOff_pending (s : State) : s.fusesOff.pending = s.pending := by simp [State.fusesOff]

@[simp] theorem State.unseat_pending (s : State) : s.unseat.pending = s.pending := by simp [State.unseat]

@[simp] theorem State.dozeOff_pending (s : State) : s.dozeOff.pending = s.pending := by simp [State.dozeOff]

@[simp] theorem State.sendWrap_pending (s : State) (p : Port) (subtype : Nat) (b : WrapBlock) :
    (s.sendWrap p subtype b).pending = s.pending := by simp [State.sendWrap]

@[simp] theorem State.reportOn_pending (s : State) (p : Port) (b : WrapBlock) : (s.reportOn p b).pending = s.pending := by simp [State.reportOn]

@[simp] theorem State.noteBroken_pending (s : State) (known : List WrapBlock) (n : Nat) (p : Port) (tag : Nat) :
    (s.noteBroken known n p tag).pending = s.pending := by simp [State.noteBroken]

@[simp] theorem State.endSegment_pending (s : State) (p : Port) (num tag : Nat) : (s.endSegment p num tag).pending = s.pending := by simp [State.endSegment]

@[simp] theorem State.loseFrame_pending (s : State) (p : Port) (f : Frame) (egress : Nat) :
    (s.loseFrame p f egress).pending = s.pending := by simp [State.loseFrame]

@[simp] theorem State.cutItem_pending (s : State) (p : Port) (c : Option Cut) : (s.cutItem p c).pending = s.pending := by
  unfold State.cutItem
  split <;> simp

@[simp] theorem State.flushSpan_pending (s : State) (p : Port) : (s.flushSpan p).pending = s.pending := by simp [State.flushSpan]

@[simp] theorem State.flushQueue_pending (s : State) (p : Port) : (s.flushQueue p).pending = s.pending := by simp [State.flushQueue]

@[simp] theorem State.flushQueues_pending (s : State) : s.flushQueues.pending = s.pending := by simp [State.flushQueues]

@[simp] theorem State.portDown_pending (s : State) (p : Port) (wait : Bool) : (s.portDown p wait).pending = s.pending := by simp [State.portDown]

@[simp] theorem State.declareBreak_pending (s : State) (p : Port) (reason tag : Nat) :
    (s.declareBreak p reason tag).pending = s.pending := by simp [State.declareBreak]

@[simp] theorem State.noticeRepeat_pending (s : State) (p : Port) : (s.noticeRepeat p).pending = s.pending := by simp [State.noticeRepeat]

@[simp] theorem State.reportReceived_pending (s : State) (p : Port) (b : WrapBlock) :
    (s.reportReceived p b).pending = s.pending := by simp [State.reportReceived]

@[simp] theorem State.askUnwrap_pending (s : State) (p : Port) : (s.askUnwrap p).pending = s.pending := by simp [State.askUnwrap]

@[simp] theorem State.unwrapReq_pending (s : State) (p : Port) (b : WrapBlock) : (s.unwrapReq p b).pending = s.pending := by simp [State.unwrapReq]

@[simp] theorem State.unwrapAck_pending (s : State) (p : Port) (b : WrapBlock) : (s.unwrapAck p b).pending = s.pending := by
  unfold State.unwrapAck
  dsimp only
  split <;> simp

@[simp] theorem State.retryUnwrap_pending (s : State) : s.retryUnwrap.pending = s.pending := by simp [State.retryUnwrap]

@[simp] theorem State.unwrapAtBoundary_pending (s : State) : s.unwrapAtBoundary.pending = s.pending := by
  refine State.foldl_pending (fun t p => ?_) _ _
  dsimp only
  split
  · split
    · simp
    · rfl
  · rfl

@[simp] theorem State.unwrapRetries_pending (s : State) : s.unwrapRetries.pending = s.pending := by
  refine State.foldl_pending (fun t p => ?_) _ _
  split
  · split
    · simp
    · rfl
  · rfl

@[simp] theorem State.signalDetected_pending (s : State) (p : Port) : (s.signalDetected p).pending = s.pending := by simp [State.signalDetected]

@[simp] theorem State.cdrLocked_pending (s : State) (p : Port) : (s.cdrLocked p).pending = s.pending := by simp [State.cdrLocked]

@[simp] theorem State.lockGained_pending (s : State) (p : Port) (lane : Nat) : (s.lockGained p lane).pending = s.pending := by simp [State.lockGained]

@[simp] theorem State.lockLost_pending (s : State) (p : Port) (cut : Option Cut) : (s.lockLost p cut).pending = s.pending := by simp [State.lockLost]

@[simp] theorem State.trainingTimeout_pending (s : State) (p : Port) : (s.trainingTimeout p).pending = s.pending := by simp [State.trainingTimeout]

@[simp] theorem State.trainingRestart_pending (s : State) (p : Port) : (s.trainingRestart p).pending = s.pending := by simp [State.trainingRestart]

@[simp] theorem State.retrain_pending (s : State) (p : Port) : (s.retrain p).pending = s.pending := by simp [State.retrain]

@[simp] theorem State.portDisable_pending (s : State) (p : Port) : (s.portDisable p).pending = s.pending := by simp [State.portDisable]

@[simp] theorem State.clearPort_pending (s : State) (p : Port) : (s.clearPort p).pending = s.pending := by simp [State.clearPort]

@[simp] theorem State.alignReceived_pending (s : State) (p : Port) (skew : Nat) :
    (s.alignReceived p skew).pending = s.pending := by simp [State.alignReceived]

@[simp] theorem State.helloSend_pending (s : State) (p : Port) : (s.helloSend p).pending = s.pending := by simp [State.helloSend]

@[simp] theorem State.helloDone_pending (s : State) (p : Port) : (s.helloDone p).pending = s.pending := by simp [State.helloDone]

@[simp] theorem State.noteNeighbour_pending (s : State) (p : Port) (h : Hello) : (s.noteNeighbour p h).pending = s.pending := by simp [State.noteNeighbour]

@[simp] theorem State.helloIn_pending (s : State) (p : Port) (h : Hello) : (s.helloIn p h).pending = s.pending := by simp [State.helloIn]

@[simp] theorem State.helloAck_pending (s : State) (p : Port) (h : Hello) : (s.helloAck p h).pending = s.pending := by simp [State.helloAck]

@[simp] theorem State.measureExchange_pending (s : State) (p : Port) (t1 : Nat) :
    (s.measureExchange p t1).pending = s.pending := by simp [State.measureExchange]

@[simp] theorem State.measureReq_pending (s : State) (p : Port) (seq turnaround : Nat) :
    (s.measureReq p seq turnaround).pending = s.pending := by simp [State.measureReq]

@[simp] theorem State.sendPath_pending (s : State) (p : Port) : (s.sendPath p).pending = s.pending := by simp [State.sendPath]

@[simp] theorem State.calibrate_pending (s : State) (p : Port) : (s.calibrate p).pending = s.pending := by simp [State.calibrate]

@[simp] theorem State.portUp_pending (s : State) (p : Port) : (s.portUp p).pending = s.pending := by simp [State.portUp]

@[simp] theorem State.measureDone_pending (s : State) (p : Port) : (s.measureDone p).pending = s.pending := by simp [State.measureDone]

@[simp] theorem State.measureEnd_pending (s : State) (p : Port) : (s.measureEnd p).pending = s.pending := by simp [State.measureEnd]

@[simp] theorem State.measureRep_pending (s : State) (p : Port) (seq r t4 : Nat) : (s.measureRep p seq r t4).pending = s.pending := by
  unfold State.measureRep
  dsimp only
  split <;> simp

@[simp] theorem State.pathRepeat_pending (s : State) (p : Port) : (s.pathRepeat p).pending = s.pending := by simp [State.pathRepeat]

@[simp] theorem State.pathIn_pending (s : State) (p : Port) (etx erx : Nat) : (s.pathIn p etx erx).pending = s.pending := by simp [State.pathIn]

@[simp] theorem State.idleTimeout_pending (s : State) (p : Port) (cut : Option Cut) : (s.idleTimeout p cut).pending = s.pending := by simp [State.idleTimeout]

@[simp] theorem State.noticeIn_pending (s : State) (p : Port) (b : WrapBlock) (cut : Option Cut) :
    (s.noticeIn p b cut).pending = s.pending := by simp [State.noticeIn]

@[simp] theorem State.blockArrives_pending (s : State) (p : Port) (lane sync block : Nat) :
    (s.blockArrives p lane sync block).pending = s.pending := by simp [State.blockArrives]

@[simp] theorem State.fillInsert_pending (s : State) (p : Port) (seg off : Nat) (ws : List (BitVec 32 × RecState)) :
    (s.fillInsert p seg off ws).pending = s.pending := by simp [State.fillInsert]

@[simp] theorem State.clearInserts_pending (s : State) : s.clearInserts.pending = s.pending := by simp [State.clearInserts]

@[simp] theorem State.sendSegment_pending (s : State) (p : Port) (g : Segment) : (s.sendSegment p g).pending = s.pending := by simp [State.sendSegment]

@[simp] theorem State.originate_pending (s : State) (old : Bool) (e : LayoutRec) : (s.originate old e).pending = s.pending := by simp [State.originate]

@[simp] theorem State.originateAt_pending (s : State) (beat : Nat) : (s.originateAt beat).pending = s.pending := by simp [State.originateAt]

@[simp] theorem State.extractGood_pending (s : State) (p : Port) (g : Segment) (e : LayoutRec) : (s.extractGood p g e).pending = s.pending := by
  unfold State.extractGood
  split
  · simp
  · refine (State.foldl_pending (fun t i => ?_) _ _).trans (by simp)
    split
    · simp
    · rfl

@[simp] theorem State.extractBad_pending (s : State) (e : LayoutRec) : (s.extractBad e).pending = s.pending := by simp [State.extractBad]

@[simp] theorem State.extractOld_pending (s : State) (b : Bank) (e : LayoutRec) : (s.extractOld b e).pending = s.pending := by simp [State.extractOld]

@[simp] theorem State.extractAll_pending (s : State) (p : Port) (g : Segment) (st : CheckState) : (s.extractAll p g st).1.pending = s.pending := by
  unfold State.extractAll
  dsimp only
  repeat' split
  all_goals simp

@[simp] theorem State.judgeSegment_pending (s : State) (p : Port) (g : Segment) (st : CheckState) : (s.judgeSegment p g st).pending = s.pending := by
  unfold State.judgeSegment
  split <;> simp

@[simp] theorem State.sendSegShort_pending (s : State) (g : Segment) : (s.sendSegShort g).pending = s.pending := by simp [State.sendSegShort]

@[simp] theorem State.noteResidence_pending (s : State) (p : Port) (ns : Nat) : (s.noteResidence p ns).pending = s.pending := by simp [State.noteResidence]

@[simp] theorem State.noteOrigin_pending (s : State) (p : Port) (g : Segment) : (s.noteOrigin p g).pending = s.pending := by simp [State.noteOrigin]

@[simp] theorem State.segmentReceived_pending (s : State) (p : Port) (g : Segment) (res : Nat) : (s.segmentReceived p g res).pending = s.pending := by
  unfold State.segmentReceived
  dsimp only
  repeat' split
  all_goals simp

@[simp] theorem State.setServo_pending (s : State) (v : Nat) : (s.setServo v).pending = s.pending := by simp [State.setServo]

@[simp] theorem State.setRate_pending (s : State) (r : ℤ) : (s.setRate r).pending = s.pending := by simp [State.setRate]

@[simp] theorem State.servoRate_pending (s : State) : s.servoRate.pending = s.pending := by simp [State.servoRate]

@[simp] theorem State.keepRate_pending (s : State) : s.keepRate.pending = s.pending := by simp [State.keepRate]

@[simp] theorem State.lock_pending (s : State) : s.lock.pending = s.pending := by simp [State.lock]

@[simp] theorem State.acquire_pending (s : State) : s.acquire.pending = s.pending := by simp [State.acquire]

@[simp] theorem State.boundAtBoundary_pending (s : State) : s.boundAtBoundary.pending = s.pending := by simp [State.boundAtBoundary]

@[simp] theorem State.refuseJump_pending (s : State) (at_ : Nat) : (s.refuseJump at_).pending = s.pending := by simp [State.refuseJump]

@[simp] theorem State.servoAct_pending (s : State) (at_ : Nat) (k : MarkerSeen) : (s.servoAct at_ k).pending = s.pending := by simp [State.servoAct]

@[simp] theorem State.sendMarker_pending (s : State) (p : Port) (m : Marker) : (s.sendMarker p m).pending = s.pending := by simp [State.sendMarker]

@[simp] theorem State.markerReturned_pending (s : State) (p : Port) (m : Marker) (arr : Nat) :
    (s.markerReturned p m arr).pending = s.pending := by simp [State.markerReturned]

@[simp] theorem State.markerAccepted_pending (s : State) (p : Port) (m : Marker) (arr : Nat) :
    (s.markerAccepted p m arr).pending = s.pending := by simp [State.markerAccepted]

@[simp] theorem State.relayMarker_pending (s : State) (p : Port) (m : Marker) (arr res : Nat) (ok : Bool) :
    (s.relayMarker p m arr res ok).pending = s.pending := by
  unfold State.relayMarker
  split <;> simp

@[simp] theorem State.copyMarkers_pending (s : State) (beat : Nat) : (s.copyMarkers beat).pending = s.pending := by
  unfold State.copyMarkers
  split <;> simp

@[simp] theorem State.markerReceived_pending (s : State) (p : Port) (m : Marker) (at_ stay : Nat) : (s.markerReceived p m at_ stay).pending = s.pending := by
  unfold State.markerReceived
  dsimp only
  repeat' split
  all_goals simp

@[simp] theorem State.emitMarker_pending (s : State) (ps : List Port) : (s.emitMarker ps).pending = s.pending := by simp [State.emitMarker]

@[simp] theorem State.markMove_pending (s : State) (m : MoveRec) : (s.markMove m).pending = s.pending := by simp [State.markMove]

@[simp] theorem State.alignsAt_pending (s : State) (beat : Nat) : (s.alignsAt beat).pending = s.pending := by simp [State.alignsAt]

@[simp] theorem State.servoAtBoundary_pending (s : State) : s.servoAtBoundary.pending = s.pending := by
  unfold State.servoAtBoundary
  split <;> simp

end Sys2Proof.Machine
end

section
/-!
PROOFS. The commands that wait under fabric time, snapshots, seals, resets, power and sleep (R287 to R312, R367 to R424, R466 to R469).
-/
namespace Sys2Proof.Machine

@[simp] theorem State.countMissing_pending (s : State) : s.countMissing.pending = s.pending := by simp [State.countMissing]

@[simp] theorem State.yieldAtBoundary_pending (s : State) : s.yieldAtBoundary.pending = s.pending := by simp [State.yieldAtBoundary]

@[simp] theorem State.becomeMaster_pending (s : State) : s.becomeMaster.pending = s.pending := by simp [State.becomeMaster]

@[simp] theorem State.closureCycle_pending (s : State) : s.closureCycle.pending = s.pending := by
  unfold State.closureCycle
  dsimp only
  repeat' split
  all_goals simp

@[simp] theorem State.sendTimeCal_pending (s : State) (p : Port) (d : ℤ) (valid : Bool) :
    (s.sendTimeCal p d valid).pending = s.pending := by simp [State.sendTimeCal]

@[simp] theorem State.closeSpan_pending (s : State) (p : Port) : (s.closeSpan p).pending = s.pending := by
  unfold State.closeSpan
  split <;> simp

@[simp] theorem State.windowEnd_pending (s : State) : s.windowEnd.pending = s.pending := by simp [State.windowEnd]

@[simp] theorem State.timeCalIn_pending (s : State) (p : Port) (d : ℤ) (valid : Bool) (cycle : Nat) :
    (s.timeCalIn p d valid cycle).pending = s.pending := by simp [State.timeCalIn]

@[simp] theorem State.closeAtBoundary_pending (s : State) : s.closeAtBoundary.pending = s.pending := by simp [State.closeAtBoundary]

@[simp] theorem State.timeAtBoundary_pending (s : State) : s.timeAtBoundary.pending = s.pending := by simp [State.timeAtBoundary]

@[simp] theorem State.masterLoss_pending (s : State) : s.masterLoss.pending = s.pending := by simp [State.masterLoss]

@[simp] theorem State.setFabricTime_pending (s : State) (v : Nat) : (s.setFabricTime v).st.pending = s.pending := by
  unfold State.setFabricTime
  dsimp only
  repeat' split
  all_goals simp

@[simp] theorem State.setTimeAtBoundary_pending (s : State) : s.setTimeAtBoundary.pending = s.pending := by
  unfold State.setTimeAtBoundary
  split <;> simp

@[simp] theorem State.acceptNextJump_pending (s : State) : s.acceptNextJump.pending = s.pending := by simp [State.acceptNextJump]

@[simp] theorem State.candidateReturn_pending (s : State) (v : Nat) : (s.candidateReturn v).pending = s.pending := by simp [State.candidateReturn]

@[simp] theorem State.ptpEvent_pending (s : State) (sent : Bool) (off : Nat) : (s.ptpEvent sent off).pending = s.pending := by simp [State.ptpEvent]

@[simp] theorem State.latchSnap_pending (s : State) (k id trigger mask : Nat) :
    (s.latchSnap k id trigger mask).pending = s.pending := by simp [State.latchSnap]

@[simp] theorem State.raiseSeal_pending (s : State) (reason : Nat) : (s.raiseSeal reason).pending = s.pending := by simp [State.raiseSeal]

@[simp] theorem State.sealMove_pending (s : State) (m : MoveRec) : (s.sealMove m).pending = s.pending := by simp [State.sealMove]

@[simp] theorem State.collected_pending (s : State) (k : Nat) : (s.collected k).pending = s.pending := by simp [State.collected]

@[simp] theorem State.uncollected_pending (s : State) (k delivered : Nat) : (s.uncollected k delivered).pending = s.pending := by simp [State.uncollected]

@[simp] theorem State.releaseSlot_pending (s : State) (k : Nat) : (s.releaseSlot k).st.pending = s.pending := by
  unfold State.releaseSlot
  dsimp only
  repeat' split
  all_goals simp

@[simp] theorem State.releaseSlots_pending (s : State) : s.releaseSlots.pending = s.pending := by simp [State.releaseSlots]

@[simp] theorem State.setSeals_pending (s : State) (l : NMap SealSt) : (s.setSeals l).pending = s.pending := by simp [State.setSeals]

@[simp] theorem State.refuseArm_pending (s : State) (slot id : Nat) : (s.refuseArm slot id).pending = s.pending := by simp [State.refuseArm]

@[simp] theorem State.armSeal_pending (s : State) (t : Time96) (slot id trigger : Nat) :
    (s.armSeal t slot id trigger).pending = s.pending := by simp [State.armSeal]

@[simp] theorem State.disarmSeal_pending (s : State) (slot id : Nat) : (s.disarmSeal slot id).pending = s.pending := by
  unfold State.disarmSeal
  split <;> simp

@[simp] theorem State.sealCommand_pending (s : State) (v : Nat) : (s.sealCommand v).pending = s.pending := by
  unfold State.sealCommand
  split <;> simp

@[simp] theorem State.sealsAtBoundary_pending (s : State) : s.sealsAtBoundary.pending = s.pending := by simp [State.sealsAtBoundary]

@[simp] theorem State.missSeals_pending (s : State) (old : Nat) : (s.missSeals old).pending = s.pending := by simp [State.missSeals]

@[simp] theorem State.sealIn_pending (s : State) (off : Nat) : (s.sealIn off).pending = s.pending := by
  have hstamp := s.wr_pending 0x80200A (s.sealStamp off)
  unfold State.sealIn
  generalize s.wr 0x80200A (s.sealStamp off) = u at *
  generalize toTime96 (s.sealEdgeBeat off + s.cell 0x802009 * s.cycleLen * beatTicks) = at_
  generalize s.time.sealCtr % 65536 = id
  split
  · dsimp only
    split
    · rw [State.inc_pending, hstamp]
    · rw [State.sendFork_pending, State.armSeal_pending]
      exact hstamp
  · rfl

@[simp] theorem State.sealLatch_pending (s : State) (slot : Nat) : (s.sealLatch slot).pending = s.pending := by
  unfold State.sealLatch
  split <;> simp

@[simp] theorem State.resetCause_pending (s : State) (k : ResetKind) (source mode flags frames ods : Nat) :
    (s.resetCause k source mode flags frames ods).pending = s.pending := by simp [State.resetCause]

@[simp] theorem State.persist_pending (s : State) (kept : Nat → Bool) : (s.persist kept).pending = s.pending := by simp [State.persist]

@[simp] theorem State.resetSnaps_pending (s : State) (warm : Bool) : (s.resetSnaps warm).pending = s.pending := by simp [State.resetSnaps]

@[simp] theorem State.clearCore_pending (s : State) (warm keepD : Bool) : (s.clearCore warm keepD).pending = s.pending := by simp [State.clearCore]

@[simp] theorem State.coreReset_pending (s : State) (k : ResetKind) (source : Nat) : (s.coreReset k source).pending = s.pending := by simp [State.coreReset]

@[simp] theorem State.railJournal_pending (s : State) (reason rail code : Nat) :
    (s.railJournal reason rail code).pending = s.pending := by simp [State.railJournal]

@[simp] theorem State.noteBrace_pending (s : State) (rail : Nat) : (s.noteBrace rail).pending = s.pending := by
  unfold State.noteBrace
  split <;> simp

@[simp] theorem State.supplyWarning_pending (s : State) (rail : Nat) : (s.supplyWarning rail).pending = s.pending := by simp [State.supplyWarning]

@[simp] theorem State.warningLeft_pending (s : State) (rail : Nat) : (s.warningLeft rail).pending = s.pending := by simp [State.warningLeft]

@[simp] theorem State.braceEnd_pending (s : State) (ms : Nat) : (s.braceEnd ms).pending = s.pending := by
  unfold State.braceEnd
  split <;> simp

@[simp] theorem State.startCpr_pending (s : State) (source : Nat) : (s.startCpr source).pending = s.pending := by simp [State.startCpr]

@[simp] theorem State.powerOff_pending (s : State) (c code : Nat) : (s.powerOff c code).pending = s.pending := by simp [State.powerOff]

@[simp] theorem State.porStart_pending (s : State) (below : Bool) : (s.porStart below).pending = s.pending := by simp [State.porStart]

@[simp] theorem State.retentionLost_pending (s : State) : s.retentionLost.pending = s.pending := by simp [State.retentionLost]

@[simp] theorem State.vaonLoss_pending (s : State) (below : Bool) : (s.vaonLoss below).pending = s.pending := by simp [State.vaonLoss]

@[simp] theorem State.resetLevel_pending (s : State) (rail : Nat) : (s.resetLevel rail).pending = s.pending := by simp [State.resetLevel]

@[simp] theorem State.resetLevelLeft_pending (s : State) (rail : Nat) : (s.resetLevelLeft rail).pending = s.pending := by simp [State.resetLevelLeft]

@[simp] theorem State.overvoltage_pending (s : State) : s.overvoltage.pending = s.pending := by simp [State.overvoltage]

@[simp] theorem State.channelStart_pending (s : State) (c temp vhs : Nat) (conducting : Bool) :
    (s.channelStart c temp vhs conducting).pending = s.pending := by simp [State.channelStart]

@[simp] theorem State.startComplete_pending (s : State) (c : Nat) : (s.startComplete c).pending = s.pending := by simp [State.startComplete]

@[simp] theorem State.startTimeout_pending (s : State) (c : Nat) : (s.startTimeout c).pending = s.pending := by simp [State.startTimeout]

@[simp] theorem State.timerStart_pending (s : State) (c : Nat) : (s.timerStart c).pending = s.pending := by simp [State.timerStart]

@[simp] theorem State.timerZero_pending (s : State) (c : Nat) : (s.timerZero c).pending = s.pending := by simp [State.timerZero]

@[simp] theorem State.timerTrip_pending (s : State) (c : Nat) : (s.timerTrip c).pending = s.pending := by simp [State.timerTrip]

@[simp] theorem State.fastTrip_pending (s : State) (c : Nat) : (s.fastTrip c).pending = s.pending := by simp [State.fastTrip]

@[simp] theorem State.modelTrip_pending (s : State) (c temp : Nat) : (s.modelTrip c temp).pending = s.pending := by simp [State.modelTrip]

@[simp] theorem State.diodeTrip_pending (s : State) (c temp : Nat) : (s.diodeTrip c temp).pending = s.pending := by simp [State.diodeTrip]

@[simp] theorem State.gateFault_pending (s : State) (c : Nat) : (s.gateFault c).pending = s.pending := by simp [State.gateFault]

@[simp] theorem State.mosfetShort_pending (s : State) (c : Nat) : (s.mosfetShort c).pending = s.pending := by simp [State.mosfetShort]

@[simp] theorem State.seatingLost_pending (s : State) : s.seatingLost.pending = s.pending := by simp [State.seatingLost]

@[simp] theorem State.seatingQualified_pending (s : State) : s.seatingQualified.pending = s.pending := by simp [State.seatingQualified]

@[simp] theorem State.powerGood_pending (s : State) (c : Nat) : (s.powerGood c).pending = s.pending := by simp [State.powerGood]

@[simp] theorem State.retryExpired_pending (s : State) (c : Nat) : (s.retryExpired c).pending = s.pending := by simp [State.retryExpired]

@[simp] theorem State.goodTime_pending (s : State) (c : Nat) : (s.goodTime c).pending = s.pending := by simp [State.goodTime]

@[simp] theorem State.clearFault_pending (s : State) (c : Nat) (conducting : Bool) : (s.clearFault c conducting).st.pending = s.pending := by
  unfold State.clearFault
  split <;> simp

@[simp] theorem State.channelOn_pending (s : State) (c : Nat) : (s.channelOn c).st.pending = s.pending := by
  unfold State.channelOn
  split <;> simp

@[simp] theorem State.channelOff_pending (s : State) (c : Nat) : (s.channelOff c).st.pending = s.pending := by
  unfold State.channelOff
  split <;> simp

@[simp] theorem State.enterMode_pending (s : State) (m : Mode) : (s.enterMode m).pending = s.pending := by simp [State.enterMode]

@[simp] theorem State.raiseOpen_pending (s : State) (i : Island) (cls reason : Nat) :
    (s.raiseOpen i cls reason).pending = s.pending := by simp [State.raiseOpen]

@[simp] theorem State.sendSleep_pending (s : State) (code : Nat) (body : List Byte) : (s.sendSleep code body).pending = s.pending := by simp [State.sendSleep]

@[simp] theorem State.sendWakeAll_pending (s : State) (source : Nat) : (s.sendWakeAll source).pending = s.pending := by simp [State.sendWakeAll]

@[simp] theorem State.sendCancel_pending (s : State) (num cause : Nat) : (s.sendCancel num cause).pending = s.pending := by simp [State.sendCancel]

@[simp] theorem State.setFlagged_pending (s : State) (l : List Nat) : (s.setFlagged l).pending = s.pending := by simp [State.setFlagged]

@[simp] theorem State.flagNode_pending (s : State) (n reason : Nat) : (s.flagNode n reason).pending = s.pending := by simp [State.flagNode]

@[simp] theorem State.logVeto_pending (s : State) (num node reason consec : Nat) :
    (s.logVeto num node reason consec).pending = s.pending := by simp [State.logVeto]

@[simp] theorem State.endProposal_pending (s : State) (cause : Nat) : (s.endProposal cause).pending = s.pending := by
  unfold State.endProposal
  split <;> simp

@[simp] theorem State.logVetoes_pending (s : State) : s.logVetoes.pending = s.pending := by
  unfold State.logVetoes
  split <;> simp

@[simp] theorem State.cancelMine_pending (s : State) (cause : Nat) : (s.cancelMine cause).pending = s.pending := by simp [State.cancelMine]

@[simp] theorem State.proposeSleep_pending (s : State) : s.proposeSleep.st.pending = s.pending := by
  unfold State.proposeSleep
  split <;> simp

@[simp] theorem State.cancelSleep_pending (s : State) : s.cancelSleep.st.pending = s.pending := by
  unfold State.cancelSleep
  split <;> simp

@[simp] theorem State.castVote_pending (s : State) (p : Proposal) (window : Nat) (active : Bool) : (s.castVote p window active).1.pending = s.pending := by
  unfold State.castVote
  dsimp only
  split <;> simp

@[simp] theorem State.proposeIn_pending (s : State) (payload : List Byte) (active : Bool) :
    (s.proposeIn payload active).pending = s.pending := by simp [State.proposeIn]

@[simp] theorem State.holdVote_pending (s : State) (n r reason consec : Nat) : (s.holdVote n r reason consec).pending = s.pending := by simp [State.holdVote]

@[simp] theorem State.voteIn_pending (s : State) (payload : List Byte) : (s.voteIn payload).pending = s.pending := by
  unfold State.voteIn
  split <;> simp

@[simp] theorem State.sendCommit_pending (s : State) (m : Proposal) : (s.sendCommit m).pending = s.pending := by simp [State.sendCommit]

@[simp] theorem State.commitTo_pending (s : State) (p : Nat) : (s.commitTo p).pending = s.pending := by
  unfold State.commitTo
  split <;> simp

@[simp] theorem State.judgeVotes_pending (s : State) (m : Proposal) : (s.judgeVotes m).pending = s.pending := by simp [State.judgeVotes]

@[simp] theorem State.masterSleep_pending (s : State) : s.masterSleep.pending = s.pending := by
  unfold State.masterSleep
  split <;> simp

@[simp] theorem State.abortSleep_pending (s : State) : s.abortSleep.pending = s.pending := by simp [State.abortSleep]

@[simp] theorem State.dropProposal_pending (s : State) : s.dropProposal.pending = s.pending := by simp [State.dropProposal]

@[simp] theorem State.memberSleep_pending (s : State) : s.memberSleep.pending = s.pending := by
  unfold State.memberSleep
  dsimp only
  repeat' split
  all_goals simp

@[simp] theorem State.wakeSleep_pending (s : State) : s.wakeSleep.pending = s.pending := by simp [State.wakeSleep]

@[simp] theorem State.sleepAtBoundary_pending (s : State) : s.sleepAtBoundary.pending = s.pending := by simp [State.sleepAtBoundary]

@[simp] theorem State.commitIn_pending (s : State) (payload : List Byte) : (s.commitIn payload).pending = s.pending := by
  unfold State.commitIn
  split <;> simp

@[simp] theorem State.cancelIn_pending (s : State) (payload : List Byte) : (s.cancelIn payload).pending = s.pending := by
  unfold State.cancelIn
  split <;> simp

@[simp] theorem State.sawWake_pending (s : State) (code : Nat) : (s.sawWake code).pending = s.pending := by simp [State.sawWake]

@[simp] theorem State.wakeAllIn_pending (s : State) : s.wakeAllIn.pending = s.pending := by simp [State.wakeAllIn]

@[simp] theorem State.sleepSweep_pending (s : State) : s.sleepSweep.pending = s.pending := by simp [State.sleepSweep]

@[simp] theorem State.pointOfNoReturn_pending (s : State) : s.pointOfNoReturn.pending = s.pending := by
  unfold State.pointOfNoReturn
  split <;> simp

@[simp] theorem State.armRingWatch_pending (s : State) : s.armRingWatch.pending = s.pending := by simp [State.armRingWatch]

@[simp] theorem State.claimInh_pending (s : State) : s.claimInh.pending = s.pending := by simp [State.claimInh]

@[simp] theorem State.dozeWake_pending (s : State) (code : Nat) (late : Bool) : (s.dozeWake code late).pending = s.pending := by simp [State.dozeWake]

@[simp] theorem State.wakeSource_pending (s : State) (code : Nat) (late : Bool) : (s.wakeSource code late).pending = s.pending := by simp [State.wakeSource]

@[simp] theorem State.wakeTimer_pending (s : State) (late : Bool) : (s.wakeTimer late).pending = s.pending := by simp [State.wakeTimer]

@[simp] theorem State.inhReclaim_pending (s : State) (slow : Bool) : (s.inhReclaim slow).pending = s.pending := by simp [State.inhReclaim]

@[simp] theorem State.busWake_pending (s : State) (t : Nat) (late : Bool) : (s.busWake t late).pending = s.pending := by simp [State.busWake]

@[simp] theorem State.clearFlags_pending (s : State) : s.clearFlags.pending = s.pending := by simp [State.clearFlags]

@[simp] theorem refusal_pending (s : State) (oc : Nat) : (refusal s oc).st.pending = s.pending := by simp [refusal]

@[simp] theorem State.imageRead_pending (s : State) (sel : ImageSel) (o n : Nat) : (s.imageRead sel o n).st.pending = s.pending := by
  unfold State.imageRead
  dsimp only
  repeat' split
  all_goals simp

@[simp] theorem State.imageWrite_pending (s : State) (sel : ImageSel) (o : Nat) (v : List Byte) : (s.imageWrite sel o v).st.pending = s.pending := by
  unfold State.imageWrite
  dsimp only
  repeat' split
  all_goals simp

@[simp] theorem State.testRead_pending (s : State) (n : Nat) : (s.testRead n).st.pending = s.pending := by
  unfold State.testRead
  split <;> simp

@[simp] theorem State.testWrite_pending (s : State) : s.testWrite.st.pending = s.pending := by
  unfold State.testWrite
  split <;> simp

@[simp] theorem State.spaceRead_pending (s : State) (space o n : Nat) : (s.spaceRead space o n).st.pending = s.pending := by
  unfold State.spaceRead
  dsimp only
  repeat' split
  all_goals simp

end Sys2Proof.Machine
end

section
/-!
PROOFS. The commands that wait under fabric accesses, the bridge, the object dictionary and the table banks (R68 to R83, R116, R313 to R366).
-/
namespace Sys2Proof.Machine

@[simp] theorem State.spaceWrite_pending (s : State) (space o : Nat) (v : List Byte) : (s.spaceWrite space o v).st.pending = s.pending := by
  unfold State.spaceWrite
  dsimp only
  split
  · rfl
  · simp
  · simp
  · repeat' split
    all_goals simp
  · repeat' split
    all_goals simp
  · split
    · rfl
    split
    · rfl
    split
    next t h => exact State.pending_of_imemWrite h
    next => rfl
  · split <;> rfl
  · split <;> rfl
  · simp
  · rfl

@[simp] theorem State.fabRead_pending (s : State) (addr n : Nat) : (s.fabRead addr n).st.pending = s.pending := by
  unfold State.fabRead
  split <;> simp

@[simp] theorem State.fabWrite_pending (s : State) (addr : Nat) (v : List Byte) : (s.fabWrite addr v).st.pending = s.pending := by
  unfold State.fabWrite
  split <;> simp

@[simp] theorem State.refusePosted_pending (s : State) (f : Frame) (oc : Nat) : (s.refusePosted f oc).pending = s.pending := by simp [State.refusePosted]

@[simp] theorem State.servePosted_pending (s : State) (f : Frame) : (s.servePosted f).pending = s.pending := by simp [State.servePosted]

@[simp] theorem State.serveRead_pending (s : State) (f : Frame) : (s.serveRead f).pending = s.pending := by simp [State.serveRead]

@[simp] theorem State.serveAcked_pending (s : State) (f : Frame) : (s.serveAcked f).pending = s.pending := by simp [State.serveAcked]

@[simp] theorem State.bridgeJournal_pending (s : State) (reason tag window outcome slot : Nat) :
    (s.bridgeJournal reason tag window outcome slot).pending = s.pending := by simp [State.bridgeJournal]

@[simp] theorem State.aerNote_pending (s : State) (k : Nat) : (s.aerNote k).pending = s.pending := by simp [State.aerNote]

@[simp] theorem State.takeTag_pending (s : State) : s.takeTag.1.pending = s.pending := by simp [State.takeTag]

@[simp] theorem State.quarantine_pending (s : State) (ts : List Nat) : (s.quarantine ts).pending = s.pending := by simp [State.quarantine]

@[simp] theorem State.dropPrefetch_pending (s : State) (e : Prefetch) : (s.dropPrefetch e).pending = s.pending := by
  unfold State.dropPrefetch
  dsimp only
  split <;> simp

@[simp] theorem State.dropFetched_pending (s : State) (f : Prefetch → Bool) : (s.dropFetched f).pending = s.pending := by simp [State.dropFetched]

@[simp] theorem State.keepPrefetch_pending (s : State) (e : Prefetch) : (s.keepPrefetch e).pending = s.pending := by
  unfold State.keepPrefetch
  dsimp only
  repeat' split
  all_goals simp

@[simp] theorem State.markFetched_pending (s : State) (k a n : Nat) : (s.markFetched k a n).pending = s.pending := by simp [State.markFetched]

@[simp] theorem State.completeData_pending (s : State) (hostTag at_ : Nat) (d : List Byte) :
    (s.completeData hostTag at_ d).pending = s.pending := by simp [State.completeData]

@[simp] theorem State.endRead_pending (s : State) (h : HeldRead) : (s.endRead h).pending = s.pending := by simp [State.endRead]

@[simp] theorem State.failRead_pending (s : State) (h : HeldRead) (p : ReadPiece) (oc : Nat) :
    (s.failRead h p oc).pending = s.pending := by simp [State.failRead]

@[simp] theorem State.fillPrefetch_pending (s : State) (p : ReadPiece) (d : List Byte) :
    (s.fillPrefetch p d).pending = s.pending := by simp [State.fillPrefetch]

@[simp] theorem State.returnRead_pending (s : State) (h : HeldRead) (n : Nat) : (s.returnRead h n).pending = s.pending := by
  induction n generalizing s h with
  | zero => rfl
  | succ k ih =>
    rw [State.returnRead]
    split
    · simp
    · split
      · rfl
      · split
        · simp [ih]
        · simp

@[simp] theorem State.issuePiece_pending (s : State) (total : Nat) (q : Nat × Window × Nat × Nat) : (s.issuePiece total q).1.pending = s.pending := by
  unfold State.issuePiece
  dsimp only
  split <;> simp

@[simp] theorem State.readRefused_pending (s : State) (hostTag status : Nat) :
    (s.readRefused hostTag status).pending = s.pending := by simp [State.readRefused]

@[simp] theorem State.sendPiece_pending (s : State) (p : HostPiece) : (s.sendPiece p).pending = s.pending := by simp [State.sendPiece]

@[simp] theorem State.sendPieces_pending (s : State) (now : Bool) (n : Nat) : (s.sendPieces now n).pending = s.pending := by
  induction n generalizing s with
  | zero => rfl
  | succ k ih =>
    unfold State.sendPieces
    split
    · rfl
    · simp [ih]

@[simp] theorem State.hostRead_pending (s : State) (aperN : Bool) (a n hostTag : Nat) : (s.hostRead aperN a n hostTag).pending = s.pending := by
  have hpieces (t : State) (qs : List (Nat × Window × Nat × Nat)) (l : List ReadPiece) :
      (qs.foldl (fun (acc : State × List ReadPiece) q => let (u, p) := acc.1.issuePiece n q; (u, acc.2 ++ [p])) (t, l)).1.pending = t.pending := by
    induction qs generalizing t l with
    | nil => rfl
    | cons q qs ih =>
      rw [List.foldl_cons]
      exact (ih _ _).trans (t.issuePiece_pending n q)
  unfold State.hostRead
  split
  · rfl
  split
  · simp
  split
  · rfl
  split
  · simp
  next qs _ =>
    have hsent (c : Prop) [Decidable c] : (if c then s.sendPieces true s.bridge.posted.length else s).pending = s.pending := by simp
    dsimp only
    generalize hu : (if (s.bridge.posted.any fun p => qs.any fun q => q.1 == p.window) = true then s.sendPieces true s.bridge.posted.length else s) = u
    have hup : u.pending = s.pending := by
      rw [← hu]
      exact hsent _
    split
    · exact hup
    · rw [State.returnRead_pending]
      exact (hpieces u qs []).trans hup

@[simp] theorem State.readAnswer_pending (s : State) (tag outcome : Nat) (d : List Byte) : (s.readAnswer tag outcome d).pending = s.pending := by
  unfold State.readAnswer
  split <;> simp

@[simp] theorem State.readResponse_pending (s : State) (f : Frame) : (s.readResponse f).pending = s.pending := by simp [State.readResponse]

@[simp] theorem State.readTimeout_pending (s : State) (hostTag : Nat) : (s.readTimeout hostTag).pending = s.pending := by
  unfold State.readTimeout
  split
  · split
    · simp
    · rfl
  · rfl

@[simp] theorem State.writeFailed_pending (s : State) (tag window addr outcome : Nat) :
    (s.writeFailed tag window addr outcome).pending = s.pending := by simp [State.writeFailed]

@[simp] theorem State.writePiece_pending (s : State) (q : Nat × Window × Nat × Nat) (v : List Byte) :
    (s.writePiece q v).pending = s.pending := by simp [State.writePiece]

@[simp] theorem State.hostWrite_pending (s : State) (aperN : Bool) (a : Nat) (v : List Byte) : (s.hostWrite aperN a v).pending = s.pending := by
  have hpieces (t : State) (qs : List (Nat × Window × Nat × Nat)) (l : List Byte) :
      (qs.foldl (fun (acc : State × List Byte) q => (acc.1.writePiece q (acc.2.take q.2.2.2), acc.2.drop q.2.2.2)) (t, l)).1.pending = t.pending := by
    induction qs generalizing t l with
    | nil => rfl
    | cons q qs ih =>
      rw [List.foldl_cons]
      exact (ih _ _).trans (t.writePiece_pending q _)
  unfold State.hostWrite
  split
  · rfl
  split
  · rfl
  split
  · simp
  split
  · rfl
  · exact (State.sendPieces_pending _ _ _).trans (hpieces _ _ _)

@[simp] theorem State.writeAnswer_pending (s : State) (tag outcome : Nat) : (s.writeAnswer tag outcome).pending = s.pending := by
  unfold State.writeAnswer
  split <;> simp

@[simp] theorem State.ackTimeout_pending (s : State) (tag : Nat) : (s.ackTimeout tag).pending = s.pending := by simp [State.ackTimeout]

@[simp] theorem State.bridgeReport_pending (s : State) (f : Frame) : (s.bridgeReport f).pending = s.pending := by
  unfold State.bridgeReport
  dsimp only
  repeat' split
  all_goals simp

@[simp] theorem State.masterWrite_pending (s : State) (a : Nat) (v : List Byte) : (s.masterWrite a v).pending = s.pending := by simp [State.masterWrite]

@[simp] theorem State.issueReads_pending (s : State) (n : Nat) : (s.issueReads n).pending = s.pending := by
  induction n generalizing s with
  | zero => rfl
  | succ k ih =>
    unfold State.issueReads
    split
    · rfl
    split
    · simp [ih]
    split
    · rfl
    · simp [ih]

@[simp] theorem State.refuseHost_pending (s : State) (f : Frame) (outcome reason : Nat) :
    (s.refuseHost f outcome reason).pending = s.pending := by simp [State.refuseHost]

@[simp] theorem State.badHostLength_pending (s : State) (f : Frame) : (s.badHostLength f).pending = s.pending := by simp [State.badHostLength]

@[simp] theorem State.hostRequest_pending (s : State) (f : Frame) : (s.hostRequest f).pending = s.pending := by
  unfold State.hostRequest
  dsimp only
  repeat' split
  all_goals simp

@[simp] theorem State.settleReqs_pending (s : State) : s.settleReqs.pending = s.pending := by simp [State.settleReqs]

@[simp] theorem State.answerHost_pending (s : State) (r : HostReq) (outcome : Nat) (d : List Byte) :
    (s.answerHost r outcome d).pending = s.pending := by simp [State.answerHost]

@[simp] theorem State.partAnswer_pending (s : State) (r : HostReq) (t outcome : Nat) (d : List Byte) :
    (s.partAnswer r t outcome d).pending = s.pending := by simp [State.partAnswer]

@[simp] theorem State.hostCompletion_pending (s : State) (t status : Nat) (poisoned : Bool) (d : List Byte) :
    (s.hostCompletion t status poisoned d).pending = s.pending := by
  unfold State.hostCompletion
  split <;> simp

@[simp] theorem State.completionTimeout_pending (s : State) (t : Nat) : (s.completionTimeout t).pending = s.pending := by
  unfold State.completionTimeout
  split <;> simp

@[simp] theorem State.sendCopies_pending (s : State) (n : Nat) : (s.sendCopies n).pending = s.pending := by
  induction n generalizing s with
  | zero => rfl
  | succ k ih =>
    unfold State.sendCopies
    split
    · rfl
    · simp [ih]

@[simp] theorem State.hostCopy_pending (s : State) (k o : Nat) (ws : List (BitVec 32 × RecState)) :
    (s.hostCopy k o ws).pending = s.pending := by simp [State.hostCopy]

@[simp] theorem State.bridgeAtBeat_pending (s : State) : s.bridgeAtBeat.pending = s.pending := by simp [State.bridgeAtBeat]

@[simp] theorem State.prefetchAtBoundary_pending (s : State) : s.prefetchAtBoundary.pending = s.pending := by simp [State.prefetchAtBoundary]

@[simp] theorem State.prefetchExpiry_pending (s : State) (i : Nat) : (s.prefetchExpiry i).pending = s.pending := by
  unfold State.prefetchExpiry
  split <;> simp

@[simp] theorem State.endTransactions_pending (s : State) (reason copyReason : Nat) : (s.endTransactions reason copyReason).pending = s.pending := by
  unfold State.endTransactions
  rw [State.dropFetched_pending, State.foldl_pending (by simp), State.foldl_pending (by simp), State.foldl_pending (by simp),
    State.foldl_pending (fun t h => ?_)]
  · simp
  · split <;> simp

@[simp] theorem State.bridgeReset_pending (s : State) (k : BridgeResetKind) : (s.bridgeReset k).pending = s.pending := by simp [State.bridgeReset]

@[simp] theorem State.linkUp_pending (s : State) (rate width : Nat) (c : PcieCommand) (msix : MsixControl) (mps mrrs cpl : Nat) :
    (s.linkUp rate width c msix mps mrrs cpl).pending = s.pending := by simp [State.linkUp]

@[simp] theorem State.commitWindows_pending (s : State) : s.commitWindows.pending = s.pending := by
  unfold State.commitWindows
  dsimp only
  split
  · rfl
  · rw [State.wr_pending]
    exact (State.foldl_pending (by simp) _ _).trans (State.dropFetched_pending _ _)

@[simp] theorem State.windowCommit_pending (s : State) : s.windowCommit.st.pending = s.pending := by
  unfold State.windowCommit
  dsimp only
  repeat' split
  all_goals simp

@[simp] theorem State.clearBridge_pending (s : State) : s.clearBridge.pending = s.pending := by simp [State.clearBridge]

@[simp] theorem State.readEffect_pending (s : State) (o : Nat) : (s.readEffect o).pending = s.pending := by simp [State.readEffect]

@[simp] theorem State.readObj_pending (s : State) (o : Nat) : (s.readObj o).1.pending = s.pending := by
  unfold State.readObj
  split
  · rfl
  split
  · simp
  split <;> rfl

@[simp] theorem State.noteStore_pending (s : State) (o : Nat) (v : List Byte) : (s.noteStore o v).pending = s.pending := by simp [State.noteStore]

@[simp] theorem State.writeNumber_pending (s : State) (o v : Nat) : (s.writeNumber o v).st.pending = s.pending := by
  unfold State.writeNumber
  dsimp only
  repeat' split
  all_goals simp

@[simp] theorem State.writeBlob_pending (s : State) (o : Nat) (v : List Byte) : (s.writeBlob o v).st.pending = s.pending := by simp [State.writeBlob]

@[simp] theorem State.writeObj_pending (s : State) (r : ObjRow) (o : Nat) (v : List Byte) : (s.writeObj r o v).st.pending = s.pending := by
  unfold State.writeObj
  split <;> simp

@[simp] theorem State.odJournal_pending (s : State) (reason err obj : Nat) : (s.odJournal reason err obj).pending = s.pending := by simp [State.odJournal]

@[simp] theorem State.storeCounter_pending (s : State) (a : Option OdAuth) : (s.storeCounter a).pending = s.pending := by
  unfold State.storeCounter
  split <;> simp

@[simp] theorem State.feedService_pending (s : State) : s.feedService.pending = s.pending := by
  unfold State.feedService
  split <;> simp

@[simp] theorem State.attemptOver_pending (s : State) (n : Nat) (e : AttemptEnd) : (s.attemptOver n e).pending = s.pending := by simp [State.attemptOver]

@[simp] theorem State.responseLost_pending (s : State) (m : List Byte) : (s.responseLost m).pending = s.pending := by simp [State.responseLost]

@[simp] theorem State.sendResponse_pending (s : State) (h : OdHdr) (m : List Byte) : (s.sendResponse h m).pending = s.pending := by
  unfold State.sendResponse
  split <;> simp

@[simp] theorem State.answer_pending (s : State) (h : OdHdr) (op obj : Nat) (passed : Bool) (err : Nat) (val : List Byte) (late staged : Bool) :
    (s.answer h op obj passed err val late staged).pending = s.pending := by
  unfold State.answer
  split <;> simp

@[simp] theorem State.authenticate_pending (s : State) (h : OdHdr) (op obj : Nat) (val : List Byte) :
    (s.authenticate h op obj val).1.pending = s.pending := by
  unfold State.authenticate
  dsimp only
  repeat' split
  all_goals simp

@[simp] theorem State.answerOdd_pending (s0 : State) (h : OdHdr) (l : List Byte) : (s0.answerOdd h l).pending = s0.pending := by simp [State.answerOdd]

@[simp] theorem State.answerFirst_pending (s : State) : s.answerFirst.pending = s.pending := by simp [State.answerFirst]

@[simp] theorem State.arrive_pending (s : State) (h : OdHdr) (l : List Byte) : (s.arrive h l).pending = s.pending := by
  unfold State.arrive
  dsimp only
  repeat' split
  all_goals simp

@[simp] theorem State.takeSlots_pending (s : State) (n : Nat) : (s.takeSlots n).pending = s.pending := by
  induction n generalizing s with
  | zero => rfl
  | succ k ih =>
    unfold State.takeSlots
    dsimp only
    split
    · rfl
    · rw [ih, State.arrive_pending]

@[simp] theorem State.takeMail_pending (s : State) (n : Nat) : (s.takeMail n).pending = s.pending := by simp [State.takeMail]

@[simp] theorem State.odTaken_pending (s : State) : s.odTaken.pending = s.pending := by simp [State.odTaken]

@[simp] theorem State.runUndocumented_pending (s : State) : s.runUndocumented.st.pending = s.pending := by simp [State.runUndocumented]

@[simp] theorem State.odExecute_pending (s : State) (q : OdAccessReq) {run : State → OdAnswer} (h : ∀ t, (run t).st.pending = t.pending) :
    (s.odExecute q run).pending = s.pending := by
  have hauth : (s.odTaken.authenticate q.hdr (opCode q.op) q.obj q.val).1.pending = s.pending := by simp
  unfold State.odExecute
  dsimp only
  split
  · rw [State.takeMail_pending, State.answer_pending]
    generalize (if (s.odTaken.authenticate q.hdr (opCode q.op) q.obj q.val).2.1 != 0 then _ else _ : Nat) = e
    split
    · exact hauth
    split
    · exact (State.runUndocumented_pending _).trans hauth
    · exact (h _).trans hauth
  · rfl

@[simp] theorem State.runWrite_pending (s : State) (o : Nat) (v : List Byte) {eff : State → OdRes} (h : ∀ t, (eff t).st.pending = t.pending) :
    (s.runWrite o v eff).st.pending = s.pending := by
  unfold State.runWrite
  dsimp only
  split
  · rfl
  split
  · split
    · exact h s
    · exact (State.noteStore_pending _ _ _).trans (h s)
  · exact h s

@[simp] theorem State.odWrite_pending (s : State) (h : OdHdr) (o : Nat) (v : List Byte) {eff : State → OdRes} (heff : ∀ t, (eff t).st.pending = t.pending) :
    (s.odWrite h o v eff).pending = s.pending := s.odExecute_pending _ (fun t => t.runWrite_pending o v heff)

@[simp] theorem State.odSet_pending (s : State) (h : OdHdr) (o v : Nat) {eff : State → OdRes} (heff : ∀ t, (eff t).st.pending = t.pending) :
    (s.odSet h o v eff).pending = s.pending := s.odWrite_pending h o _ heff

@[simp] theorem State.runRead_pending (s : State) (o : Nat) : (s.runRead o).st.pending = s.pending := by simp [State.runRead]

@[simp] theorem State.runDescribe_pending (s : State) (o : Nat) : (s.runDescribe o).st.pending = s.pending := by simp [State.runDescribe]

@[simp] theorem State.runNext_pending (s : State) (o : Nat) : (s.runNext o).st.pending = s.pending := by simp [State.runNext]

@[simp] theorem State.odFrame_pending (s : State) (f : Frame) : (s.odFrame f).pending = s.pending := by simp [State.odFrame]

@[simp] theorem State.mailRequest_pending (s : State) (v : Nat) : (s.mailRequest v).pending = s.pending := by simp [State.mailRequest]

@[simp] theorem State.mailRelease_pending (s : State) (v : Nat) : (s.mailRelease v).pending = s.pending := by simp [State.mailRelease]

@[simp] theorem State.mailClear_pending (s : State) : s.mailClear.pending = s.pending := by simp [State.mailClear]

@[simp] theorem State.odDatagram_pending (s : State) (port peer : Nat) (l : List Byte) :
    (s.odDatagram port peer l).pending = s.pending := by simp [State.odDatagram]

@[simp] theorem State.dropAssembly_pending (s : State) : s.dropAssembly.pending = s.pending := by simp [State.dropAssembly]

@[simp] theorem State.assembled_pending (s : State) (l : List Byte) : (s.assembled l).pending = s.pending := by simp [State.assembled]

@[simp] theorem State.serviceFrame_pending (s : State) (f : CanFrame) : (s.serviceFrame f).pending = s.pending := by
  unfold State.serviceFrame
  dsimp only
  repeat' split
  all_goals simp

@[simp] theorem State.serviceTimeout_pending (s : State) : s.serviceTimeout.pending = s.pending := by simp [State.serviceTimeout]

@[simp] theorem State.storeOne_pending (s : State) (o : Nat) : (s.storeOne o).pending = s.pending := by
  unfold State.storeOne
  split <;> simp

@[simp] theorem State.flashStore_pending (s : State) (o : Nat) : (s.flashStore o).pending = s.pending := by simp [State.flashStore]

@[simp] theorem State.featureCommit_pending (s : State) : s.featureCommit.st.pending = s.pending := by
  unfold State.featureCommit
  dsimp only
  generalize List.any _ _ = bad
  split
  · rfl
  split
  · refine (State.listenFollow_pending _).trans ((State.wr_pending _ _ _).trans (State.foldl_pending (fun t w => ?_) _ _))
    rfl
  · refine (State.listenFollow_pending _).trans ((State.wr_pending _ _ _).trans (State.foldl_pending (fun t w => ?_) _ _))
    rfl

@[simp] theorem State.loadShadows_pending (s : State) (b : Bank) :
    (s.loadShadows b).pending = s.pending := State.foldl_pending (fun t r => t.loadProgram_pending r) (bankProgramList b) s

@[simp] theorem State.loadStaged_pending (s : State) (b : Bank) : (s.loadStaged b).pending = s.pending := by simp [State.loadStaged]

@[simp] theorem State.pending_beginStaging (s : State) (img : Bank) : (s.beginStaging img).st.pending = s.pending := by
  unfold State.beginStaging
  split
  · rfl
  split
  · rfl
  · exact s.loadStaged_pending _

@[simp] theorem State.startCheck_pending (s : State) : s.startCheck.st.pending = s.pending := by
  unfold State.startCheck
  dsimp only
  repeat' split
  all_goals simp

@[simp] theorem State.switchAtCycle_pending (s : State) (v : Nat) : (s.switchAtCycle v).st.pending = s.pending := by
  unfold State.switchAtCycle
  dsimp only
  repeat' split
  all_goals simp

@[simp] theorem State.checkComplete_pending (s : State) : s.checkComplete.pending = s.pending := by
  unfold State.checkComplete
  dsimp only
  repeat' split
  all_goals simp

@[simp] theorem State.dropSwitch_pending (s : State) : s.dropSwitch.pending = s.pending := by simp [State.dropSwitch]

@[simp] theorem State.withdrawSwitch_pending (s : State) : s.withdrawSwitch.st.pending = s.pending := by
  unfold State.withdrawSwitch
  split
  · rfl
  split
  · rfl
  · exact s.dropSwitch_pending

@[simp] theorem State.setBoot_pending (s : State) (b : BootRec) : (s.setBoot b).pending = s.pending := by simp [State.setBoot]

@[simp] theorem State.restartPinCounts_pending (s : State) : s.restartPinCounts.pending = s.pending := by
  refine State.foldl_pending (fun t o => ?_) _ _
  rfl

@[simp] theorem State.switchBanks_pending (s : State) : s.switchBanks.pending = s.pending := by
  unfold State.switchBanks
  dsimp only
  split <;> simp

end Sys2Proof.Machine
end

section
/-!
PROOFS. The commands that wait under updates, repair, the pair, the modes and the boundaries (R48 to R67, R140 to R155, R407 to R450).
-/
namespace Sys2Proof.Machine

@[simp] theorem State.beginContainer_pending (s : State) (v : Nat) : (s.beginContainer v).st.pending = s.pending := by
  unfold State.beginContainer
  dsimp only
  repeat' split
  all_goals simp

@[simp] theorem State.stagingChunk_pending (s : State) (v : List Byte) : (s.stagingChunk v).st.pending = s.pending := by
  unfold State.stagingChunk
  dsimp only
  repeat' split
  all_goals simp

@[simp] theorem State.verify_pending (s : State) : s.verify.st.pending = s.pending := by simp [State.verify]

@[simp] theorem State.verifyComplete_pending (s : State) : s.verifyComplete.pending = s.pending := by simp [State.verifyComplete]

@[simp] theorem State.startCopy_pending (s : State) (kind : Nat) (x : SectionRec) : (s.startCopy kind x).pending = s.pending := by simp [State.startCopy]

@[simp] theorem State.promoteFirmware_pending (s : State) : s.promoteFirmware.st.pending = s.pending := by
  unfold State.promoteFirmware
  split
  · rfl
  · split
    next x _ => exact s.startCopy_pending 1 x
    next => rfl

@[simp] theorem State.promoteSchedule_pending (s : State) : s.promoteSchedule.st.pending = s.pending := by
  unfold State.promoteSchedule
  split
  · rfl
  split
  · rfl
  split
  next x _ =>
    split
    · rfl
    · exact s.startCopy_pending 2 x
  next => rfl

@[simp] theorem State.endPromotion_pending (s : State) (result : Nat) : (s.endPromotion result).pending = s.pending := by simp [State.endPromotion]

@[simp] theorem State.setFwSlot_pending (s : State) (slotB : Bool) (x : FwSlot) : (s.setFwSlot slotB x).pending = s.pending := by simp [State.setFwSlot]

@[simp] theorem State.promotionComplete_pending (s : State) (ok : Bool) : (s.promotionComplete ok).pending = s.pending := by simp [State.promotionComplete]

@[simp] theorem State.switchStore_pending (s : State) (c : StoreCopy) : (s.switchStore c).pending = s.pending := by simp [State.switchStore]

@[simp] theorem State.storeBack_pending (s : State) : s.storeBack.pending = s.pending := by simp [State.storeBack]

@[simp] theorem State.migrateStore_pending (s : State) (od : Nat) : (s.migrateStore od).pending = s.pending := by simp [State.migrateStore]

@[simp] theorem State.startStore_pending (s : State) (od : Nat) : (s.startStore od).pending = s.pending := by simp [State.startStore]

@[simp] theorem State.loadStore_pending (s : State) : s.loadStore.pending = s.pending := by simp [State.loadStore]

@[simp] theorem State.confirm_pending (s : State) : s.confirm.pending = s.pending := by simp [State.confirm]

@[simp] theorem State.revertTrial_pending (s : State) : s.revertTrial.pending = s.pending := by simp [State.revertTrial]

@[simp] theorem State.startHandover_pending (s : State) : s.startHandover.st.pending = s.pending := by
  unfold State.startHandover
  dsimp only
  repeat' split
  all_goals simp

@[simp] theorem State.passState_pending (s : State) : s.passState.pending = s.pending := by simp [State.passState]

@[simp] theorem State.endPause_pending (s : State) (back : Bool) : (s.endPause back).pending = s.pending := by simp [State.endPause]

@[simp] theorem State.beginPause_pending (s : State) (us : Nat) (back : Bool) : (s.beginPause us back).pending = s.pending := by simp [State.beginPause]

@[simp] theorem State.pauseAtBeat_pending (s : State) : s.pauseAtBeat.pending = s.pending := by
  unfold State.pauseAtBeat
  split <;> simp

@[simp] theorem State.coreReady_pending (s : State) (ok : Bool) (pause : Nat) : (s.coreReady ok pause).pending = s.pending := by simp [State.coreReady]

@[simp] theorem State.heartbeatMissed_pending (s : State) : s.heartbeatMissed.pending = s.pending := by simp [State.heartbeatMissed]

@[simp] theorem State.trialExpiry_pending (s : State) : s.trialExpiry.pending = s.pending := by simp [State.trialExpiry]

@[simp] theorem State.bootAfterBrace_pending (s : State) : s.bootAfterBrace.pending = s.pending := by
  unfold State.bootAfterBrace
  split <;> simp

@[simp] theorem State.setIsolated_pending (s : State) (p : Nat) (b : Bool) : (s.setIsolated p b).pending = s.pending := by simp [State.setIsolated]

theorem State.partRefused_pending (s : State) (wantIsolated sleepMatters : Bool) {r : OdRes} (h : r.st.pending = s.pending) :
    ((s.partRefused wantIsolated sleepMatters).getD r).st.pending = s.pending := by
  unfold State.partRefused
  dsimp only
  repeat' split
  · rfl
  · rfl
  · rfl
  · rfl
  · exact h

@[simp] theorem State.isolateAt_pending (s : State) (v : Nat) : (s.isolateAt v).st.pending = s.pending := by
  refine s.partRefused_pending _ _ ?_
  split <;> rfl

@[simp] theorem State.savePrograms_pending (s : State) (c : Nat) : (s.savePrograms c).pending = s.pending := by simp [State.savePrograms]

@[simp] theorem State.armReturn_pending (s : State) (c : Nat) : (s.armReturn c).pending = s.pending := by
  refine State.foldl_pending (fun t q => ?_) _ _
  rfl

@[simp] theorem State.disarmReturn_pending (s : State) (c : Nat) : (s.disarmReturn c).pending = s.pending := by
  refine State.foldl_pending (fun t q => ?_) _ _
  rfl

@[simp] theorem State.swapReturn_pending (s : State) (q : Nat) : (s.swapReturn q).pending = s.pending := by
  unfold State.swapReturn
  dsimp only
  split <;> simp

@[simp] theorem State.swapReturns_pending (s : State) (c : Nat) : (s.swapReturns c).pending = s.pending := by simp [State.swapReturns]

@[simp] theorem State.dropReturn_pending (s : State) (p : Nat) : (s.dropReturn p).pending = s.pending := by
  unfold State.dropReturn
  split <;> simp

@[simp] theorem State.setReturn_pending (s : State) (p n : Nat) : (s.setReturn p n).pending = s.pending := by simp [State.setReturn]

@[simp] theorem State.returnAt_pending (s : State) (v : Nat) : (s.returnAt v).st.pending = s.pending := by
  refine s.partRefused_pending _ _ ?_
  split
  · rfl
  split
  · exact s.setReturn_pending _ _
  · rfl

@[simp] theorem State.resetObjs_pending (s : State) (p : Nat) : (s.resetObjs p).pending = s.pending := by simp [State.resetObjs]

@[simp] theorem State.resetPart_pending (s : State) (p : Nat) : (s.resetPart p).pending = s.pending := by simp [State.resetPart]

@[simp] theorem State.testPart_pending (s : State) (irst : Bool) : (s.testPart irst).st.pending = s.pending := by
  have hdrop := s.dropReturn_pending s.partNamed
  refine s.partRefused_pending _ _ ?_
  split
  · rfl
  split
  · rfl
  dsimp only
  split
  · refine (State.resetPart_pending _ _).trans ((State.resetCause_pending _ _ _ _ _ _ _).trans ?_)
    exact hdrop
  · exact hdrop

@[simp] theorem State.bistComplete_pending (s : State) (ok : Bool) : (s.bistComplete ok).pending = s.pending := by
  unfold State.bistComplete
  split <;> simp

@[simp] theorem State.discardFor_pending (s : State) (p : Nat) : (s.discardFor p).pending = s.pending := by simp [State.discardFor]

@[simp] theorem State.stopCtl_pending (s : State) (n : Nat) : (s.stopCtl n).pending = s.pending := by simp [State.stopCtl]

@[simp] theorem State.isolatePart_pending (s : State) (p : Nat) : (s.isolatePart p).pending = s.pending := by simp [State.isolatePart]

@[simp] theorem State.returnPart_pending (s : State) (p : Nat) : (s.returnPart p).pending = s.pending := by simp [State.returnPart]

@[simp] theorem State.partsAtBoundary_pending (s : State) (n : Nat) : (s.partsAtBoundary n).pending = s.pending := by simp [State.partsAtBoundary]

@[simp] theorem State.cmacFailed_pending (s : State) (m : List Byte) : (s.cmacFailed m).pending = s.pending := by simp [State.cmacFailed]

@[simp] theorem State.sendPair_pending (s : State) (m : List Byte) : (s.sendPair m).pending = s.pending := by
  unfold State.sendPair
  split <;> simp

@[simp] theorem State.sendHeartbeat_pending (s : State) : s.sendHeartbeat.pending = s.pending := by simp [State.sendHeartbeat]

@[simp] theorem State.sendMirror_pending (s : State) (x : Nat × List Byte) : (s.sendMirror x).pending = s.pending := by simp [State.sendMirror]

@[simp] theorem State.mirrorOut_pending (s : State) : s.mirrorOut.pending = s.pending := by simp [State.mirrorOut]

@[simp] theorem State.judgeSync_pending (s : State) : s.judgeSync.pending = s.pending := by simp [State.judgeSync]

@[simp] theorem State.mirrorGap_pending (s : State) (q : Nat) : (s.mirrorGap q).pending = s.pending := by simp [State.mirrorGap]

@[simp] theorem State.mirrorEntry_pending {put : State → Nat → List Byte → State} (h : ∀ t o v, (put t o v).pending = t.pending) (s : State) (d : Nat) (v : List Byte) :
    (s.mirrorEntry put d v).pending = s.pending := by
  unfold State.mirrorEntry
  dsimp only
  split
  · rfl
  split
  · rfl
  · exact h _ _ _

@[simp] theorem State.mirrorEntries_pending {put : State → Nat → List Byte → State} (h : ∀ t o v, (put t o v).pending = t.pending) (n : Nat) (s : State) (l : List Byte) :
    (s.mirrorEntries put n l).pending = s.pending := by
  induction n generalizing s l with
  | zero => rfl
  | succ k ih =>
    unfold State.mirrorEntries
    dsimp only
    split
    · rfl
    · rw [ih, State.mirrorEntry_pending h]

@[simp] theorem State.mirrorIn_pending {put : State → Nat → List Byte → State} (h : ∀ t o v, (put t o v).pending = t.pending) (s : State) (p : Port) (m : List Byte) :
    (s.mirrorIn put p m).pending = s.pending := by
  unfold State.mirrorIn
  dsimp only
  split
  · rw [State.judgeSync_pending, State.mirrorEntries_pending h]
    split <;> rfl
  · rfl

@[simp] theorem State.nextRole_pending (s : State) (r : Nat) : (s.nextRole r).pending = s.pending := by simp [State.nextRole]

@[simp] theorem State.heartbeatIn_pending (s : State) (p : Port) (m : List Byte) : (s.heartbeatIn p m).pending = s.pending := by simp [State.heartbeatIn]

@[simp] theorem State.pairFault_pending (s : State) : s.pairFault.pending = s.pending := by simp [State.pairFault]

@[simp] theorem State.heartbeatDeadline_pending (s : State) : s.heartbeatDeadline.pending = s.pending := by simp [State.heartbeatDeadline]

@[simp] theorem State.beaconIn_pending (s : State) (m : List Byte) : (s.beaconIn m).pending = s.pending := by simp [State.beaconIn]

@[simp] theorem State.grantIn_pending (s : State) (m : List Byte) : (s.grantIn m).pending = s.pending := by simp [State.grantIn]

@[simp] theorem State.setRole_pending (s : State) (r : Nat) : (s.setRole r).pending = s.pending := by simp [State.setRole]

@[simp] theorem State.takeMirror_pending (s : State) : s.takeMirror.pending = s.pending := by
  refine (State.foldl_pending (fun t i => ?_) _ _).trans (State.foldl_pending (fun t e => t.setImage_pending _ _) _ _)
  split
  · split <;> simp
  · rfl

@[simp] theorem State.takeOver_pending (s : State) : s.takeOver.pending = s.pending := by simp [State.takeOver]

@[simp] theorem State.hubAtBoundary_pending (s : State) : s.hubAtBoundary.pending = s.pending := by
  unfold State.hubAtBoundary
  dsimp only
  repeat' split
  all_goals simp

@[simp] theorem State.requestCastling_pending (s : State) : s.requestCastling.st.pending = s.pending := by simp [State.requestCastling]

@[simp] theorem State.statusIn_pending (s : State) (m : List Byte) : (s.statusIn m).pending = s.pending := by
  unfold State.statusIn
  dsimp only
  repeat' split
  all_goals simp

@[simp] theorem State.ackIn_pending (s : State) (m : List Byte) : (s.ackIn m).pending = s.pending := by
  unfold State.ackIn
  dsimp only
  repeat' split
  all_goals simp

@[simp] theorem State.commandCastling_pending (s : State) (v : Nat) : (s.commandCastling v).st.pending = s.pending := by
  unfold State.commandCastling
  split <;> simp

@[simp] theorem State.sendGrant_pending (s : State) (k standby : Nat) : (s.sendGrant k standby).pending = s.pending := by simp [State.sendGrant]

@[simp] theorem State.judgePair_pending (s : State) (k : Nat) : (s.judgePair k).pending = s.pending := by simp [State.judgePair]

@[simp] theorem State.sendBeacon_pending (s : State) (k : Nat) : (s.sendBeacon k).pending = s.pending := by simp [State.sendBeacon]

@[simp] theorem State.arbiterAtBoundary_pending (s : State) : s.arbiterAtBoundary.pending = s.pending := by
  refine State.foldl_pending (fun t k => ?_) _ _
  simp only [State.ite_pending, State.sendBeacon_pending, State.judgePair_pending, ite_self]
  split
  · rfl
  · split <;> simp

@[simp] theorem State.porEnd_pending (s : State) : s.porEnd.pending = s.pending := by
  unfold State.porEnd
  dsimp only
  repeat' split
  all_goals simp

@[simp] theorem State.coreRailsUp_pending (s : State) : s.coreRailsUp.pending = s.pending := by simp [State.coreRailsUp]

@[simp] theorem State.cprEnd_pending (s : State) : s.cprEnd.pending = s.pending := by simp [State.cprEnd]

@[simp] theorem State.stopStage_pending (s : State) (stage err : Nat) : (s.stopStage stage err).pending = s.pending := by simp [State.stopStage]

@[simp] theorem State.transmittersOn_pending (s : State) : s.transmittersOn.pending = s.pending := by simp [State.transmittersOn]

@[simp] theorem State.bistStage_pending (s : State) (bad : List Island) : (s.bistStage bad).pending = s.pending := by simp [State.bistStage]

@[simp] theorem State.loadStage_pending (s : State) (bad : List Nat) : (s.loadStage bad).pending = s.pending := by simp [State.loadStage]

@[simp] theorem State.releaseStage_pending (s : State) : s.releaseStage.pending = s.pending := by simp [State.releaseStage]

@[simp] theorem State.loadAtBringUp_pending (s : State) : s.loadAtBringUp.pending = s.pending := by simp [State.loadAtBringUp]

theorem State.pending_of_bootStage {s t : State} {x : BringUpFindings} (h : s.bootStage x = .inr t) : t.pending = s.pending := by
  have hback (c : Prop) [Decidable c] (u : State) : (if c then u.storeBack else u).pending = u.pending := by simp
  have hboot (c : Prop) [Decidable c] (b : BootRec) : (if c then s else s.setBoot b).pending = s.pending := by simp
  unfold State.bootStage at h
  dsimp only at h
  by_cases hw : s.thirdWdr = true
  · rw [if_pos hw] at h
    cases h
  rw [if_neg hw] at h
  by_cases hf : (!x.flashOk) = true
  · rw [if_pos hf] at h
    cases h
  rw [if_neg hf] at h
  by_cases hchosen : (if (bootChoice s.bootNow).1 = true then x.sigB && s.update.fwB.full else x.sigA && s.update.fwA.full) = true
  · rw [if_pos hchosen] at h
    rw [← Sum.inr.inj h]
    exact (hback _ _).trans (hboot _ _)
  rw [if_neg hchosen] at h
  by_cases hother : (if (!(bootChoice s.bootNow).1) = true then x.sigB && s.update.fwB.full else x.sigA && s.update.fwA.full) = true
  · rw [if_pos hother] at h
    rw [← Sum.inr.inj h]
    exact (hback _ _).trans (s.setBoot_pending _)
  · rw [if_neg hother] at h
    cases h

@[simp] theorem State.bringUpStage_pending (s : State) (x : BringUpFindings) : (s.bringUpStage x).pending = s.pending := by
  unfold State.bringUpStage
  split
  · rfl
  · exact s.transmittersOn_pending
  · split
    next e h => exact s.stopStage_pending 3 e
    next t h =>
      have ht := State.pending_of_bootStage h
      exact (State.postPowerLog_pending _).trans ht
  · split
    · exact s.stopStage_pending 4 3
    · exact s.bistStage_pending _
  · exact s.loadStage_pending _
  · exact s.releaseStage_pending
  · rfl
  · rw [State.loadAtBringUp_pending, State.commitWindows_pending, State.featureCommit_pending, State.enterMode_pending, State.wr_pending]
  · rfl

@[simp] theorem State.bringUp_pending (s : State) (x : BringUpFindings) : (s.bringUp x).pending = s.pending := by simp [State.bringUp]

@[simp] theorem State.stageOverrun_pending (s : State) : s.stageOverrun.pending = s.pending := by simp [State.stageOverrun]

@[simp] theorem State.askWarm_pending (s : State) : s.askWarm.st.pending = s.pending := by
  unfold State.askWarm
  dsimp only
  repeat' split
  all_goals simp

@[simp] theorem State.modeRequest_pending (s : State) (code : Nat) : (s.modeRequest code).st.pending = s.pending := by
  unfold State.modeRequest
  split
  · split <;> rfl
  · exact s.enterMode_pending _
  · split <;> rfl
  · split
    · rfl
    split <;> rfl

@[simp] theorem State.enterAtBoundary_pending (s : State) (m : Mode) : (s.enterAtBoundary m).pending = s.pending := by simp [State.enterAtBoundary]

@[simp] theorem State.modeAtBoundary_pending (s : State) : s.modeAtBoundary.pending = s.pending := by
  unfold State.modeAtBoundary
  dsimp only
  repeat' split
  all_goals simp

@[simp] theorem State.warmReset_pending (s : State) : s.warmReset.pending = s.pending := by simp [State.warmReset]

@[simp] theorem State.hardReset_pending (s : State) : s.hardReset.pending = s.pending := by simp [State.hardReset]

@[simp] theorem State.watchdog_pending (s : State) (source : Nat) : (s.watchdog source).pending = s.pending := by simp [State.watchdog]

@[simp] theorem State.runMove_pending (s : State) (i act : Nat) {f : MoveRec → State → State} (h : ∀ m t, (f m t).pending = t.pending) :
    (s.runMove i act f).pending = s.pending := by
  unfold State.runMove
  split
  · exact (State.moveDone_pending _ _).trans (h _ _)
  · rfl

@[simp] theorem State.heldMove_pending (s : State) (st : RecState) (reason : Nat) (sel : ImageSel) (o n : Nat) :
    (s.heldMove st reason sel o n).pending = s.pending := by simp [State.heldMove]

@[simp] theorem effSample_pending (m : MoveRec) (s : State) : (effSample m s).pending = s.pending := by
  unfold effSample
  split <;> simp

@[simp] theorem effApply_pending (m : MoveRec) (s : State) : (effApply m s).pending = s.pending := by simp [effApply]

@[simp] theorem State.putWords_pending (s : State) (sel : ImageSel) (o : Nat) (ws : List (BitVec 32 × RecState)) :
    (s.putWords sel o ws).pending = s.pending := by
  refine (State.foldl_pending (fun t i => ?_) _ _).trans (s.arriveBytes_pending _ _ _)
  split
  · exact t.noteArrival_pending _ _ _
  · rfl

@[simp] theorem State.copyNoRoom_pending (s : State) (sel : ImageSel) (o n : Nat) : (s.copyNoRoom sel o n).pending = s.pending := by simp [State.copyNoRoom]

@[simp] theorem State.copyFrom_pending (s : State) (i : Nat) (m : MoveRec) (sel : ImageSel) : (s.copyFrom i m sel).pending = s.pending := by
  unfold State.copyFrom
  split <;> simp

@[simp] theorem State.copyPop_pending (s : State) (m : MoveRec) (sel : ImageSel) : (s.copyPop m sel).pending = s.pending := by simp [State.copyPop]

@[simp] theorem effCopy_pending (i : Nat) (m : MoveRec) (s : State) : (effCopy i m s).pending = s.pending := by
  unfold effCopy
  dsimp only
  repeat' split
  all_goals simp

@[simp] theorem effGo_pending (m : MoveRec) (s : State) : (effGo m s).pending = s.pending := by simp [effGo]

@[simp] theorem effGate_pending (m : MoveRec) (s : State) : (effGate m s).pending = s.pending := by simp [effGate]

@[simp] theorem effTxobj_pending (m : MoveRec) (s : State) : (effTxobj m s).pending = s.pending := by
  unfold effTxobj
  dsimp only
  split <;> simp

@[simp] theorem effRxlatch_pending (m : MoveRec) (s : State) : (effRxlatch m s).pending = s.pending := by
  unfold effRxlatch
  dsimp only
  repeat' split
  all_goals simp

@[simp] theorem State.deliverExpress_pending (s : State) (x : Express) : (s.deliverExpress x).pending = s.pending := by simp [State.deliverExpress]

@[simp] theorem State.deliverOwn_pending (s : State) : s.deliverOwn.pending = s.pending := by simp [State.deliverOwn]

@[simp] theorem State.expressReceived_pending (s : State) (p : Port) (l : LaneExpress) (crc : Nat) :
    (s.expressReceived p l crc).pending = s.pending := by simp [State.expressReceived]

@[simp] theorem State.expressRefill_pending (s : State) (p : Port) : (s.expressRefill p).pending = s.pending := by simp [State.expressRefill]

@[simp] theorem State.expressDeferred_pending (s : State) (p : Port) : (s.expressDeferred p).pending = s.pending := by
  unfold State.expressDeferred
  dsimp only
  split <;> simp

@[simp] theorem State.fastRead_pending (s : State) (a n tag : Nat) : (s.fastRead a n tag).pending = s.pending := by
  unfold State.fastRead
  dsimp only
  split <;> simp

@[simp] theorem State.mailWrite_pending (s : State) (k v : Nat) : (s.mailWrite k v).pending = s.pending := by
  unfold State.mailWrite
  split <;> simp

@[simp] theorem State.mailBytes_pending (s : State) (a : Nat) (v : List Byte) : (s.mailBytes a v).pending = s.pending := by simp [State.mailBytes]

@[simp] theorem State.msixWrite_pending (s : State) (o : Nat) (v : List Byte) : (s.msixWrite o v).pending = s.pending := by simp [State.msixWrite]

@[simp] theorem State.fastWrite_pending (s : State) (a : Nat) (v : List Byte) : (s.fastWrite a v).pending = s.pending := by
  unfold State.fastWrite
  split <;> simp

@[simp] theorem State.fastAccess_pending (s : State) (a n tag : Nat) (data : Option (List Byte)) : (s.fastAccess a n tag data).pending = s.pending := by
  unfold State.fastAccess
  split
  · rfl
  split
  · split
    · exact s.readRefused_pending _ _
    · exact s.bridgeJournal_pending _ _ _ _ _
  · split
    · split
      · rfl
      · exact s.fastRead_pending _ _ _
    · split
      · rfl
      · exact s.fastWrite_pending _ _

@[simp] theorem State.ackFrame_pending (s : State) (f : Frame) : (s.ackFrame f).pending = s.pending := by simp [State.ackFrame]

@[simp] theorem State.reportFrame_pending (s : State) (f : Frame) : (s.reportFrame f).pending = s.pending := by simp [State.reportFrame]

@[simp] theorem State.tunnelFrame_pending (s : State) (f : Frame) : (s.tunnelFrame f).pending = s.pending := by simp [State.tunnelFrame]

@[simp] theorem State.closeRecord_pending (s : State) (i : Nat) : (s.closeRecord i).pending = s.pending := by
  unfold State.closeRecord
  dsimp only
  repeat' split
  all_goals simp

@[simp] theorem State.turnImages_pending (s : State) : s.turnImages.pending = s.pending := by simp [State.turnImages]

@[simp] theorem State.closeCycle_pending (s : State) : s.closeCycle.pending = s.pending := by simp [State.closeCycle]

@[simp] theorem State.lostCycle_pending (s : State) : s.lostCycle.pending = s.pending := by simp [State.lostCycle]

@[simp] theorem State.settleWords_pending (s : State) : s.settleWords.pending = s.pending := by simp [State.settleWords]

@[simp] theorem State.publishLines_pending (s : State) : s.publishLines.pending = s.pending := by
  have hlines (t : State) (l : NMap EventLine) : ({ t with pawns := { t.pawns with lines := l } } : State).pending = t.pending := rfl
  unfold State.publishLines
  exact (hlines _ _).trans (State.foldl_pending (fun t k => t.wrB_pending _ _) _ s)

@[simp] theorem State.pruneSent_pending (s : State) : s.pruneSent.pending = s.pending := by simp [State.pruneSent]

@[simp] theorem State.endCycle_pending (s : State) : s.endCycle.pending = s.pending := by simp [State.endCycle]

@[simp] theorem State.startCycle_pending (s : State) (no bnd n : Nat) : (s.startCycle no bnd n).pending = s.pending := by simp [State.startCycle]

@[simp] theorem State.bankAtBoundary_pending (s : State) : s.bankAtBoundary.pending = s.pending := by simp [State.bankAtBoundary]

@[simp] theorem State.contractAtBoundary_pending (s : State) : s.contractAtBoundary.pending = s.pending := by simp [State.contractAtBoundary]

@[simp] theorem State.freeMarker_pending (s : State) : s.freeMarker.pending = s.pending := by simp [State.freeMarker]

@[simp] theorem State.startBeat_pending (s : State) : s.startBeat.pending = s.pending := by simp [State.startBeat]

@[simp] theorem State.postTime_pending (s : State) : s.postTime.pending = s.pending := by simp [State.postTime]

@[simp] theorem State.setTimeStep_pending (s : State) : s.setTimeStep.pending = s.pending := by simp [State.setTimeStep]

@[simp] theorem State.boundaryActions_pending (s : State) : s.boundaryActions.pending = s.pending := by simp [State.boundaryActions]

@[simp] theorem State.cycleBoundary_pending (s : State) : s.cycleBoundary.pending = s.pending := by simp [State.cycleBoundary]

@[simp] theorem State.beatStart_pending (s : State) : s.beatStart.pending = s.pending := by simp [State.beatStart]

@[simp] theorem State.timeStep_pending (s : State) : s.timeStep.pending = s.pending := by
  unfold State.timeStep
  split
  · split
    · dsimp only
      rw [State.boundaryActions_pending, State.missSeals_pending]
      refine (State.acquire_pending _).trans ?_
      rw [State.raise_pending, State.inc_pending, State.startCycle_pending, State.lostCycle_pending, State.wr_pending, State.endCycle_pending,
        State.closeCycle_pending, State.pinsToBeat_pending]
    · rfl
  · rfl

@[simp] theorem State.commitBatch_pending (s : State) : s.commitBatch.st.pending = s.pending := by
  unfold State.commitBatch
  dsimp only
  repeat' split
  all_goals simp

/-- A choice between two answers that leave the commands that wait. -/
theorem OdRes.ite_pending {p : Prop} [Decidable p] {a b : OdRes} {l : List Instr} (ha : a.st.pending = l) (hb : b.st.pending = l) :
    (if p then a else b).st.pending = l := by
  split
  · exact ha
  · exact hb

@[simp] theorem State.applyFixed_pending (s : State) (o n : Nat) (v : List Byte) : (s.applyFixed o n v).st.pending = s.pending := by
  unfold State.applyFixed
  repeat' with_reducible refine OdRes.ite_pending ?_ ?_
  all_goals simp

@[simp] theorem State.applyUnit_pending (s : State) (o n : Nat) (v : List Byte) : (s.applyUnit o n v).st.pending = s.pending := by
  unfold State.applyUnit
  dsimp only
  repeat' with_reducible refine OdRes.ite_pending ?_ ?_
  all_goals simp

@[simp] theorem State.applyWrite_pending (s : State) (o : Nat) (v : List Byte) : (s.applyWrite o v).st.pending = s.pending := by
  unfold State.applyWrite
  split
  · split
    · exact s.applyUnit_pending _ _ _
    · exact s.writeObj_pending _ _ _
  · rfl

@[simp] theorem State.ownWrite_pending (s : State) (o : Nat) (v : List Byte) : (s.ownWrite o v).pending = s.pending := by simp [State.ownWrite]

@[simp] theorem State.mirrorPut_pending (s : State) (o : Nat) (v : List Byte) : (s.mirrorPut o v).pending = s.pending := by
  unfold State.mirrorPut
  split <;> simp

@[simp] theorem State.applySet_pending (s : State) (es : List SetEntry) : (s.applySet es).pending = s.pending := by simp [State.applySet]

@[simp] theorem State.refuseSet_pending (s : State) (index : Nat) : (s.refuseSet index).st.pending = s.pending := by simp [State.refuseSet]

@[simp] theorem State.promoteConfiguration_pending (s : State) : s.promoteConfiguration.st.pending = s.pending := by
  unfold State.promoteConfiguration
  dsimp only
  repeat' split
  all_goals simp

@[simp] theorem State.runWriteAny_pending (s : State) (o : Nat) (v : List Byte) : (s.runWriteAny o v).st.pending = s.pending := by
  refine s.runWrite_pending o v (fun t => ?_)
  split
  · exact t.promoteConfiguration_pending
  · exact t.applyWrite_pending o v

@[simp] theorem State.idle_pending (s : State) : s.idle.pending = s.pending := by simp [State.idle]

@[simp] theorem State.odNum_pending (s : State) (h : OdHdr) (o v : Nat) {eff : Nat → State → OdRes} (heff : ∀ n t, (eff n t).st.pending = t.pending) :
    (s.odNum h o v eff).pending = s.pending := s.odSet_pending h o v (heff _)

@[simp] theorem State.stagePawn_pending (s : State) (q sub : Nat) (v : List Byte) : (s.stagePawn q sub v).st.pending = s.pending := by
  unfold State.stagePawn
  repeat' with_reducible refine OdRes.ite_pending ?_ ?_
  all_goals simp

@[simp] theorem State.serveWrite_pending (s : State) (f : Frame) : (s.serveWrite f).pending = s.pending := by simp [State.serveWrite]

end Sys2Proof.Machine
end

section
/-!
PROOFS. The commands that wait under every command and one step (log entry 4), and the statement about them.
-/
namespace Sys2Proof.Machine

/-- Every command leaves the commands that wait behind it. -/
theorem exec_pending (c : Instr) (s : State) : ∃ t : State, exec c s = .next t ∧ t.pending = s.pending := by
  cases c
  case clearLatchedFailures h => exact ⟨_, rfl, s.odSet_pending h _ _ (fun t => t.clearFailures_pending)⟩
  case clearWakeFlag h x => exact ⟨_, rfl, s.odSet_pending h _ _ (fun t => t.wr_pending _ _)⟩
  all_goals exact ⟨_, rfl, by simp⟩

/-- A step takes the command at the front, if there is one. -/
theorem step_pending {s t : State} (h : step s = .next t) : t.pending = s.pending.tail := by
  cases hp : s.pending with
  | nil =>
    rw [step_nil hp] at h
    rw [← Host.Outcome.next.inj h, State.idle_pending, hp]
    rfl
  | cons c rest =>
    rw [step_cons hp] at h
    obtain ⟨u, hu, hrest⟩ := exec_pending c { s with pending := rest }
    rw [hu] at h
    rw [← Host.Outcome.next.inj h, hrest]
    rfl

/-- Settles O58: what waits after a step is what waited before without the first, so that what was well formed stays so. -/
theorem commandsAreTakenInOrder : Obligations.CommandsAreTakenInOrder := by
  unfold Obligations.CommandsAreTakenInOrder
  intro s t h
  have htail := step_pending h
  refine ⟨htail, fun hok => ?_⟩
  simp only [queueOk, htail, List.all_eq_true] at hok ⊢
  exact fun c hc => hok c (List.mem_of_mem_tail hc)

end Sys2Proof.Machine
end

section
/-!
PROOFS. Containers (R429 to R437): staging, verification and promotion, and the statement about them.
-/
namespace Sys2Proof.Machine

/-! The boot record and the commands whose mode a check of R335 asks for. -/

/-- The boot record as set (R431), its sequence aside. -/
theorem State.bootNow_setBoot {s : State} (h : s.update.governing.2.seq + 1 < 2 ^ 32) (b : BootRec) :
    ∃ n, (s.setBoot b).bootNow = { b with seq := n } := by
  unfold State.setBoot
  split
  · exact ⟨b.seq, rfl⟩
  · exact ⟨_, governing_writeBoot s.update b h⟩

/-- Writing the boot record changes neither a firmware slot nor what runs (R431). -/
theorem UpdateSt.writeBoot_frame (u : UpdateSt) (b : BootRec) : ∃ x y, u.writeBoot b = { u with bootA := x, bootB := y } := by
  unfold UpdateSt.writeBoot
  dsimp only
  split
  · exact ⟨_, u.bootB, rfl⟩
  · exact ⟨u.bootA, _, rfl⟩

theorem State.setBoot_frame (s : State) (b : BootRec) :
    ∃ x y d, s.setBoot b = { s with update := { s.update with bootA := x, bootB := y, bootDefer := d } } := by
  unfold State.setBoot
  split
  · exact ⟨s.update.bootA, s.update.bootB, some b, rfl⟩
  · obtain ⟨x, y, h⟩ := s.update.writeBoot_frame b
    exact ⟨x, y, none, by rw [h]⟩

/-- The commands of promotion, of parts and of the windows whose mode is checked (R335 check 7). -/
def modeChecked (o : Nat) : Prop := o = 0xC02100 ∨ o = 0xC05001 ∨ o = 0xC05002 ∨ o = 0xC05003 ∨ o = 0x901800

theorem objRow_modeChecked {o : Nat} (ho : modeChecked o) : ∃ r, objRow o = some r ∧ r.access = .cmd ∧ r.feature = none := by
  rcases ho with rfl | rfl | rfl | rfl | rfl
  · exact ⟨⟨0xFFFFFF, 0xC02100, [], .u8, .cmd, .v, 0, .between 1 3, none, false⟩, by decide +kernel, rfl, rfl⟩
  · exact ⟨⟨0xFFFFFF, 0xC05001, [], .u64, .cmd, .v, 0, .any, none, false⟩, by decide +kernel, rfl, rfl⟩
  · exact ⟨⟨0xFFFFFF, 0xC05002, [], .u64, .cmd, .v, 0, .any, none, false⟩, by decide +kernel, rfl, rfl⟩
  · exact ⟨⟨0xFFFFFF, 0xC05003, [], .u8, .cmd, .v, 0, .between 1 2, none, false⟩, by decide +kernel, rfl, rfl⟩
  · exact ⟨⟨0xFFFFFF, 0x901800, [], .u8, .cmd, .v, 0, .between 1 1, none, false⟩, by decide +kernel, rfl, rfl⟩

/-- In a mode that the command does not have, its write is answered with 0x03. -/
theorem State.accessError_modeChecked {s : State} {o : Nat} {v : List Byte} (ho : modeChecked o) (hm : s.commandMode o v = false) :
    s.accessError .write o v = 0x03 := by
  obtain ⟨r, hrow, hcmd, hfeature⟩ := objRow_modeChecked ho
  have hobj : o / 2 ^ 20 ≠ 0xF ∧ s.absentObj o = false ∧ refusedObj o = false := by
    rcases ho with rfl | rfl | rfl | rfl | rfl <;> simp [State.absentObj, refusedObj]
  obtain ⟨harea, habsent, hrefused⟩ := hobj
  rw [State.accessError, if_neg harea, habsent, hrow]
  simp [State.rowError, hrefused, State.modeAllows, hcmd, hfeature, hm]

/-- One that passes its checks has the mode. -/
theorem State.commandMode_of_numPasses {s b : State} {h : OdHdr} {o v : Nat} (hb : b = s.odBegun h) (ho : modeChecked o)
    (hp : s.numPasses h o v = true) : b.commandMode o (numBytes o v) = true := by
  subst hb
  by_contra hm
  have hbarred := State.accessError_modeChecked ho (Bool.eq_false_iff.mpr hm)
  rw [State.accessError_of_numPasses hp] at hbarred
  exact absurd hbarred (by decide)

theorem objBits_update : objBits 0xC02100 = 8 ∧ objBits 0xC02000 = 32 := by decide +kernel

theorem beNat_promote {v : Nat} (hv : v < 256) : beNat (numBytes 0xC02100 v) = v := by
  rw [numBytes, objBits_update.1, beNat_natBE]
  exact Nat.mod_eq_of_lt hv

theorem State.commandMode_promoteSchedule (s : State) : s.commandMode 0xC02100 (numBytes 0xC02100 2) = s.stagingMode := by
  simp [State.commandMode, beNat_promote]

theorem State.commandMode_promoteConfiguration (s : State) : s.commandMode 0xC02100 (numBytes 0xC02100 3) = decide (s.mode = .configure) := by
  simp [State.commandMode, beNat_promote]

/-! Staging and verification (R429, R432, R433). -/

theorem exec_beginContainer (s : State) (h : OdHdr) {v : Nat} (hv : v < 2 ^ 32) :
    exec (.beginContainerStaging h v) s = .next (s.odSet h 0xC02000 v (fun t => t.beginContainer v)) := by
  show Host.Outcome.next (s.odSet h 0xC02000 v (fun t => t.beginContainer (v % 2 ^ objBits 0xC02000))) = _
  rw [objBits_update.2, Nat.mod_eq_of_lt hv]

/-- The code of a container is 0x01 where its magic is wrong. -/
theorem State.verifyCode_magic (s : State) {l : List Byte} (h : leField l 0 4 ≠ 0x52454F53) : s.verifyCode l = 1 := by
  rw [State.verifyCode, if_pos (by simp [h])]

/-- Where none is verified nothing ends. -/
theorem State.verifyComplete_idle {s : State} (h : s.rd 0xC02004 ≠ 2) : s.verifyComplete = s := by
  simp [State.verifyComplete, h]

/-- The end of a verification (R429): its code, its state, and nothing of what is staged. -/
theorem State.verifyComplete_ends {s : State} {k : Nat} (hk : k = s.verifyCode s.update.staging) (hs : s.odServed = true) (h : s.rd 0xC02004 = 2) :
    s.verifyComplete.rd 0xC02005 = k ∧ s.verifyComplete.rd 0xC02004 = (if k = 0 then 3 else 4) ∧ s.verifyComplete.update = s.update := by
  have heq : s.verifyComplete = if k = 0 then (s.wr 0xC02005 k).wr 0xC02004 3
      else ((s.wr 0xC02005 k).wr 0xC02004 4).raise .mgt 0x06 0x60 (k * 2 ^ 24) := by
    subst hk
    simp only [State.verifyComplete, hs, h]
    rfl
  rw [heq]
  clear heq hk
  by_cases h0 : k = 0
  · rw [if_pos h0, if_pos h0]
    refine ⟨?_, State.rd_wr_self _ _ _, rfl⟩
    rw [State.rd_wr_ne _ _ (by decide), State.rd_wr_self]
  · rw [if_neg h0, if_neg h0]
    generalize k * 2 ^ 24 = tag
    refine ⟨?_, ?_, ?_⟩
    · rw [State.rd_raise _ _ _ _ _ (by decide) (by decide), State.rd_wr_ne _ _ (by decide), State.rd_wr_self]
    · rw [State.rd_raise _ _ _ _ _ (by decide) (by decide), State.rd_wr_self]
    · obtain ⟨_, _, _, hf⟩ := ((s.wr 0xC02005 k).wr 0xC02004 4).raise_frame .mgt 0x06 0x60 tag
      rw [hf]
      rfl

/-! Promotion begins (R434 to R437). -/

theorem State.promoteFirmware_none {s : State} (hp : s.update.promoting = 0) (h : s.rd 0xC02004 ≠ 3 ∨ firmwareSection s.update.staging = none) :
    s.promoteFirmware = refusedRes s 0x06 := by
  rcases h with h | h <;> simp [State.promoteFirmware, hp, State.verified, h]

theorem State.promoteFirmware_starts {s : State} {x : SectionRec} (hp : s.update.promoting = 0) (hv : s.rd 0xC02004 = 3)
    (hx : firmwareSection s.update.staging = some x) : s.promoteFirmware = okRes (s.startCopy 1 x) := by
  simp [State.promoteFirmware, hp, State.verified, hv, hx]

theorem State.promoteSchedule_none {s : State} (hm : s.stagingMode = true) (hp : s.update.promoting = 0)
    (h : s.rd 0xC02004 ≠ 3 ∨ s.scheduleSection s.update.staging = none) : s.promoteSchedule = refusedRes s 0x06 := by
  rcases h with h | h <;> simp [State.promoteSchedule, hm, hp, State.verified, h]

theorem State.promoteSchedule_some {s : State} {x : SectionRec} (hm : s.stagingMode = true) (hp : s.update.promoting = 0) (hv : s.rd 0xC02004 = 3)
    (hx : s.scheduleSection s.update.staging = some x) :
    s.promoteSchedule = if s.rd 0x400001 = 4 then refusedRes s 0x32 else okRes (s.startCopy 2 x) := by
  simp only [State.promoteSchedule, hm, hp, State.verified, hv, hx, State.bankState]
  rfl

/-- The entries of a container's configuration sets, in order (R437). -/
def setEntriesOf (parts : List (List SetEntry × List Nat)) : List SetEntry := parts.flatMap (·.1)

/-- A configuration set whose entries all pass, in effect (R437, R441). -/
def State.setApplied (s : State) (parts : List (List SetEntry × List Nat)) (es : List SetEntry) : State :=
  (((parts.flatMap (·.2)).foldl (fun s o => s.raise .mgt 0x06 0x63 (0x04 * 2 ^ 24 + o))
    (s.addTo 0xC04101 ((es.filter (·.2)).length))).applySet es).wr 0xC02101 2

/-- A configuration set with a verified container, none of another promotion, in Configure: what its sections and entries come to (R437, R441). -/
theorem State.promoteConfiguration_eq {s : State} {secs : List SectionRec} {parts : List (List SetEntry × List Nat)} {es : List SetEntry}
    (hm : s.mode = .configure) (hp : s.update.promoting = 0) (hv : s.rd 0xC02004 = 3) (hsecs : secs = s.configSections s.update.staging)
    (hparts : parts = secs.filterMap s.sectionEntries) (hes : es = setEntriesOf parts) (hne : secs ≠ []) :
    s.promoteConfiguration =
      if parts.length ≠ secs.length then s.refuseSet 0
      else if ∃ e ∈ es, e.2 = false ∧ s.storeBarred e.1.1 = true then errRes s 0x06
      else match es.findIdx? s.entryFails with
        | some k => s.refuseSet k
        | none => okRes (s.setApplied parts es) := by
  have hverified : s.verified = true := by simp [State.verified, hv]
  subst hes hparts hsecs
  unfold State.promoteConfiguration setEntriesOf
  simp only [hm, hp, hverified, if_true, bne_self_eq_false, Bool.false_eq_true, if_false, List.isEmpty_iff, hne, bne_iff_ne, List.any_eq_true,
    Bool.and_eq_true, Bool.not_eq_true']
  rfl

/-! Promotion ends (R434 to R436). -/

theorem State.promotionComplete_idle {s : State} (h : s.update.promoting = 0) (ok : Bool) : s.promotionComplete ok = s := by
  simp [State.promotionComplete, h]

/-- The slot that a promotion writes and the slot that runs, after the first is written. -/
theorem State.fwSlot_setFwSlot_spare (s : State) (x : FwSlot) :
    (s.setFwSlot s.spareSlot x).fwSlot s.spareSlot = x ∧ (s.setFwSlot s.spareSlot x).fwSlot s.update.runB = s.fwSlot s.update.runB := by
  cases h : s.update.runB <;> simp [State.fwSlot, State.setFwSlot, State.spareSlot, h]

theorem State.setFwSlot_frame (s : State) (slotB : Bool) (x : FwSlot) :
    ∃ a b, s.setFwSlot slotB x = { s with update := { s.update with fwA := a, fwB := b } } := by
  cases slotB
  · exact ⟨x, s.update.fwB, rfl⟩
  · exact ⟨s.update.fwA, x, rfl⟩

/-- A good copy of firmware is in the slot that is not in use, active and on trial (R435). -/
theorem State.promotionComplete_firmware {s : State} (hs : s.odServed = true) (hb : s.inBrace = false) (hp : s.update.promoting = 1)
    (hseq : s.update.governing.2.seq + 1 < 2 ^ 32) :
    ∃ t n, s.promotionComplete true = t ∧ t.update.promoting = 0 ∧ t.rd 0xC02101 = 2 ∧
      t.bootNow = { s.bootNow with seq := n, fwB := s.spareSlot, trial := true, started := false } ∧
      t.fwSlot s.spareSlot = { s.update.copying with data := [] } ∧ t.update.runB = s.update.runB ∧ t.fwSlot s.update.runB = s.fwSlot s.update.runB := by
  obtain ⟨u, hu⟩ : ∃ u, u = s.setFwSlot s.spareSlot { s.update.copying with data := [] } := ⟨_, rfl⟩
  obtain ⟨r, hr⟩ : ∃ r : BootRec, r = { s.bootNow with fwB := s.spareSlot, trial := true, started := false } := ⟨_, rfl⟩
  have heq : s.promotionComplete true = (u.setBoot r).endPromotion 2 := by
    simp only [State.promotionComplete, hs, hb, hp, ← hu, ← hr]
    rfl
  obtain ⟨hspare, hrun⟩ := s.fwSlot_setFwSlot_spare { s.update.copying with data := [] }
  obtain ⟨a, b, hframe⟩ := s.setFwSlot_frame s.spareSlot { s.update.copying with data := [] }
  rw [← hu] at hspare hrun hframe
  have hgov : u.update.governing = s.update.governing := by rw [hframe]; rfl
  obtain ⟨n, hnow⟩ := State.bootNow_setBoot (s := u) (by rw [hgov]; exact hseq) r
  have hrunB : u.update.runB = s.update.runB := by rw [hframe]
  obtain ⟨x, y, d, hset⟩ := u.setBoot_frame r
  refine ⟨_, n, heq, rfl, State.rd_wr_self _ _ _, ?_, ?_, ?_, ?_⟩
  · rw [hr] at hnow
    exact hr ▸ hnow
  · rw [← hspare, hset]
    rfl
  · rw [← hrunB, hset]
    rfl
  · rw [← hrun, hset]
    rfl

/-- A bad one leaves the boot record and the slot that runs (R434). -/
theorem State.promotionComplete_badFirmware {s : State} (hs : s.odServed = true) (hb : s.inBrace = false) (hp : s.update.promoting = 1) :
    ∃ t, s.promotionComplete false = t ∧ t.update.promoting = 0 ∧ t.rd 0xC02101 = 3 ∧ t.bootNow = s.bootNow ∧ t.update.runB = s.update.runB ∧
      t.fwSlot s.update.runB = s.fwSlot s.update.runB := by
  obtain ⟨x, hx⟩ : ∃ x : FwSlot, x = { full := true, data := [], version := some (s.freeNat 32), sec := 0, od := s.freeNat 48 / 2 ^ 32 } := ⟨_, rfl⟩
  obtain ⟨u, hu⟩ : ∃ u, u = s.setFwSlot s.spareSlot x := ⟨_, rfl⟩
  have heq : s.promotionComplete false = u.tookFree.endPromotion 3 := by
    simp only [State.promotionComplete, hs, hb, hp, ← hx, ← hu]
    rfl
  obtain ⟨-, hrun⟩ := s.fwSlot_setFwSlot_spare x
  obtain ⟨a, b, hframe⟩ := s.setFwSlot_frame s.spareSlot x
  rw [← hu] at hrun hframe
  have hnow : u.bootNow = s.bootNow := by rw [hframe]; rfl
  have hrunB : u.update.runB = s.update.runB := by rw [hframe]
  exact ⟨_, heq, rfl, State.rd_wr_self _ _ _, hnow, hrunB, hrun⟩

/-- A loaded bank is staged, and its check does not switch to it of itself (R75, R83). -/
theorem State.loadStaged_state (s : State) (b : Bank) : (s.loadStaged b).rd 0x400001 = 1 ∧ (s.loadStaged b).update.autoSwitch = false := by
  have hone : (((s.setStaged b).loadShadows b).wr 0x400001 1).rd 0x400001 = 1 := State.rd_wr_self _ _ _
  unfold State.loadStaged
  dsimp only
  split
  · exact ⟨(State.rd_wr_ne _ _ (by decide)).trans hone, rfl⟩
  · exact ⟨hone, rfl⟩

/-- A good copy of a schedule is staged and its check runs (R436). -/
theorem State.promotionComplete_schedule {s : State} (hs : s.odServed = true) (hb : s.inBrace = false) (hp : s.update.promoting = 2)
    (h4 : s.rd 0x400001 ≠ 4) :
    ∃ t, s.promotionComplete true = t ∧ t.update.promoting = 0 ∧ t.rd 0xC02101 = 2 ∧ t.rd 0x400001 = 1 ∧ t.seq.checking = true ∧
      t.update.autoSwitch = false := by
  obtain ⟨slotB, hslot⟩ : ∃ slotB, slotB = (s.bootNow.schedOk && !s.bootNow.schedB) := ⟨_, rfl⟩
  obtain ⟨u, hu⟩ : ∃ u : UpdateSt, u = if slotB then { s.update with schedB := s.update.copying.data, nodeB := s.update.copying.node }
    else { s.update with schedA := s.update.copying.data, nodeA := s.update.copying.node } := ⟨_, rfl⟩
  obtain ⟨k, hk⟩ : ∃ k, k = bankOfImage s.update.copying.data slotB s.update.copying.node := ⟨_, rfl⟩
  obtain ⟨v, hv⟩ : ∃ v, v = ({ s with update := u } : State).loadStaged k := ⟨_, rfl⟩
  have heq : s.promotionComplete true = ({ v with seq := { v.seq with checking := true } } : State).endPromotion 2 := by
    have hstate : s.bankState ≠ 4 := h4
    subst hv hk hu hslot
    simp only [State.promotionComplete, hs, hb, hp, hstate, Bool.not_true, Bool.or_self, Bool.false_eq_true, if_false, OfNat.ofNat_ne_one, if_true]
  obtain ⟨hstaged, hswitch⟩ := ({ s with update := u } : State).loadStaged_state k
  rw [← hv] at hstaged hswitch
  exact ⟨_, heq, rfl, State.rd_wr_self _ _ _, (State.rd_wr_ne _ _ (by decide)).trans hstaged, rfl, hswitch⟩

/-- A bad one leaves the sequencer (R434). -/
theorem State.promotionComplete_badSchedule {s : State} (hs : s.odServed = true) (hb : s.inBrace = false) (hp : s.update.promoting = 2) :
    s.promotionComplete false = s.endPromotion 3 := by
  simp [State.promotionComplete, hs, hb, hp]

/-- Settles O46: staging, verification, the three promotions, and their end. -/
theorem containersAreStagedVerifiedAndPromoted : Obligations.ContainersAreStagedVerifiedAndPromoted := by
  unfold Obligations.ContainersAreStagedVerifiedAndPromoted
  intro s b h hb
  refine ⟨fun v hv hpass => ?staging, fun v hpass hbrace => ⟨fun hoff hlen => ?chunk, fun hbad => ?badChunk⟩, fun hpass => State.odSet_done hb hpass rfl,
    fun k hk hs hrd => ?verified, fun hrd => congrArg Host.Outcome.next (State.verifyComplete_idle hrd), fun hpass => ?firmware, fun hreach hm => ?mode2,
    fun hpass => ?schedule, fun hreach hm => ?mode3, fun secs parts es hpass hsecs hparts hes => ?configuration, fun ok hs hbrace hseq => ?complete⟩
  case staging =>
    rw [exec_beginContainer s h hv]
    refine ⟨fun hbrace => ?_, fun hbrace hp => ?_, fun hbrace hp => ?_⟩
    · exact State.odSet_errs hb hpass (if_pos hbrace) (by decide) (by decide)
    · exact State.odSet_refuses hb hpass ((if_neg (by simp [hbrace])).trans (if_pos (by simpa using hp)))
    · exact State.odSet_done hb hpass ((if_neg (by simp [hbrace])).trans (if_neg (by simpa using hp)))
  case chunk =>
    have hfit : ¬ (beField v 0 4 != b.update.staging.length || decide (b.update.total < b.update.staging.length + (v.drop 4).length)) = true := by
      simp only [Bool.or_eq_true, bne_iff_ne, decide_eq_true_eq]
      omega
    exact State.odWrite_next (eff := fun t => t.stagingChunk v) (r := okRes _) hb hpass ((if_neg (by simp [hbrace])).trans (if_neg hfit)) rfl
  case badChunk =>
    have hfit : (beField v 0 4 != b.update.staging.length || decide (b.update.total < b.update.staging.length + (v.drop 4).length)) = true := by
      simpa only [Bool.or_eq_true, bne_iff_ne, decide_eq_true_eq] using hbad
    have heff : b.stagingChunk v = refusedRes b 0x05 := (if_neg (by simp [hbrace])).trans (if_pos hfit)
    subst hb
    have hw := State.odWrite_refused (eff := fun t => t.stagingChunk v) hpass (by rw [heff]; simp [refusedRes])
    rw [heff] at hw
    exact congrArg Host.Outcome.next hw
  case verified =>
    obtain ⟨hcode, hstate, hupdate⟩ := State.verifyComplete_ends hk hs hrd
    exact ⟨_, rfl, hcode, hstate, hupdate, fun hmagic => hk.trans (s.verifyCode_magic hmagic)⟩
  case firmware =>
    refine ⟨fun hp => ?_, fun hp hnone => ?_, fun x hp hv hx => ?_⟩
    · exact State.odSet_refuses hb hpass (if_pos (by simpa using hp))
    · exact State.odSet_refuses hb hpass (State.promoteFirmware_none hp hnone)
    · exact State.odSet_done hb hpass (State.promoteFirmware_starts hp hv hx)
  case mode2 =>
    exact State.odSet_barred hb hreach (State.accessError_modeChecked (.inl rfl) (b.commandMode_promoteSchedule.trans hm)) (by decide)
  case mode3 =>
    exact State.odSet_barred hb hreach (State.accessError_modeChecked (.inl rfl) (b.commandMode_promoteConfiguration.trans (by simpa using hm))) (by decide)
  case schedule =>
    have hm : b.stagingMode = true := b.commandMode_promoteSchedule.symm.trans (State.commandMode_of_numPasses hb (.inl rfl) hpass)
    refine ⟨fun hp => ?_, fun hp hnone => ?_, fun x hp hv hx => ⟨fun h4 => ?_, fun h4 => ?_⟩⟩
    · exact State.odSet_refuses hb hpass ((if_neg (by simp [hm])).trans (if_pos (by simpa using hp)))
    · exact State.odSet_refuses hb hpass (State.promoteSchedule_none hm hp hnone)
    · exact State.odSet_refuses hb hpass ((State.promoteSchedule_some hm hp hv hx).trans (if_pos h4))
    · exact State.odSet_done hb hpass ((State.promoteSchedule_some hm hp hv hx).trans (if_neg h4))
  case configuration =>
    have hm : b.mode = .configure := by
      have := b.commandMode_promoteConfiguration.symm.trans (State.commandMode_of_numPasses hb (.inl rfl) hpass)
      simpa using this
    refine ⟨fun hp => ?_, fun hp hnone => ?_, fun hp hv hne => ?_⟩
    · exact State.odSet_refuses hb hpass ((if_neg (by simp [hm])).trans (if_pos (by simpa using hp)))
    · have heff : b.promoteConfiguration = refusedRes b 0x06 := by
        subst hsecs
        rcases hnone with hv | hsecs
        · simp [State.promoteConfiguration, hm, hp, State.verified, hv]
        · simp [State.promoteConfiguration, hm, hp, hsecs]
      exact State.odSet_refuses hb hpass heff
    · have heff := State.promoteConfiguration_eq hm hp hv hsecs hparts hes hne
      refine ⟨fun hlen => ?_, fun hlen hbar => ?_, fun hlen hfree => ?_⟩
      · exact State.odSet_refuses hb hpass (heff.trans (if_pos hlen))
      · exact State.odSet_errs hb hpass (heff.trans ((if_neg (by simp [hlen])).trans (if_pos hbar))) (by decide) (by decide)
      · have hopen : ¬ ∃ e ∈ es, e.2 = false ∧ b.storeBarred e.1.1 = true := by
          rintro ⟨e, he, hskip, hbar⟩
          exact absurd ((hfree e he hskip).symm.trans hbar) (by decide)
        rw [if_neg (by simp [hlen]), if_neg hopen] at heff
        refine ⟨fun k hk => State.odSet_refuses hb hpass ?_, fun hall => ⟨b.setApplied parts es, State.odSet_done hb hpass ?_, State.rd_wr_self _ _ _⟩⟩
        · rw [heff, hk]
          rfl
        · rw [heff, hall]
  case complete =>
    refine ⟨fun hp => congrArg Host.Outcome.next (State.promotionComplete_idle hp ok), fun hp => ?_, fun hp h4 => ?_⟩
    · cases ok
      · obtain ⟨t, ht, hend, hres, hnow, hrun, hslot⟩ := State.promotionComplete_badFirmware hs hbrace hp
        exact ⟨t, congrArg Host.Outcome.next ht, hend, hres, nofun, fun _ => hnow, hrun, hslot⟩
      · obtain ⟨t, n, ht, hend, hres, hnow, hspare, hrun, hslot⟩ := State.promotionComplete_firmware hs hbrace hp hseq
        exact ⟨t, congrArg Host.Outcome.next ht, hend, hres, fun _ => by simp [hnow, hspare], nofun, hrun, hslot⟩
    · cases ok
      · exact ⟨_, congrArg Host.Outcome.next (State.promotionComplete_badSchedule hs hbrace hp), rfl, State.rd_wr_self _ _ _, nofun, fun _ => rfl⟩
      · obtain ⟨t, ht, hend, hres, hstaged, hcheck, hswitch⟩ := State.promotionComplete_schedule hs hbrace hp h4
        exact ⟨t, congrArg Host.Outcome.next ht, hend, hres, fun _ => ⟨hstaged, hcheck, hswitch⟩, nofun⟩

end Sys2Proof.Machine
end

section
/-!
PROOFS. Firmware trials and the Keeper handover (R435, R438 to R442): what each step does to the trial and to the cores.
-/
namespace Sys2Proof.Machine

/-! The boot record, again. -/

/-- A boot record written raises the sequence by one at most (R431). -/
theorem State.seq_setBoot {s : State} (h : s.update.governing.2.seq + 1 < 2 ^ 32) (b : BootRec) :
    (s.setBoot b).update.governing.2.seq ≤ s.update.governing.2.seq + 1 := by
  unfold State.setBoot
  split
  · exact Nat.le_succ _
  · have hw : ({ s.update.writeBoot b with bootDefer := none } : UpdateSt).governing = (s.update.writeBoot b).governing := rfl
    dsimp only
    rw [hw, governing_writeBoot _ _ h]

/-- What the boot record says of a trial, the handover, the core that runs, and whether beats exist and at what time. -/
def State.trialView (s : State) : (Bool × Bool × Bool) × Handover × Bool × Nat × Bool :=
  ((s.bootNow.fwB, s.bootNow.trial, s.bootNow.started), s.update.handover, s.update.runB, s.nowNs, s.ticking)

/-- A boot record set shows in what it says of the trial, and in nothing else (R431). -/
theorem State.trialView_setBoot {s : State} (h : s.update.governing.2.seq + 1 < 2 ^ 32) (b : BootRec) :
    (s.setBoot b).trialView = ((b.fwB, b.trial, b.started), s.update.handover, s.update.runB, s.nowNs, s.ticking) := by
  obtain ⟨n, hn⟩ := State.bootNow_setBoot h b
  obtain ⟨x, y, d, hf⟩ := s.setBoot_frame b
  rw [State.trialView, hn, hf]
  rfl

theorem State.trialView_wr (s : State) (o v : Nat) : (s.wr o v).trialView = s.trialView := rfl

theorem State.trialView_addTo (s : State) (o n : Nat) : (s.addTo o n).trialView = s.trialView := by
  obtain ⟨_, _, h⟩ := s.addTo_frame o n
  rw [h]
  rfl

theorem State.trialView_raise (s : State) (i : Island) (cls reason tag : Nat) : (s.raise i cls reason tag).trialView = s.trialView := by
  obtain ⟨_, _, _, h⟩ := s.raise_frame i cls reason tag
  rw [h]
  rfl

theorem State.trialView_loadStore (s : State) : s.loadStore.trialView = s.trialView := rfl

/-- The other copy of the class-N store in use leaves the trial (R431, R442). -/
theorem State.trialView_switchStore {s : State} (h : s.update.governing.2.seq + 1 < 2 ^ 32) (c : StoreCopy) : (s.switchStore c).trialView = s.trialView := by
  exact State.trialView_setBoot
    (s := { s with flash := c.objs, flashBlobs := c.blobs, update := { s.update with storeVer := c.ver, idleStore := s.activeStore } }) h _

theorem State.trialView_storeBack {s : State} (h : s.update.governing.2.seq + 1 < 2 ^ 32) : s.storeBack.trialView = s.trialView := by
  unfold State.storeBack
  split
  · have hback (t : State) (u : UpdateSt) (hu : u.bootA = t.update.bootA ∧ u.bootB = t.update.bootB ∧ u.bootDefer = t.update.bootDefer ∧
        u.handover = t.update.handover ∧ u.runB = t.update.runB) : ({ t with stores := [], update := u } : State).trialView = t.trialView := by
      obtain ⟨ha, hb, hd, hh, hr⟩ := hu
      simp only [State.trialView, State.bootNow, UpdateSt.governing, ha, hb, hd, hh, hr]
      rfl
    exact (hback _ _ ⟨rfl, rfl, rfl, rfl, rfl⟩).trans (State.trialView_switchStore h _)
  · rfl

/-- So does the start of a firmware on the store (R441, R442). -/
theorem State.trialView_startStore {s : State} (h : s.update.governing.2.seq + 1 < 2 ^ 32) (od : Nat) : (s.startStore od).trialView = s.trialView := by
  unfold State.startStore
  dsimp only
  split
  · rfl
  split
  · exact (State.foldl_keeps State.trialView (fun t o => t.trialView_raise _ _ _ _) _ _).trans (State.trialView_switchStore h _)
  split
  · exact State.trialView_switchStore h _
  split
  · exact s.trialView_addTo _ _
  · rfl

/-- A trial reverted: the other slot is active, and none is on trial (R435). -/
theorem State.trialView_revertTrial {s : State} (h : s.update.governing.2.seq + 2 < 2 ^ 32) :
    s.revertTrial.trialView = ((!s.bootNow.fwB, false, s.bootNow.started), s.update.handover, s.update.runB, s.nowNs, s.ticking) := by
  obtain ⟨r, hr⟩ : ∃ r : BootRec, r = { s.bootNow with fwB := !s.bootNow.fwB, trial := false, revert := true } := ⟨_, rfl⟩
  have heq : s.revertTrial = (s.setBoot r).storeBack := by rw [hr]; rfl
  have hseq := State.seq_setBoot (s := s) (by omega) r
  rw [heq, State.trialView_storeBack (by omega), State.trialView_setBoot (by omega), hr]

/-! The pause and its end (R438 to R440). -/

theorem State.passState_fields (s : State) : s.passState.seq.checking = false ∧ s.passState.switch.batch = none ∧ s.passState.od.asm = none ∧
    s.passState.update.promoting = 0 ∧ s.passState.bootNow = s.bootNow ∧ s.passState.update.runB = s.update.runB := by
  by_cases h : s.update.promoting = 0
  · rw [State.passState, if_pos h]
    exact ⟨rfl, rfl, rfl, h, rfl, rfl⟩
  · rw [State.passState, if_neg h]
    exact ⟨rfl, rfl, rfl, rfl, rfl, rfl⟩

theorem State.rd_passState (s : State) {o : Nat} (h : o ≠ 0xC02101) : s.passState.rd o = s.rd o := by
  by_cases hp : s.update.promoting = 0
  · rw [State.passState, if_pos hp]
    rfl
  · have hended : (s.endPromotion 3).rd o = s.rd o := State.rd_wr_ne _ _ h
    rw [State.passState, if_neg hp]
    exact hended

theorem objPersist_handover : (objPersist 0xC03004 != .n) = true ∧ (objPersist 0xC03005 != .n) = true := by decide +kernel

theorem objBits_handovers : objBits 0xC03004 = 32 := by decide +kernel

/-- The core that goes on after a pause, and the state of the handover. -/
def State.resumed (s : State) (back : Bool) : State :=
  { s.passState with update := { s.passState.update with
    handover := if back then .idle else .trial
    runB := if back then !s.passState.update.runB else s.passState.bootNow.fwB } }

theorem State.endPause_eq (s : State) (back : Bool) : s.endPause back = (if back then s.resumed back else (s.resumed back).inc 0xC03004).loadStore := rfl

/-- What the end of a pause leaves of the Keeper's work, and which core runs (R438 to R440). -/
theorem State.endPause_fields (s : State) (back : Bool) :
    (s.endPause back).update.handover = (if back then .idle else .trial) ∧
    (s.endPause back).update.runB = (if back then !s.update.runB else s.bootNow.fwB) ∧ (s.endPause back).seq.checking = false ∧
    (s.endPause back).switch.batch = none ∧ (s.endPause back).od.asm = none ∧ (s.endPause back).update.promoting = 0 ∧
    (s.endPause back).bootNow = s.bootNow := by
  obtain ⟨hcheck, hbatch, hasm, hprom, hboot, hrun⟩ := s.passState_fields
  have hcount (t : State) : ∃ (objs : NMap Nat) (free : Nat), (if back then t else t.inc 0xC03004) = { t with objs := objs, free := free } := by
    cases back
    · obtain ⟨x, y, h⟩ := t.addTo_frame 0xC03004 1
      exact ⟨x, y, h⟩
    · exact ⟨t.objs, t.free, rfl⟩
  obtain ⟨x, y, hframe⟩ := hcount (s.resumed back)
  rw [s.endPause_eq, hframe, ← hrun, ← hboot]
  exact ⟨rfl, rfl, hcheck, hbatch, hasm, hprom, rfl⟩

theorem State.rd_endPause_length (s : State) (back : Bool) : (s.endPause back).rd 0xC03005 = s.rd 0xC03005 := by
  have hresumed : (s.resumed back).rd 0xC03005 = s.rd 0xC03005 := s.rd_passState (by decide)
  rw [s.endPause_eq, State.rd_loadStore _ objPersist_handover.2]
  split
  · exact hresumed
  · exact (State.rd_inc_ne _ (by decide)).trans hresumed

/-- A handover whose core goes on is counted (R438). -/
theorem State.rd_endPause_count {s : State} (h : s.rd 0xC03004 + 1 < 2 ^ 32) : (s.endPause false).rd 0xC03004 = s.rd 0xC03004 + 1 := by
  have hresumed : (s.resumed false).rd 0xC03004 = s.rd 0xC03004 := s.rd_passState (by decide)
  rw [s.endPause_eq, State.rd_loadStore _ objPersist_handover.1, if_neg (by decide), State.inc, State.addTo, objBits_handovers, hresumed, if_pos h]
  exact State.rd_wr_self _ _ _

/-- The state in which a pause begins (R438). -/
def State.pausing (s : State) (n : Nat) (back : Bool) : State :=
  { s.wr 0xC03005 n with update := { s.update with handover := .paused (s.nowNs + 1000 * n) back } }

theorem State.beginPause_eq (s : State) (us : Nat) (back : Bool) :
    s.beginPause us back = if s.ticking then s.pausing (min 2000 us) back else (s.pausing (min 2000 us) back).endPause back := rfl

theorem State.pausing_fields (s : State) (n : Nat) (back : Bool) : (s.pausing n back).bootNow = s.bootNow ∧ (s.pausing n back).rd 0xC03005 = n ∧
    (s.pausing n back).rd 0xC03004 = s.rd 0xC03004 ∧ (s.pausing n back).update.runB = s.update.runB ∧
    (s.pausing n back).update.handover = .paused (s.nowNs + 1000 * n) back :=
  ⟨rfl, State.rd_wr_self s 0xC03005 n, State.rd_wr_ne s n (by decide), rfl, rfl⟩

/-- Where beats exist a pause begins; where none do the other core goes on at once (R438, R440). -/
theorem State.beginPause_fields (s : State) (us : Nat) (back : Bool) :
    (s.beginPause us back).rd 0xC03005 = min 2000 us ∧ (s.beginPause us back).bootNow = s.bootNow ∧
    (s.ticking = true → (s.beginPause us back).update.handover = .paused (s.nowNs + 1000 * min 2000 us) back ∧
      (s.beginPause us back).update.runB = s.update.runB) ∧
    (s.ticking = false → (s.beginPause us back).update.handover = (if back then .idle else .trial) ∧
      (s.beginPause us back).update.runB = (if back then !s.update.runB else s.bootNow.fwB) ∧
      (back = false → s.rd 0xC03004 + 1 < 2 ^ 32 → (s.beginPause us back).rd 0xC03004 = s.rd 0xC03004 + 1)) := by
  obtain ⟨hboot, hlen, hcount, hrun, hover⟩ := s.pausing_fields (min 2000 us) back
  rw [s.beginPause_eq]
  cases ht : s.ticking
  case true => exact ⟨hlen, hboot, fun _ => ⟨hover, hrun⟩, nofun⟩
  case false =>
    obtain ⟨hhand, hcore, -, -, -, -, hnow⟩ := (s.pausing (min 2000 us) back).endPause_fields back
    rw [if_neg (by decide)]
    refine ⟨(State.rd_endPause_length _ _).trans hlen, hnow.trans hboot, nofun, fun _ => ⟨hhand, ?_, ?_⟩⟩
    · rw [hcore, hrun, hboot]
    · rintro rfl hroom
      rw [State.rd_endPause_count (by rw [hcount]; exact hroom), hcount]

theorem State.pauseAtBeat_paused {s : State} {u : Nat} {back : Bool} (h : s.update.handover = .paused u back) :
    s.pauseAtBeat = if u ≤ s.nowNs then s.endPause back else s := by
  simp only [State.pauseAtBeat, h]

/-! The core that comes, and the one that goes back (R438, R440). -/

theorem State.coreReady_starts {s : State} (hs : s.odServed = true) (hh : s.update.handover = .starting) (pause : Nat) :
    s.coreReady true pause = (s.startStore (s.fwSlot s.bootNow.fwB).od).beginPause pause false := by
  simp [State.coreReady, hs, hh]

theorem State.coreReady_fails {s : State} (hs : s.odServed = true) (hh : s.update.handover = .starting) (pause : Nat) :
    s.coreReady false pause = ({ s with update := { s.update with handover := .idle } } : State).revertTrial := by
  simp [State.coreReady, hs, hh]

theorem State.heartbeatMissed_trial {s : State} (hs : s.odServed = true) (hh : s.update.handover = .trial) :
    s.heartbeatMissed = ((s.revertTrial.tookFree).raiseOpen .mgt 0x00 0x77).beginPause (s.revertTrial.freeNat 11 % 2001) true := by
  simp [State.heartbeatMissed, hs, hh]

theorem State.rd_startStore_count {s : State} (od : Nat) : (s.startStore od).rd 0xC03004 = s.rd 0xC03004 := by
  have hset (t : State) (b : BootRec) (o : Nat) : (t.setBoot b).rd o = t.rd o := by
    obtain ⟨_, _, _, h⟩ := t.setBoot_frame b
    rw [h]
    rfl
  have hswitch (c : StoreCopy) : (s.switchStore c).rd 0xC03004 = s.rd 0xC03004 := hset _ _ _
  unfold State.startStore
  dsimp only
  split
  · rfl
  split
  · exact (State.rd_foldl_keeps (fun t o => t.rd_raise _ _ _ _ (by decide) (by decide)) _ _).trans (hswitch _)
  split
  · exact (State.rd_wr_ne _ _ (by decide)).trans (hswitch _)
  split
  · exact State.rd_addTo_ne _ _ (by decide)
  · rfl

/-- A core that is ready takes over after the pause, or at once where no beats exist (R438). -/
theorem State.coreReady_true {s : State} (hs : s.odServed = true) (hh : s.update.handover = .starting) (hseq : s.update.governing.2.seq + 1 < 2 ^ 32)
    (pause : Nat) :
    ∃ t, s.coreReady true pause = t ∧ t.rd 0xC03005 = min 2000 pause ∧ t.bootNow.fwB = s.bootNow.fwB ∧ t.bootNow.trial = s.bootNow.trial ∧
      t.bootNow.started = s.bootNow.started ∧
      (s.ticking = true → t.update.handover = .paused (s.nowNs + 1000 * min 2000 pause) false ∧ t.update.runB = s.update.runB) ∧
      (s.ticking = false → t.update.handover = .trial ∧ t.update.runB = s.bootNow.fwB ∧
        (s.rd 0xC03004 + 1 < 2 ^ 32 → t.rd 0xC03004 = s.rd 0xC03004 + 1)) := by
  have hview := State.trialView_startStore hseq (s.fwSlot s.bootNow.fwB).od
  have hcount := s.rd_startStore_count (s.fwSlot s.bootNow.fwB).od
  obtain ⟨u, hu⟩ : ∃ u, u = s.startStore (s.fwSlot s.bootNow.fwB).od := ⟨_, rfl⟩
  rw [← hu] at hview hcount
  simp only [State.trialView, Prod.mk.injEq] at hview
  obtain ⟨⟨hfw, htrial, hstarted⟩, -, hrun, hnow, htick⟩ := hview
  obtain ⟨hlen, hboot, hbeats, hnone⟩ := u.beginPause_fields pause false
  rw [hnow, hrun, htick] at hbeats
  rw [hfw, htick, hcount] at hnone
  rw [State.coreReady_starts hs hh, ← hu]
  refine ⟨_, rfl, hlen, ?_, ?_, ?_, hbeats, fun ht => ?_⟩
  · rw [hboot, hfw]
  · rw [hboot, htrial]
  · rw [hboot, hstarted]
  · obtain ⟨hhand, hcore, hplus⟩ := hnone ht
    exact ⟨hhand, hcore, hplus rfl⟩

/-- One that fails reverts the trial, and the core that serves goes on (R438, R442). -/
theorem State.coreReady_false {s : State} (hs : s.odServed = true) (hh : s.update.handover = .starting) (hseq : s.update.governing.2.seq + 2 < 2 ^ 32)
    (pause : Nat) :
    (s.coreReady false pause).update.handover = .idle ∧ (s.coreReady false pause).update.runB = s.update.runB ∧
      (s.coreReady false pause).bootNow.fwB = (!s.bootNow.fwB) ∧ (s.coreReady false pause).bootNow.trial = false := by
  have hview := State.trialView_revertTrial (s := { s with update := { s.update with handover := .idle } }) hseq
  rw [← State.coreReady_fails hs hh pause] at hview
  simp only [State.trialView, Prod.mk.injEq] at hview
  obtain ⟨⟨hfw, htrial, -⟩, hhand, hrun, -⟩ := hview
  exact ⟨hhand, hrun, hfw, htrial⟩

/-- A heartbeat missed reverts the trial, and the outgoing core goes on after a pause, or at once where no beats exist (R440). -/
theorem State.heartbeatMissed_fields {s : State} (hs : s.odServed = true) (hh : s.update.handover = .trial)
    (hseq : s.update.governing.2.seq + 2 < 2 ^ 32) :
    ∃ t, s.heartbeatMissed = t ∧ t.bootNow.fwB = (!s.bootNow.fwB) ∧ t.bootNow.trial = false ∧ t.rd 0xC03005 ≤ 2000 ∧
      (s.ticking = true → t.update.handover = .paused (s.nowNs + 1000 * t.rd 0xC03005) true ∧ t.update.runB = s.update.runB) ∧
      (s.ticking = false → t.update.handover = .idle ∧ t.update.runB = !s.update.runB) := by
  obtain ⟨u, hu⟩ : ∃ u, u = s.revertTrial.tookFree.raiseOpen .mgt 0x00 0x77 := ⟨_, rfl⟩
  have hview : u.trialView = ((!s.bootNow.fwB, false, s.bootNow.started), s.update.handover, s.update.runB, s.nowNs, s.ticking) := by
    rw [hu, State.raiseOpen, State.trialView_raise]
    exact State.trialView_revertTrial hseq
  simp only [State.trialView, Prod.mk.injEq] at hview
  obtain ⟨⟨hfw, htrial, -⟩, -, hrun, hnow, htick⟩ := hview
  obtain ⟨us, hus⟩ : ∃ us, us = s.revertTrial.freeNat 11 % 2001 := ⟨_, rfl⟩
  obtain ⟨hlen, hboot, hbeats, hnone⟩ := u.beginPause_fields us true
  rw [hnow, hrun, htick, ← hlen] at hbeats
  rw [hrun, htick] at hnone
  rw [State.heartbeatMissed_trial hs hh, ← hu, ← hus]
  refine ⟨_, rfl, ?_, ?_, ?_, hbeats, fun ht => ?_⟩
  · rw [hboot, hfw]
  · rw [hboot, htrial]
  · rw [hlen]
    exact Nat.min_le_left _ _
  · obtain ⟨hhand, hcore, -⟩ := hnone ht
    exact ⟨hhand, hcore⟩

/-! The trial (R435, R438). -/

theorem State.onTrial_iff (s : State) : s.onTrial = true ↔ s.bootNow.trial = true ∧ s.bootNow.started = true ∧ s.update.runB = s.bootNow.fwB := by
  simp [State.onTrial, and_assoc]

theorem State.confirm_idle {s : State} (h : s.onTrial = false) : s.confirm = s := by simp [State.confirm, h]

/-- A firmware confirmed is no more on trial, and the outgoing core is released (R435, R440). -/
theorem State.confirm_fields {s : State} (h : s.onTrial = true) (hseq : s.update.governing.2.seq + 1 < 2 ^ 32) :
    s.confirm.bootNow.trial = false ∧ s.confirm.bootNow.fwB = s.bootNow.fwB ∧ s.confirm.update.runB = s.update.runB ∧
      (s.update.handover = .trial → s.confirm.update.handover = .idle) := by
  obtain ⟨u, hu⟩ : ∃ u, u = s.setBoot { s.bootNow with trial := false } := ⟨_, rfl⟩
  have heq : s.confirm = { u with update := { u.update with
      handover := if s.update.handover = .trial then .idle else s.update.handover
      secRaised := max u.update.secRaised (min 64 (s.fwSlot s.bootNow.fwB).sec)
      idleStore := if s.update.oldStore then {} else u.update.idleStore
      oldStore := false } } := by
    subst hu
    simp only [State.confirm, h, if_true]
  have hview := State.trialView_setBoot hseq { s.bootNow with trial := false }
  rw [← hu] at hview
  simp only [State.trialView, Prod.mk.injEq] at hview
  obtain ⟨⟨hfw, htrial, -⟩, -, hrun, -⟩ := hview
  rw [heq]
  exact ⟨htrial, hfw, hrun, fun hh => if_pos hh⟩

theorem State.trialExpiry_eq {s : State} (hs : s.odServed = true) (hm : s.stagingMode = true) : s.trialExpiry = s.confirm := by
  simp [State.trialExpiry, hs, hm]

theorem State.trialExpiry_idle {s : State} (h : s.onTrial = false) : s.trialExpiry = s := by simp [State.trialExpiry, State.confirm_idle h]

/-- The state in which a handover starts: its trial has started (R438). -/
def State.handingOver (s : State) : State :=
  { s.setBoot { s.bootNow with started := true } with
    update := { (s.setBoot { s.bootNow with started := true }).update with handover := .starting } }

theorem State.handingOver_fields {s : State} (hseq : s.update.governing.2.seq + 1 < 2 ^ 32) : s.handingOver.update.handover = .starting ∧
    s.handingOver.bootNow.started = true ∧ s.handingOver.bootNow.trial = s.bootNow.trial ∧ s.handingOver.bootNow.fwB = s.bootNow.fwB ∧
    s.handingOver.update.runB = s.update.runB := by
  have hview := State.trialView_setBoot hseq { s.bootNow with started := true }
  simp only [State.trialView, Prod.mk.injEq] at hview
  obtain ⟨⟨hfw, htrial, hstarted⟩, -, hrun, -⟩ := hview
  exact ⟨rfl, hstarted, htrial, hfw, hrun⟩

/-- A handover asked for with its feature, with none that runs: what it comes to (R438). -/
theorem State.startHandover_eq {s : State} (hf : s.feature 96 = true) (hh : s.update.handover = .idle) : s.startHandover =
    if s.bootNow.trial = false ∨ s.bootNow.started = true then refusedRes s 0x06
    else if s.sleep.back ≠ none then refusedRes s 0x08 else okRes s.handingOver := by
  have hdef : s.startHandover = if !(s.feature 96) then errRes s 0x02 else if s.update.handover != .idle then refusedRes s 0x07
      else if !(s.bootNow.trial && !s.bootNow.started) then refusedRes s 0x06
      else if s.sleep.back.isSome then refusedRes s 0x08 else okRes s.handingOver := rfl
  rw [hdef, hf, hh]
  generalize s.handingOver = t
  cases s.bootNow.trial <;> cases s.bootNow.started <;> cases s.sleep.back <;> rfl

end Sys2Proof.Machine
end

section
/-!
PROOFS. Isolation, return and test of a part (R446 to R450), and the statement about them and about trials and handovers.
-/
namespace Sys2Proof.Machine

/-! Parts named, and the boundary named for one. -/

theorem objBits_parts : objBits 0xC05001 = 64 ∧ objBits 0xC05002 = 64 ∧ objBits 0xC05003 = 8 := by decide +kernel

/-- A write that names a boundary for a part takes it whole. -/
theorem exec_partAt {s : State} {h : OdHdr} {v : Nat} {c : Instr} {o : Nat} {back : Bool} (hv : v < 2 ^ 64)
    (hc : (c = .isolateAtCycle h v ∧ o = 0xC05001 ∧ back = false) ∨ (c = .returnAtCycle h v ∧ o = 0xC05002 ∧ back = true)) :
    exec c s = .next (s.odSet h o v (fun t => if back then t.returnAt v else t.isolateAt v)) ∧ modeChecked o ∧
      ∀ t : State, t.commandMode o (numBytes o v) = t.stagingMode := by
  rcases hc with ⟨rfl, rfl, rfl⟩ | ⟨rfl, rfl, rfl⟩
  · refine ⟨?_, .inr (.inl rfl), fun t => rfl⟩
    show Host.Outcome.next (s.odSet h 0xC05001 v (fun t => t.isolateAt (v % 2 ^ objBits 0xC05001))) = _
    rw [objBits_parts.1, Nat.mod_eq_of_lt hv]
    rfl
  · refine ⟨?_, .inr (.inr (.inl rfl)), fun t => rfl⟩
    show Host.Outcome.next (s.odSet h 0xC05002 v (fun t => t.returnAt (v % 2 ^ objBits 0xC05002))) = _
    rw [objBits_parts.2.1, Nat.mod_eq_of_lt hv]
    rfl

/-- The two tests. -/
theorem exec_test {s : State} {h : OdHdr} {v : Nat} {c : Instr} (hc : (c = .testBist h ∧ v = 1) ∨ (c = .testIrstBist h ∧ v = 2)) :
    exec c s = .next (s.odSet h 0xC05003 v (fun t => t.testPart (v = 2))) := by
  rcases hc with ⟨rfl, rfl⟩ | ⟨rfl, rfl⟩ <;> rfl

/-- The conditions on a part in a mode with staging (R446, R447): none is broken by a part in the state wanted. -/
theorem State.partRefused_eq {s : State} (hm : s.stagingMode = true) (isolated sleepMatters : Bool) : s.partRefused isolated sleepMatters =
    if partCode (s.rd 0xC05000) = false then some (refusedRes s 0x01)
    else if sleepMatters = true ∧ s.sleep.back ≠ none then some (refusedRes s 0x08)
    else if s.partIsolated (s.rd 0xC05000) ≠ isolated then some (refusedRes s 0x03) else none := by
  simp only [State.partRefused, hm, State.partNamed, Bool.not_true, Bool.false_eq_true, if_false, Bool.not_eq_true', Bool.and_eq_true,
    Option.isSome_iff_ne_none, bne_iff_ne]

/-- The effect of a write that names a boundary, while no condition is broken: the boundary, where none is near. -/
theorem State.boundaryNamed_eq {s : State} {v n : Nat} (hn : n = if v = 0 then s.cycle + 2 else v) (prev : Option Nat) :
    s.boundaryNamed v prev = if n < s.cycle + 2 ∨ ∃ k, prev = some k ∧ k < s.cycle + 2 then none else some n := by
  subst hn
  cases prev with
  | none =>
    simp only [State.boundaryNamed, Bool.or_eq_true, Option.any_none, decide_eq_true_eq, Bool.false_eq_true, reduceCtorEq, false_and, exists_const]
    rfl
  | some k =>
    simp only [State.boundaryNamed, Bool.or_eq_true, Option.any_some, decide_eq_true_eq, Option.some.injEq, exists_eq_left']
    rfl

theorem State.returnAt_free {s : State} {v : Nat} {named : Option Nat} (hrefused : s.partRefused true true = none)
    (howes : s.rd 0xC05000 ∉ s.repair.owesBist) (hnamed : s.boundaryNamed v (mfind s.repair.returning (s.rd 0xC05000)) = named) :
    (∀ n, named = some n → s.returnAt v = stagedRes (s.setReturn (s.rd 0xC05000) n)) ∧ (named = none → s.returnAt v = refusedRes s 0x02) := by
  have hfree : s.repair.owesBist.contains (s.rd 0xC05000) = false := by simpa using howes
  refine ⟨fun n hn => ?_, fun hn => ?_⟩ <;>
  · rw [hn] at hnamed
    rw [State.returnAt, hrefused, Option.getD_none, State.partNamed, hfree, hnamed]
    rfl

theorem State.isolateAt_free {s : State} {v : Nat} {named : Option Nat} (hrefused : s.partRefused false true = none)
    (hnamed : s.boundaryNamed v (mfind s.repair.isolating (s.rd 0xC05000)) = named) :
    (∀ n, named = some n →
      s.isolateAt v = stagedRes { s with repair := { s.repair with isolating := minsert s.repair.isolating (s.rd 0xC05000) n } }) ∧
    (named = none → s.isolateAt v = refusedRes s 0x02) := by
  refine ⟨fun n hn => ?_, fun hn => ?_⟩ <;>
  · rw [hn] at hnamed
    rw [State.isolateAt, hrefused, Option.getD_none, State.partNamed, hnamed]

/-! A return set, and one withdrawn (R449). -/

theorem State.armReturn_repair (s : State) (c : Nat) : (s.armReturn c).repair = s.repair :=
  State.foldl_keeps State.repair (fun _ _ => by rfl) _ _

theorem State.disarmReturn_repair (s : State) (c : Nat) : (s.disarmReturn c).repair = s.repair :=
  State.foldl_keeps State.repair (fun _ _ => by rfl) _ _

/-- A return withdrawn takes the part off the returns, and leaves the rest of what is known of parts. -/
theorem State.dropReturn_repair (s : State) (p : Nat) : mfind (s.dropReturn p).repair.returning p = none ∧
    (s.dropReturn p).repair.testing = s.repair.testing ∧ (s.dropReturn p).repair.owesBist = s.repair.owesBist := by
  unfold State.dropReturn
  split
  · split
    · rw [State.disarmReturn_repair]
      exact ⟨by simp [mfind_merase], rfl, rfl⟩
    · exact ⟨by simp [mfind_merase], rfl, rfl⟩
  next hnone => exact ⟨hnone, rfl, rfl⟩

theorem State.dropReturn_none {s : State} {p : Nat} (h : mfind s.repair.returning p = none) : s.dropReturn p = s := by
  simp only [State.dropReturn, h]

/-- Of a part that is no cluster a return set is kept, and no more. -/
theorem State.setReturn_plain {s : State} {p : Nat} (n : Nat) (h : mfind s.repair.returning p = none) (hp : p < 0x20 ∨ 0x28 ≤ p) :
    s.setReturn p n = { s with repair := { s.repair with returning := minsert s.repair.returning p n } } := by
  have hno : ¬ (decide (0x20 ≤ p) && decide (p ≤ 0x27)) = true := by
    simp only [Bool.and_eq_true, decide_eq_true_eq]
    omega
  rw [State.setReturn, if_neg hno, State.dropReturn_none h]

theorem State.setReturn_find (s : State) (p n : Nat) : mfind (s.setReturn p n).repair.returning p = some n := by
  unfold State.setReturn
  dsimp only
  split
  · rw [State.armReturn_repair]
    simp [mfind_minsert]
  · simp [mfind_minsert]

/-! A test begun, and one ended (R448, R449). -/

/-- What is known of the parts under test, and the objects. -/
def State.partTests (s : State) : List Nat × List Nat × NMap Nat × NMap Nat := (s.repair.testing, s.repair.owesBist, s.repair.returning, s.objs)

theorem State.savePrograms_partTests (s : State) (c : Nat) : (s.savePrograms c).partTests = s.partTests := by
  unfold State.savePrograms
  refine State.foldl_keeps State.partTests (fun t q => ?_) _ _
  split <;> rfl

/-- What is under test is none of the cells of an island. -/
theorem islandObj_testState (p : Nat) : islandObj p 0xC05004 = false := by
  simp only [islandObj]
  generalize objPersist 0xC05004 = k
  by_cases hport : 0x10 ≤ p ∧ p ≤ 0x13
  · simp [hport]
    omega
  by_cases hcluster : 0x20 ≤ p ∧ p ≤ 0x27
  · simp [hport, hcluster]
    omega
  · simp [hport, hcluster]

theorem State.resetObjs_leaves (s : State) (p : Nat) : (s.resetObjs p).rd 0xC05004 = s.rd 0xC05004 ∧ (s.resetObjs p).repair = s.repair := by
  refine ⟨?_, rfl⟩
  rw [State.rd, State.resetObjs, mfind_filter _ (fun o => !(islandObj p o)), if_pos (by simp [islandObj_testState])]
  rfl

/-- The reset of a part's cells leaves what is known of its test. -/
theorem State.resetPart_leaves (s : State) (p : Nat) : (s.resetPart p).rd 0xC05004 = s.rd 0xC05004 ∧
    (s.resetPart p).repair.testing = s.repair.testing ∧ (s.resetPart p).repair.owesBist = s.repair.owesBist ∧
    (s.resetPart p).repair.returning = s.repair.returning := by
  obtain ⟨hobjs, hrepair⟩ := s.resetObjs_leaves p
  rw [← hobjs, ← hrepair]
  unfold State.resetPart
  dsimp only
  generalize s.resetObjs p = r
  split
  · exact ⟨rfl, rfl, rfl, rfl⟩
  split
  · have hsaved := r.savePrograms_partTests (p - 0x20)
    generalize r.savePrograms (p - 0x20) = u at *
    simp only [State.partTests, Prod.mk.injEq] at hsaved
    obtain ⟨htest, howes, hret, hall⟩ := hsaved
    exact ⟨(State.rd_of_objs (t := u.resetCluster (p - 0x20)) (s := u) rfl _).trans (State.rd_of_objs hall _), htest, howes, hret⟩
  split
  · exact ⟨rfl, rfl, rfl, rfl⟩
  split
  · exact ⟨rfl, rfl, rfl, rfl⟩
  · exact ⟨rfl, rfl, rfl, rfl⟩

theorem State.resetCause_repair (s : State) (k : ResetKind) (source mode flags frames ods : Nat) :
    (s.resetCause k source mode flags frames ods).repair = s.repair := by
  unfold State.resetCause
  dsimp only
  obtain ⟨_, _, h⟩ := State.addTo_frame ((s.wrB (0x101000 + s.rd 0x101008 % 8)
    (natLE 1 k.code ++ natLE 1 source ++ natLE 1 mode ++ natLE 1 flags ++ natLE 4 s.modes.aonCount ++ natLE 4 s.modes.postedSec ++ natLE 2 frames ++
      natLE 2 ods)).wr 0x101008 ((s.rd 0x101008 % 8 + 1) % 8)) (0x101100 + k.code) 1
  rw [State.inc, h]
  rfl

/-- A part under test after those that run, with its return withdrawn (R448, R449). -/
def State.underTest (s : State) (p : Nat) : State :=
  { (s.dropReturn p).wr 0xC05004 1 with
    repair := { (s.dropReturn p).repair with testing := (s.dropReturn p).repair.testing ++ [p] } }

theorem State.underTest_fields (s : State) (p : Nat) : (s.underTest p).rd 0xC05004 = 1 ∧ (s.underTest p).repair.testing = s.repair.testing ++ [p] ∧
    mfind (s.underTest p).repair.returning p = none := by
  obtain ⟨hret, htest, -⟩ := s.dropReturn_repair p
  exact ⟨State.rd_wr_self (s.dropReturn p) 0xC05004 1, congrArg (· ++ [p]) htest, hret⟩

/-- A part under test that its IRST has reset: it owes a pass (R449). -/
def State.resetUnderTest (s : State) (p : Nat) : State :=
  let t := ((s.underTest p).resetCause .irst p (modeCode (s.underTest p).mode) (b2n (s.underTest p).inBrace) 0xFFFF 0xFFFF).resetPart p
  { t with repair := { t.repair with owesBist := if t.repair.owesBist.contains p then t.repair.owesBist else p :: t.repair.owesBist } }

theorem State.resetUnderTest_fields (s : State) (p : Nat) : (s.resetUnderTest p).rd 0xC05004 = 1 ∧
    (s.resetUnderTest p).repair.testing = s.repair.testing ++ [p] ∧ mfind (s.resetUnderTest p).repair.returning p = none ∧
    p ∈ (s.resetUnderTest p).repair.owesBist := by
  obtain ⟨hstate, htest, hret⟩ := s.underTest_fields p
  obtain ⟨u, hu⟩ : ∃ u, u = (s.underTest p).resetCause .irst p (modeCode (s.underTest p).mode) (b2n (s.underTest p).inBrace) 0xFFFF 0xFFFF := ⟨_, rfl⟩
  have hcause : u.rd 0xC05004 = 1 := by rw [hu, State.rd_resetCause _ _ _ _ _ _ _ (by decide), hstate]
  have hrepair : u.repair = (s.underTest p).repair := by rw [hu, State.resetCause_repair]
  obtain ⟨hrd, htesting, -, hreturning⟩ := u.resetPart_leaves p
  rw [State.resetUnderTest, ← hu]
  refine ⟨hrd.trans hcause, ?_, ?_, ?_⟩
  · exact htesting.trans (by rw [hrepair, htest])
  · dsimp only
    rw [hreturning, hrepair, hret]
  · dsimp only
    split
    next hin => exact List.contains_iff_mem.mp hin
    next => exact List.mem_cons_self

/-- A test asked for, of a part that can be tested (R448). -/
theorem State.testPart_free {s : State} {irst : Bool} (hrefused : s.partRefused true false = none) (hok : irst = false ∨ s.rd 0xC05000 < 0x80)
    (hnew : s.rd 0xC05000 ∉ s.repair.testing) :
    s.testPart irst = okRes (if irst then s.resetUnderTest (s.rd 0xC05000) else s.underTest (s.rd 0xC05000)) := by
  have hdef : s.testPart irst = (s.partRefused true false).getD
      (if irst && 0x80 ≤ s.rd 0xC05000 then refusedRes s 0x01
       else if s.repair.testing.contains (s.rd 0xC05000) then refusedRes s 0x0B
       else if irst then okRes (s.resetUnderTest (s.rd 0xC05000)) else okRes (s.underTest (s.rd 0xC05000))) := rfl
  have hcan : ¬ (irst && 0x80 ≤ s.rd 0xC05000) = true := by
    simp only [Bool.and_eq_true, decide_eq_true_eq, not_and]
    rintro rfl
    simpa using hok
  rw [hdef, hrefused, Option.getD_none, if_neg hcan, if_neg (by simpa using hnew)]
  cases irst <;> rfl

/-- One that is not: a controller has no IRST, and a part is tested once at a time. -/
theorem State.testPart_not {s : State} {irst : Bool} (hrefused : s.partRefused true false = none) :
    (irst = true → 0x80 ≤ s.rd 0xC05000 → s.testPart irst = refusedRes s 0x01) ∧
    (irst = false ∨ s.rd 0xC05000 < 0x80 → s.rd 0xC05000 ∈ s.repair.testing → s.testPart irst = refusedRes s 0x0B) := by
  have hdef : s.testPart irst = (s.partRefused true false).getD
      (if irst && 0x80 ≤ s.rd 0xC05000 then refusedRes s 0x01
       else if s.repair.testing.contains (s.rd 0xC05000) then refusedRes s 0x0B
       else if irst then okRes (s.resetUnderTest (s.rd 0xC05000)) else okRes (s.underTest (s.rd 0xC05000))) := rfl
  rw [hdef, hrefused, Option.getD_none]
  refine ⟨fun hi hp => if_pos (by simp [hi, hp]), fun hok hin => ?_⟩
  have hcan : ¬ (irst && 0x80 ≤ s.rd 0xC05000) = true := by
    simp only [Bool.and_eq_true, decide_eq_true_eq, not_and]
    rintro rfl
    simpa using hok
  rw [if_neg hcan, if_pos (by simpa using hin)]

theorem State.bistComplete_none {s : State} (h : s.repair.testing = []) (ok : Bool) : s.bistComplete ok = s := by
  simp only [State.bistComplete, h]

/-- The end of the oldest test (R448, R449). -/
theorem State.bistComplete_ends {s : State} {p : Nat} {more : List Nat} (h : s.repair.testing = p :: more) (hs : s.odServed = true) (ok : Bool) :
    ∃ t, s.bistComplete ok = t ∧ t.repair.testing = more ∧ t.rd 0xC05004 = (if more ≠ [] then 1 else if ok then 2 else 3) ∧
      (ok = true → p ∉ t.repair.owesBist) ∧ (ok = false → p ∈ t.repair.owesBist ∧ mfind t.repair.returning p = none) := by
  obtain ⟨u, hu⟩ : ∃ u : State, u = { s with repair := { s.repair with
    testing := more, owesBist := if ok then s.repair.owesBist.filter (fun x => x != p) else p :: s.repair.owesBist.filter (fun x => x != p) } } := ⟨_, rfl⟩
  have heq : s.bistComplete ok = (if ok then u else u.dropReturn p).wr 0xC05004 (if more != [] then 1 else if ok then 2 else 3) := by
    rw [hu]
    simp only [State.bistComplete, h, hs, if_true]
  have hcode : (if more != [] then 1 else if ok then 2 else 3) = (if more ≠ [] then 1 else if ok then 2 else 3) := by
    simp only [bne_iff_ne]
  refine ⟨_, heq, ?_, (State.rd_wr_self _ _ _).trans hcode, ?_, ?_⟩
  · cases ok
    · exact ((u.dropReturn_repair p).2.1).trans (by rw [hu])
    · rw [hu]
      rfl
  · rintro rfl
    rw [hu]
    simp
  · rintro rfl
    obtain ⟨hret, -, howes⟩ := u.dropReturn_repair p
    refine ⟨?_, hret⟩
    rw [if_neg (by decide), State.wr_repair, howes, hu]
    simp

/-! The statement. -/

theorem State.commandMode_test (s : State) (v : Nat) : s.commandMode 0xC05003 (numBytes 0xC05003 v) = s.stagingMode := rfl

theorem State.odBegun_update (s : State) (h : OdHdr) : (s.odBegun h).update = s.update := by
  unfold State.odBegun State.storeCounter
  split <;> rfl

/-- The effects of writes that name a boundary, for a part that is in the state wanted. -/
theorem State.partAt_free {s : State} {v n : Nat} (back : Bool) (hn : n = if v = 0 then s.cycle + 2 else v) (hrefused : s.partRefused back true = none) :
    (back = true → s.rd 0xC05000 ∈ s.repair.owesBist → s.returnAt v = refusedRes s 0x04) ∧
    (back = false ∨ s.rd 0xC05000 ∉ s.repair.owesBist →
      (n < s.cycle + 2 → (if back then s.returnAt v else s.isolateAt v) = refusedRes s 0x02) ∧
      (s.cycle + 2 ≤ n → (∀ k, (if back then mfind s.repair.returning (s.rd 0xC05000) else mfind s.repair.isolating (s.rd 0xC05000)) = some k → s.cycle + 2 ≤ k) →
        (if back then s.returnAt v else s.isolateAt v) = stagedRes (if back then s.setReturn (s.rd 0xC05000) n
          else { s with repair := { s.repair with isolating := minsert s.repair.isolating (s.rd 0xC05000) n } }))) := by
  have hnear (prev : Option Nat) (h : n < s.cycle + 2) : s.boundaryNamed v prev = none := (State.boundaryNamed_eq hn prev).trans (if_pos (.inl h))
  have hfar (prev : Option Nat) (h : s.cycle + 2 ≤ n) (hp : ∀ k, prev = some k → s.cycle + 2 ≤ k) : s.boundaryNamed v prev = some n := by
    refine (State.boundaryNamed_eq hn prev).trans (if_neg ?_)
    rintro (hlt | ⟨k, hk, hlt⟩)
    · omega
    · exact absurd (hp k hk) (by omega)
  cases back
  case false =>
    refine ⟨nofun, fun _ => ⟨fun h => ?_, fun h hp => ?_⟩⟩
    · exact (State.isolateAt_free hrefused (hnear _ h)).2 rfl
    · exact (State.isolateAt_free hrefused (hfar _ h hp)).1 n rfl
  case true =>
    refine ⟨fun _ howes => ?_, fun howes => ⟨fun h => ?_, fun h hp => ?_⟩⟩
    · simp [State.returnAt, hrefused, State.partNamed, howes]
    · exact (State.returnAt_free hrefused (howes.resolve_left nofun) (hnear _ h)).2 rfl
    · exact (State.returnAt_free hrefused (howes.resolve_left nofun) (hfar _ h hp)).1 n rfl

/-- A part that meets the conditions of no test, isolation or return (R446, R447). -/
theorem State.partRefused_some {s : State} {r : OdRes} {isolated sleepMatters : Bool} (h : s.partRefused isolated sleepMatters = some r) (v : Nat)
    (irst : Bool) : (isolated = false → sleepMatters = true → s.isolateAt v = r) ∧ (isolated = true → sleepMatters = true → s.returnAt v = r) ∧
      (isolated = true → sleepMatters = false → s.testPart irst = r) := by
  refine ⟨?_, ?_, ?_⟩
  · rintro rfl rfl
    simp only [State.isolateAt, h, Option.getD_some]
  · rintro rfl rfl
    simp only [State.returnAt, h, Option.getD_some]
  · rintro rfl rfl
    simp only [State.testPart, h, Option.getD_some]

/-- Settles O47: handovers, trials, isolation and return, and tests. -/
theorem trialsHandoversIsolationAndTests : Obligations.TrialsHandoversIsolationAndTests := by
  unfold Obligations.TrialsHandoversIsolationAndTests
  intro s b h part hb hpart hseq
  have hbseq : b.update.governing.2.seq + 1 < 2 ^ 32 := by
    rw [hb, State.odBegun_update]
    omega
  refine ⟨fun hpass => ⟨fun hf => ?feature, fun hf hh => ?running, fun hf hh hno => ?noTrial, fun hf hh ht hst hs => ?asleep,
      fun hf hh ht hst hs => ?starts⟩, fun ok pause hs => ⟨fun hh => ?ready, fun hh => ?notStarting, fun hh => ?missed, fun hh => ?notTrial⟩,
    fun u back hh => ⟨fun hu => ?early, fun hu => ?paused⟩, fun hpass => ?confirm, s.onTrial_iff, fun hs hm ht => ?expiry, fun ht => ?noExpiry,
    fun v n c o back hv hn hc => ?parts, fun c v hc => ?tests, fun ok p more ht hs => ?bist,
    fun ok ht => congrArg Host.Outcome.next (State.bistComplete_none ht ok)⟩
  case feature => exact State.odSet_errs hb hpass (if_pos (by simp [hf])) (by decide) (by decide)
  case running => exact State.odSet_refuses hb hpass ((if_neg (by simp [hf])).trans (if_pos (by simpa using hh)))
  case noTrial => exact State.odSet_refuses hb hpass ((State.startHandover_eq hf hh).trans (if_pos hno))
  case asleep =>
    exact State.odSet_refuses hb hpass ((State.startHandover_eq hf hh).trans ((if_neg (by simp [ht, hst])).trans (if_pos hs)))
  case starts =>
    obtain ⟨hover, hstarted, htrial, hfw, hrun⟩ := State.handingOver_fields hbseq
    exact ⟨_, State.odSet_done hb hpass ((State.startHandover_eq hf hh).trans ((if_neg (by simp [ht, hst])).trans (if_neg (by simp [hs])))), hover,
      hstarted, htrial.trans ht, hfw, hrun⟩
  case ready =>
    cases ok
    case true =>
      obtain ⟨t, ht, hfields⟩ := State.coreReady_true hs hh (by omega) pause
      exact ⟨t, congrArg Host.Outcome.next ht, fun _ => hfields, nofun⟩
    case false => exact ⟨_, rfl, nofun, fun _ => State.coreReady_false hs hh (by omega) pause⟩
  case notStarting => exact congrArg Host.Outcome.next (by simp [State.coreReady, hh])
  case missed =>
    obtain ⟨t, ht, hfields⟩ := State.heartbeatMissed_fields hs hh (by omega)
    exact ⟨t, congrArg Host.Outcome.next ht, hfields⟩
  case notTrial => exact congrArg Host.Outcome.next (by simp [State.heartbeatMissed, hh])
  case early => exact (State.pauseAtBeat_paused hh).trans (if_neg (by omega))
  case paused =>
    obtain ⟨hhand, hrun, hcheck, hbatch, hasm, hprom, hboot⟩ := s.endPause_fields back
    rw [(State.pauseAtBeat_paused hh).trans (if_pos hu)]
    exact ⟨hhand, hrun, hcheck, hbatch, hasm, hprom, hboot, fun hback hroom => by rw [hback]; exact State.rd_endPause_count hroom⟩
  case confirm =>
    refine ⟨b.confirm, State.odSet_done hb hpass rfl, ?_⟩
    cases ht : b.onTrial
    case false =>
      rw [State.confirm_idle ht]
      exact ⟨nofun, fun _ => rfl, rfl, rfl⟩
    case true =>
      obtain ⟨htrial, hfw, hrun, hhand⟩ := State.confirm_fields ht hbseq
      exact ⟨fun _ => ⟨htrial, hhand⟩, nofun, hfw, hrun⟩
  case expiry =>
    obtain ⟨htrial, hfw, hrun, hhand⟩ := State.confirm_fields ht (by omega)
    exact ⟨_, congrArg Host.Outcome.next (State.trialExpiry_eq hs hm), htrial, hfw, hrun, hhand⟩
  case noExpiry => exact congrArg Host.Outcome.next (State.trialExpiry_idle ht)
  case parts =>
    obtain ⟨hexec, hchecked, hmode⟩ := exec_partAt (s := s) hv hc
    rw [hexec]
    have hstaging (hpass : s.numPasses h o v = true) : b.stagingMode = true :=
      (hmode b).symm.trans (State.commandMode_of_numPasses hb hchecked hpass)
    have hrefuses {d : Nat} (hr : b.partRefused back true = some (refusedRes b d)) :
        (if back then b.returnAt v else b.isolateAt v) = refusedRes b d := by
      obtain ⟨hisolate, hreturn, -⟩ := State.partRefused_some hr v false
      cases back
      · exact hisolate rfl rfl
      · exact hreturn rfl rfl
    refine ⟨fun hreach hm => ?_, fun hpass hcode => ?_, fun hpass hcode hsleep => ?_, fun hpass hcode hsleep => ⟨fun hstate => ?_, fun hstate => ?_⟩⟩
    · exact State.odSet_barred hb hreach (State.accessError_modeChecked hchecked ((hmode b).trans hm)) (by decide)
    · exact State.odSet_refuses hb hpass (hrefuses ((State.partRefused_eq (hstaging hpass) _ _).trans (if_pos (hpart ▸ hcode))))
    · have hknown : ¬ partCode (b.rd 0xC05000) = false := by simp [← hpart, hcode]
      exact State.odSet_refuses hb hpass (hrefuses ((State.partRefused_eq (hstaging hpass) _ _).trans ((if_neg hknown).trans (if_pos ⟨rfl, hsleep⟩))))
    · have hknown : ¬ partCode (b.rd 0xC05000) = false := by simp [← hpart, hcode]
      exact State.odSet_refuses hb hpass (hrefuses ((State.partRefused_eq (hstaging hpass) _ _).trans ((if_neg hknown).trans
        ((if_neg (by simp [hsleep])).trans (if_pos (hpart ▸ hstate))))))
    · have hfree : b.partRefused back true = none := by
        rw [State.partRefused_eq (hstaging hpass), ← hpart, hcode, hstate, hsleep]
        simp
      obtain ⟨howed, hopen⟩ := State.partAt_free back hn hfree
      rw [← hpart] at howed hopen
      refine ⟨fun hback howes => ?_, fun hok hnear => ?_, fun hback hnone hfar => ?_, fun hback howes hnone hfar hplain => ?_, fun hback howes hprev hfar => ?_⟩
      · exact State.odSet_refuses hb hpass ((if_pos hback).trans (howed hback howes))
      · exact State.odSet_refuses hb hpass ((hopen hok).1 hnear)
      · obtain ⟨-, hdone⟩ := hopen (.inl hback)
        subst hback
        exact State.odSet_staged hb hpass (hdone hfar (fun k hk => absurd (hnone.symm.trans hk) nofun))
      · obtain ⟨-, hdone⟩ := hopen (.inr howes)
        subst hback
        have heff := hdone hfar (fun k hk => absurd (hnone.symm.trans hk) nofun)
        rw [if_pos rfl, if_pos rfl, State.setReturn_plain n hnone hplain] at heff
        exact State.odSet_staged hb hpass heff
      · obtain ⟨-, hdone⟩ := hopen (.inr howes)
        subst hback
        exact ⟨_, State.odSet_staged hb hpass (hdone hfar hprev), State.setReturn_find _ _ _⟩
  case tests =>
    rw [exec_test hc]
    have hstaging (hpass : s.numPasses h 0xC05003 v = true) : b.stagingMode = true :=
      (b.commandMode_test v).symm.trans (State.commandMode_of_numPasses hb (.inr (.inr (.inr (.inl rfl)))) hpass)
    have hrefuses {d : Nat} (hr : b.partRefused true false = some (refusedRes b d)) : b.testPart (v = 2) = refusedRes b d :=
      (State.partRefused_some hr 0 _).2.2 rfl rfl
    refine ⟨fun hreach hm => ?_, fun hpass hcode => ?_, fun hpass hcode => ⟨fun hstate => ?_, fun hstate h2 hbus => ?_, fun hstate hok => ⟨fun hin => ?_, fun hnew => ?_⟩⟩⟩
    · exact State.odSet_barred hb hreach (State.accessError_modeChecked (.inr (.inr (.inr (.inl rfl)))) ((b.commandMode_test v).trans hm)) (by decide)
    · exact State.odSet_refuses hb hpass (hrefuses ((State.partRefused_eq (hstaging hpass) _ _).trans (if_pos (hpart ▸ hcode))))
    · have hknown : ¬ partCode (b.rd 0xC05000) = false := by simp [← hpart, hcode]
      exact State.odSet_refuses hb hpass (hrefuses ((State.partRefused_eq (hstaging hpass) _ _).trans ((if_neg hknown).trans
        ((if_neg (by simp)).trans (if_pos (by simp [← hpart, hstate]))))))
    all_goals
      have hfree : b.partRefused true false = none := by
        rw [State.partRefused_eq (hstaging hpass), ← hpart, hcode, hstate]
        simp
    · exact State.odSet_refuses hb hpass ((State.testPart_not hfree).1 (by simpa using h2) (hpart ▸ hbus))
    · have hcan : decide (v = 2) = false ∨ b.rd 0xC05000 < 0x80 := by
        rcases hok with rfl | hlow
        · exact .inl rfl
        · exact .inr (hpart ▸ hlow)
      exact State.odSet_refuses hb hpass ((State.testPart_not hfree).2 hcan (hpart ▸ hin))
    · have hcan : decide (v = 2) = false ∨ b.rd 0xC05000 < 0x80 := by
        rcases hok with rfl | hlow
        · exact .inl rfl
        · exact .inr (hpart ▸ hlow)
      have heff := State.testPart_free hfree hcan (hpart ▸ hnew)
      rw [← hpart] at heff
      refine ⟨_, State.odSet_done hb hpass heff, ?_⟩
      obtain ⟨hbusy, htesting, hret⟩ := b.underTest_fields part
      obtain ⟨hbusy', htesting', hret', howes'⟩ := b.resetUnderTest_fields part
      by_cases h2 : v = 2
      · rw [if_pos (by simpa using h2)]
        exact ⟨hbusy', htesting', hret', fun _ => howes'⟩
      · rw [if_neg (by simpa using h2)]
        exact ⟨hbusy, htesting, hret, fun h => absurd h h2⟩
  case bist =>
    obtain ⟨t, hend, hfields⟩ := State.bistComplete_ends ht hs ok
    exact ⟨t, congrArg Host.Outcome.next hend, hfields⟩

end Sys2Proof.Machine
end

section
/-!
PROOFS. Host reads and writes (R344 to R358): their pieces, their answers and their time limits, and the statement about them.
-/
namespace Sys2Proof.Machine

/-! What leaves the bridge as it is. -/

theorem State.inc_bridge (s : State) (o : Nat) : (s.inc o).bridge = s.bridge := by
  obtain ⟨_, _, h⟩ := s.addTo_frame o 1
  rw [State.inc, h]

theorem State.raise_bridge (s : State) (i : Island) (cls reason tag : Nat) : (s.raise i cls reason tag).bridge = s.bridge := by
  obtain ⟨_, _, _, h⟩ := s.raise_frame i cls reason tag
  rw [h]

theorem bridge_blind : SwitchBlind State.bridge where
  switch _ _ := rfl
  cells _ _ := rfl
  count s o _ := s.inc_bridge o
  raise := State.raise_bridge

theorem State.inc_out (s : State) (o : Nat) : (s.inc o).out = s.out := by
  obtain ⟨_, _, h⟩ := s.addTo_frame o 1
  rw [State.inc, h]

/-- A notice writes the pending bits of the bridge and no more of it (R360). -/
theorem State.notice_bridge (s : State) (v : Nat) : ∃ x, (s.notice v).bridge = { s.bridge with pba := x } := by
  unfold State.notice
  split
  · exact ⟨s.bridge.pba, rfl⟩
  split
  · exact ⟨s.bridge.pba, rfl⟩
  · exact ⟨_, rfl⟩

theorem State.notice_rd (s : State) (v o : Nat) : (s.notice v).rd o = s.rd o := by
  obtain ⟨_, _, h⟩ := s.notice_frame v
  rw [h]
  rfl

/-! The pieces of a host access (R346, R349). -/

/-- What the limit allows is one piece. -/
theorem chunks_one (limit : Nat → Nat) (fuel : Nat) {a n : Nat} (hn : 0 < n) (hl : n ≤ limit a) : chunks limit (fuel + 1) a n = [(a, n)] := by
  have hnil (k b : Nat) : chunks limit k b 0 = [] := by cases k <;> simp [chunks]
  have hmin : min n (max 1 (limit a)) = n := by omega
  rw [chunks, if_neg (by omega)]
  simp only [hmin, Nat.sub_self, hnil]

theorem fabPieces_one {a n : Nat} (hn : 0 < n) (hl : a % 2048 + n ≤ 2048) : fabPieces a n = [(a, n)] := chunks_one _ _ hn (by omega)

/-- An access within 2,048 bytes whose first and last byte lie in one window is one piece. -/
theorem State.hostPieces_one {s : State} {aper : Bool} {a n k : Nat} {w : Window} (hn : 0 < n) (hl : a % 2048 + n ≤ 2048)
    (hw : s.windowAt aper a = some (k, w)) (hend : (s.windowAt aper (a + n - 1)).map Prod.fst = some k) :
    s.hostPieces aper a n = some [(k, w, w.base + (a - w.off), n)] := by
  obtain ⟨⟨k', w'⟩, hlast, hk⟩ := Option.map_eq_some_iff.mp hend
  subst hk
  simp only [State.hostPieces, fabPieces_one hn hl, List.foldr_cons, List.foldr_nil, hw, hlast, if_true]

/-- An access whose first byte no window covers has none. -/
theorem State.hostPieces_none {s : State} {aper : Bool} {a n : Nat} (hn : 0 < n) (hw : s.windowAt aper a = none) : s.hostPieces aper a n = none := by
  have hcut : ∃ m l, fabPieces a n = (a, m) :: l := by
    rw [fabPieces, chunks, if_neg (by omega)]
    exact ⟨_, _, rfl⟩
  obtain ⟨m, l, hl⟩ := hcut
  rw [State.hostPieces, hl, List.foldr_cons]
  generalize List.foldr _ _ l = acc
  rw [hw]
  cases acc <;> rfl

/-! Host reads (R349, R350, R355). -/

theorem State.readRefused_eq (s : State) (tag status : Nat) : ∃ x, s.readRefused tag status =
    ({ (s.inc 0x907001) with bridge := { s.bridge with aer := x } }).emit (.hostCompletion tag status false []) := by
  refine ⟨setBit s.bridge.aer (statusError status) true, ?_⟩
  rw [State.readRefused, State.aerNote, s.inc_bridge]

/-- A read that the bridge has a place for (R355). -/
def State.roomToHold (s : State) (n tag : Nat) : Prop :=
  s.bridge.held.length < 64 ∧ s.heldBytes + n ≤ 65536 ∧ s.bridge.held.any (fun h => h.hostTag == tag) = false

/-- A bridge that is up takes up an access of up to 4,096 bytes (R349, R352). -/
theorem State.takesUp {s : State} {n : Nat} (hup : s.bridgeUp = true) (h0 : 0 < n) (hn : n ≤ 4096) :
    ¬ (!s.bridgeUp || decide (n = 0) || decide (4096 < n)) = true := by
  simp only [hup, Bool.not_true, Bool.false_or, Bool.or_eq_true, decide_eq_true_eq]
  omega

theorem State.roomToHold.taken {s : State} {n tag : Nat} (h : s.roomToHold n tag) :
    ¬ (decide (64 ≤ s.bridge.held.length) || decide (65536 < s.heldBytes + n) || s.bridge.held.any (fun h => h.hostTag == tag)) = true := by
  obtain ⟨hplaces, hbytes, htag⟩ := h
  simp only [htag, Bool.or_false, Bool.or_eq_true, decide_eq_true_eq]
  omega

/-- A read that no window covers is answered UR (R344). -/
theorem State.hostRead_uncovered {s : State} {aper : Bool} {a n tag : Nat} (hup : s.bridgeUp = true) (hin : s.isolated .hbr = false) (h0 : 0 < n)
    (hn : n ≤ 4096) (hroom : s.roomToHold n tag) (hw : s.windowAt aper a = none) : s.hostRead aper a n tag = s.readRefused tag statusUR := by
  rw [State.hostRead, if_neg (State.takesUp hup h0 hn), hin, if_neg (by decide), if_neg hroom.taken, State.hostPieces_none h0 hw]

/-- A read to an isolated bridge is answered CA (R447). -/
theorem State.hostRead_isolated {s : State} {n : Nat} (hup : s.bridgeUp = true) (hin : s.isolated .hbr = true) (h0 : 0 < n) (hn : n ≤ 4096)
    (aper : Bool) (a tag : Nat) : s.hostRead aper a n tag = s.readRefused tag statusCA := by
  rw [State.hostRead, if_neg (State.takesUp hup h0 hn), hin, if_pos rfl]

/-- A piece of a window that is not prefetchable is requested with the next tag, as it is (R349, R358). -/
theorem State.issuePiece_plain {s t : State} {total k addr n i : Nat} {w : Window} (hw : w.aperN = true) (ht : s.takeTag = (t, i)) :
    s.issuePiece total (k, w, addr, n) =
      (t.sendFrame 6 (t.newFrame (bits addr 63 54) w.cls w.flow 0x1 addr i 0 0 (zeros n)), ⟨i, k, addr, n, 0, n, 0, none⟩) := by
  simp only [State.issuePiece, hw, if_true, ht, Bool.not_true, Bool.false_and, Bool.false_eq_true, if_false, Nat.add_sub_cancel_left, Nat.sub_self]

/-- A held read whose first piece is not answered waits. -/
theorem State.returnRead_waits {s : State} {tag at_ n fuel : Nat} {p : ReadPiece} (hp : p.answer = none)
    (hnew : s.bridge.held.any (fun h => h.hostTag == tag) = false) :
    ({ s with bridge := { s.bridge with held := s.bridge.held ++ [⟨tag, at_, n, [p]⟩] } } : State).returnRead ⟨tag, at_, n, [p]⟩ (fuel + 1) =
      { s with bridge := { s.bridge with held := s.bridge.held ++ [⟨tag, at_, n, [p]⟩] } } := by
  have hkeep : (s.bridge.held ++ [(⟨tag, at_, n, [p]⟩ : HeldRead)]).map (fun x : HeldRead => if x.hostTag = tag then ⟨tag, at_, n, [p]⟩ else x) =
      s.bridge.held ++ [⟨tag, at_, n, [p]⟩] := by
    rw [List.map_append, List.map_cons, List.map_nil, if_pos rfl]
    congr 1
    refine (List.map_congr_left (fun x hx => ?_)).trans (List.map_id _)
    have hne := List.any_eq_false.mp hnew x hx
    exact if_neg (by simpa using hne)
  simp only [State.returnRead, hp, hkeep]

theorem State.takeTag_fields {s t : State} {i : Nat} (h : s.takeTag = (t, i)) :
    t = { s with bridge := { s.bridge with nextTag := t.bridge.nextTag } } := by
  simp only [State.takeTag, Prod.mk.injEq] at h
  rw [← h.1]

/-- A read of one piece of a window that is not prefetchable is held, and its request leaves (R349). -/
theorem State.hostRead_held {s t u : State} {a n tag k i addr : Nat} {w : Window} (hup : s.bridgeUp = true) (hin : s.isolated .hbr = false) (h0 : 0 < n)
    (hl : a % 2048 + n ≤ 2048) (hroom : s.roomToHold n tag) (hposted : ∀ p ∈ s.bridge.posted, p.window ≠ k) (hbusy : s.busyTags < 4096)
    (hw : s.windowAt true a = some (k, w)) (hend : (s.windowAt true (a + n - 1)).map Prod.fst = some k) (haddr : addr = w.base + (a - w.off))
    (ht : s.takeTag = (t, i)) (hn : w.aperN = true) (hu : u = t.sendFrame 6 (t.newFrame (bits addr 63 54) w.cls w.flow 0x1 addr i 0 0 (zeros n))) :
    s.hostRead true a n tag = { u with bridge := { u.bridge with held := u.bridge.held ++ [⟨tag, a, n, [⟨i, k, addr, n, 0, n, 0, none⟩]⟩] } } := by
  have hbehind : s.bridge.posted.any (fun p => [(k, w, addr, n)].any (fun q => q.1 == p.window)) = false := by
    simp only [List.any_cons, List.any_nil, Bool.or_false, List.any_eq_false, beq_iff_eq]
    exact fun p hp heq => hposted p hp heq.symm
  have hheld : u.bridge.held.any (fun h => h.hostTag == tag) = false := by
    rw [hu, bridge_blind.sendFrame, State.takeTag_fields ht]
    exact hroom.2.2
  have hissue := State.issuePiece_plain (total := n) (k := k) (addr := addr) (n := n) hn ht
  rw [← hu] at hissue
  rw [State.hostRead, if_neg (State.takesUp hup h0 (by omega)), hin, if_neg (by decide), if_neg hroom.taken, State.hostPieces_one h0 hl hw hend, ← haddr]
  simp only [hbehind, Bool.false_eq_true, if_false, Bool.false_or, List.length_cons, List.length_nil, decide_eq_true_eq]
  rw [if_neg (by omega)]
  simp only [List.foldl_cons, List.foldl_nil, hissue, List.nil_append]
  exact State.returnRead_waits rfl hheld

/-- The answer to the only piece of a held read completes it (R349). -/
theorem State.returnRead_only {s : State} {g : HeldRead} {p : ReadPiece} {d : List Byte} (hg : g.pieces = [p]) (hp : p.answer = some (0, d))
    (hblock : p.block = 0) : s.returnRead g 2 =
      ((s.completeData g.hostTag g.at_ (slice d p.skip p.want)).endRead { g with at_ := g.at_ + p.want, pieces := [] }).inc 0x907000 := by
  simp only [State.returnRead, hg, hp, if_true, State.fillPrefetch, hblock]

theorem State.readResponse_only {s : State} {f : Frame} {g : HeldRead} {p : ReadPiece} (hs : s.ticking = true) (htype : f.type = 0x2)
    (hwhole : frameWhole f = true) (htag : f.tag / 4096 = 6) (hout : f.outcome = 0)
    (hfind : s.bridge.held.find? (fun h => h.pieces.any (fun p => p.answer.isNone && p.tag == f.tag && (f.outcome != 0 || p.len == f.payload.length))) = some g)
    (hg : g.pieces = [p]) (hblock : p.block = 0) :
    s.readResponse f = ((s.completeData g.hostTag g.at_ (slice f.payload p.skip p.want)).endRead
      { g with at_ := g.at_ + p.want, pieces := [] }).inc 0x907000 := by
  have hmatch := List.find?_some hfind
  simp only [hg, List.any_cons, List.any_nil, Bool.or_false, Bool.and_eq_true, Option.isNone_iff_eq_none, beq_iff_eq] at hmatch
  obtain ⟨⟨hopen, hptag⟩, -⟩ := hmatch
  have hanswered : (if (p.answer.isNone && decide (p.tag = f.tag)) = true then { p with answer := some (0, f.payload) } else p) =
      { p with answer := some (0, f.payload) } := if_pos (by simp [hopen, hptag])
  rw [State.readResponse, if_pos (by simp [hs, htype, hwhole, htag]), State.readAnswer, hfind]
  simp only [hg, List.map_cons, List.map_nil, hanswered, List.length_cons, List.length_nil, hout]
  exact State.returnRead_only (g := { g with pieces := [{ p with answer := some (0, f.payload) }] }) (p := { p with answer := some (0, f.payload) }) rfl rfl hblock

theorem State.endRead_held (s : State) (g : HeldRead) : (s.endRead g).bridge.held = s.bridge.held.filter (fun x => x.hostTag != g.hostTag) := rfl

/-- The read hold limit (R350): the read is answered CA. -/
theorem State.readTimeout_eq {s : State} {tag : Nat} {g : HeldRead} {p : ReadPiece} (hg : s.bridge.held.find? (fun h => h.hostTag == tag) = some g)
    (hp : g.pieces.find? (fun p => p.answer.isNone) = some p) :
    s.readTimeout tag = (((((s.endRead g).inc 0x907001).raise .hbr 0x03 0x30 (bridgeTag p.tag p.window 0 0)).notice 2).aerNote 15).emit
      (.hostCompletion tag statusCA false []) := by
  simp only [State.readTimeout, hg, hp]
  rfl

/-! Host writes (R352, R355). -/

theorem State.dropFetched_empty {s : State} (h : s.bridge.fetch = []) (f : Prefetch → Bool) : s.dropFetched f = s := by
  rw [State.dropFetched, h]
  simp only [List.filter_nil, List.foldl_nil]
  rw [← h]

/-- A write that the bridge takes, by the pieces that it comes to. -/
theorem State.hostWrite_pieces {s : State} {v : List Byte} (hup : s.bridgeUp = true) (h0 : 0 < v.length) (hv : v.length ≤ 4096) (aper : Bool) (a : Nat)
    {q : Nat × Window × Nat × Nat} (hq : s.hostPieces aper a v.length = some [q]) (hlen : q.2.2.2 = v.length) :
    s.hostWrite aper a v = if s.isolated .hbr then s.bridgeJournal 0x07 0 ((s.windowAt aper a).map Prod.fst |>.getD 0) 0 0
      else if 32768 < s.postedBytes + v.length then s
      else (s.writePiece q v).sendPieces false (s.writePiece q v).bridge.posted.length := by
  rw [State.hostWrite, if_neg (State.takesUp hup h0 hv), hq]
  simp only [List.foldl_cons, List.foldl_nil, hlen, List.take_length]

/-- A write that no window covers has no effect (R344). -/
theorem State.hostWrite_none {s : State} {aper : Bool} {a : Nat} (hw : s.windowAt aper a = none) (v : List Byte) : s.hostWrite aper a v = s := by
  by_cases h0 : v.length = 0
  · simp [State.hostWrite, h0]
  · rw [State.hostWrite, State.hostPieces_none (by omega) hw]
    split <;> rfl

/-- A write of one piece with none waiting leaves, or waits, as port 6 takes it (R352, log entry 143). -/
theorem State.hostWrite_one {s t u : State} {aper : Bool} {a k i addr : Nat} {v : List Byte} {w : Window} (hposted : s.bridge.posted = [])
    (hbusy : s.busyTags < 4096) (hup : s.bridgeUp = true) (hin : s.isolated .hbr = false) (h0 : 0 < v.length) (hl : a % 2048 + v.length ≤ 2048)
    (hw : s.windowAt aper a = some (k, w)) (hend : (s.windowAt aper (a + v.length - 1)).map Prod.fst = some k) (haddr : addr = w.base + (a - w.off))
    (hfetch : s.bridge.fetch = []) (ht : s.tookFree.takeTag = (t, i))
    (hu : u = { t with bridge := { t.bridge with pieces := ⟨i, k, addr, w.ack⟩ :: t.bridge.pieces.filter (fun p => p.tag != i) } }) :
    s.hostWrite aper a v = if s.freeNat 1 = 1 then { s.tookFree with bridge := { s.bridge with posted := [⟨k, w, addr, v⟩] } }
      else u.sendFrame 6 (u.newFrame (bits addr 63 54) w.cls w.flow (if w.ack then 0x3 else 0x0) addr i 0 0 v) := by
  obtain ⟨x, hx⟩ : ∃ x, x = s.writePiece (k, w, addr, v.length) v := ⟨_, rfl⟩
  have hjoined : x = { s with bridge := { s.bridge with posted := [⟨k, w, addr, v⟩] } } := by
    rw [hx, State.writePiece]
    dsimp only
    rw [State.dropFetched_empty hfetch, hposted, List.nil_append]
  have hempty : ({ x.tookFree with bridge := { x.bridge with posted := [] } } : State) = s.tookFree := by
    rw [hjoined, ← hposted]
    rfl
  have hwaits : x.bridge.posted = [⟨k, w, addr, v⟩] := by rw [hjoined]
  have hbits : x.freeNat 1 = s.freeNat 1 := by rw [hjoined]; rfl
  have htags : ¬ 4096 ≤ x.busyTags := by
    have : x.busyTags = s.busyTags := by rw [hjoined]; rfl
    omega
  have hsum : ¬ 32768 < s.postedBytes + v.length := by
    simp only [State.postedBytes, hposted, List.map_nil, List.sum_nil]
    omega
  have hpieces := State.hostPieces_one h0 hl hw hend
  rw [← haddr] at hpieces
  rw [State.hostWrite_pieces hup h0 (by omega) aper a hpieces rfl, hin, if_neg (by decide), if_neg hsum, ← hx, hwaits]
  simp only [List.length_cons, List.length_nil, State.sendPieces, hwaits, if_neg htags, hbits, Bool.not_false, Bool.true_and, decide_eq_true_eq,
    Bool.false_eq_true, if_false, hempty]
  split
  · rw [hjoined]
    rfl
  · simp only [State.sendPiece, ht]
    rw [hu]

/-! Entries of the prefetch buffer (R358). -/

theorem State.dropPrefetch_elsewhere {s : State} {e : Prefetch} (h : fabSpace e.addr ≠ 0x08) : s.dropPrefetch e = s := by
  unfold State.dropPrefetch
  dsimp only
  split
  · exact if_neg h
  · rfl

/-- Settles O34: reads, their answers and limits, writes, acknowledgements and the prefetch buffer. -/
theorem hostAccessesReachTheFabric : Obligations.HostAccessesReachTheFabric := by
  unfold Obligations.HostAccessesReachTheFabric
  intro s
  refine ⟨fun a n tag k i addr w t u hup hin h0 hl hplaces hbytes htag hposted hbusy hw hend haddr ht hn hu => ?held,
    fun aper a n tag hup hin h0 hn hplaces hbytes htag hw => ?uncovered, fun aper a n tag hup hin h0 hn => ?isolatedRead,
    fun f g p hs htype hwhole htag hout hfind hg hblock => ?response, fun tag g p hg hp => ?limit,
    fun aper a k i addr v w t u hposted hbusy hup hin h0 hl hw hend haddr hfetch ht hu => ?written, fun aper a k v w hup hin h0 hl hw hend => ?isolatedWrite,
    fun aper a v hw => congrArg Host.Outcome.next (State.hostWrite_none hw v), fun tag p hp => ?unacknowledged, fun i => ⟨fun e he hspace => ?expired, fun he => ?nothing⟩⟩
  case held => exact congrArg Host.Outcome.next (State.hostRead_held hup hin h0 hl ⟨hplaces, hbytes, htag⟩ hposted hbusy hw hend haddr ht hn hu)
  case uncovered =>
    obtain ⟨x, hx⟩ := s.readRefused_eq tag statusUR
    exact ⟨x, congrArg Host.Outcome.next ((State.hostRead_uncovered hup hin h0 hn ⟨hplaces, hbytes, htag⟩ hw).trans hx)⟩
  case isolatedRead =>
    obtain ⟨x, hx⟩ := s.readRefused_eq tag statusCA
    exact ⟨x, congrArg Host.Outcome.next ((State.hostRead_isolated hup hin h0 hn aper a tag).trans hx)⟩
  case response =>
    refine ⟨_, congrArg Host.Outcome.next (State.readResponse_only hs htype hwhole htag hout hfind hg hblock), ?_, ?_⟩
    · rw [State.inc_bridge, State.endRead_held]
      rfl
    · rw [State.inc_out]
      rfl
  case limit =>
    obtain ⟨v, hv⟩ : ∃ v, v = ((s.endRead g).inc 0x907001).raise .hbr 0x03 0x30 (bridgeTag p.tag p.window 0 0) := ⟨_, rfl⟩
    have heq := State.readTimeout_eq hg hp
    rw [← hv] at heq
    refine ⟨_, v.notice 2, _, congrArg Host.Outcome.next heq, by rw [hv], rfl, ?_, ?_⟩
    · obtain ⟨x, hx⟩ := v.notice_bridge 2
      have hheld : (v.notice 2).bridge.held = s.bridge.held.filter (fun x => x.hostTag != g.hostTag) := by
        rw [hx, hv, State.raise_bridge, State.inc_bridge, State.endRead_held]
      exact hheld
    · have hcount : (v.notice 2).rd 0x907001 = (s.inc 0x907001).rd 0x907001 := by
        rw [State.notice_rd, hv, State.rd_raise _ _ _ _ _ (by decide) (by decide)]
        exact State.rd_inc_congr rfl rfl
      exact hcount
  case written => exact congrArg Host.Outcome.next (State.hostWrite_one hposted hbusy hup hin h0 hl hw hend haddr hfetch ht hu)
  case isolatedWrite =>
    refine congrArg Host.Outcome.next ((State.hostWrite_pieces hup h0 (by omega) aper a (State.hostPieces_one h0 hl hw hend) rfl).trans ((if_pos hin).trans ?_))
    rw [hw]
    rfl
  case unacknowledged =>
    refine congrArg Host.Outcome.next ?_
    rw [State.ackTimeout, State.writeAnswer, hp]
    exact if_neg (by decide)
  case expired =>
    refine congrArg Host.Outcome.next ?_
    rw [State.prefetchExpiry, he]
    exact State.dropPrefetch_elsewhere hspace
  case nothing =>
    refine congrArg Host.Outcome.next ?_
    rw [State.prefetchExpiry, he]

end Sys2Proof.Machine
end

section
/-!
PROOFS. Fabric requests toward the host, bridge resets and windows (R347, R353 to R364), and the statement about them.
-/
namespace Sys2Proof.Machine

/-! Requests toward the host (R353, R355 to R357). -/

/-- With no request that waits to send, none is sent. -/
theorem State.issueReads_none {s : State} (h : s.bridge.reqs = []) (fuel : Nat) : s.issueReads fuel = s := by
  cases fuel with
  | zero => rfl
  | succ n => simp only [State.issueReads, State.nextReq, h, List.find?_nil]

/-- A posted write that waits alone goes out, or waits for the link's credit (log entry 143). -/
theorem State.issueReads_posted {s : State} {f : Frame} {k a : Nat} (htype : f.type = 0x0) (hreqs : s.bridge.reqs = []) :
    ({ s with bridge := { s.bridge with reqs := [⟨f, k, [], false, some a⟩] } } : State).issueReads 256 =
      if s.freeNat 1 = 1 then { s.tookFree with bridge := { s.bridge with reqs := [⟨f, k, [], false, some a⟩] } }
      else s.tookFree.masterWrite a f.payload := by
  obtain ⟨x, hx⟩ : ∃ x : State, x = { s with bridge := { s.bridge with reqs := [⟨f, k, [], false, some a⟩] } } := ⟨_, rfl⟩
  have hwaits : x.bridge.reqs = [⟨f, k, [], false, some a⟩] := by rw [hx]
  have hbits : x.freeNat 1 = s.freeNat 1 := by rw [hx]; rfl
  have hempty : ({ x.tookFree with bridge := { x.bridge with reqs := [] } } : State) = s.tookFree := by
    rw [hx, ← hreqs]
    rfl
  have hdone : (s.tookFree.masterWrite a f.payload).bridge.reqs = [] := hreqs
  have hnext : x.nextReq = some ⟨f, k, [], false, some a⟩ := by
    rw [State.nextReq, hwaits]
    rfl
  rw [← hx, show (256 : Nat) = 255 + 1 from rfl, State.issueReads, hnext]
  simp only [hbits]
  split
  · rw [hx]
    rfl
  · simp only [hwaits, List.flatMap_cons, List.flatMap_nil, if_true, List.append_nil]
    rw [hempty]
    exact State.issueReads_none hdone 255

/-- A posted write that no condition refuses (R353). -/
theorem State.hostRefusal_none {s : State} {f : Frame} (hin : s.isolated .hbr = false) (htype : f.type = 0x0)
    (hon : s.slotFlag (bits f.addr 47 45) 0 = true) (hwr : s.slotFlag (bits f.addr 47 45) 2 = true)
    (hsize : bits f.addr 44 0 + f.len ≤ 2 ^ s.rd (slotObj (bits f.addr 47 45) 1)) (hmaster : s.mastering = true) (hreqs : s.bridge.reqs = [])
    (hlen : f.len ≤ 2048) : s.hostRefusal f = none := by
  have hbytes : ¬ 16384 < s.fabricPosted + f.len := by
    simp only [State.fabricPosted, hreqs, List.filter_nil, List.map_nil, List.sum_nil]
    omega
  have hfits : ¬ (!(s.slotFlag (bits f.addr 47 45) 0) ||
      decide (2 ^ s.rd (slotObj (bits f.addr 47 45) 1) < bits f.addr 44 0 + f.len)) = true := by
    simp only [hon, Bool.not_true, Bool.false_or, decide_eq_true_eq]
    exact Nat.not_lt.mpr hsize
  rw [State.hostRefusal, hin, if_neg (by decide), if_neg hfits, hwr, hmaster, htype, if_neg (by simp), if_neg (by simp), if_neg (by simpa using hbytes), if_neg (by simp)]

/-- A request for a slot that is not enabled (R353). -/
theorem State.hostRefusal_slot {s : State} {f : Frame} (hin : s.isolated .hbr = false) (hoff : s.slotFlag (bits f.addr 47 45) 0 = false) :
    s.hostRefusal f = some (0x3, 0x13) := by
  simp [State.hostRefusal, hin, hoff]

/-- A whole frame of a request of right length for space 0x08 is judged (R116, R353). -/
def State.judged (s : State) (f : Frame) : Prop := s.ticking = true ∧ fabSpace f.addr = 0x08 ∧ frameWhole f = true ∧ f.len = f.payload.length ∧
  0 < f.len ∧ f.len ≤ 2048

theorem State.judged.taken {s : State} {f : Frame} (h : s.judged f) (htype : f.type = 0x0 ∨ f.type = 0x1 ∨ f.type = 0x3) :
    ¬ (!s.ticking || !(decide (f.type = 0x0) || decide (f.type = 0x1) || decide (f.type = 0x3)) || fabSpace f.addr != 0x08 || !(frameWhole f) ||
      f.len != f.payload.length) = true ∧ lengthOk f.len = true := by
  obtain ⟨htick, hspace, hwhole, hlen, hlow, hhigh⟩ := h
  refine ⟨?_, by simp [lengthOk, hlow, hhigh]⟩
  rcases htype with ht | ht | ht <;> simp [htick, hspace, hwhole, ← hlen, ht]

theorem State.hostRequest_refused {s : State} {f : Frame} {oc reason : Nat} (h : s.judged f) (htype : f.type = 0x0 ∨ f.type = 0x1 ∨ f.type = 0x3)
    (hr : s.hostRefusal f = some (oc, reason)) : s.hostRequest f = s.refuseHost f oc reason := by
  obtain ⟨hgo, hok⟩ := h.taken htype
  rw [State.hostRequest, if_neg hgo, hok, if_neg (by decide), hr]

theorem State.hostRequest_posted {s : State} {f : Frame} (h : s.judged f) (htype : f.type = 0x0) (hr : s.hostRefusal f = none) (hreqs : s.bridge.reqs = []) :
    s.hostRequest f = ({ s with bridge := { s.bridge with reqs := [⟨f, bits f.addr 47 45, [], false,
      some (s.rd (slotObj (bits f.addr 47 45) 0) + bits f.addr 44 0)⟩] } } : State).issueReads 256 := by
  obtain ⟨hgo, hok⟩ := h.taken (.inl htype)
  rw [State.hostRequest, if_neg hgo, hok, if_neg (by decide), hr]
  have hread : ¬ (0x0 = 0x1) := by decide
  have hack : ¬ (0x0 = 0x3) := by decide
  simp only [htype, hreqs, hread, hack, if_false, List.map_nil, List.nil_append]

/-! Completions (R354). -/

/-- A request answered whose MRds are all over leaves the bridge. -/
theorem State.settleReqs_over {s : State} {r : HostReq} (hreqs : s.bridge.reqs = [r]) (ha : r.answered = true)
    (hdone : r.parts.all (fun p => p.tag.isNone || p.done) = true) : s.settleReqs = { s with bridge := { s.bridge with reqs := [] } } := by
  have hleft : s.bridge.reqs.filter (fun r => !(r.answered && r.parts.all (fun p => p.tag.isNone || p.done))) = [] := by
    simp only [hreqs, List.filter_cons, ha, hdone, Bool.and_self, Bool.not_true, Bool.false_eq_true, if_false, List.filter_nil]
  rw [State.settleReqs, hleft]
  exact State.issueReads_none rfl 256

theorem State.bridgeJournal_bridge (s : State) (reason tag window outcome slot : Nat) :
    ∃ x, (s.bridgeJournal reason tag window outcome slot).bridge = { s.bridge with pba := x } := by
  obtain ⟨x, hx⟩ := (s.raise .hbr 0x03 reason (bridgeTag tag window outcome slot)).notice_bridge 2
  exact ⟨x, by rw [State.bridgeJournal, hx, State.raise_bridge]⟩

/-- The fabric's answer leaves the requests (R354). -/
theorem State.answerHost_reqs (s : State) (r : HostReq) (outcome : Nat) (d : List Byte) : (s.answerHost r outcome d).bridge.reqs = s.bridge.reqs := by
  unfold State.answerHost
  dsimp only
  rw [bridge_blind.sendFrame]
  split
  · rfl
  · obtain ⟨x, hx⟩ := s.bridgeJournal_bridge 0x35 r.frame.tag 7 outcome r.slot
    rw [hx]

/-- The last MRd of the only request is over: the fabric has its answer, and the request is gone (R354). -/
theorem State.partAnswer_last {s : State} {r : HostReq} {p : HostPart} {tag outcome : Nat} {d : List Byte} (hreqs : s.bridge.reqs = [r])
    (hparts : r.parts = [p]) (htag : p.tag = some tag) (hopen : p.done = false) (ha : r.answered = false)
    (hover : outcome ≠ 0 ∨ p.len ≤ (p.got ++ d).length) :
    ∃ (r' : HostReq) (v : State), v = (({ s with bridge := { s.bridge with reqs := [r'] } } : State).answerHost r outcome ((p.got ++ d).take p.len)) ∧
      s.partAnswer r tag outcome d = { v with bridge := { v.bridge with reqs := [] } } := by
  obtain ⟨p', hp'⟩ : ∃ p' : HostPart, p' = { p with got := p.got ++ d, done := outcome != 0 || decide (p.len ≤ (p.got ++ d).length) } := ⟨_, rfl⟩
  obtain ⟨r', hr'⟩ : ∃ r' : HostReq, r' = { r with parts := [p'], answered := true } := ⟨_, rfl⟩
  have hpart : (if (decide (p.tag = some tag) && !p.done) = true
      then { p with got := p.got ++ d, done := outcome != 0 || decide (p.len ≤ (p.got ++ d).length) } else p) = p' := by
    rw [hp', if_pos (by simp [htag, hopen])]
  have hdone : p'.done = true := by
    rw [hp']
    rcases hover with h | h
    · simp [h]
    · simp only [decide_eq_true h, Bool.or_true]
  have hbytes : p'.got.take p'.len = (p.got ++ d).take p.len := by rw [hp']
  obtain ⟨v, hv⟩ : ∃ v, v = ({ s with bridge := { s.bridge with reqs := [r'] } } : State).answerHost r outcome ((p.got ++ d).take p.len) := ⟨_, rfl⟩
  have hvreqs : v.bridge.reqs = [r'] := by rw [hv, State.answerHost_reqs]
  refine ⟨r', v, hv, ?_⟩
  have hsettled : v.settleReqs = { v with bridge := { v.bridge with reqs := [] } } :=
    State.settleReqs_over hvreqs (by rw [hr']) (by simp [hr', hdone])
  rw [← hsettled, hv]
  simp only [State.partAnswer, hparts, List.map_cons, List.map_nil, hpart, List.all_cons, List.all_nil, hdone, ha, hreqs, List.flatMap_cons,
    List.flatMap_nil, List.append_nil, hbytes, Bool.and_self, Bool.or_true, Bool.not_false, if_true, ← hr']

/-! Resets of the bridge (R364). -/

/-- What is in progress in the bridge, whether its link is up, and the windows in force. -/
def State.transactions (s : State) : (List HeldRead × List HostPiece × List SentPiece × List HostReq × List CopyOut) × Bool × List (Nat × Window) :=
  ((s.bridge.held, s.bridge.posted, s.bridge.pieces, s.bridge.reqs, s.bridge.copies), s.bridge.linkUp, s.bridge.wins)

theorem State.transactions_of_bridge {s t : State} (h : t.bridge = s.bridge) : t.transactions = s.transactions := by rw [State.transactions, h]; rfl

theorem State.transactions_notice (s : State) (v : Nat) : (s.notice v).transactions = s.transactions := by
  obtain ⟨x, hx⟩ := s.notice_bridge v
  rw [State.transactions, hx]
  rfl

theorem State.transactions_bridgeJournal (s : State) (reason tag window outcome slot : Nat) :
    (s.bridgeJournal reason tag window outcome slot).transactions = s.transactions :=
  (State.transactions_notice _ 2).trans (State.transactions_of_bridge (s.raise_bridge _ _ _ _))

theorem State.transactions_sendFrame (s : State) (port : Nat) (f : Frame) : (s.sendFrame port f).transactions = s.transactions :=
  State.transactions_of_bridge (bridge_blind.sendFrame s port f)

theorem State.transactions_dropPrefetch (s : State) (e : Prefetch) : (s.dropPrefetch e).transactions = s.transactions := by
  unfold State.dropPrefetch
  dsimp only
  split
  · split
    · exact (State.transactions_notice _ 3).trans ((State.transactions_of_bridge (State.raise_bridge _ _ _ _ _)).trans rfl)
    · rfl
  · rfl

theorem State.transactions_dropFetched (s : State) (f : Prefetch → Bool) : (s.dropFetched f).transactions = s.transactions :=
  (State.foldl_keeps State.transactions State.transactions_dropPrefetch _ _).trans rfl

/-- Every transaction in progress ends, under the link and the windows that there are (R364). -/
theorem State.endTransactions_ends (s : State) (reason copyReason : Nat) :
    (s.endTransactions reason copyReason).transactions = (([], [], [], [], []), s.bridge.linkUp, s.bridge.wins) := by
  unfold State.endTransactions
  dsimp only
  rw [State.transactions_dropFetched, State.foldl_keeps State.transactions (fun t c => t.transactions_bridgeJournal _ _ _ _ _),
    State.foldl_keeps State.transactions (fun t r => ?_), State.foldl_keeps State.transactions (fun t k => t.transactions_bridgeJournal _ _ _ _ _),
    State.foldl_keeps State.transactions (fun t h => ?_)]
  · rfl
  · split
    · exact t.transactions_bridgeJournal _ _ _ _ _
    · rfl
  · exact (State.transactions_sendFrame _ _ _).trans (t.transactions_bridgeJournal _ _ _ _ _)

/-- What a reset leaves of the bridge (R364). -/
structure State.BridgeWasReset (s t : State) (k : BridgeResetKind) : Prop where
  ended : t.transactions = (([], [], [], [], []), (s.bridge.linkUp && decide (k = .flr)), s.bridge.wins)
  flags : t.bridge.bme = false ∧ t.bridge.flr = decide (k = .flr) ∧ t.bridge.msixOn = false ∧ t.bridge.vecOn = 0 ∧ t.bridge.pba = 0
  link : k ≠ .flr → t.rd 0x900000 = 0

/-- The function in its reset state (R364). -/
def State.functionReset (s : State) (k : BridgeResetKind) : State :=
  { s with bridge := { s.bridge with
    bme := false, msixOn := false, fmask := false, ecrcGen := false, ecrcChk := false, flr := k = .flr, mps := 128, mrrs := 512, cplTime := 50000000
    vecOn := 0, vecMem := [], pba := 0, linkUp := s.bridge.linkUp && k = .flr } }

theorem State.bridgeReset_eq {s : State} (h : s.ticking = true) (k : BridgeResetKind) : s.bridgeReset k =
    if k = .flr then (s.endTransactions 0x31 0x32).functionReset k else ((s.endTransactions 0x31 0x32).functionReset k).wr 0x900000 0 := by
  rw [State.bridgeReset, if_pos h]
  rfl

theorem State.bridgeReset_resets {s : State} (h : s.ticking = true) (k : BridgeResetKind) : s.BridgeWasReset (s.bridgeReset k) k := by
  have hended := s.endTransactions_ends 0x31 0x32
  rw [State.bridgeReset_eq h]
  generalize s.endTransactions 0x31 0x32 = u at *
  simp only [State.transactions, Prod.mk.injEq] at hended
  obtain ⟨⟨hheld, hposted, hpieces, hreqs, hcopies⟩, hlink, hwins⟩ := hended
  have hfunction : (u.functionReset k).transactions = (([], [], [], [], []), (s.bridge.linkUp && decide (k = .flr)), s.bridge.wins) := by
    simp only [State.transactions, State.functionReset, hheld, hposted, hpieces, hreqs, hcopies, hlink, hwins]
  by_cases hk : k = .flr
  · rw [if_pos hk]
    exact ⟨hfunction, ⟨rfl, rfl, rfl, rfl, rfl⟩, fun hne => absurd hk hne⟩
  · rw [if_neg hk]
    exact ⟨hfunction, ⟨rfl, rfl, rfl, rfl, rfl⟩, fun _ => State.rd_wr_self _ _ _⟩

/-! Window commits and the counts (R347, R366). -/

theorem State.commandMode_windowCommit (s : State) : s.commandMode 0x901800 (numBytes 0x901800 1) = decide (s.mode = .configure) := rfl

theorem State.rd_dropFetched_check (s : State) (f : Prefetch → Bool) : (s.dropFetched f).rd 0x901801 = s.rd 0x901801 := by
  refine (State.rd_foldl_keeps (fun t e => ?_) _ _).trans rfl
  unfold State.dropPrefetch
  dsimp only
  split
  · split
    · rw [State.notice_rd, State.rd_raise _ _ _ _ _ (by decide) (by decide), State.rd_wr_ne _ _ (by decide), State.wrB_rd]
      rfl
    · rfl
  · rfl

/-- Windows that fail a check are not put in force (R347). -/
theorem State.commitWindows_fails {s : State} (h : s.windowCheck ≠ 0) : s.commitWindows = s.wr 0x901801 s.windowCheck := by
  rw [State.commitWindows, if_pos h]

/-- Windows that pass are (R347). -/
theorem State.commitWindows_passes {s : State} (h : s.windowCheck = 0) : s.commitWindows.rd 0x901801 = 0 ∧
    s.commitWindows.bridge.wins = s.enabledWindows.map (fun k => (k, (s.windowOf k).1)) := by
  obtain ⟨u, hu⟩ : ∃ u, u = (s.wr 0x901801 0).dropFetched (fun _ => true) := ⟨_, rfl⟩
  have hcheck : u.rd 0x901801 = 0 := by rw [hu, State.rd_dropFetched_check, State.rd_wr_self]
  obtain ⟨x, hx⟩ : ∃ x : State, x = { u with bridge := { u.bridge with wins := s.enabledWindows.map (fun k => (k, (s.windowOf k).1)) } } := ⟨_, rfl⟩
  obtain ⟨g, hg⟩ : ∃ g : Nat → Nat, g = fun k => if s.enabledWindows.contains k then b2n (!(s.windowOf k).1.aperN) + 2 * b2n (s.windowOf k).2 else 0 :=
    ⟨_, rfl⟩
  obtain ⟨n, hn⟩ : ∃ n, n = (s.enabledWindows.map (fun k => b2n (s.windowOf k).2 * 2 ^ k)).sum := ⟨_, rfl⟩
  have heq : s.commitWindows = ((List.range 6).foldl (fun t k => t.wr (winObj k 7) (g k)) x).wr 0x901802 n := by
    rw [State.commitWindows, h, if_neg (by decide), hx, hu, hg, hn]
  have hwritten : ((List.range 6).foldl (fun t k => t.wr (winObj k 7) (g k)) x).rd 0x901801 = x.rd 0x901801 :=
    State.rd_foldl_keeps (fun t k => State.rd_wr_ne _ _ (by simp only [winObj]; omega)) _ _
  have hbridge : ((List.range 6).foldl (fun t k => t.wr (winObj k 7) (g k)) x).bridge = x.bridge :=
    State.foldl_keeps State.bridge (fun _ _ => by rfl) _ _
  rw [heq]
  refine ⟨?_, ?_⟩
  · rw [State.rd_wr_ne _ _ (by decide), hwritten, hx]
    exact hcheck
  · rw [State.wr_bridge, hbridge, hx]

theorem State.windowCommit_configure {s : State} (h : s.mode = .configure) : s.windowCommit =
    if s.commitWindows.rd 0x901801 = 0 then okRes s.commitWindows else refusedRes s.commitWindows (s.commitWindows.rd 0x901801) := by
  simp only [State.windowCommit, h, bne_self_eq_false, Bool.false_eq_true, if_false]

/-- Clearing the counts of the bridge zeroes them, and no other register (R366). -/
theorem State.clearBridge_clears (s : State) : (∀ k < 6, s.clearBridge.rd (0x907000 + k) = 0) ∧ s.clearBridge.bridge = s.bridge ∧
    ∀ o, o < 0x907000 ∨ 0x907005 < o → s.clearBridge.rd o = s.rd o := by
  refine ⟨fun k hk => ?_, rfl, fun o ho => ?_⟩
  · simp only [State.clearBridge, List.foldl_cons, List.foldl_nil, State.rd_wr]
    split_ifs <;> omega
  · simp only [State.clearBridge, List.foldl_cons, List.foldl_nil, State.rd_wr]
    split_ifs <;> omega

/-! The link (R343). -/

theorem State.flushNotices_none {s : State} (h : s.bridge.pba = 0) : s.flushNotices = s := by
  unfold State.flushNotices
  split
  · refine List.foldlRecOn (motive := fun t => t = s) _ _ rfl (fun t ht v _ => ?_)
    rw [ht, h]
    simp
  · rfl

theorem State.linkUp_configured {s : State} {rate width mps mrrs cpl : Nat} (c : PcieCommand) (msix : MsixControl) (hs : s.ticking = true)
    (hlow : 1 ≤ rate) (hhigh : rate ≤ 4) (hwidth : width ∈ [1, 2, 4]) (hmps : mps ∈ [128, 256, 512]) (hmrrs : mrrs ∈ [128, 256, 512])
    (hcpl : cplTimeOk cpl = true) (hpba : s.bridge.pba = 0) : s.linkUp rate width c msix mps mrrs cpl =
      ({ s with bridge := { s.bridge with
        linkUp := true, flr := false, bme := c.bme, ecrcGen := c.ecrcGen, ecrcChk := c.ecrcChk, msixOn := msix.enable, fmask := msix.mask, mps := mps
        mrrs := mrrs, cplTime := cpl } }).wr 0x900000 (rate * 16 + width) := by
  have hok : (s.ticking && decide (1 ≤ rate) && decide (rate ≤ 4) && (decide (width = 1) || decide (width = 2) || decide (width = 4)) &&
      [128, 256, 512].contains mps && [128, 256, 512].contains mrrs && cplTimeOk cpl) = true := by
    have hlanes : (decide (width = 1) || decide (width = 2) || decide (width = 4)) = true := by
      simpa [or_assoc] using hwidth
    rw [hs, hlanes, hcpl, List.contains_iff_mem.mpr hmps, List.contains_iff_mem.mpr hmrrs, decide_eq_true hlow, decide_eq_true hhigh]
    rfl
  rw [State.linkUp, if_pos hok]
  exact State.flushNotices_none hpba

/-- Settles O36: requests toward the host, completions, resets, windows, counts and the link. -/
theorem bridgeServesTheHost : Obligations.BridgeServesTheHost := by
  unfold Obligations.BridgeServesTheHost
  intro s b h hb
  refine ⟨fun f k htick hspace hwhole hlen hlow hhigh hk hin => ⟨fun htype hreqs hon hwr hsize hmaster => ?posted, fun htype hoff => ?disabled⟩,
    fun tag d r p hr hparts htag hopen ha htype hreqs => ⟨fun hlast => ?completed, fun hlimit => ?timedOut⟩,
    fun tag status bad d hr => ⟨?noRequest, ?noTimeout⟩, fun k htick => ?reset, fun hreach hm => ?mode, fun hpass => ⟨fun hc => ?badWindows, fun hc => ?windows⟩,
    fun hpass => ?counts, fun rate width mps mrrs cpl c msix htick hlow hhigh hwidth hmps hmrrs hcpl hpba =>
      congrArg Host.Outcome.next (State.linkUp_configured c msix htick hlow hhigh hwidth hmps hmrrs hcpl hpba)⟩
  case posted =>
    subst hk
    exact congrArg Host.Outcome.next ((State.hostRequest_posted ⟨htick, hspace, hwhole, hlen, hlow, hhigh⟩ htype
      (State.hostRefusal_none hin htype hon hwr hsize hmaster hreqs hhigh) hreqs).trans (State.issueReads_posted htype hreqs))
  case disabled =>
    subst hk
    exact ⟨_, _, rfl, rfl, congrArg Host.Outcome.next (State.hostRequest_refused ⟨htick, hspace, hwhole, hlen, hlow, hhigh⟩ htype
      (State.hostRefusal_slot hin hoff))⟩
  case completed =>
    obtain ⟨r', v, hv, hanswer⟩ := State.partAnswer_last (outcome := 0) (d := d) hreqs hparts htag hopen ha (.inr hlast)
    have heq : s.hostCompletion tag 0 false d = s.partAnswer r tag 0 d := by
      simp only [State.hostCompletion, hr]
      rfl
    refine ⟨_, _, r', rfl, congrArg Host.Outcome.next (heq.trans hanswer), rfl, ?_⟩
    rw [hv]
    simp only [State.answerHost, htype, if_true]
  case timedOut =>
    have hreqs' : (s.aerNote 14).bridge.reqs = [r] := hreqs
    obtain ⟨r', v, hv, hanswer⟩ := State.partAnswer_last (outcome := 0x7) (d := []) hreqs' hparts htag hopen ha (.inl (by decide))
    have heq : s.completionTimeout tag = (s.aerNote 14).partAnswer r tag 0x7 [] := by
      simp only [State.completionTimeout, hr, hlimit, if_false]
    have hanswered (t : State) (l : List Byte) : t.answerHost r 0x7 l = (t.bridgeJournal 0x35 r.frame.tag 7 0x7 r.slot).sendFrame 6
        ((t.bridgeJournal 0x35 r.frame.tag 7 0x7 r.slot).response r.frame 0x2 0x7 []) := by
      have hbad : ¬ (0x7 = 0x0) := by decide
      simp only [State.answerHost, htype, hbad, if_false, if_true]
    rw [hanswered] at hv
    refine ⟨_, _, _, setBit s.bridge.aer 14 true, r', rfl, rfl, congrArg Host.Outcome.next (heq.trans hanswer), rfl, ?_, ?_⟩
    · rw [hv]
      rfl
    · rw [hv]
      rfl
  case noRequest => exact congrArg Host.Outcome.next (by simp only [State.hostCompletion, hr])
  case noTimeout => exact congrArg Host.Outcome.next (by simp only [State.completionTimeout, hr])
  case reset =>
    obtain ⟨hended, ⟨hbme, hflr, hmsix, hvec, hpba⟩, hlink⟩ := State.bridgeReset_resets htick k
    simp only [State.transactions, Prod.mk.injEq] at hended
    obtain ⟨⟨hheld, hposted, hpieces, hreqs, hcopies⟩, hup, hwins⟩ := hended
    exact ⟨_, rfl, hheld, hpieces, hreqs, hbme, hposted, hcopies, hflr, hmsix, hvec, hpba, hup, hwins, hlink⟩
  case mode =>
    exact State.odSet_barred hb hreach (State.accessError_modeChecked (.inr (.inr (.inr (.inr rfl))))
      (b.commandMode_windowCommit.trans (by simpa using hm))) (by decide)
  case badWindows =>
    have hm : b.mode = .configure := by
      simpa using b.commandMode_windowCommit.symm.trans (State.commandMode_of_numPasses hb (.inr (.inr (.inr (.inr rfl)))) hpass)
    refine State.odSet_refuses hb hpass ((State.windowCommit_configure hm).trans ?_)
    rw [State.commitWindows_fails hc, State.rd_wr_self, if_neg hc]
  case windows =>
    have hm : b.mode = .configure := by
      simpa using b.commandMode_windowCommit.symm.trans (State.commandMode_of_numPasses hb (.inr (.inr (.inr (.inr rfl)))) hpass)
    obtain ⟨hcheck, hwins⟩ := State.commitWindows_passes hc
    exact ⟨_, State.odSet_done hb hpass ((State.windowCommit_configure hm).trans (if_pos hcheck)), hcheck, hwins⟩
  case counts =>
    obtain ⟨hzero, hbridge, hrest⟩ := b.clearBridge_clears
    exact ⟨_, State.odSet_done hb hpass rfl, hzero, hbridge, hrest⟩

end Sys2Proof.Machine
end
